-- ==== Sys2Proof/Machine/Assoc.lean ====
section
/-! DEFINITION. Sparse data by key: a list of key and value pairs, keys strictly rising, no pair whose value is the one an
unlisted key has. Equal contents are equal lists. The state buffers, the constant table, the basin, and every numbered set of
registers are held in this one form. -/

namespace Sys2Proof

/-- Sparse data by key. -/
abbrev Assoc (α : Type) := List (Nat × α)

/-- The value of key `k`, or `d` where `k` is not listed. -/
def Assoc.get {α : Type} (d : α) : Assoc α → Nat → α
  | [], _ => d
  | (j, v) :: m, k => if j = k then v else Assoc.get d m k

/-- `v` put under key `k`, in rising order of keys, replacing what stood there. -/
def Assoc.insert {α : Type} (k : Nat) (v : α) : Assoc α → Assoc α
  | [] => [(k, v)]
  | (j, w) :: m =>
    if k < j then (k, v) :: (j, w) :: m
    else if k = j then (k, v) :: m
    else (j, w) :: Assoc.insert k v m

/-- Key `k` taken out. -/
def Assoc.erase {α : Type} (k : Nat) : Assoc α → Assoc α
  | [] => []
  | (j, w) :: m => if j = k then Assoc.erase k m else (j, w) :: Assoc.erase k m

/-- The write that keeps the canonical form: the value an unlisted key has takes the entry out. -/
def Assoc.put {α : Type} [DecidableEq α] (d : α) (m : Assoc α) (k : Nat) (v : α) : Assoc α :=
  if v = d then Assoc.erase k m else Assoc.insert k v m

/-- Key `k` changed by `f`. -/
def Assoc.upd {α : Type} [DecidableEq α] (d : α) (m : Assoc α) (k : Nat) (f : α → α) : Assoc α :=
  Assoc.put d m k (f (Assoc.get d m k))

/-- Every listed value changed by `f`, defaults taken out. -/
def Assoc.mapVal {α : Type} [DecidableEq α] (d : α) (f : α → α) (m : Assoc α) : Assoc α :=
  (m.map (fun p => (p.1, f p.2))).filter (fun p => decide (p.2 ≠ d))

/-- Keys strictly rising. -/
def Assoc.sorted {α : Type} : Assoc α → Bool
  | [] => true
  | (j, _) :: m => m.all (fun p => decide (j < p.1)) && Assoc.sorted m

/-- The canonical form: keys strictly rising and no listed default. -/
def Assoc.wf {α : Type} [DecidableEq α] (d : α) (m : Assoc α) : Bool :=
  Assoc.sorted m && m.all (fun p => decide (p.2 ≠ d))

/-- A table of words in which an unlisted entry reads 0. -/
abbrev Table (w : Nat) := Assoc (BitVec w)

/-- Entry `k` of a table. -/
def Table.read {w : Nat} (t : Table w) (k : Nat) : BitVec w := Assoc.get 0#w t k

/-- Entry `k` of a table set to `v`. -/
def Table.write {w : Nat} (t : Table w) (k : Nat) (v : BitVec w) : Table w := Assoc.put 0#w t k v

/-- The canonical form of a table. -/
def Table.wf {w : Nat} (t : Table w) : Bool := Assoc.wf 0#w t

/-- An addressed memory of bytes (R293): canonical, an unlisted byte reads 0 (R323, P1: the basin is written with 0). -/
abbrev Memory := List Host.Cell

/-- One byte of memory. -/
def Memory.read (m : Memory) (a : Nat) : BitVec 8 := Assoc.get 0#8 m a

/-- One byte of memory written. -/
def Memory.write (m : Memory) (a : Nat) (v : BitVec 8) : Memory := Assoc.put 0#8 m a v

/-- The canonical form of a memory. -/
def Memory.wf (m : Memory) : Bool := Assoc.wf 0#8 m

/-- `n` bytes of memory from address `a` upwards. -/
def Memory.readN (m : Memory) (a : Nat) : Nat → List (BitVec 8)
  | 0 => []
  | n + 1 => Memory.read m a :: Memory.readN m (a + 1) n

/-- The bytes of `bs` written from address `a` upwards. -/
def Memory.writeN (m : Memory) (a : Nat) : List (BitVec 8) → Memory
  | [] => m
  | b :: bs => Memory.writeN (Memory.write m a b) (a + 1) bs

end Sys2Proof
end

