-- ==== Sys2Proof/Word.lean ====
section
/-! DEFINITION. The word types of the VK3 model: bytes, 16-bit variables, 32-bit registers, 64-bit terms (R10, R67, R71),
and the three lanes A, B and C (R14) with a record that holds one value for each of them. -/

namespace Sys2Proof

/-- One byte (R11). -/
abbrev Byte := BitVec 8
/-- The value of one state variable (R34, R71). -/
abbrev W16 := BitVec 16
/-- One register or one constant (R10, R39). -/
abbrev W32 := BitVec 32
/-- One term of the Polder engine (R67). -/
abbrev W64 := BitVec 64

/-- The three computing lanes (R14, R16). -/
inductive LaneId where
  | a | b | c
  deriving DecidableEq, Repr

/-- One value for each lane. -/
structure PerLane (α : Type) where
  a : α
  b : α
  c : α
  deriving DecidableEq, Repr

/-- The value of lane `x`. -/
def PerLane.get {α : Type} (p : PerLane α) : LaneId → α
  | .a => p.a
  | .b => p.b
  | .c => p.c

/-- `p` with lane `x` set to `v`, the other lanes as they were. -/
def PerLane.set {α : Type} (p : PerLane α) (x : LaneId) (v : α) : PerLane α :=
  match x with
  | .a => { p with a := v }
  | .b => { p with b := v }
  | .c => { p with c := v }

/-- Lane `x` changed by `f`. -/
def PerLane.modify {α : Type} (p : PerLane α) (x : LaneId) (f : α → α) : PerLane α :=
  p.set x (f (p.get x))

/-- Every lane changed by `f`. -/
def PerLane.map {α β : Type} (f : α → β) (p : PerLane α) : PerLane β :=
  { a := f p.a, b := f p.b, c := f p.c }

/-- Every lane changed by `f`, which is told which lane it is. -/
def PerLane.mapId {α β : Type} (f : LaneId → α → β) (p : PerLane α) : PerLane β :=
  { a := f .a p.a, b := f .b p.b, c := f .c p.c }

/-- The same value in every lane. -/
def PerLane.all {α : Type} (v : α) : PerLane α := { a := v, b := v, c := v }

/-- A set of lanes: a service mask (Table 6-4), the lanes heard, the lanes that latched a group. -/
abbrev Mask := PerLane Bool

/-- The lanes in the order A, B, C (R138). -/
def LaneId.list : List LaneId := [.a, .b, .c]

/-- 0 for A, 1 for B, 2 for C (R144). -/
def LaneId.idx : LaneId → Nat
  | .a => 0
  | .b => 1
  | .c => 2

/-- The lane with index `n mod 3` (R144). -/
def LaneId.ofIdx (n : Nat) : LaneId :=
  match n % 3 with
  | 0 => .a
  | 1 => .b
  | _ => .c

/-- The lane after `x` in the order A, B, C, A (R154). -/
def LaneId.next : LaneId → LaneId
  | .a => .b
  | .b => .c
  | .c => .a

/-- The two peers of a lane, the lower letter first. -/
def LaneId.peers : LaneId → List LaneId
  | .a => [.b, .c]
  | .b => [.a, .c]
  | .c => [.a, .b]

end Sys2Proof
end

