-- ==== Sys2Proof/Machine/Types.lean ====
section
/-! DEFINITION. The data that commands carry into the block: ports, messages of the cross-lane links, telegram arrivals, frames
of the rings, networks, CAN and wire ports, KMP requests, PTP messages and partner reports. Each is what arrives from outside
or from another part; nothing here is state. -/

namespace Sys2Proof

/-- The three Ethernet networks: safety network A, safety network B and the maintenance network (Table 11-7). -/
inductive NetId where
  | a | b | maint
  deriving DecidableEq, Repr

/-- 0 for A, 1 for B, 2 for maintenance. -/
def NetId.idx : NetId → Nat
  | .a => 0
  | .b => 1
  | .maint => 2

/-- Port E or port W of a ring (Table 8-1). -/
inductive Side where
  | e | w
  deriving DecidableEq, Repr

/-- The other port of a ring. -/
def Side.opposite : Side → Side
  | .e => .w
  | .w => .e

/-- The two cross-links (R256). -/
inductive XPort where
  | p27 | p28
  deriving DecidableEq, Repr

/-- A part that resets on its own (R318): a lane or the pumphouse. -/
inductive Part where
  | lane (x : LaneId)
  | pumphouse
  deriving DecidableEq, Repr

/-- The regions of the MRAM (Table 1-4). -/
inductive MramRegion where
  | wardenLog | dump (p : Part) | retained (x : LaneId) | changeLog | configuration | laneArea (x : LaneId) | reserved
  deriving DecidableEq, Repr

/-- The size of a region in KiB (Table 1-4). -/
def MramRegion.kib : MramRegion → Nat
  | .wardenLog => 8192
  | .dump _ => 1024
  | .retained _ => 512
  | .changeLog => 512
  | .configuration => 1024
  | .laneArea _ => 256
  | .reserved => 256

/-- Whether a region is writable by a part (R21, Table 1-4). -/
def MramRegion.writableBy : MramRegion → Part → Bool
  | .wardenLog, p | .changeLog, p | .configuration, p => p == .pumphouse
  | .dump q, p => p == q
  | .retained x, p | .laneArea x, p => p == .lane x
  | .reserved, _ => false

/-- A GAUGE message (Table 6-4). -/
structure GaugeMsg where
  sender    : LaneId
  test      : Bool
  candidate : Bool
  leaving   : Bool
  mask      : Mask
  cycle     : Nat
  gauge     : BitVec 128
  echo      : BitVec 8
  deriving DecidableEq, Repr

/-- What a lane finds for the restart decision (R114): the complete snapshots it holds, newest first, as cycle, value digest,
issue and image digest; its retention clock in ms; and whether that clock reads as invalid. -/
structure Findings where
  snaps   : List (Nat × List Byte × Nat × List Byte)
  clock   : Nat
  invalid : Bool
  deriving DecidableEq, Repr

/-- What a VERDICT message carries (R130, R114, R119) and the two readings of R176 and R177 that the lanes exchange;
that of a TIME_REQ names it by its timestamp and its arrival stamp. -/
inductive Verdict where
  | findings (f : Findings)
  | request (mailbox : Fin 4) (code : BitVec 16) (digest : List Byte)
  | reqInstant (sid : Fin 1024) (stamp instant : Nat)
  | respInstant (sid : Fin 1024) (time stamp instant : Nat)
  deriving DecidableEq, Repr

/-- A delta of one cycle (R150): changed slots, changed constants, and the force table where it changes. -/
structure Delta where
  cycle  : Nat
  slots  : List (BitVec 18 × W16)
  consts : List (BitVec 16 × W32)
  forces : Option (List (Nat × W16))
  deriving DecidableEq, Repr

/-- The path a telegram arrived on (R172, R256, check 3 of Table 7-8): ring and node, network, wire link, CAN port or cross-link. -/
inductive Path where
  | ring (r : Fin 4) (node : Nat)
  | net2 (b : Bool)
  | wire (l : Fin 2)
  | can (p : Fin 6)
  | cross (p28 : Bool)
  deriving DecidableEq, Repr

/-- One arrival in the receive area (R23): where it lies, how long it is, its arrival stamp and its path, as the pumphouse writes them, and
whether the lane's read of it reports an uncorrectable error (R19). -/
structure Arrival where
  addr : Nat
  len  : Nat
  stamp : Nat
  path : Path
  unreadable : Bool
  deriving DecidableEq, Repr

/-- Where and when the pumphouse places what it receives: basin address and arrival stamp, the agreed tide when the last byte has been written
(R23). -/
structure Placing where
  addr  : Nat
  stamp : Nat
  deriving DecidableEq, Repr

/-- A received Ethernet frame with a UDP datagram as the bridge of R276 and the filter of R279 see it: the port it came in on, counted from the
network's lowest, its MAC addresses and tag; `whole` for a complete, unfragmented UDP datagram without options and with correct checksums. -/
structure EthFrame where
  port    : Fin 6
  macDst  : BitVec 48
  macSrc  : BitVec 48
  vlan    : Option (BitVec 12)
  dst     : BitVec 32
  src     : BitVec 32
  sport   : BitVec 16
  dport   : BitVec 16
  whole   : Bool
  payload : List Byte
  deriving DecidableEq, Repr

/-- A received CAN frame (R282 to R284): CAN FD or classical, with bit-rate switching, its res bit recessive; `sound` where no bit, stuff, CRC or
form error was seen in it. -/
structure CanFrame where
  fd     : Bool
  brs    : Bool
  res    : Bool
  sound  : Bool
  ext    : Bool
  ident  : BitVec 29
  remote : Bool
  data   : List Byte
  deriving DecidableEq, Repr

/-- What a port that detects its rate sees (R283). -/
inductive CanSeen where
  | goodFrame | error | silence
  deriving DecidableEq, Repr

/-- A UDP datagram as the pumphouse sends it (R280, R290): IPv4 addresses, ports, the VLAN tag with its priority, DSCP and payload. -/
structure Datagram where
  dst     : Nat
  src     : Nat
  sport   : Nat
  dport   : Nat
  tag     : Option (Nat × Nat)
  dscp    : Nat
  payload : List Byte
  deriving DecidableEq, Repr

/-- The requester of a KMP datagram (R354): its IPv4 address and UDP port. -/
structure Requester where
  ip   : BitVec 32
  port : BitVec 16
  deriving DecidableEq, Repr

/-- A KMP request (Table 16-3) without its operation, which the command names. -/
structure KmpReq where
  version : BitVec 8
  tag     : BitVec 16
  address : BitVec 32
  count   : BitVec 16
  data    : List Byte
  requester : Requester
  deriving DecidableEq, Repr

/-- What an Announce message says of a master (R291). -/
structure PtpMaster where
  prio1 : Nat
  cls   : Nat
  acc   : Nat
  var   : Nat
  prio2 : Nat
  ident : BitVec 64
  steps : Nat
  utcOffset : Nat
  deriving DecidableEq, Repr

/-- The PTP messages a slave-only ordinary clock uses (R291): times in ns, seconds of the master's time. -/
inductive PtpMsg where
  | announce (domain : Nat) (m : PtpMaster)
  | sync (domain : Nat) (ident : BitVec 64) (twoStep : Bool) (seconds : Nat) (t2t1 : Int)
  | followUp (domain : Nat) (ident : BitVec 64) (seconds : Nat) (t2t1 : Int)
  | delayResp (domain : Nat) (ident : BitVec 64) (t4t3 : Int)
  deriving DecidableEq, Repr

/-- The header of a ring frame (Table 8-2); the correction in units of 2^−16 ns. On a VK2 ring the fields that Table 8-12 does
not have are 0. -/
structure RingHdr where
  ty      : Nat
  dir     : Bool
  ring    : Nat
  srcAddr : Nat
  srcUnit : Nat
  dst     : Nat
  hops    : Nat
  cycle   : Nat
  len     : Nat
  corr    : Int
  deriving DecidableEq, Repr

/-- A SYNC body (Table 8-5), or the VK2 SYNC body of R225 with its missing fields 0. -/
structure SyncBody where
  cycle     : Nat
  tCycle    : Nat
  rank      : Nat
  start     : Nat
  launchErr : Int
  epoch     : Nat
  unit      : Nat
  digest    : List Byte
  admitted  : List Nat
  resync    : List Nat
  deriving DecidableEq, Repr

/-- A COLDSTART body (Table 8-7). -/
structure ColdBody where
  rank   : Nat
  preferred : Bool
  round  : Nat
  epoch  : Nat
  tCycle : Nat
  digest : List Byte
  deriving DecidableEq, Repr

/-- An INTEGRATE body (Table 8-6). -/
structure IntegrateBody where
  digest  : List Byte
  offset  : Int
  tIn     : Nat
  tOut    : Nat
  vendor  : Nat
  product : Nat
  deriving DecidableEq, Repr

/-- A partner report (R261). -/
structure PartnerReport where
  unit     : Nat
  role     : Nat
  mask     : Mask
  rotation : Nat
  epoch    : Nat
  cycle    : Nat
  digest   : List Byte
  ready    : Nat
  swap     : Nat
  tCycle   : Nat
  deriving DecidableEq, Repr

/-- The causes of an engine fault (R91, Table 3-7). -/
inductive EngineCause where
  | ecc | opcode | level | barrier
  deriving DecidableEq, Repr

/-- PE_FAULT.CODE (Table 3-7). -/
def EngineCause.code : EngineCause → Nat
  | .ecc => 1
  | .opcode => 2
  | .level => 3
  | .barrier => 4

/-- The causes of a breach dump (Table 15-3). -/
inductive DumpCause where
  | engine | seqMemory | seqException | coreException | phSram
  deriving DecidableEq, Repr

/-- The cause field of a dump header (Table 15-3). -/
def DumpCause.code : DumpCause → Nat
  | .engine => 0x0001
  | .seqMemory => 0x0002
  | .seqException => 0x0003
  | .coreException => 0x0011
  | .phSram => 0x0012

/-- The classes of a test slice (Table 13-9). -/
inductive SliceClass where
  | link | input | readback | element | groupElement
  deriving DecidableEq, Repr

/-- The class number of Table 13-9. -/
def SliceClass.code : SliceClass → Nat
  | .link => 1
  | .input => 2
  | .readback => 3
  | .element => 4
  | .groupElement => 5

/-- The number of items of a class (Table 13-9). -/
def SliceClass.items : SliceClass → Nat
  | .link => 3
  | .input => 64
  | .readback => 36
  | .element => 64
  | .groupElement => 8

/-- What the option loader of a lane or of the pumphouse reads (R324): the 16 strap readings as UNIT_ID, PAIR_POS and OPT_SPLIT,
and the two copies of the option record as 256 bytes each. -/
structure StrapReading where
  unitId   : BitVec 8
  pairPos  : Bool
  optSplit : Bool
  deriving DecidableEq, Repr

/-- A word of a dual-clock queue (R317); `parityOk` for correct parity over the whole word. -/
structure QueueWord where
  gen      : Fin 4
  tag      : Fin 16
  parityOk : Bool
  data     : List Byte
  last     : Bool
  deriving DecidableEq, Repr

/-- What D0 measured throughout a BIST (R331): the lowest and highest core voltage in mV and BIST clock in kHz. -/
structure BistReading where
  mvLow   : BitVec 16
  mvHigh  : BitVec 16
  khzLow  : BitVec 32
  khzHigh : BitVec 32
  deriving DecidableEq, Repr

end Sys2Proof
end

