-- ==== Sys2Proof/Syntax.lean ====
section
/-! DEFINITION. The commands of the VK3 block: one constructor for each row of the table of operations and events, in the
table's order. A command that a lane carries out names the lane (x). What the environment contributes to an event (times,
samples, messages, where an arrival lies) is its operand (log entry 20). -/

namespace Sys2Proof

/-- The commands (opcode_table.json), one constructor for each row. -/
inductive Instr where
  -- the cycle (chapters 1 and 4)
  | tideMark
  | tideReceive (x sender : LaneId) (count : BitVec 64) (rate : Int) (own : BitVec 64) (crcOk : Bool)
  | inputSample (x : LaneId) (ms : BitVec 40) (raw : BitVec 64) (readback : BitVec 32) (groups : BitVec 4) (watchIn : Bool)
      (fs1 fs2 : BitVec 16)
  | freezePoint (done : PerLane (BitVec 32))
  | sessionTimeout (x : LaneId) (sid : Fin 1024)
  | senderFaultEnd (x : LaneId) (sid : Fin 1024)
  | timeReferenceExpiry (x : LaneId) (sid : Fin 1024)
  -- the Polder engine (chapter 3)
  | sweepStart (x : LaneId)
  | level (x : LaneId) (stalls length : BitVec 32)
  | nop (x : LaneId) (cell : Fin 16)
  | guard (x : LaneId) (cell : Fin 16)
  | mov (x : LaneId) (cell : Fin 16)
  | and (x : LaneId) (cell : Fin 16)
  | or (x : LaneId) (cell : Fin 16)
  | xor (x : LaneId) (cell : Fin 16)
  | eq (x : LaneId) (cell : Fin 16)
  | ne (x : LaneId) (cell : Fin 16)
  | lt (x : LaneId) (cell : Fin 16)
  | le (x : LaneId) (cell : Fin 16)
  | adds (x : LaneId) (cell : Fin 16)
  | subs (x : LaneId) (cell : Fin 16)
  | sel (x : LaneId) (cell : Fin 16)
  | lut (x : LaneId) (cell : Fin 16)
  | sr (x : LaneId) (cell : Fin 16)
  | rs (x : LaneId) (cell : Fin 16)
  | rise (x : LaneId) (cell : Fin 16)
  | fall (x : LaneId) (cell : Fin 16)
  | ton (x : LaneId) (cell : Fin 16)
  | tof (x : LaneId) (cell : Fin 16)
  | tp (x : LaneId) (cell : Fin 16)
  | ctu (x : LaneId) (cell : Fin 16)
  | ctd (x : LaneId) (cell : Fin 16)
  | chainLink (x : LaneId) (cell : Fin 16)
  | engineFault (x : LaneId) (cause : Option EngineCause) (position : BitVec 21)
  -- the vote (chapter 6)
  | gaugeScanComplete (x : LaneId) (offset waited : BitVec 32)
  | gaugeReceive (x link : LaneId) (frame : List Byte)
  | testGaugeReceive (x link : LaneId) (frame : List Byte) (stuckEqual : Bool)
  | comparisonWindowClose (x : LaneId) (offset : BitVec 32)
  | copyComplete (x : LaneId)
  | sealHandover (x : LaneId) (offset : BitVec 32)
  | outputDeadline (x : LaneId)
  | verdictReceive (x sender : LaneId) (v : Verdict) (crcOk : Bool)
  -- restarts, forcing and changes in service (chapter 5)
  | restartDecision
  | retentionClockInvalid (x : LaneId)
  | changeConstant (mb : Fin 4)
  | changePar (mb : Fin 4)
  | setForce (mb : Fin 4)
  | releaseForce (mb : Fin 4)
  | releaseAllForces (mb : Fin 4)
  | changeApply
  | sleeperChangeApply
  | faultReset (mb : Fin 4)
  | faultResetApply
  | swapRequest (mb : Fin 4)
  | swapCommit
  | swapExecute
  | setOwnIpv4 (mb : Fin 4)
  | setPriorityMarking (mb : Fin 4)
  | setPtpDomain (mb : Fin 4)
  | setCanBitRates (mb : Fin 4)
  | setCanReference (mb : Fin 4)
  | setWireTermination (mb : Fin 4)
  | settingsApply
  -- life cycle and update (chapter 14)
  | lifeCycleTransition (mb : Fin 4)
  | transitionApply
  | enrolment (mb : Fin 4)
  | passwordChange (mb : Fin 4)
  | softwareWarmReset (mb : Fin 4)
  | softwareColdReset (mb : Fin 4)
  | softwareResetExecute
  | openUpdateSession (mb : Fin 4)
  | stagePackage (mb : Fin 4)
  | activate (mb : Fin 4)
  | activationRestart
  | closeUpdateSession (mb : Fin 4)
  | updateSessionLapse
  | readChangeLog (mb : Fin 4)
  | changeLogEntryWrite (written : Bool)
  | lockoutEnd
  | firmwareCommit
  | fallback (cannotRead : Bool)
  | issueFloorAdvance
  | logRead (mb : Fin 4)
  | dumpRead (mb : Fin 4)
  | dumpRelease (mb : Fin 4)
  -- resync and lane rotation (chapter 6)
  | resyncLoadingComplete (x : LaneId)
  | resyncJoining (x : LaneId)
  | baseBlockReceive (x donor : LaneId) (block : Fin 258) (crcOk : Bool)
  | deltaReceive (x donor : LaneId) (data : List Byte) (crcOk : Bool)
  | resyncPhaseTimeout (x : LaneId)
  | resyncAttemptTimeout (x : LaneId)
  | rotationDue
  | rotationDeferCheck
  | laneRotationStart
  | rotationTestsComplete (x : LaneId)
  -- sealed telegrams (chapter 7)
  | dataTelegramReceive (x : LaneId) (addr : BitVec 29) (unreadable : Bool)
  | pairingWindowClose (x : LaneId) (sid : Fin 1024) (time : Bool)
  | timeReqReceive (x : LaneId) (addr : BitVec 29) (unreadable : Bool) (own : BitVec 64)
  | timeRespReceive (x : LaneId) (addr : BitVec 29) (unreadable : Bool)
  | telegramAssembly (sid : Fin 1024) (kind : BitVec 4) (offset : BitVec 32)
  | ringOutputSlot (r : Fin 4) (slot : Nat)
  | sendingDeadline (sending : List (Fin 6 × BitVec 64))
  | mirrorTelegramReceive (port : XPort) (frame : List Byte) (at_ : Placing) (unreadable : PerLane Bool)
  | partnerReportReceive (port : XPort) (frame : List Byte)
  -- ports (chapter 11)
  | ethernetFrameReceive (net : NetId) (f : EthFrame) (at_ : Placing)
  | icmpEchoRequest (net : NetId) (src : BitVec 32) (second : BitVec 32)
  | arpMessage (net : NetId) (port : Fin 6) (request : Bool) (senderIp targetIp : BitVec 32) (senderMac macDst : BitVec 48)
  | arpResolutionFailure (net : NetId) (ip : BitVec 32)
  | ethernetLinkUp (net : NetId) (port : Fin 6) (gigabit : Bool)
  | canFrameReceive (p : Fin 6) (f : CanFrame) (at_ : Placing)
  | canRateDetection (p : Fin 6) (seen : CanSeen)
  | canFrameSent (p : Fin 6) (begun : BitVec 64) (errors : BitVec 8)
  | busOff (p : Fin 6)
  | busOffRecovery (p : Fin 6) (sequences : BitVec 8)
  | canExpired (p : Fin 6) (sending : Option (BitVec 64))
  | referenceMessageMiss (p : Fin 6)
  | wireFrameReceive (l : Fin 2) (chars : List Byte) (stopError : Bool) (at_ : Placing)
  | kmpRead (req : KmpReq)
  | kmpWrite (req : KmpReq)
  | basinRead (req : KmpReq)
  | basinWrite (req : KmpReq)
  | ptpMessageReceive (m : PtpMsg)
  | announceReceiptTimeout
  | utcHoldoverEnd
  -- the Dikeline ring (chapter 8)
  | ringFrameForward (r : Fin 4) (side : Side) (frame : List Byte) (receipt : Int) (latency : Nat)
  | ringLinkChange (r : Fin 4) (side : Side) (up : Bool)
  | delayMeasurementStart (r : Fin 4)
  | delayReq (r : Fin 4) (side : Side) (frame : List Byte) (turnaround : Nat)
  | delayResp (r : Fin 4) (side : Side) (frame : List Byte) (roundTrip : Nat)
  | delayRespTimeout (r : Fin 4) (side : Side)
  | syncLaunch (r : Fin 4) (launchErr : Int)
  | syncReceive (r : Fin 4) (side : Side) (frame : List Byte) (receipt : Int)
  | holdover (r : Fin 4)
  | holdoverEnd (r : Fin 4)
  | slotFrameReceive (r : Fin 4) (side : Side) (slot : Nat) (frame : List Byte) (receipt : Int) (at_ : Placing)
  | nodeResync (r : Fin 4) (node : Fin 128)
  | integrate (r : Fin 4) (frame : List Byte)
  | diagRequest (r : Fin 4) (identity : Bool)
  | diagResponse (r : Fin 4) (frame : List Byte)
  | vk2Echo (r : Fin 4) (frame : List Byte) (roundTrip : Nat)
  | vk2PathDelay (r : Fin 4) (frame : List Byte)
  | coldstart (frame : List Byte)
  | listenPeriodExpiry
  | contentionRound
  -- watcher and sleeper (chapter 10)
  | decidingEntry
  | decidingTimeout
  | failOver
  | watcherGivesWay
  -- vital inputs and outputs (chapter 9)
  | pulseDarkWindow (j : Fin 8)
  | testSample (x : LaneId) (j : Fin 8) (raw : BitVec 64)
  | testPulseStart (k : Fin 32)
  | testPulseEnd (k : Fin 32)
  | testWindowEnd (x : LaneId) (k : Fin 32)
  | externalCheck (x : LaneId) (g : Fin 4) (readback : BitVec 32)
  | overcurrent (x : LaneId) (k : Fin 32)
  | overcurrentRetry (x : LaneId) (k : Fin 32)
  | overcurrentFreeInterval (x : LaneId) (k : Fin 32)
  -- power, clocks, reset and self-test (chapter 13)
  | laneBrownOut (x : LaneId)
  | pumphouseBrownOut
  | supplyStart (p : Part)
  | maintReset
  | laneWatchdog (x : LaneId)
  | pumphouseWatchdog (core : Fin 4)
  | clockGateOpen (p : Part) (domain : Fin 8) (met : Bool)
  | domainRelease (p : Part) (domain : Fin 8) (sfps : List (Nat × BitVec 8 × BitVec 32)) (firmwareOk : Bool)
  | logicBist (x : LaneId) (signature : BitVec 64) (reading : BistReading)
  | memoryBist (x : LaneId) (failing : List (Nat × Nat)) (reading : BistReading)
  | optionLoading (p : Part) (straps : List StrapReading) (copyA copyB : List Byte)
  | optionExchange (x : LaneId) (delays : PerLane (BitVec 32))
  | sluiceReopen (p : Part) (neighbour : Part)
  | queueWordReceive (writer reader : Part) (w : QueueWord)
  | testSlice (x : LaneId) (cls : SliceClass) (item : BitVec 8) (passed : Bool)
  -- Warden log and breach dump (chapter 15)
  | wardenRecordWrite (src : Part)
  | breachDump (p : Part) (cause : DumpCause) (reachable : Bool) (content : List Byte)
  | breachDumpComplete (p : Part)
  -- mailboxes and locks (chapter 12)
  | mailboxDoorbell (mb : Fin 4) (tag : BitVec 32) (requester : Requester) (copyTo : BitVec 32) (readError : Bool)
      (laneErrors : PerLane Bool)
  | mailboxAcknowledge (mb : Fin 4) (code : BitVec 32)
  | mbOutAck (mb : Fin 4)
  | lkLockRead (n : Fin 64) (readers : BitVec 8) (us : Fin 1000)
  | lkLockRelease (n : Fin 64) (master : Fin 8) (value : BitVec 32) (us : Fin 1000)
  | lockLapse (n : Fin 64) (master : Fin 8) (us : Fin 1000)
  -- registers (chapter 16)
  | tdTideLo (x : LaneId)
  | wdOptimeLo
  | dlCntClr (v : BitVec 32)
  | xlCntClr (v : BitVec 32)
  | enCntClr (v : BitVec 32)
  | cnCntClr (v : BitVec 32)
  | wlCntClr (v : BitVec 32)
  | ptCntClr (v : BitVec 32)
  | mbCntClr (v : BitVec 32)
  | bsCounterClear (v : BitVec 32)
  | lkCounterClear (v : BitVec 32)
  | wdCntClr (v : BitVec 32)
  | phEvent (v : BitVec 32)
  | phLampTest (v : BitVec 32)
  | lampTestEnd
  | phPortDisable (v : BitVec 32)
  | biExtCtrlStart (x : LaneId) (v : BitVec 32)
  | externalBistDone (x : LaneId)
  | registerWrite (addr v : BitVec 32)
  -- the rows added at the end of the table
  | basinScrub (addr : BitVec 29) (corrected uncorrectable : Bool)
  | mirrorFrameSent (offset : BitVec 32)
  | darkWindowEnd (j : Fin 8)
  | testPulseBegin (k : Fin 32)
  | readbackSample (x : LaneId) (readback : BitVec 32) (us : BitVec 32)
  | ptpDelayRequest
  | ethernetLinkDown (net : NetId) (port : Fin 6)
  | crossLinkChange (port : XPort) (up : Bool)
  deriving DecidableEq, Repr

end Sys2Proof
end

