-- ==== Sys2Proof/Config.lean ====
section
/-! DEFINITION. What the spec leaves open or takes from a standard it does not print: uninterpreted constants, so that a claim
holds whatever they are. None of them has a body. -/

namespace Sys2Proof

/-- ML-DSA-65 verification (FIPS 204, named by R51, R341, R349): public key, message, signature. The algorithm is not in the
spec; it stays uninterpreted (log entry 6). -/
opaque Config.mlDsaVerify : List Byte → List Byte → List Byte → Bool

/-- The challenge the lanes derive (R341): its derivation is not given. A free value, one for each count of State.fresh (log
entry 7). -/
opaque Config.freeChallenge : Nat → BitVec 64

/-- How much of a rate correction a lane uses to bring its tide to the agreed value (R25, R140): its direction and its range are given (Table
6-6), not its amount. A free value, held to that range where it is used (log entry 8). -/
opaque Config.freeRate : Nat → Int

/-- The MISR signature an external BIST run leaves (R335): the scan chains are not given. A free value of the seed, the number
of patterns and the use of the seed (log entry 9). -/
opaque Config.misr : Nat → Nat → Bool → BitVec 64

/-- Kelinagon's ML-DSA-65 public key of 1,952 bytes, as the part is given it, and the 32 bytes that stand in OTP for it (R349). Fixed by the
part, their values not in the spec (log entry 10). -/
opaque Config.kelinagonKey : BitVec 15616
opaque Config.kelinagonOtp : BitVec 256

/-- The factory and the delivery password's salt and hash, chosen by Kelinagon for the module (R401). Their values are not in
the spec (log entry 11). -/
opaque Config.factorySecret : BitVec 128 × BitVec 256
opaque Config.deliverySecret : BitVec 128 × BitVec 256

/-- What firmware makes of the settings of another settings version when it migrates them (R357): the spec gives no layout of a lane's settings. A free
value of the two versions and the settings (log entry 113). -/
opaque Config.migrated : Nat → Nat → List Byte → List Byte

/-- What the hardware measures: clocks, voltages, currents, power, the toggle frequency, the basin's load, a CAN transmitter's delay. A free
value of State.fresh and of the number of the quantity, cut to its register's width where it is stored (log entry 12). -/
opaque Config.measured : Nat → Nat → Nat

/-- Where a state buffer lies in the lane SRAM (CV_SCAN_ADDR, Table 7-14): the addresses of Table 1-3's regions are not given. A
free value of the physical buffer (log entry 15). -/
opaque Config.bufferAddr : Nat → BitVec 32

/-- Whether a value exactly half way between two steps is rounded up: a rate correction between two steps of 0.01 ppm (R205 says only nearest), the
half of an odd count (R25, R202, R226, R291 do not say). A free value of the numerator (log entry 16). -/
opaque Config.tieUp : Int → Bool

/-- The identifier a node chooses for a DELAY_REQ or a watcher for a VK2 echo (R202, R226). A free value, one for each count of
State.fresh (log entry 17). -/
opaque Config.freeIdent : Nat → BitVec 32

/-- The reason of the cold restart of a unit in independent-lane mode (R159): Table 5-2 has none for it. A free value (log entry 18). -/
opaque Config.independentReason : Nat

end Sys2Proof
end

