-- ==== Sys2Proof/Machine/Bytes.lean ====
section
/-! DEFINITION. Byte order and bit fields: every multi-byte field is big-endian (R11), register bits are numbered from 31 down
to 0 (R10), counters stop at their maximum (R378), payload bit 0 is the most significant bit of byte 0 (R45). -/

namespace Sys2Proof

/-- The `n` bytes of `v`, most significant first (R11). -/
def be (n : Nat) (v : Nat) : List Byte :=
  match n with
  | 0 => []
  | k + 1 => BitVec.ofNat 8 (v / 256 ^ k) :: be k v

/-- The number a big-endian byte list spells. -/
def ofBE (bs : List Byte) : Nat := bs.foldl (fun acc b => acc * 256 + b.toNat) 0

/-- `len` bytes from offset `off`. -/
def slice {α : Type} (bs : List α) (off len : Nat) : List α := (bs.drop off).take len

/-- The big-endian field of `n` bytes at offset `off`. -/
def getBE (bs : List Byte) (off n : Nat) : Nat := ofBE (slice bs off n)

/-- The byte at offset `off`, 0 beyond the end. -/
def getByte (bs : List Byte) (off : Nat) : Nat := getBE bs off 1

/-- `bs` cut or padded with 0x00 to `n` bytes. -/
def padTo (n : Nat) (bs : List Byte) : List Byte := (bs ++ List.replicate (n - bs.length) 0#8).take n

/-- Every byte is 0x00. -/
def allZero (bs : List Byte) : Bool := bs.all (fun b => b == 0#8)

/-- Bits `lo + w - 1` to `lo` of `v`. -/
def bits (v lo w : Nat) : Nat := (v / 2 ^ lo) % 2 ^ w

/-- Bit `i` of `v`. -/
def bit (v i : Nat) : Bool := bits v i 1 == 1

/-- `v` placed in the field of `w` bits from bit `lo` upwards, what does not fit cut off. -/
def fld (v lo w : Nat) : Nat := (v % 2 ^ w) * 2 ^ lo

/-- A flag placed at bit `i`. -/
def flag (b : Bool) (i : Nat) : Nat := if b then 2 ^ i else 0

/-- 1 for true, 0 for false. -/
def b2n (b : Bool) : Nat := if b then 1 else 0

/-- The largest 32-bit value, where counters saturate (R378). -/
def max32 : Nat := 0xFFFFFFFF

/-- A saturating counter one further (R378). -/
def sat (n : Nat) : Nat := if n < max32 then n + 1 else max32

/-- A saturating counter `k` further. -/
def satAdd (n k : Nat) : Nat := min (n + k) max32

/-- Bits 27:0 of a cycle number, as the cause registers show them. -/
def cyc28 (n : Nat) : Nat := n % 2 ^ 28

/-- Two's complement of an integer in `w` bits. -/
def twos (w : Nat) (i : Int) : Nat := (BitVec.ofInt w i).toNat

/-- The integer a two's complement field of `w` bits spells. -/
def ofTwos (w v : Nat) : Int := (BitVec.ofNat w v).toInt

/-- A number held within `lo` and `hi`. -/
def clamp (lo hi i : Int) : Int := if i < lo then lo else if hi < i then hi else i

/-- Payload bit `b`: bit 7 − (b mod 8) of byte b div 8 (R45). -/
def payloadBit (p : List Byte) (b : Nat) : Bool := bit (getByte p (b / 8)) (7 - b % 8)

/-- A receive field: payload bits `b` to `b + w − 1`, the first the most significant (R45). -/
def payloadField (p : List Byte) (b w : Nat) : Nat :=
  (List.range w).foldl (fun acc i => acc * 2 + b2n (payloadBit p (b + i))) 0

/-- One bit of a payload set to `v`. -/
def setPayloadBit (p : List Byte) (b : Nat) (v : Bool) : List Byte :=
  let old := getByte p (b / 8)
  let m := 2 ^ (7 - b % 8)
  let cleared := if bit old (7 - b % 8) then old - m else old
  p.set (b / 8) (BitVec.ofNat 8 (if v then cleared + m else cleared))

/-- A send field written into a payload: the low-order `w` bits of `v` (R46). -/
def setPayloadField (p : List Byte) (b w v : Nat) : List Byte :=
  (List.range w).foldl (fun q i => setPayloadBit q (b + i) (bit v (w - 1 - i))) p

/-- Serial arithmetic (R164): `s` is later than `r`. -/
def later (s r : Nat) : Bool :=
  let d := (s + 2 ^ 32 - r) % 2 ^ 32
  decide (1 ≤ d) && decide (d ≤ 2147483647)

/-- The sequence number after `n`: 0xFFFF_FFFF is followed by 1 (R164). -/
def nextSeq (n : Nat) : Nat := if n ≥ max32 then 1 else n + 1

/-- Ceiling division. -/
def ceilDiv (n d : Nat) : Nat := (n + d - 1) / d

end Sys2Proof
end

