-- ==== Sys2Proof/Machine/Keccak.lean ====
section
/-! DEFINITION. SHAKE256 of FIPS 202, which the spec names for every digest and authenticator (R51, R118, R343, R347). The
permutation is the standard's own, taken from outside the spec: PRESUMED, log entry 5. -/

namespace Sys2Proof

/-- The round constants of the permutation. -/
def keccakRC : List (BitVec 64) :=
  [0x0000000000000001#64, 0x0000000000008082#64, 0x800000000000808A#64, 0x8000000080008000#64,
   0x000000000000808B#64, 0x0000000080000001#64, 0x8000000080008081#64, 0x8000000000008009#64] ++
  [0x000000000000008A#64, 0x0000000000000088#64, 0x0000000080008009#64, 0x000000008000000A#64,
   0x000000008000808B#64, 0x800000000000008B#64, 0x8000000000008089#64, 0x8000000000008003#64] ++
  [0x8000000000008002#64, 0x8000000000000080#64, 0x000000000000800A#64, 0x800000008000000A#64,
   0x8000000080008081#64, 0x8000000000008080#64, 0x0000000080000001#64, 0x8000000080008008#64]

/-- The rotation of lane x + 5y. -/
def keccakRot : List Nat :=
  [0, 1, 62, 28, 27] ++ [36, 44, 6, 55, 20] ++ [3, 10, 43, 25, 39] ++ [41, 45, 15, 21, 8] ++ [18, 2, 61, 56, 14]

/-- Lane `i` of a Keccak state. -/
def kLane (s : List (BitVec 64)) (i : Nat) : BitVec 64 := s.getD i 0#64

/-- The theta step. -/
def keccakTheta (s : List (BitVec 64)) : List (BitVec 64) :=
  let col := (List.range 5).map fun x =>
    kLane s x ^^^ kLane s (x + 5) ^^^ kLane s (x + 10) ^^^ kLane s (x + 15) ^^^ kLane s (x + 20)
  let d := (List.range 5).map fun x => kLane col ((x + 4) % 5) ^^^ (kLane col ((x + 1) % 5)).rotateLeft 1
  (List.range 25).map fun i => kLane s i ^^^ kLane d (i % 5)

/-- The rho and pi steps: target lane (x, y) takes lane (x + 3y, x). -/
def keccakRhoPi (s : List (BitVec 64)) : List (BitVec 64) :=
  (List.range 25).map fun i =>
    let x := i % 5
    let y := i / 5
    let j := (x + 3 * y) % 5 + 5 * x
    (kLane s j).rotateLeft (keccakRot.getD j 0)

/-- The chi step. -/
def keccakChi (s : List (BitVec 64)) : List (BitVec 64) :=
  (List.range 25).map fun i =>
    let x := i % 5
    let r := i - x
    kLane s i ^^^ ((~~~ kLane s (r + (x + 1) % 5)) &&& kLane s (r + (x + 2) % 5))

/-- One round. -/
def keccakRound (s : List (BitVec 64)) (rc : BitVec 64) : List (BitVec 64) :=
  let t := keccakChi (keccakRhoPi (keccakTheta s))
  t.set 0 (kLane t 0 ^^^ rc)

/-- The permutation Keccak-f[1600]. -/
def keccakF (s : List (BitVec 64)) : List (BitVec 64) := keccakRC.foldl keccakRound s

/-- The lane eight bytes spell, least significant byte first. -/
def leLane (bs : List Byte) : BitVec 64 := BitVec.ofNat 64 (ofBE bs.reverse)

/-- The eight bytes of a lane, least significant byte first. -/
def laneLE (v : BitVec 64) : List Byte := (be 8 v.toNat).reverse

/-- The lanes of one 136-byte block. -/
def blockLanes (blk : List Byte) : List (BitVec 64) :=
  (List.range 25).map fun i => if i < 17 then leLane (slice blk (8 * i) 8) else 0#64

/-- Absorbing one block. -/
def keccakAbsorb (s : List (BitVec 64)) (blk : List Byte) : List (BitVec 64) :=
  keccakF (List.zipWith (· ^^^ ·) s (blockLanes blk))

/-- The message with the SHAKE domain suffix and the padding of the sponge. -/
def shakePad (bs : List Byte) : List Byte :=
  let q := 136 - bs.length % 136
  bs ++ (if q = 1 then [0x9F#8] else 0x1F#8 :: List.replicate (q - 2) 0#8 ++ [0x80#8])

/-- The padded message absorbed, `n` blocks of it. -/
def shakeAbsorbN (s : List (BitVec 64)) (bs : List Byte) : Nat → List (BitVec 64)
  | 0 => s
  | n + 1 => shakeAbsorbN (keccakAbsorb s (bs.take 136)) (bs.drop 136) n

/-- `n` output blocks. -/
def shakeSqueezeN (s : List (BitVec 64)) : Nat → List Byte
  | 0 => []
  | n + 1 => ((s.take 17).flatMap laneLE) ++ shakeSqueezeN (keccakF s) n

/-- The first `n` bytes of the SHAKE256 output over `bs`. -/
def shake256 (n : Nat) (bs : List Byte) : List Byte :=
  let p := shakePad bs
  (shakeSqueezeN (shakeAbsorbN (List.replicate 25 0#64) p (p.length / 136)) (ceilDiv n 136)).take n

end Sys2Proof
end

