-- ==== Sys2Proof/Machine/Crc.lean ====
section
/-! DEFINITION. The cyclic checks the spec gives with all their parameters: the seals (Table 7-4), the gauge (Table 6-2), the
wire-link FCS (R174), the IEEE 802.3 CRC-32 that Dikeline frames, records and option records carry, and the legacy sets (Table 2-7). -/

namespace Sys2Proof

/-- The parameters of one check-value slot (R188), in normal form (R12). -/
structure CrcParams where
  width  : Nat
  poly   : Nat
  init   : Nat
  refIn  : Bool
  refOut : Bool
  xorOut : Nat
  deriving DecidableEq, Repr

/-- `v` with its `w` bits in reverse order. -/
def reflect (w v : Nat) : Nat :=
  (List.range w).foldl (fun acc i => acc * 2 + b2n (bit v i)) 0

/-- The register after one more message bit. -/
def crcBit (p : CrcParams) (reg : Nat) (m : Bool) : Nat :=
  let top := bit reg (p.width - 1)
  let shifted := (reg * 2) % 2 ^ p.width
  if top != m then shifted ^^^ p.poly else shifted

/-- The register after one more byte, its least significant bit first where the input is reflected. -/
def crcByte (p : CrcParams) (reg : Nat) (b : Byte) : Nat :=
  (List.range 8).foldl (fun r i => crcBit p r (bit b.toNat (if p.refIn then i else 7 - i))) reg

/-- The check value of a byte stream. -/
def crc (p : CrcParams) (bs : List Byte) : Nat :=
  let reg := bs.foldl (crcByte p) p.init
  (if p.refOut then reflect p.width reg else reg) ^^^ p.xorOut

/-- The seal parameters of each lane (Table 7-4). -/
def sealParams : LaneId → CrcParams
  | .a => ⟨32, 0xF4ACFB13, 0xFFFFFFFF, true, true, 0xFFFFFFFF⟩
  | .b => ⟨32, 0x1EDC6F41, 0xFFFFFFFF, true, true, 0xFFFFFFFF⟩
  | .c => ⟨32, 0x741B8CD7, 0xFFFFFFFF, true, true, 0xFFFFFFFF⟩

/-- Gauge slot 3 (Table 6-2). -/
def gaugeParams3 : CrcParams := ⟨64, 0x42F0E1EBA9EA3693, 0xFFFFFFFFFFFFFFFF, false, false, 0xFFFFFFFFFFFFFFFF⟩

/-- Gauge slot 4 (Table 6-2). -/
def gaugeParams4 : CrcParams := ⟨64, 0x000000000000001B, 0xFFFFFFFFFFFFFFFF, true, true, 0xFFFFFFFFFFFFFFFF⟩

/-- The IEEE 802.3 CRC-32 that frames, link messages, records and dumps end with (R130, R195, R361). PRESUMED parameters of
that standard: log entry 4. -/
def ieeeParams : CrcParams := ⟨32, 0x04C11DB7, 0xFFFFFFFF, true, true, 0xFFFFFFFF⟩

/-- The wire-link FCS (R174). -/
def wireFcsParams : CrcParams := ⟨16, 0x1021, 0xFFFF, true, true, 0xFFFF⟩

/-- The IEEE 802.3 CRC-32 of a byte stream. -/
def ieeeCrc (bs : List Byte) : Nat := crc ieeeParams bs

end Sys2Proof
end

