-- ==== Sys2Proof/Machine/Term.lean ====
section
/-! DEFINITION. The term word of the Polder engine (Table 3-2) and the opcodes (Table 3-3): decoded by `Term.decode`, written
by `Term.encode`. -/

namespace Sys2Proof

/-- The opcodes of Table 3-3. -/
inductive Op where
  | nop | level | guard | mov | and | or | xor | eq | ne | lt | le | adds | subs | sel | lut
  | sr | rs | rise | fall | ton | tof | tp | ctu | ctd
  deriving DecidableEq, Repr

/-- The value of the OP field (Table 3-3). -/
def Op.code : Op → Nat
  | .nop => 0x00 | .level => 0x01 | .guard => 0x02 | .mov => 0x04 | .and => 0x05 | .or => 0x06 | .xor => 0x07
  | .eq => 0x08 | .ne => 0x09 | .lt => 0x0A | .le => 0x0B | .adds => 0x0C | .subs => 0x0D | .sel => 0x0E | .lut => 0x0F
  | .sr => 0x10 | .rs => 0x11 | .rise => 0x12 | .fall => 0x13 | .ton => 0x14 | .tof => 0x15 | .tp => 0x16
  | .ctu => 0x18 | .ctd => 0x19

/-- The opcode of an OP field; every other value is undefined (R70). -/
def Op.ofCode : Nat → Option Op
  | 0x00 => some .nop | 0x01 => some .level | 0x02 => some .guard | 0x04 => some .mov | 0x05 => some .and
  | 0x06 => some .or | 0x07 => some .xor | 0x08 => some .eq | 0x09 => some .ne | 0x0A => some .lt | 0x0B => some .le
  | 0x0C => some .adds | 0x0D => some .subs | 0x0E => some .sel | 0x0F => some .lut | 0x10 => some .sr
  | 0x11 => some .rs | 0x12 => some .rise | 0x13 => some .fall | 0x14 => some .ton | 0x15 => some .tof
  | 0x16 => some .tp | 0x18 => some .ctu | 0x19 => some .ctd
  | _ => none

/-- A term (Table 3-2). -/
structure Term where
  op    : Op
  dst   : BitVec 18
  srcA  : BitVec 18
  srcB  : BitVec 18
  chain : Bool
  negA  : Bool
  negB  : Bool
  bk    : Bool
  deriving DecidableEq, Repr

/-- The word of a term: OP, DST, SRCA, SRCB and the four flags, the most significant first (Table 3-2). -/
def Term.encode (t : Term) : W64 :=
  BitVec.ofNat 64
    (fld t.op.code 58 6 + fld t.dst.toNat 40 18 + fld t.srcA.toNat 22 18 + fld t.srcB.toNat 4 18 +
      flag t.chain 3 + flag t.negA 2 + flag t.negB 1 + flag t.bk 0)

/-- The term a word spells; none where its OP is undefined (R70). -/
def Term.decode (w : W64) : Option Term :=
  let v := w.toNat
  match Op.ofCode (bits v 58 6) with
  | none => none
  | some op =>
    some { op, dst := BitVec.ofNat 18 (bits v 40 18), srcA := BitVec.ofNat 18 (bits v 22 18),
           srcB := BitVec.ofNat 18 (bits v 4 18), chain := bit v 3, negA := bit v 2, negB := bit v 1, bk := bit v 0 }

/-- The constant index of a term with BK set, and the skip count of a GUARD: SRCB[15:0] (Table 3-2, R77). -/
def Term.constIdx (t : Term) : Nat := t.srcB.toNat % 2 ^ 16

/-- The level number a LEVEL word carries: SRCB[11:0] (R37). -/
def Term.levelNo (t : Term) : Nat := t.srcB.toNat % 2 ^ 12

/-- The opcodes that may carry CHAIN (R73). -/
def Op.mayLink : Op → Bool
  | .mov | .and | .or | .xor | .adds => true
  | _ => false

/-- The opcodes that may close a chain (R73). -/
def Op.mayClose : Op → Bool
  | .and | .or | .xor | .adds | .sel | .ton | .tof | .tp | .ctu | .ctd => true
  | _ => false

/-- The opcodes that must close a chain (R73, R78, Table 3-3). -/
def Op.mustClose : Op → Bool
  | .sel | .ton | .tof | .tp => true
  | _ => false

/-- The timer opcodes. -/
def Op.isTimer : Op → Bool
  | .ton | .tof | .tp => true
  | _ => false

/-- The opcodes whose SRCA names a variable. -/
def Op.usesA : Op → Bool
  | .nop | .level => false
  | _ => true

/-- The opcodes whose SRCB (and BK) names an operand. -/
def Op.usesB : Op → Bool
  | .nop | .level | .guard | .mov | .rise | .fall => false
  | _ => true

/-- The opcodes that have a destination. -/
def Op.usesDst : Op → Bool
  | .nop | .level | .guard => false
  | _ => true

/-- The opcodes for which NEGA is allowed (Table 3-3). -/
def Op.negAOk : Op → Bool
  | .guard | .mov | .and | .or | .xor | .sr | .rs | .ctu | .ctd => true
  | _ => false

/-- The opcodes for which NEGB is allowed (Table 3-3). -/
def Op.negBOk : Op → Bool
  | .and | .or | .xor | .sr | .rs => true
  | _ => false

end Sys2Proof
end

