-- ==== Sys2Proof/Machine/Image.lean ====
section
/-! DEFINITION. The Polder image as a lane holds it once it has read it: the variables, the terms, the constants, the bindings,
the sessions and the ring schedules (chapter 2). How the bytes of the file spell it, and every check on them, is in
Machine/ImageCheck.lean. -/

namespace Sys2Proof

/-- The types of a variable (Table 2-4). -/
inductive VarType where
  | bool | enum | uint16 | timer | counter
  deriving DecidableEq, Repr

/-- The classes of a variable (Table 2-4). -/
inductive VarClass where
  | inp | out | comb | reg | par
  deriving DecidableEq, Repr

/-- One entry of the variable table (Table 2-4). -/
structure VarEntry where
  ident     : Nat
  ty        : VarType
  cls       : VarClass
  mirror    : Bool
  retain    : Bool
  forceable : Bool
  prescaler : Nat
  cold      : W16
  limit     : W16
  constIdx  : Nat
  deriving DecidableEq, Repr

/-- One input entry of the local I/O map (Table 2-6). -/
structure InEntry where
  used   : Bool
  pulsed : Bool
  depth  : Nat
  source : Nat
  var    : Nat
  deriving DecidableEq, Repr

/-- One output entry of the local I/O map (Table 2-6). -/
structure OutEntry where
  used      : Bool
  pulse     : Bool
  sensitive : Bool
  shared    : Bool
  var       : Nat
  deriving DecidableEq, Repr

/-- The transports of a session (Table 2-8). -/
inductive Transport where
  | ring | net2 | wire | can
  deriving DecidableEq, Repr

/-- One entry of the telegram maps (Table 2-11). -/
structure FieldEntry where
  var   : Nat
  off   : Nat
  width : Nat
  safe  : W16
  deriving DecidableEq, Repr

/-- One entry of the session table (Table 2-8), its two maps resolved. -/
structure SessEntry where
  sid       : Nat
  transport : Transport
  rx        : Bool
  tx        : Bool
  legacy    : Option Nat
  peer      : Nat
  partner   : Nat
  port      : Nat
  node      : Nat
  maxAge    : Nat
  staleK    : Nat
  pairWin   : Nat
  latency   : Nat
  timeout   : Nat
  rxLen     : Nat
  txLen     : Nat
  rxMap     : List FieldEntry
  txMap     : List FieldEntry
  addrA     : Nat
  addrB     : Nat
  udp       : Nat
  vlan      : Nat
  canTx     : Nat
  canRx     : Nat
  partnerA  : Nat
  partnerB  : Nat
  deriving DecidableEq, Repr

/-- The modes of a ring (Table 2-9). -/
inductive RingMode where
  | unused | native | vk2
  deriving DecidableEq, Repr

/-- One slot of a ring (Table 2-10); `out` for an output slot. -/
structure SlotEntry where
  out   : Bool
  node  : Nat
  len   : Nat
  start : Nat
  sid   : Nat
  deriving DecidableEq, Repr

/-- One ring block (Tables 2-9 and 2-10) with the schedule digest of Table 8-5. -/
structure RingBlock where
  mode      : RingMode
  nodes     : Nat
  inStart   : Nat
  syncStart : Nat
  outStart  : Nat
  diagStart : Nat
  idleStart : Nat
  slots     : List SlotEntry
  digest    : List Byte
  deriving DecidableEq, Repr

/-- The state-transfer map (R49): source station, issue, digest and the pairs of new and source index. -/
structure TransferMap where
  station : Nat
  issue   : Nat
  digest  : List Byte
  pairs   : List (Nat × Nat)
  deriving DecidableEq, Repr

/-- A Polder image that a lane has read. -/
structure Image where
  station   : Nat
  issue     : Nat
  tCycle    : Nat
  freeze    : Nat
  retainAge : Nat
  rotation  : Nat
  allow2oo2 : Bool
  vars      : List VarEntry
  runs      : List (List Nat)
  terms     : List W64
  nConst    : Nat
  consts    : Table 32
  testIval  : Nat
  inputs    : List InEntry
  outputs   : List OutEntry
  legacy    : List (Option CrcParams)
  sessions  : List SessEntry
  rings     : List RingBlock
  transfer  : TransferMap
  fieldObjs : Nat
  digest    : List Byte
  deriving DecidableEq, Repr

/-- A variable that no image declares. -/
def VarEntry.absent : VarEntry :=
  { ident := 0, ty := .bool, cls := .par, mirror := false, retain := false, forceable := false, prescaler := 0,
    cold := 0#16, limit := 0#16, constIdx := 0xFFFF }

/-- The entry of variable `i`. -/
def Image.var (m : Image) (i : Nat) : VarEntry := m.vars.getD i VarEntry.absent

/-- Whether variable `i` is declared. -/
def Image.hasVar (m : Image) (i : Nat) : Bool := decide (i < m.vars.length)

/-- The entry of session `sid`. -/
def Image.session (m : Image) (sid : Nat) : Option SessEntry := m.sessions.find? (fun e => e.sid == sid)

/-- The input entry of channel `c`. -/
def Image.input (m : Image) (c : Nat) : InEntry :=
  m.inputs.getD c { used := false, pulsed := false, depth := 0, source := 0xFF, var := 0xFFFFFFFF }

/-- The output entry of channel `k`. -/
def Image.output (m : Image) (k : Nat) : OutEntry :=
  m.outputs.getD k { used := false, pulse := false, sensitive := false, shared := false, var := 0xFFFFFFFF }

/-- The block of ring index `r`, 0 to 3. -/
def Image.ring (m : Image) (r : Nat) : RingBlock :=
  m.rings.getD r { mode := .unused, nodes := 0, inStart := 0, syncStart := 0, outStart := 0, diagStart := 0,
                   idleStart := 0, slots := [], digest := [] }

/-- The cycle in ticks of 10 ns (R26). -/
def Image.period (m : Image) : Nat := m.tCycle * 100000

/-- The freeze point in ticks after the tide mark (R93). -/
def Image.freezeTicks (m : Image) : Nat := m.tCycle * m.freeze * 100

/-- The output deadline in ticks after the tide mark (R93). -/
def Image.deadlineTicks (m : Image) : Nat := m.tCycle * 100000 - 50000

/-- The number of levels. -/
def Image.levelCount (m : Image) : Nat := m.runs.length

/-- The sweep estimate in engine clocks (R54). -/
def sweepEstimate (terms levels : Nat) : Nat := ceilDiv terms 16 + 8 * levels + 2048

/-- The sweep estimate of an image (R54). -/
def Image.estimate (m : Image) : Nat := sweepEstimate m.terms.length m.levelCount

/-- The nominal sweep length in engine clocks (R59, R60). -/
def Image.nominal (m : Image) : Nat :=
  (m.runs.map (fun r => r.foldl max 0)).sum + 8 * m.levelCount + 2048

/-- The mirrored variables (R257), ascending. -/
def Image.mirrored (m : Image) : List Nat :=
  (List.range m.vars.length).filter (fun i => (m.var i).cls == .reg && (m.var i).mirror)

/-- The RETAIN variables (R113), ascending. -/
def Image.retained (m : Image) : List Nat :=
  (List.range m.vars.length).filter (fun i => (m.var i).retain)

/-- The sending sessions (R257), ascending. -/
def Image.senders (m : Image) : List SessEntry := m.sessions.filter (fun e => e.tx)

/-- The mirror volume M in bytes (R56). -/
def Image.mirrorVolume (m : Image) : Nat := 2 * m.mirrored.length + 12 * m.senders.length + 4096

/-- The run lengths of level `l`. -/
def Image.level (m : Image) (l : Nat) : List Nat := m.runs.getD l []

/-- The run length of a cell in a level (R37). -/
def Image.runLen (m : Image) (l cell : Nat) : Nat := (m.level l).getD cell 0

/-- The term index of the LEVEL word of level `l` (R37, R67). -/
def Image.levelIndex (m : Image) (l : Nat) : Nat := ((m.runs.take l).map (fun r => 1 + r.sum)).sum

/-- The term index of term `pos` of a cell's run in level `l` (R37, R67). -/
def Image.termIndex (m : Image) (l cell pos : Nat) : Nat :=
  m.levelIndex l + 1 + ((m.level l).take cell).sum + pos

/-- The lowest-numbered ring in native mode, as an index from 0: the start ring (R216). -/
def Image.startRing (m : Image) : Option Nat := (List.range 4).find? (fun r => (m.ring r).mode == .native)

/-- The legacy set of a session (R170). -/
def Image.legacyOf (m : Image) (e : SessEntry) : Option CrcParams := e.legacy.bind (fun i => (m.legacy.getD i none))

/-- The session of a telegram's identifier, for the length and the parameters of a legacy session (R170). -/
def Image.legacyFor (m : Image) (b : List Byte) : Option CrcParams :=
  (m.session (bits (getBE b 2 2) 0 10)).bind (fun e => m.legacyOf e)

/-- The tide value of a cycle's freeze point (R93). -/
def Image.freezeAt (m : Image) (n : Nat) : Nat := n * m.period + m.freezeTicks

/-- The image of a lane that runs none: nothing declared. -/
def noImage : Image :=
  { station := 0, issue := 0, tCycle := 0, freeze := 0, retainAge := 0, rotation := 0, allow2oo2 := false, vars := [], runs := [],
    terms := [], nConst := 0, consts := [], testIval := 0, inputs := [], outputs := [], legacy := [], sessions := [], rings := [],
    transfer := ⟨0, 0, [], []⟩, fieldObjs := 0, digest := [] }

/-- The output group of a channel (R40). -/
def groupOf (k : Nat) : Nat := k / 8

/-- The companion of a unit identifier (R166). -/
def companion (u : Nat) : Nat := if u % 2 = 1 then u + 1 else u - 1

end Sys2Proof
end

