-- ==== Sys2Proof/Machine/Parts.lean ====
section
/-! DEFINITION. The parts of the block's state, each a record of plain data with its value after reset. A register of a register
map that only shows what another field holds has no field of its own: Machine/Regs.lean computes it (R378). -/

namespace Sys2Proof.Machine

/-! ## One lane: the Polder engine (chapter 3) -/

/-- PE_STATUS.STATE (Table 3-6). -/
inductive EngState where
  | idle | waiting | sweeping | barrier | complete | copying | fault
  deriving DecidableEq, Repr

/-- The engine of one lane: the three buffers with the physical buffer in each role (R64, PE_BUFFERS), the constant table, the
force table (R125), where each cell stands in its run, and the counts of Table 3-4. -/
structure Engine where
  state      : EngState
  prev       : Table 16
  cur        : Table 16
  next       : Table 16
  physPrev   : Nat
  physCur    : Nat
  physNext   : Nat
  consts     : Table 32
  forces     : Assoc (Option W16)
  sweepEn    : Bool
  freezeDone : Bool
  copyDone   : Bool
  level      : Nat
  started    : Bool
  pos        : Assoc Nat
  skip       : Assoc Nat
  acc        : Assoc (Option W16)
  clocks     : Nat
  stalls     : Nat
  sweepLast  : Nat
  sweepMax   : Nat
  stallLast  : Nat
  busy       : Assoc Nat
  cycleDone  : Nat
  rangeCnt   : Nat
  rangeTerm  : Nat
  rangeSeen  : Bool
  timerCnt   : Nat
  eccCorr    : Nat
  sweepLate  : Bool
  faultCode  : Nat
  faultPos   : Nat
  deriving DecidableEq, Repr

/-- The engine after a lane power-on (Table 3-4). -/
def Engine.reset : Engine :=
  { state := .idle, prev := [], cur := [], next := [], physPrev := 2, physCur := 0, physNext := 1, consts := [],
    forces := [], sweepEn := false, freezeDone := false, copyDone := true, level := 0, started := false, pos := [],
    skip := [], acc := [], clocks := 0, stalls := 0, sweepLast := 0, sweepMax := 0, stallLast := 0, busy := [],
    cycleDone := 0, rangeCnt := 0, rangeTerm := max32, rangeSeen := false, timerCnt := 0, eccCorr := 0,
    sweepLate := false, faultCode := 0, faultPos := 0 }

/-! ## One lane: tide and cycle (chapters 1 and 4) -/

/-- TD_STATUS.PHASE (Table 4-6). -/
inductive Phase where
  | input | freeze | sweep | vote | committed | handed | late | none
  deriving DecidableEq, Repr

/-- The registers of the last cycle and the last sweep (Tables 3-4 and 4-5) as they are read: they change together when the lane commits a
cycle (R379). -/
structure LastCycle where
  tFreeze   : Nat
  tSweep    : Nat
  tScan     : Nat
  tVote     : Nat
  tHandover : Nat
  defer     : Bool
  sweep     : Nat
  stall     : Nat
  cycle     : Nat
  busy      : Assoc Nat
  deriving DecidableEq, Repr

/-- No cycle committed. -/
def LastCycle.reset : LastCycle :=
  { tFreeze := 0, tSweep := 0, tScan := 0, tVote := 0, tHandover := 0, defer := false, sweep := 0, stall := 0, cycle := 0, busy := [] }

/-- A lane's tide, its cycle and the TD_ registers (Table 4-5), with what the tide exchange of R140 has delivered. `frac` is what the rate
correction has added beyond whole ticks, in thousandths of a tick; `everAgreed` that AGREED has been set (R142); `pastD` that D of the cycle has passed (R98); `agreeCycle` the cycle of
the last agreement; `lastOff` each lane's offset at its last agreement, with the lane's own cycle then (R141). -/
structure TideUnit where
  tide        : Nat
  tideHi      : Nat
  cycle       : Nat
  phase       : Phase
  agreed      : Bool
  rate        : Int
  frac        : Int
  spread      : Int
  tFreeze     : Nat
  tSweep      : Nat
  tScan       : Nat
  tVote       : Nat
  tHandover   : Nat
  shown       : LastCycle
  marginMin   : Nat
  lateCnt     : Nat
  lateCause   : Nat
  lateCycle   : Nat
  deferCnt    : Nat
  deferNow    : Bool
  deferLast   : Bool
  pastD       : Bool
  sealLateCnt : Nat
  linkDelay   : PerLane (Option Nat)
  rx          : PerLane (Option (Int × Int))
  lastOff     : PerLane (Option (Int × Nat))
  devs        : PerLane (List Int)
  offRun      : PerLane Nat
  agreements  : Nat
  everAgreed  : Bool
  agreeCycle  : Option Nat
  deriving DecidableEq, Repr

/-- The tide unit after a lane power-on (Table 4-5). -/
def TideUnit.reset : TideUnit :=
  { tide := 0, tideHi := 0, cycle := 0, phase := .none, agreed := false, rate := 0, frac := 0, spread := 0,
    tFreeze := 0, tSweep := 0, tScan := 0, tVote := 0, tHandover := 0, shown := LastCycle.reset, marginMin := max32, lateCnt := 0, lateCause := 0,
    lateCycle := 0, deferCnt := 0, deferNow := false, deferLast := false, pastD := false, sealLateCnt := 0, linkDelay := PerLane.all none,
    rx := PerLane.all none, lastOff := PerLane.all none, devs := PerLane.all [], offRun := PerLane.all 0,
    agreements := 0, everAgreed := false, agreeCycle := none }

/-! ## One lane: sessions (chapter 7) -/

/-- The session states of Table 6-3. -/
inductive SessState where
  | absent | notEst | valid | timedOut | senderFault
  deriving DecidableEq, Repr

/-- The code of Table 6-3. -/
def SessState.code : SessState → Nat
  | .absent => 0
  | .notEst => 1
  | .valid => 2
  | .timedOut => 3
  | .senderFault => 4

/-- A DATA telegram that passed checks 1 to 6 (R180): its basin address, arrival stamp, tide timestamp and payload. -/
structure Candidate where
  addr    : Nat
  stamp   : Nat
  time    : Nat
  payload : List Byte
  deriving DecidableEq, Repr

/-- A held first copy of a NET2 telegram (R185). `closed` once it is counted as missing or its pair is complete. -/
structure FirstCopy where
  addr    : Nat
  stamp   : Nat
  netB    : Bool
  tele    : List Byte
  paired  : Bool
  closed  : Bool
  deriving DecidableEq, Repr

/-- A time reference (R178): θ, τ and the cycle of the request it was taken from. -/
structure TimeRef where
  theta : Int
  tau   : Nat
  cycle : Nat
  deriving DecidableEq, Repr

/-- A TIME_REQ that waits to be answered (R177): its timestamp, which the answer echoes, its arrival stamp, and the lanes' own readings when they
passed it. -/
structure Answer where
  echo  : Nat
  stamp : Nat
  own   : PerLane (Option Nat)
  deriving DecidableEq, Repr

/-- A session context (Table 7-6) with what TS_SESSION shows of it. `answers` the TIME_REQs that wait to be answered, in the order they came (R177); `resp` a TIME_RESP that the next freeze
point takes (R178). -/
structure SessCtx where
  state     : SessState
  timeout   : Nat
  stale     : Nat
  lastSeq   : Option Nat
  lastAlive : Option Nat
  nextSeq   : Nat
  peerEpoch : Nat
  ref       : Option TimeRef
  reqStamp  : Nat
  reqOwn    : PerLane (Option Nat)
  cand      : Option Candidate
  firstData : Option FirstCopy
  firstTime : Option FirstCopy
  answers   : List Answer
  resp      : Option (Nat × Nat × Nat)
  accepted  : Nat
  refused   : Nat
  missing   : Nat
  late      : Nat
  refs      : Nat
  timeouts  : Nat
  current   : Bool
  staleRef  : Bool
  lastCode  : Nat
  deriving DecidableEq, Repr

/-- A context of a session that the image does not have. -/
def SessCtx.reset : SessCtx :=
  { state := .absent, timeout := 0, stale := 0, lastSeq := none, lastAlive := none, nextSeq := 0, peerEpoch := 0, ref := none,
    reqStamp := 0, reqOwn := PerLane.all none, cand := none, firstData := none, firstTime := none,
    answers := [], resp := none, accepted := 0, refused := 0, missing := 0, late := 0, refs := 0,
    timeouts := 0, current := false, staleRef := false, lastCode := 0 }

/-- A telegram that a lane has read and verifies after a freeze point still to come, because its stamp equals that freeze point or lies after it
(R96): the arrival, the kind of the command that brought it (1 DATA, 2 TIME_REQ, 3 TIME_RESP), and the lane's own tide at the reading. -/
structure Early where
  arr  : Arrival
  kind : Nat
  own  : Nat
  deriving DecidableEq, Repr

/-- An arrival that a lane in resync keeps for its replay (R151), with what its donors judged it by when it came: the unit's epochs on its rings, and
whether the unit was a sleeper. -/
structure Kept where
  arr     : Arrival
  epochs  : Assoc Nat
  sleeper : Bool
  deriving DecidableEq, Repr

/-- The session contexts and TS_ counters of a lane (Table 7-12), and the telegrams that a later freeze point lets in (R96). -/
structure Sessions where
  ctx         : Assoc SessCtx
  acceptCnt   : Nat
  sentCnt     : Nat
  refuseCnt   : Assoc Nat
  copyMissing : Nat
  copyLate    : Nat
  pairFault   : Nat
  lastCode    : Nat
  lastSid     : Nat
  validLast   : Nat
  early       : List Early
  deriving DecidableEq, Repr

/-- The session store after a lane reset. -/
def Sessions.reset : Sessions :=
  { ctx := [], acceptCnt := 0, sentCnt := 0, refuseCnt := [], copyMissing := 0, copyLate := 0, pairFault := 0, lastCode := 0,
    lastSid := 0, validLast := 0, early := [] }

/-! ## One lane: the check-value unit (chapter 7) -/

/-- A job of the check-value unit (R189): a seal under the lane's own slot over a prefix with header and payload; a verification of a telegram
in the basin under two slots; a scan of one or two slots over a range of the lane's SRAM or of the basin. -/
inductive CvJob where
  | seal (pre text : List Byte)
  | verify (addr len slotA slotB : Nat)
  | scan (addr len slotA : Nat) (slotB : Option Nat) (basin : Bool)
  deriving DecidableEq, Repr

/-- The check-value unit: its queues, one of each class in issue order (R189), and the CV_ registers (Table 7-14). `slots` are the eight
parameter slots as loaded, none for a slot not loaded. -/
structure CheckUnit where
  seals      : List CvJob
  verifies   : List CvJob
  scans      : List CvJob
  sealCnt    : Nat
  verifyCnt  : Nat
  scanCnt    : Nat
  waitMax    : Nat
  scanAddr   : Nat
  scanLen    : Nat
  scanCtrl   : Nat
  resA       : BitVec 64
  resB       : BitVec 64
  slots      : Assoc (Option CrcParams)
  deriving DecidableEq, Repr

/-- The check-value unit after a lane reset. -/
def CheckUnit.reset : CheckUnit :=
  { seals := [], verifies := [], scans := [], sealCnt := 0, verifyCnt := 0, scanCnt := 0, waitMax := 0, scanAddr := 0, scanLen := 0, scanCtrl := 0,
    resA := 0, resB := 0, slots := [] }

/-! ## One lane: the vital inputs and outputs (chapter 9) -/

/-- An open test-pulse window (Table 9-3): the channel, on-pulse or off-pulse, whether a passing sample was seen, the other
channels on which the pulse was seen, and the step reached. -/
structure TestWindow where
  channel : Nat
  onPulse : Bool
  begun   : Bool
  ended   : Bool
  pass    : Bool
  high    : Bool
  others  : BitVec 32
  deriving DecidableEq, Repr

/-- A lane's view of the vital inputs and outputs: VI_, VO_ and IO_ registers (Tables 9-7 to 9-12, 16-7). Times are in ms of
the lane's tide. -/
structure LaneIO where
  raw         : BitVec 64
  count       : Assoc Nat
  filt        : BitVec 64
  frozen      : BitVec 64
  disagree    : BitVec 64
  xcirc       : BitVec 64
  xzeros      : Assoc Nat
  xcircCnt    : Nat
  sampled     : Bool
  sampleCnt   : Nat
  lastMs      : Nat
  readback    : BitVec 32
  groupsRead  : BitVec 4
  watchIn     : Bool
  litInCycle  : Bool
  litLast     : Bool
  darkRun     : Nat
  drives      : Bool
  toggle      : BitVec 32
  toggleFreq  : Nat
  quench      : BitVec 32
  groupDrive  : BitVec 4
  groupQuench : BitVec 4
  watchOut    : Bool
  mirrorSent  : Option Nat
  cmd         : BitVec 32
  dark        : BitVec 8
  paused      : BitVec 32
  fault       : Assoc Nat
  xpair       : Assoc (Option Nat)
  retry       : Assoc Nat
  ocRun       : Assoc Nat
  test        : Assoc Nat
  overdue     : BitVec 32
  intervals   : Assoc Nat
  missed      : Assoc Nat
  driveBegin  : Assoc Nat
  driveEnd    : Assoc Nat
  highRun     : Assoc Nat
  lowRun      : Assoc Nat
  fs1         : Nat
  fs2         : Nat
  fs1Low      : Nat
  fs2Low      : Nat
  fs1Ok       : Bool
  fs2Ok       : Bool
  latched     : BitVec 4
  groupCause  : Assoc Nat
  groupExt    : BitVec 4
  groupChan   : Assoc Nat
  partnerCmd  : BitVec 32
  partnerLive : Bool
  partnerDiff : BitVec 32
  partnerRun  : Assoc Nat
  partnerMs   : Assoc Nat
  partnerHeld : List (Nat × BitVec 32)
  window      : Option TestWindow
  testCnt     : Nat
  abortCnt    : Nat
  ocCnt       : Nat
  resetCnt    : Nat
  deriving DecidableEq, Repr

/-- The vital I/O view after a unit start (Tables 9-7, 9-9). -/
def LaneIO.reset : LaneIO :=
  { raw := 0, count := [], filt := 0, frozen := 0, disagree := 0, xcirc := 0, xzeros := [], xcircCnt := 0, sampled := false, sampleCnt := 0,
    lastMs := 0, readback := 0, groupsRead := 0, watchIn := false, litInCycle := false, litLast := false, darkRun := 0, drives := false, toggle := 0, toggleFreq := 0,
    quench := 0, groupDrive := 0, groupQuench := 0, watchOut := false, mirrorSent := none, cmd := 0, dark := 0, paused := 0, fault := [], xpair := [], retry := [], ocRun := [],
    test := [], overdue := 0, intervals := [], missed := [], driveBegin := [], driveEnd := [], highRun := [], lowRun := [],
    fs1 := 0, fs2 := 0, fs1Low := 0, fs2Low := 0, fs1Ok := false, fs2Ok := false, latched := 0, groupCause := [],
    groupExt := 0, groupChan := [], partnerCmd := 0, partnerLive := false, partnerDiff := 0, partnerRun := [],
    partnerMs := [], partnerHeld := [], window := none, testCnt := 0, abortCnt := 0, ocCnt := 0, resetCnt := 0 }

/-! ## One lane: the vote, resync and rotation (chapter 6) -/

/-- VT_STATUS.STATE (Table 6-11). -/
inductive LaneState where
  | reset | loading | joining | base | catchUp | candidate | inService | withdrawn | rotationTest | stopped | failed | independent
  deriving DecidableEq, Repr

/-- The code of Table 6-11. -/
def LaneState.code : LaneState → Nat
  | .reset => 0x0
  | .loading => 0x1
  | .joining => 0x2
  | .base => 0x3
  | .catchUp => 0x4
  | .candidate => 0x5
  | .inService => 0x6
  | .withdrawn => 0x7
  | .rotationTest => 0x8
  | .stopped => 0x9
  | .failed => 0xA
  | .independent => 0xB

/-- The content of a resync base as a donor takes it (Table 6-8): cycle and constant-table digest at its commit, committed state, constants and
forces for the next cycle, session contexts with the unit's epochs on its rings and local I/O at its freeze point. -/
structure Base where
  cycle   : Nat
  digest  : List Byte
  state   : Table 16
  consts  : Table 32
  forces  : Assoc (Option W16)
  ctx     : Assoc SessCtx
  epochs  : Assoc Nat
  io      : LaneIO
  deriving DecidableEq, Repr

/-- A lane's vote: VT_ registers (Table 6-10), the comparison window of R132, and the resync of R147 to R153. `lastState` is the committed state
of the last cycle committed, against which the next delta is taken (R150), `lastConsts` and `lastForces` the constants and forces of that cycle
(Table 6-8); `deltas` the buffered deltas of each donor as bytes; `roles` the cycles that a lane in resync follows, with whether the unit was a sleeper at
their freeze points (R151). -/
structure Vote where
  state       : LaneState
  mask        : Mask
  heard       : Mask
  decision    : Nat
  minCause    : Nat
  minCycle    : Nat
  minCnt      : Nat
  gaugeCycle  : Nat
  gauges      : PerLane (BitVec 128)
  own         : Option (BitVec 128)
  windowOpen  : Bool
  got         : PerLane (Option GaugeMsg)
  cand        : PerLane (Option GaugeMsg)
  disagree    : PerLane Nat
  leaving     : Bool
  committed   : Option Nat
  lastState   : Table 16
  lastConsts  : Table 32
  lastForces  : Assoc (Option W16)
  summary     : Table 128
  testBit     : Nat
  testSent    : Bool
  heldTest    : Option (GaugeMsg × Bool)
  testSelf    : Nat
  testEcho    : PerLane Nat
  echoOut     : Nat
  testCnt     : Nat
  attempt     : Nat
  abort       : Nat
  abortRun    : Nat
  startMs     : Nat
  afterUnit   : Bool
  baseCycle   : Option Nat
  baseTaken   : Option Base
  blocks      : PerLane (Assoc (List Byte))
  deltas      : PerLane (List (List Byte))
  applied     : Option Nat
  kept        : List (Nat × BitVec 64)
  arrivals    : List Kept
  roles       : List (Nat × Bool)
  said        : List (Nat × Nat × LaneId × Nat)
  ctxCycle    : Nat
  candRun     : PerLane Nat
  joinCycle   : Option Nat
  resyncCnt   : Nat
  resyncTime  : Nat
  rotLast     : Nat
  rotCycle    : Nat
  linkErr     : PerLane Nat
  stopCause   : Nat
  stopCycle   : Nat
  deriving DecidableEq, Repr

/-- The vote after a lane power-on (Table 6-10). -/
def Vote.reset : Vote :=
  { state := .reset, mask := PerLane.all false, heard := PerLane.all false, decision := 0, minCause := 0, minCycle := 0,
    minCnt := 0, gaugeCycle := 0, gauges := PerLane.all 0, own := none, windowOpen := false, got := PerLane.all none,
    cand := PerLane.all none, disagree := PerLane.all 0, leaving := false, committed := none, lastState := [], lastConsts := [], lastForces := [], summary := [], testBit := 0,
    testSent := false, heldTest := none, testSelf := 0, testEcho := PerLane.all 0, echoOut := 0, testCnt := 0, attempt := 0, abort := 0,
    abortRun := 0, startMs := 0, afterUnit := false, baseCycle := none, baseTaken := none, blocks := PerLane.all [],
    deltas := PerLane.all [], applied := none, kept := [], arrivals := [], roles := [], said := [], ctxCycle := 0, candRun := PerLane.all 0, joinCycle := none, resyncCnt := 0,
    resyncTime := 0, rotLast := 0, rotCycle := 0, linkErr := PerLane.all 0, stopCause := 0, stopCycle := 0 }

/-! ## One lane: reset, clocks, supply and self-test (chapter 13) -/

/-- The sluice of a block (R318, R319; RC_STATUS.SLUICE). -/
inductive Sluice where
  | closed | closing | handshake | opened
  deriving DecidableEq, Repr

/-- The options a lane has latched (R324, RC_OPTIONS). -/
structure Options where
  unitId   : Nat
  pairPos  : Bool
  optSplit : Bool
  voting   : Bool
  grade    : Nat
  copyB    : Bool
  serial   : List Byte
  deriving DecidableEq, Repr

/-- No option latched. -/
def Options.reset : Options :=
  { unitId := 0, pairPos := false, optSplit := false, voting := false, grade := 0, copyB := false, serial := [] }

/-- A dual-clock queue as its read side has learned it (R317): generation, last accepted TAG, and the data of a multi-word transfer in progress. -/
structure QueueRx where
  live : Bool
  gen  : Nat
  tag  : Option Nat
  part : List Byte
  deriving DecidableEq, Repr

/-- The reset and clock controller (Tables 13-11, 13-12): what is released, the clock gates open, and a reset that has been
requested and not yet begun. Of the queues it writes (R317): the generation of its last reset, and the start words written since into each
of them, which each begin a generation of their own (R319). `clkBad` are the domains whose clock was found never to meet its conditions (R320), `fwOk` whether the sequencer's firmware has been read
and accepted (R323). `linksAt` is the operating time at which D6 was released (R321). -/
structure ResetUnit where
  powered    : Bool
  released   : BitVec 8
  gates      : BitVec 8
  sluice     : Sluice
  pll        : Bool
  optPhase   : Bool
  optDone    : Bool
  optRestarts : Nat
  fail       : Nat
  clkBad     : BitVec 8
  fwOk       : Bool
  source     : Nat
  causeCycle : Nat
  resetReq   : Option Nat
  bist       : Bool
  clk        : Nat
  supply     : Nat
  opts       : Options
  releaseTime : Nat
  linksAt    : Nat
  gen        : Nat
  startPh    : Nat
  startLane  : PerLane Nat
  rxPh       : QueueRx
  rxLane     : PerLane QueueRx
  discards   : Nat
  sluiceErr  : Nat
  wdogTimeout : Nat
  wdogLeft   : Nat
  deriving DecidableEq, Repr

/-- A queue whose read side has learned nothing. -/
def QueueRx.reset : QueueRx := { live := false, gen := 0, tag := none, part := [] }

/-- The reset unit after a lane power-on (Table 13-11). -/
def ResetUnit.reset : ResetUnit :=
  { powered := true, released := 0, gates := 0, sluice := .closed, pll := false, optPhase := false, optDone := false,
    optRestarts := 0, fail := 0, clkBad := 0, fwOk := false, source := 1, causeCycle := 0, resetReq := none, bist := true, clk := 0,
    supply := 0, opts := Options.reset, releaseTime := 0, linksAt := 0, gen := 0, startPh := 0, startLane := PerLane.all 0, rxPh := QueueRx.reset,
    rxLane := PerLane.all QueueRx.reset, discards := 0, sluiceErr := 0, wdogTimeout := 0, wdogLeft := 0 }

/-- The self-test results (Tables 13-13, 13-14), with the slices run by class and item (R333). Results are coded as BI_STATUS.LOGIC: 0 not run, 1 passed, 2 failed,
3 not tested. -/
structure SelfTest where
  logic     : Nat
  memory    : Nat
  slices    : Nat
  exhausted : Bool
  vcoreOk   : Bool
  clkOk     : Bool
  vcore     : Nat
  clk       : Nat
  factory   : Nat
  soft      : Nat
  bermMacro : Nat
  bermFree  : Nat
  passed    : Nat
  failed    : Nat
  notTested : Nat
  sliceFail : Nat
  occasion  : Nat
  lastCycle : Nat
  extCtrl   : Nat
  extSeed   : Nat
  extPatterns : Nat
  misr      : BitVec 64
  done      : List (Nat × Nat)
  deriving DecidableEq, Repr

/-- The self-test after a lane power-on (Table 13-13). -/
def SelfTest.reset : SelfTest :=
  { logic := 0, memory := 0, slices := 0, exhausted := false, vcoreOk := false, clkOk := false, vcore := 0, clk := 0,
    factory := 0, soft := 0, bermMacro := 0, bermFree := 0, passed := 0, failed := 0, notTested := 0, sliceFail := 0,
    occasion := 0, lastCycle := 0, extCtrl := 0, extSeed := 0, extPatterns := 0x10000, misr := 0, done := [] }

/-! ## Firmware (chapter 14) -/

/-- What stands in a firmware slot (R351, R358, R359). -/
inductive FwMark where
  | empty | verified | committed | trial | rejected | superseded
  deriving DecidableEq, Repr

/-- A firmware slot: its mark, versions, rollback step and digest. -/
structure FwSlot where
  mark     : FwMark
  version  : Nat
  settings : Nat
  step     : Nat
  digest   : List Byte
  file     : List Byte
  deriving DecidableEq, Repr

/-- A settings area (R357): version, generation, committed flag, whether its CRC is correct, and what follows its header; the pumphouse's settings
stand in Config, so its areas have none here. -/
structure FwArea where
  version    : Nat
  generation : Nat
  committed  : Bool
  crcOk      : Bool
  content    : List Byte
  deriving DecidableEq, Repr

/-- The firmware of a lane or of the pumphouse: two slots, the one running, the one marked for the next start, the OTP counter,
the two settings areas and the resets while on trial. -/
structure Firmware where
  slot0   : FwSlot
  slot1   : FwSlot
  active  : Bool
  marked  : Option Bool
  otp     : Nat
  area0   : FwArea
  area1   : FwArea
  resets  : Nat
  deriving DecidableEq, Repr

/-- A settings area that was never written, or erased (R342). -/
def FwArea.reset : FwArea := { version := 0, generation := 0, committed := false, crcOk := false, content := [] }

/-- A slot without firmware. -/
def FwSlot.reset : FwSlot := { mark := .empty, version := 0, settings := 0, step := 0, digest := [], file := [] }

/-- Firmware as delivered: slot 0 committed, at versions and steps the spec does not state (log entry 24). -/
def Firmware.reset : Firmware :=
  { slot0 := { FwSlot.reset with mark := .committed }, slot1 := FwSlot.reset, active := false, marked := none, otp := 0,
    area0 := { FwArea.reset with committed := true, crcOk := true }, area1 := FwArea.reset, resets := 0 }

/-! ## One lane: the sequencer's slots, the protected area and the retained state (chapters 2, 5, 14 and 16) -/

/-- LS_SLOT (Table 16-6). -/
inductive SlotMark where
  | empty | verified | active
  deriving DecidableEq, Repr

/-- An image slot of a lane's flash: its mark, refusal code, the file and the image read from it. -/
structure ImageSlot where
  mark  : SlotMark
  code  : Nat
  file  : List Byte
  image : Option Image
  deriving DecidableEq, Repr

/-- An empty image slot. -/
def ImageSlot.reset : ImageSlot := { mark := .empty, code := 0, file := [], image := none }

/-- A retained snapshot (Table 5-1): cycle, power-cycle count, image digest and issue, value digest, complete marker, values. -/
structure Snapshot where
  cycle    : Nat
  power    : Nat
  issue    : Nat
  digest   : List Byte
  valDigest : List Byte
  complete : Bool
  values   : List W16
  deriving DecidableEq, Repr

/-- The lane sequencer's flash slots, its protected MRAM area (issue floor, change-log head and chaining value, reset counters,
life-cycle state), its retained-state copy with the half written last (`newer1`: the second), its retention clock, and the ms since its supply
was lost, for which the clock's capacitor has fed it (R113, R399). Of the lane's OTP the signature of its logic BIST and the rows, by macro, that the factory
repair's fuses name (R324, R329, R330). -/
structure Sequencer where
  slot0      : ImageSlot
  slot1      : ImageSlot
  active     : Bool
  running    : Bool
  marked     : Option Bool
  fw         : Firmware
  floor      : Nat
  floorRun   : Nat
  logSeq     : Nat
  logChain   : List Byte
  resetCnt   : Assoc Nat
  life       : Nat
  snap0      : Option Snapshot
  snap1      : Option Snapshot
  newer1     : Bool
  retention  : Option Nat
  outage     : Nat
  otpSig     : BitVec 64
  otpRows    : List (Nat × Nat)
  deriving DecidableEq, Repr

/-- The sequencer after reset with nothing in its stores; the values kept in flash and MRAM are log entry 24's. -/
def Sequencer.reset : Sequencer :=
  { slot0 := ImageSlot.reset, slot1 := ImageSlot.reset, active := false, running := false, marked := none,
    fw := Firmware.reset, floor := 0, floorRun := 0, logSeq := 0, logChain := List.replicate 32 0#8, resetCnt := [],
    life := 0, snap0 := none, snap1 := none, newer1 := true, retention := none, outage := 0, otpSig := 0, otpRows := [] }

/-! ## One lane: the mirror frames it takes, its mailboxes and its records -/

/-- The states of a mailbox (Table 12-3). -/
inductive MbState where
  | empty | full | acked
  deriving DecidableEq, Repr

/-- A mailbox: state, address, length, tag and return code (R296). -/
structure Mailbox where
  state : MbState
  addr  : Nat
  len   : Nat
  tag   : Nat
  code  : Nat
  deriving DecidableEq, Repr

/-- An empty mailbox. -/
def Mailbox.reset : Mailbox := { state := .empty, addr := 0, len := 0, tag := 0, code := 0 }

/-- A Warden record before the pumphouse writes it (Table 15-1): event code, source, severity, cycle and parameters. -/
structure Record where
  code     : Nat
  source   : Nat
  severity : Nat
  cycle    : Nat
  params   : List Nat
  deriving DecidableEq, Repr

/-- A mirror frame in assembly in a sleeper lane (R260): last accepted sequence number, the cycle, the segment count, the
segments accepted and the latest arrival stamp; the last complete frame; and the complete frames that a lane in resync keeps for its replay
(R151). -/
structure MirrorRx where
  lastSeq : Option Nat
  cycle   : Nat
  count   : Nat
  segs    : Assoc (List Byte)
  stamp   : Nat
  full    : Option (Nat × Nat × List Byte)
  applied : Option Nat
  run     : Nat
  change  : Option (Nat × List Byte)
  doneChange : Option (Nat × List Byte)
  recent  : List (Nat × Nat × List Byte)
  deriving DecidableEq, Repr

/-- No mirror frame. -/
def MirrorRx.reset : MirrorRx :=
  { lastSeq := none, cycle := 0, count := 0, segs := [], stamp := 0, full := none, applied := none, run := 0,
    change := none, doneChange := none, recent := [] }

/-- The lane's side of the mailboxes (Table 12-10) and its queue of records (R364). -/
structure LaneMail where
  l2p      : Assoc Mailbox
  p2l      : Assoc Mailbox
  busErr   : Nat
  restarts : Nat
  queue    : List Record
  dropped  : Nat
  deriving DecidableEq, Repr

/-- The mailboxes of a lane after a lane power-on. -/
def LaneMail.reset : LaneMail := { l2p := [], p2l := [], busErr := 0, restarts := 0, queue := [], dropped := 0 }

/-- The timeline of a cycle as a lane keeps it for its dump (Table 15-4): the cycle and the registers that the table names. -/
structure Timeline where
  cycle     : Nat
  tFreeze   : Nat
  tSweep    : Nat
  tScan     : Nat
  tVote     : Nat
  tHandover : Nat
  sweep     : Nat
  stall     : Nat
  vtStatus  : Nat
  tdStatus  : Nat
  deriving DecidableEq, Repr

/-- A gauge as a lane keeps it for its dump (Table 15-4): the cycle, the lane's own gauge, the gauges heard and the decision. -/
structure GaugeNote where
  cycle    : Nat
  gauge    : BitVec 128
  heard    : Mask
  decision : Nat
  deriving DecidableEq, Repr

/-- What a lane keeps for its dump (Table 15-4): the last 64 timelines and the last 16 gauges, oldest first. -/
structure Trace where
  timelines : List Timeline
  gauges    : List GaugeNote
  deriving DecidableEq, Repr

/-- Nothing kept. -/
def Trace.reset : Trace := { timelines := [], gauges := [] }

/-- One computing lane (R14). -/
structure Lane where
  pe  : Engine
  td  : TideUnit
  ts  : Sessions
  cv  : CheckUnit
  io  : LaneIO
  vt  : Vote
  rc  : ResetUnit
  bi  : SelfTest
  ls  : Sequencer
  mir : MirrorRx
  mb  : LaneMail
  trace : Trace
  deriving DecidableEq, Repr

/-- A lane right after its power-on reset. -/
def Lane.reset : Lane :=
  { pe := Engine.reset, td := TideUnit.reset, ts := Sessions.reset, cv := CheckUnit.reset, io := LaneIO.reset,
    vt := Vote.reset, rc := ResetUnit.reset, bi := SelfTest.reset, ls := Sequencer.reset, mir := MirrorRx.reset,
    mb := LaneMail.reset, trace := Trace.reset }

/-! ## The unit: role, restart, rotation, requests (chapters 5, 6, 10, 14) -/

/-- The roles of Table 10-1. -/
inductive Role where
  | starting | deciding | watcher | sleeper | stopped
  deriving DecidableEq, Repr

/-- XL_STATUS.ROLE (Table 10-7). -/
def Role.code : Role → Nat
  | .starting => 0
  | .deciding => 1
  | .watcher => 2
  | .sleeper => 3
  | .stopped => 4

/-- A host request under check (R119): its bytes as copied to region 5, the requester, how many items are done, each lane's
first failing check as order and code, the verdicts each lane holds, and whether it has been settled. -/
structure Request where
  bytes     : List Byte
  requester : Requester
  readable  : Mask
  done      : Nat
  codes     : PerLane (Option (Nat × Nat))
  sent      : Bool
  got       : PerLane (PerLane (Option (Nat × List Byte)))
  settled   : Bool
  deriving DecidableEq, Repr

/-- A request that has been agreed and logged and waits for its apply cycle (R120): host mailbox (4 for a mirrored change, 5 for one already answered by RECEIVER_RESTARTED), format, bytes, apply
cycle, the lanes that did not refuse it, the sequence number of its change-log entry, the lanes that applied it and those that then
committed, and the forces it released with their values (R126). -/
structure Pending where
  mailbox   : Nat
  format    : Nat
  bytes     : List Byte
  apply     : Nat
  accepted  : Mask
  logSeq    : Nat
  appliedBy : Mask
  commits   : Mask
  freed     : List (Nat × W16)
  deriving DecidableEq, Repr

/-- The planned swap (R270, R271; XL_SWAP). -/
structure Swap where
  state    : Nat
  cycle    : Nat
  readyA   : Bool
  readyB   : Bool
  sentCommit : Bool
  gotCommit  : Bool
  partnerCommitted : Bool
  response : Nat
  mailbox  : Option Nat
  deriving DecidableEq, Repr

/-- No swap. -/
def Swap.reset : Swap :=
  { state := 0, cycle := 0, readyA := false, readyB := false, sentCommit := false, gotCommit := false,
    partnerCommitted := false, response := 0, mailbox := none }

/-- The lane rotation schedule (R154 to R157; VT_ROTATION). -/
structure Rotation where
  state   : Nat
  next    : LaneId
  defer   : Nat
  since   : Nat
  checkAt : Nat
  leaving : Option LaneId
  deriving DecidableEq, Repr

/-- No rotation due. -/
def Rotation.reset : Rotation := { state := 0, next := .a, defer := 0, since := 0, checkAt := 0, leaving := none }

/-- What the lanes hold together: role and epoch, the epochs of the RING sessions of each ring (R252), whether the agreed tide has been set to a
leader's or is the unit's own as a watcher (R220), the unit start in progress, the partner's silence (R263), the rotation, the
swap, the requests of the four host mailboxes, the agreed requests, and the pumphouse's report of mirror frames sent. -/
structure UnitState where
  role       : Role
  epoch      : Nat
  ringEpoch  : Assoc Nat
  tideSet    : Bool
  startKind  : Nat
  started    : Mask
  restarted  : Bool
  twoLane    : Bool
  firstStop  : Option LaneId
  findings   : PerLane (Option Findings)
  options    : PerLane (Option Options)
  heard27    : Bool
  heard28    : Bool
  heard27Now : Bool
  heard28Now : Bool
  syncNow    : Bool
  syncSeen   : Bool
  swapNotice : Bool
  silentRun  : Nat
  held       : Bool
  heldRec    : Bool
  partner    : Option PartnerReport
  partnerCycle : Nat
  heardEpoch : Nat
  giveWay    : Bool
  giveEpoch  : Nat
  mirrored   : Bool
  mirrorRun  : Nat
  mirrorSeq  : Nat
  rot        : Rotation
  swap       : Swap
  reqs       : Assoc (Option Request)
  pend       : List Pending
  lastChange : Option (Nat × List Byte)
  notices    : Nat
  resetAt    : Option (Nat × Nat)
  activateAt : Option Nat
  deriving DecidableEq, Repr

/-- The unit at a unit start. -/
def UnitState.reset : UnitState :=
  { role := .starting, epoch := 0, ringEpoch := [], tideSet := false, startKind := 1, started := PerLane.all false, restarted := false, firstStop := none,
    twoLane := false, findings := PerLane.all none, options := PerLane.all none,
    heard27 := false, heard28 := false, heard27Now := false, heard28Now := false, syncNow := false, syncSeen := false,
    swapNotice := false, silentRun := 0, held := false, heldRec := false, partner := none, partnerCycle := 0,
    heardEpoch := 0, giveWay := false, giveEpoch := 0, mirrored := false, mirrorRun := 0, mirrorSeq := 0, rot := Rotation.reset,
    swap := Swap.reset, reqs := [], pend := [], lastChange := none, notices := 0, resetAt := none, activateAt := none }

/-! ## MRAM and OTP of the unit (Table 1-4, chapters 5, 11, 14) -/

/-- The port settings (Table 11-3). -/
structure Settings where
  ip       : Assoc (Option Nat)
  qos      : Assoc (Option Nat)
  domain   : Nat
  canRate  : Assoc (Option Nat)
  canRef   : Assoc Nat
  term     : Assoc (Option Bool)
  deriving DecidableEq, Repr

/-- The defaults of Table 11-3: a setting keyed by network, port or link index that is not listed has its default. -/
def Settings.reset : Settings := { ip := [], qos := [], domain := 0, canRate := [], canRef := [], term := [] }

/-- A change-log entry that waits to be written (R347): its kind, operator identifier, apply cycle, the digests of the old and the new
value, the host mailbox whose request goes on once it is written, its result, and whether it stands for a merge into the overlay that its number is still
to be noted of (R121, R262). -/
structure LogItem where
  kind    : Nat
  operator : Nat
  cycle   : Nat
  before  : List Byte
  after   : List Byte
  mailbox : Option Nat
  code    : Nat
  merged  : Bool
  deriving DecidableEq, Repr

/-- The configuration region, the OTP fuses and the change log: the settings in their two areas, enrolment, password, constant overlay, epoch,
life-cycle counters, operating time, power cycles and the log entries with what waits to be written. -/
structure Config where
  settings   : Settings
  settings1  : Settings
  key        : Option (List Byte)
  station    : Nat
  enrolNo    : Nat
  fingerprint : List Byte
  pwHash     : List Byte
  salt       : List Byte
  pwInitial  : Bool
  failures   : Nat
  lockout    : Nat
  overlay    : Assoc (Option W32)
  overlayImg : List Byte
  overlayDig : List Byte
  overlaySeq : Nat
  epoch      : Nat
  gradeL     : Bool
  retired    : Bool
  rwlFuse    : Bool
  transitions : Nat
  challenge  : BitVec 64
  opTime     : Nat
  opHi       : Nat
  powerCycles : Nat
  log        : Assoc (List Byte)
  logQueue   : List LogItem
  deriving DecidableEq, Repr

/-- The non-volatile values of a blank module (log entry 24). Its password is Kelinagon's factory password (R342, R401); nothing else is stated by
the spec. -/
def Config.reset : Config :=
  { settings := Settings.reset, settings1 := Settings.reset, key := none, station := 0, enrolNo := 0, fingerprint := [],
    pwHash := be 32 Sys2Proof.Config.factorySecret.2.toNat, salt := be 16 Sys2Proof.Config.factorySecret.1.toNat, pwInitial := true, failures := 0, lockout := 0, overlay := [], overlayImg := [],
    overlayDig := [], overlaySeq := 0, epoch := 0, gradeL := false, retired := false, rwlFuse := false,
    transitions := 0, challenge := 0, opTime := 0, opHi := 0, powerCycles := 0, log := [], logQueue := [] }

/-! ## The pumphouse: telegrams on their way out (chapters 7, 8, 11) -/

/-- A seal and payload as a lane hands them over (R168). `kind` is the TYPE of Table 7-3; a mirror segment has its index. -/
structure Handed where
  lane    : LaneId
  sid     : Nat
  kind    : Nat
  seg     : Nat
  cycle   : Nat
  header  : List Byte
  payload : List Byte
  sealVal : List Byte
  deriving DecidableEq, Repr

/-- An assembled telegram (R168): the cycle it carries, when it was assembled as offset in the cycle, and its bytes. -/
structure Assembled where
  sid   : Nat
  kind  : Nat
  seg   : Nat
  cycle : Nat
  offset : Nat
  bytes : List Byte
  sent  : Bool
  deriving DecidableEq, Repr

/-- What the pumphouse holds of the cycle's telegrams and mirror frame. -/
structure Outbound where
  handed    : List Handed
  assembled : List Assembled
  deriving DecidableEq, Repr

/-! ## The pumphouse: rings (chapter 8) -/

/-- Module ring states (Table 8-8, DL_RING_STATUS.STATE). -/
inductive RingState where
  | unused | listen | contend | lead | follow | holdover | pass | vk2Master | vk2Passive
  deriving DecidableEq, Repr

/-- The code of Table 8-15. -/
def RingState.code : RingState → Nat
  | .unused => 0
  | .listen => 1
  | .contend => 2
  | .lead => 3
  | .follow => 4
  | .holdover => 5
  | .pass => 6
  | .vk2Master => 7
  | .vk2Passive => 8

/-- A node of a ring as a module sees it (Table 8-16); `told` that the run of timing errors in progress has had its resync order (R211). -/
structure RingNode where
  admitted  : Bool
  ready     : Bool
  ordered   : Bool
  mismatch  : Bool
  errRun    : Nat
  errNow    : Bool
  seenE     : Bool
  seenW     : Bool
  seenNow   : Bool
  seenLast  : Bool
  launchErr : Int
  errCnt    : Nat
  pathDelay : Option Nat
  echoed    : Bool
  echoId    : Option Nat
  told      : Bool
  deriving DecidableEq, Repr

/-- A node that has not been heard. -/
def RingNode.reset : RingNode :=
  { admitted := false, ready := false, ordered := false, mismatch := false, errRun := 0, errNow := false, seenE := false,
    seenW := false, seenNow := false, seenLast := false, launchErr := 0, errCnt := 0, pathDelay := none, echoed := false, echoId := none, told := false }

/-- A frame that a port's transmitter holds (R197): the instant at which it arrived, on the module's own time after the tide mark, the instant from
which it can be sent on, the delay of the link on which it arrived, all in units of 2^−16 ns, and its bytes as they arrived. -/
structure HeldFrame where
  arrived : Int
  ready   : Int
  delay   : Int
  frame   : List Byte
  deriving DecidableEq, Repr

/-- One ring: DL_ registers of Table 8-13. `rAcc` is the integral term of R205 as a sum of offsets in 2^−16 ns. Of the cycle in progress:
whether a valid SYNC came, whether the copy of the followed port came, the ports each slot's frame came on (1 E, 2 W), the slots and sources whose
frames failed; `lostSync` is set at a tide mark after a cycle without a SYNC; `altSync` is the offset that the SYNC copy of the other port gave.
Link delays in units of 2^−16 ns. Of each port's transmitter the instant until which it is busy and the frames it holds (R197). `time` is the local
time of the module's ring hardware in units of 2^−16 ns, with the part of a unit not yet counted, and whether it has been set since the pumphouse's reset
(R201). -/
structure Ring where
  state     : RingState
  linkE     : Bool
  linkW     : Bool
  schedDiff : Bool
  offset    : Int
  rAcc      : Int
  rate      : Int
  delayE    : Option Int
  delayW    : Option Int
  reqE      : Option Nat
  reqW      : Option Nat
  transit   : Nat
  fcsErr    : Nat
  syncMiss  : Nat
  gateCnt   : Nat
  dropCnt   : Nat
  singleCnt : Nat
  missRun   : Nat
  gotSync   : Bool
  syncSide  : Option Side
  tookSync  : Bool
  altSync   : Option (Side × Int)
  lostSync  : Bool
  slotsGot  : Assoc Nat
  slotsBad  : List (Nat × Nat)
  nodes     : Assoc RingNode
  polled    : Nat
  admitted  : List Nat
  heardLast : Nat
  busyE     : Int
  busyW     : Int
  heldE     : List HeldFrame
  heldW     : List HeldFrame
  time      : Int
  frac      : Int
  timeSet   : Bool
  deriving DecidableEq, Repr

/-- A ring after a pumphouse reset (Table 8-13). -/
def Ring.reset : Ring :=
  { state := .unused, linkE := false, linkW := false, schedDiff := false, offset := 0, rAcc := 0, rate := 0, delayE := none,
    delayW := none, reqE := none, reqW := none, transit := 0, fcsErr := 0, syncMiss := 0, gateCnt := 0, dropCnt := 0,
    singleCnt := 0, missRun := 0, gotSync := false, syncSide := none, tookSync := false, lostSync := false, slotsGot := [], slotsBad := [], nodes := [], polled := 0,
    admitted := [], heardLast := 0, altSync := none, busyE := 0, busyW := 0, heldE := [], heldW := [], time := 0, frac := 0, timeSet := false }

/-- The start-up and leadership of the rings (Table 8-14): the rounds sent without being outranked, whether COLDSTART was sent in the round
in progress, the greatest epoch heard in a COLDSTART, whether the module follows on a COLDSTART alone, whether another cycle time was
heard, and what was heard in the listen period in progress: any frame, a SYNC or COLDSTART. -/
structure Rings where
  outcome   : Nat
  leader    : Nat
  round     : Nat
  clear     : Nat
  sentRound : Bool
  heardCold : Nat
  followCold : Bool
  otherTime : Bool
  heardAny  : Bool
  heardStart : Bool
  startOthers : Bool
  epoch     : Nat
  diagBase  : Nat
  ring      : Assoc Ring
  deriving DecidableEq, Repr

/-- The rings after a pumphouse reset. -/
def Rings.reset : Rings :=
  { outcome := 0, leader := 0, round := 0, clear := 0, sentRound := false, heardCold := 0,
    followCold := false, otherTime := false, heardAny := false, heardStart := false, startOthers := false, epoch := 0, diagBase := 0, ring := [] }

/-! ## The pumphouse: networks, CAN, wire links, PTP, cross-links (chapters 10 and 11) -/

/-- A datagram that waits for its destination's address (R278): the cycle of the telegram it carries, none for another, whether the resolution
it waited for has failed, and whether it is an ICMP echo reply. -/
structure NetWait where
  d      : Datagram
  cycle  : Option Nat
  failed : Bool
  echo   : Bool := false
  deriving DecidableEq, Repr

/-- A network (Table 11-7) with its ARP cache, the datagrams that wait and the addresses asked for (R278), the ports on which its bridge has
learned MAC addresses (R276), and the echo replies of the current second. -/
structure Net where
  links    : Nat
  gig      : Nat
  conflict : Bool
  forwarding : Bool
  rx       : Nat
  tx       : Nat
  filter   : Nat
  arpFail  : Nat
  icmp     : Nat
  lateCnt  : Nat
  arp      : Assoc Nat
  waiting  : List NetWait
  asking   : List Nat
  macs     : Assoc (Option Nat)
  icmpSec  : Nat
  icmpRun  : Nat
  deriving DecidableEq, Repr

/-- A network after a pumphouse reset. -/
def Net.reset : Net :=
  { links := 0, gig := 0, conflict := false, forwarding := false, rx := 0, tx := 0, filter := 0, arpFail := 0, icmp := 0,
    lateCnt := 0, arp := [], waiting := [], asking := [], macs := [], icmpSec := 0, icmpRun := 0 }

/-- An entry of a CAN transmit queue (R285): identifier field, data, session (none for a reference message), TYPE and number of its telegram,
cycle, deadline in ticks of the tide; `since` is the tide at which it was queued. -/
structure CanEntry where
  ident    : Nat
  data     : List Byte
  sid      : Option Nat
  kind     : Nat
  seg      : Nat
  cycle    : Nat
  deadline : Nat
  since    : Nat := 0
  deriving DecidableEq, Repr

/-- CN_STATUS.STATE (Table 11-9). -/
inductive CanState where
  | off | detecting | active | passive | busOff | recovering
  deriving DecidableEq, Repr

/-- A CAN port (Table 11-8) with its queue, the pinned entry, the entry whose transmission was under way when its deadline passed (R275), and the
telegrams in reassembly. -/
structure CanPort where
  state    : CanState
  rate     : Nat
  tec      : Nat
  rxErr    : Nat
  recovery : Nat
  tdc      : Nat
  good     : Nat
  queue    : List CanEntry
  pinned   : Option CanEntry
  sending  : Option CanEntry
  rx       : Nat
  tx       : Nat
  busOffCnt : Nat
  expired  : Nat
  qfull    : Nat
  refMiss  : Nat
  remote   : Nat
  filter   : Nat
  partials : Assoc (List Byte)
  nextSeg  : Assoc Nat
  deriving DecidableEq, Repr

/-- A CAN port after a pumphouse reset. -/
def CanPort.reset : CanPort :=
  { state := .off, rate := 0, tec := 0, rxErr := 0, recovery := 0, tdc := 0, good := 0, queue := [], pinned := none, sending := none, rx := 0,
    tx := 0, busOffCnt := 0, expired := 0, qfull := 0, refMiss := 0, remote := 0, filter := 0, partials := [], nextSeg := [] }

/-- A wire link (Table 11-10). -/
structure Wire where
  idle    : Bool
  rx      : Nat
  tx      : Nat
  fcsErr  : Nat
  addrCnt : Nat
  charErr : Nat
  abort   : Nat
  long    : Nat
  lateCnt : Nat
  deriving DecidableEq, Repr

/-- A wire link after a pumphouse reset. -/
def Wire.reset : Wire :=
  { idle := false, rx := 0, tx := 0, fcsErr := 0, addrCnt := 0, charErr := 0, abort := 0,
    long := 0, lateCnt := 0 }

/-- PTP (Tables 11-11, 11-12). -/
structure Ptp where
  state    : Nat
  present  : Bool
  master   : Option PtpMaster
  twoStep  : Bool
  offset   : Int
  delay    : Int
  t2t1     : Int
  seconds  : Nat
  subMs    : Nat
  pendingSync : Bool
  syncCnt  : Nat
  timeoutCnt : Nat
  deriving DecidableEq, Repr

/-- PTP after a pumphouse reset. -/
def Ptp.reset : Ptp :=
  { state := 0, present := false, master := none, twoStep := false, offset := 0, delay := 0, t2t1 := 0, seconds := 0, subMs := 0,
    pendingSync := false, syncCnt := 0, timeoutCnt := 0 }

/-- The XL_ registers that are not views of the lanes (Table 10-6). -/
structure Cross where
  link27   : Bool
  link28   : Bool
  mirrorCycle : Nat
  arrive   : Nat
  missCnt  : Nat
  segErr   : Nat
  failovers : Nat
  swaps    : Nat
  lastTakeover : Nat
  err27    : Nat
  err28    : Nat
  deriving DecidableEq, Repr

/-- The cross-links after a pumphouse reset. -/
def Cross.reset : Cross :=
  { link27 := false, link28 := false, mirrorCycle := 0, arrive := 0, missCnt := 0, segErr := 0, failovers := 0, swaps := 0,
    lastTakeover := 0, err27 := 0, err28 := 0 }

/-! ## The pumphouse: basin, mailboxes, locks (chapter 12) -/

/-- The basin controller's registers (Table 12-7). -/
structure BasinUnit where
  initDone  : Bool
  scrub     : Bool
  load      : Nat
  eccCorr   : Nat
  eccUncorr : Nat
  eccAddr   : Nat
  violCnt   : Nat
  violInfo  : Nat
  violAddr  : Nat
  scrubAddr : Nat
  deriving DecidableEq, Repr

/-- The basin controller after a pumphouse power-on. -/
def BasinUnit.reset : BasinUnit :=
  { initDone := false, scrub := false, load := 0, eccCorr := 0, eccUncorr := 0, eccAddr := 0, violCnt := 0, violInfo := 0,
    violAddr := 0, scrubAddr := 0 }

/-- A lock register (Table 12-8): owner (0 free), reserved mark, last acquirer, the waiting masters, and when it was acquired
in µs of operating time. -/
structure Lock where
  owner    : Nat
  reserved : Bool
  last     : Nat
  waiting  : List Nat
  since    : Nat
  deriving DecidableEq, Repr

/-- A free lock. -/
def Lock.reset : Lock := { owner := 0, reserved := false, last := 0, waiting := [], since := 0 }

/-- The lock registers and their counters. -/
structure Locks where
  lock    : Assoc Lock
  holdMax : Nat
  holdIdx : Nat
  overCnt : Nat
  err     : Nat
  lapse   : Nat
  deriving DecidableEq, Repr

/-- The locks after a pumphouse power-on. -/
def Locks.reset : Locks := { lock := [], holdMax := 0, holdIdx := 0, overCnt := 0, err := 0, lapse := 0 }

/-- The host mailboxes and the queue of notices (R296 to R302, Table 12-9). -/
structure HostMail where
  out       : Assoc Mailbox
  inn       : Assoc Mailbox
  busErr    : Nat
  lostCnt   : Nat
  lostSince : Nat
  notices   : List (Nat × Nat × List Nat)
  deriving DecidableEq, Repr

/-- The host mailboxes after a pumphouse power-on. -/
def HostMail.reset : HostMail := { out := [], inn := [], busErr := 0, lostCnt := 0, lostSince := 0, notices := [] }

/-! ## The pumphouse: its own block, reset and lamps (chapters 13, 16 and 17) -/

/-- The colours of a lamp (Table 17-6), and lit by the lamp test, whose colour R394 does not give. -/
inductive Lamp where
  | off | green | amber | red | flashGreen | flashAmber | flashRed | lit
  deriving DecidableEq, Repr

/-- The front lamps (Table 17-6): UNIT, ROLE, the three lanes, FORCED, LIFE, and those of the ports P1 to P32 in order. -/
structure Lamps where
  unit   : Lamp
  role   : Lamp
  lanes  : PerLane Lamp
  forced : Lamp
  life   : Lamp
  ports  : List Lamp
  deriving DecidableEq, Repr

/-- Every lamp off. -/
def Lamps.off : Lamps := { unit := .off, role := .off, lanes := PerLane.all .off, forced := .off, life := .off, ports := List.replicate 32 .off }

/-- The pumphouse: PH_ and RS_ registers (Tables 16-8, 13-15), the options it has latched (R324), its firmware and whether that has been read and accepted (R323), the UNIT_OK relay, the lamps that the drivers
hold through a warm reset (R327), and the traffic that the port lamps show (R394): the ports that have received something since the lamps were last
driven anew, and how much had been sent by then. -/
structure Pumphouse where
  powered   : Bool
  cores     : Nat
  event     : Nat
  lampTest  : Bool
  portDisable : Nat
  kmpCnt    : Nat
  kmpErr    : Nat
  kmpLast   : Nat
  released  : BitVec 7
  gates     : BitVec 7
  sluice    : Sluice
  pass      : Bool
  optDefault : Bool
  optDone   : Bool
  opts      : Options
  fwOk      : Bool
  source    : Nat
  resetCnt  : Assoc Nat
  inputs    : PerLane Nat
  power     : Nat
  powerMax  : Nat
  brownOuts : PerLane Nat
  holdUps   : Nat
  wdogTimeout : Nat
  wdogCores : Nat
  discards  : Nat
  sluiceErr : Nat
  gen       : Nat
  startLane : PerLane Nat
  rxLane    : PerLane QueueRx
  unitOk    : Bool
  heldLamps : Lamps
  lampsHeld : Bool
  fw        : Firmware
  sfpRefused : Nat
  sfps       : List (Nat × BitVec 8 × BitVec 32)
  kmpQueue   : List (Nat × KmpReq)
  dumping    : Bool
  traffic    : Nat
  sentMark   : Nat
  deriving DecidableEq, Repr

/-- The pumphouse right after its power-on reset. -/
def Pumphouse.reset : Pumphouse :=
  { powered := true, cores := 0, event := 0, lampTest := false, portDisable := 0, kmpCnt := 0, kmpErr := 0, kmpLast := 0,
    released := 0, gates := 0, sluice := .closed, pass := false, optDefault := false, optDone := false, opts := Options.reset, fwOk := false, source := 1,
    resetCnt := [], inputs := PerLane.all 0, power := 0, powerMax := 0, brownOuts := PerLane.all 0, holdUps := 0,
    wdogTimeout := 0, wdogCores := 0, discards := 0, sluiceErr := 0, gen := 0, startLane := PerLane.all 0, rxLane := PerLane.all QueueRx.reset,
    unitOk := false, heldLamps := Lamps.off, lampsHeld := true, fw := Firmware.reset, sfpRefused := 0, sfps := [], kmpQueue := [], dumping := false, traffic := 0, sentMark := 0 }

/-! ## The Warden log, the breach dumps and the update session (chapters 14 and 15) -/

/-- A breach-dump region (Table 15-3): state, cause, cycle, whether its header CRC is correct, and the bytes. -/
structure Dump where
  state    : Nat
  cause    : Nat
  cycle    : Nat
  headerOk : Bool
  bytes    : List Byte
  deriving DecidableEq, Repr

/-- A region that holds no dump. -/
def Dump.reset : Dump := { state := 0, cause := 0, cycle := 0, headerOk := true, bytes := [] }

/-- The Warden log and its registers (Table 15-5): the slots, the MRAM head word (none before the first record), the unit records
that one lane has delivered, and the pumphouse's own records that wait to be written. -/
structure Warden where
  slots    : Assoc (List Byte)
  headWord : Option Nat
  head     : Option Nat
  ready    : Bool
  severe   : Nat
  lostCnt  : Nat
  crcErr   : Nat
  skipCnt  : Nat
  dumpA    : Dump
  dumpB    : Dump
  dumpC    : Dump
  dumpP    : Dump
  halves   : List (Record × Mask)
  own      : List Record
  deriving DecidableEq, Repr

/-- The Warden log before the first record (log entry 24). -/
def Warden.reset : Warden :=
  { slots := [], headWord := none, head := none, ready := false, severe := 0, lostCnt := 0, crcErr := 0, skipCnt := 0,
    dumpA := Dump.reset, dumpB := Dump.reset, dumpC := Dump.reset, dumpP := Dump.reset, halves := [], own := [] }

/-- The update session, the digest of the staged package, and the staging area of the pumphouse's flash (R22, R355, Tables 14-12, 14-13). -/
structure Update where
  holder    : Option Requester
  remaining : Nat
  stage     : Nat
  kind      : Nat
  staged    : List Byte
  staging   : List Byte
  lastCode  : Nat
  activation : Nat
  busyCnt   : Nat
  fallbacks : Nat
  fellBack  : Bool
  trialRun  : Nat
  deriving DecidableEq, Repr

/-- No update session. -/
def Update.reset : Update :=
  { holder := none, remaining := 0, stage := 0, kind := 0, staged := [], staging := [], lastCode := 0, activation := 0, busyCnt := 0,
    fallbacks := 0, fellBack := false, trialRun := 0 }

end Sys2Proof.Machine
end

