-- ==== Sys2Proof/Machine/State.lean ====
section
/-! DEFINITION. The state of the VK3 block: three lanes, what they hold together, the unit's non-volatile stores, the
pumphouse's units, what has been sent, and the queue of commands. Plain data. -/

namespace Sys2Proof.Machine

/-- What the block sends on its links, ports and networks. State.sent lists it in order, newest last. -/
inductive Emit where
  /-- A TIDE message to both peers (R140). -/
  | tide (sender : LaneId) (count : Nat) (rate : Int)
  /-- The 36 bytes of a GAUGE message to both peers (R131, R144). -/
  | gauge (sender : LaneId) (frame : List Byte)
  /-- A VERDICT message to both peers (R114, R119, R176, R177). -/
  | verdict (sender : LaneId) (v : Verdict)
  /-- The start of the resync base of a cycle (R149). -/
  | base (donor : LaneId) (cycle : Nat)
  /-- A delta to the joining lane in the layout of R150. -/
  | delta (donor : LaneId) (bytes : List Byte)
  /-- A frame out of a port of a ring, its own or forwarded, from its first header byte to its FCS (R195, R196, R225). -/
  | ring (ring : Nat) (side : Side) (frame : List Byte)
  /-- A UDP datagram out of ports of a network to a MAC address: a telegram (R172, R184, R280), or a KMP response (R381, R382). -/
  | datagram (net : NetId) (ports : List Nat) (mac : Nat) (d : Datagram)
  /-- A frame that the bridge of a network passes on to its ports (R276). -/
  | bridged (net : NetId) (ports : List Nat) (frame : EthFrame)
  /-- An ARP message that the bridge passes on (R276). -/
  | arpBridged (net : NetId) (ports : List Nat) (request : Bool) (senderIp targetIp senderMac macDst : Nat)
  /-- An ARP request (R278). -/
  | arpRequest (net : NetId) (ports : List Nat) (ip : Nat)
  /-- An ARP reply to a requester (R278). -/
  | arpReply (net : NetId) (ports : List Nat) (ip : Nat) (mac : Nat)
  /-- An ICMP echo reply to a MAC address (R276). -/
  | icmp (net : NetId) (ports : List Nat) (mac : Nat) (ip : Nat)
  /-- A CAN frame on a port: CAN FD or classical, with bit-rate switching, identifier field and data (R173, R282, R285, R287). -/
  | can (port : Nat) (fd brs : Bool) (ident : Nat) (data : List Byte)
  /-- The acknowledge of a CAN frame received (R284). -/
  | canAck (port : Nat)
  /-- An error frame on a CAN port, its flag active or passive (R284). -/
  | canError (port : Nat) (active : Bool)
  /-- The characters of a wire frame (R174). -/
  | wire (link : Nat) (chars : List Byte)
  /-- A frame on a cross-link, from its destination address to its FCS (R256, R259, R261). -/
  | cross (port : XPort) (frame : List Byte)
  /-- A transfer through a dual-clock queue, delivered with its last word (R317). -/
  | queue (writer reader : Part) (data : List Byte)
  /-- What a master reads from a lock (R303); none where the read ends in a bus error (R307). -/
  | lockValue (n m : Nat) (value : Option Nat)
  /-- The bus error in which an access of a master of the module ends (R294, R298, R303). -/
  | busError (m : Nat)
  /-- What the host reads from the acknowledge of an outbound mailbox (R298). -/
  | ackValue (mb value : Nat)
  /-- A PTP Delay_Req (R291). -/
  | ptpDelay
  deriving DecidableEq, Repr

/-- The state of the block. `recv` is what the pumphouse writes beside each telegram and frame in the receive area: its length, its arrival
stamp and its path, by basin address (R23, R279). `fresh` is the model's own: the count that the free values of Config are taken at. `lampTest` and
the like stand in `ph`. -/
structure State where
  lanes   : PerLane Lane
  unit    : UnitState
  cfg     : Config
  basin   : Memory
  recv    : Assoc (Option Arrival)
  bs      : BasinUnit
  locks   : Locks
  mail    : HostMail
  ph      : Pumphouse
  rings   : Rings
  out     : Outbound
  nets    : PerLane Net
  can     : Assoc CanPort
  wire    : Assoc Wire
  xl      : Cross
  ptp     : Ptp
  warden  : Warden
  upd     : Update
  sent    : List Emit
  fresh   : Nat
  pending : List Instr
  deriving DecidableEq, Repr

/-- Why a step ends in a fault. No command does: the spec gives each command its effect, and a command whose condition does not
hold has none. The constructor is for a command sent to an address range of which the spec says nothing; no meaning answers
with it (safe). -/
inductive Fault where
  /-- An access the spec says does not exist. No meaning raises it: the spec answers such an access with a bus error (R377).
  Safe. -/
  | absent
  deriving DecidableEq, Repr

/-- Why a step is refused. -/
inductive Refusal where
  /-- The command has no meaning yet: its arm of exec raises it. Safe. -/
  | notModelled (mnemonic : String)
  deriving DecidableEq, Repr

/-- The machine right after reset: every lane and the pumphouse after their power-on reset, the role STARTING, the basin
written with 0 (R323), nothing sent, no command waiting. -/
def State.reset : State :=
  { lanes := PerLane.all Lane.reset, unit := UnitState.reset, cfg := Config.reset, basin := [], recv := [], bs := BasinUnit.reset,
    locks := Locks.reset, mail := HostMail.reset, ph := Pumphouse.reset, rings := Rings.reset, out := ⟨[], []⟩,
    nets := PerLane.all Net.reset, can := [], wire := [], xl := Cross.reset, ptp := Ptp.reset, warden := Warden.reset,
    upd := Update.reset, sent := [], fresh := 0, pending := [] }

end Sys2Proof.Machine
end

