-- ==== Sys2Proof/Machine/Ops.lean ====
section
/-! DEFINITION. The operations that many commands share: the parts of the state, records and notices, leaving service, stopping,
the unit failing safe, and the digests over the constant table. -/

namespace Sys2Proof

/-- Lane `x` as a record source or master number: 1 for A (Table 15-1, R293). -/
def LaneId.num (x : LaneId) : Nat := x.idx + 1

end Sys2Proof

namespace Sys2Proof.Machine

/-! ## The state's parts -/

/-- The outcome of a command of the block. -/
abbrev Out := Host.Outcome State Fault Refusal

/-- Lane `x`. -/
def State.lane (s : State) (x : LaneId) : Lane := s.lanes.get x

/-- Lane `x` changed by `f`. -/
def State.modLane (s : State) (x : LaneId) (f : Lane → Lane) : State := { s with lanes := s.lanes.modify x f }

/-- Every lane changed by `f`. -/
def State.mapLanes (s : State) (f : LaneId → Lane → Lane) : State := { s with lanes := s.lanes.mapId f }

/-- A message, frame or telegram sent. -/
def State.emit (s : State) (e : Emit) : State := { s with sent := s.sent ++ [e] }

/-- The number n of the port Pn that stands for a network's port of index `i`, counted from its lowest (Table 11-1). -/
def netPort (n : NetId) (i : Nat) : Nat :=
  match n with
  | .a => 9 + i
  | .b => 15 + i
  | .maint => 29 + i

/-- Traffic on the port Pn, which its lamp shows (R394). -/
def State.traffic (s : State) (n : Nat) : State := { s with ph := { s.ph with traffic := s.ph.traffic ||| 2 ^ (n - 1) } }

/-- Whether a lane's cross-lane link endpoints are released (Table 13-5, D6). -/
def Lane.linksUp (l : Lane) : Bool := l.rc.powered && l.rc.released.getLsbD 6

/-- The slot of a lane that holds its active image (R22). -/
def Lane.activeSlot (l : Lane) : ImageSlot := if l.ls.active then l.ls.slot1 else l.ls.slot0

/-- The other slot. -/
def Lane.otherSlot (l : Lane) : ImageSlot := if l.ls.active then l.ls.slot0 else l.ls.slot1

/-- The image a lane runs. -/
def Lane.image? (l : Lane) : Option Image := if l.ls.running then l.activeSlot.image else none

/-- The image a lane runs, or the one that declares nothing. -/
def Lane.image (l : Lane) : Image := l.image?.getD noImage

/-- A lane in service (Table 6-11). -/
def Lane.inService (l : Lane) : Bool := l.vt.state == .inService

/-- A lane in independent-lane mode. -/
def Lane.indep (l : Lane) : Bool := l.vt.state == .independent

/-- A lane that freezes, sweeps and commits: in service, a candidate, or in independent-lane mode (R92, R152, R159). -/
def Lane.evaluates (l : Lane) : Bool := l.vt.state == .inService || l.vt.state == .candidate || l.vt.state == .independent

/-- A lane in a resync that keeps what arrives for its replay (R151). -/
def Lane.keepsArrivals (l : Lane) : Bool := l.vt.state == .base || l.vt.state == .catchUp

/-- The lanes in service, A first. -/
def State.serviceLanes (s : State) : List LaneId := LaneId.list.filter (fun x => (s.lane x).inService)

/-- The image the unit runs: that of the first lane in service, else of the first lane that runs one. -/
def State.image? (s : State) : Option Image :=
  match s.serviceLanes with
  | x :: _ => (s.lane x).image?
  | [] => LaneId.list.findSome? (fun x => (s.lane x).image?)

/-- The image the unit runs, or the one that declares nothing. -/
def State.image (s : State) : Image := s.image?.getD noImage

/-- The cycle in progress in the unit: that of the first lane in service; else the latest of any lane that evaluates; 0 while no
cycle runs. -/
def State.cycle (s : State) : Nat :=
  match s.serviceLanes with
  | x :: _ => (s.lane x).td.cycle
  | [] => (LaneId.list.filter (fun x => (s.lane x).evaluates)).foldl (fun n x => max n (s.lane x).td.cycle) 0

/-- Whether a cycle runs in the unit. -/
def State.cyclesRun (s : State) : Bool := LaneId.list.any (fun x => (s.lane x).evaluates)

/-- The agreed tide as the unit shows it, in ticks: that of the first lane in service, else the greatest. -/
def State.tideNow (s : State) : Nat :=
  match s.serviceLanes with
  | x :: _ => (s.lane x).td.tide
  | [] => LaneId.list.foldl (fun n x => max n (s.lane x).td.tide) 0

/-- The same in milliseconds. -/
def State.tideMs (s : State) : Nat := s.tideNow / 100000

/-- The lane's own tide has come to `t`, the instant at which a command takes place in the lane: its count has run through the ticks up to it (R24). That is
the passing of time between two commands, no step of the count (R25): a lane whose count stands further on keeps it, and what its rate correction has added
beyond whole ticks stays (log entry 1). -/
def TideUnit.reach (td : TideUnit) (t : Nat) : TideUnit := { td with tide := max td.tide t }

/-- How many lanes a mask holds. -/
def Mask.count (m : Mask) : Nat := b2n m.a + b2n m.b + b2n m.c

/-- A service mask as bits: bit 2 C, bit 1 B, bit 0 A (Table 6-4). -/
def Mask.bits (m : Mask) : Nat := flag m.a 0 + flag m.b 1 + flag m.c 2

/-- The mask three bits spell. -/
def Mask.ofBits (n : Nat) : Mask := { a := bit n 0, b := bit n 1, c := bit n 2 }

/-- The lanes in service as a mask. -/
def State.serviceMask (s : State) : Mask := s.lanes.map Lane.inService

/-! ## The MRAM (R21) -/

/-- A write of part `p` to a region of the MRAM: the basin controller lets through only that of a writer of the region (R21), and none begins while the
rail that feeds the MRAM is in its brown-out (R313). -/
def State.mramWrite (s : State) (p : Part) (r : MramRegion) (write : State → State) : State :=
  if r.writableBy p && s.ph.powered then write s else s

/-- The pumphouse writes the configuration region. -/
def State.configWrite (s : State) (f : Config → Config) : State := s.mramWrite .pumphouse .configuration (fun s => { s with cfg := f s.cfg })

/-- Lane `x` writes its protected area. -/
def State.areaWrite (s : State) (x : LaneId) (f : Sequencer → Sequencer) : State :=
  s.mramWrite (.lane x) (.laneArea x) (fun s => s.modLane x (fun l => { l with ls := f l.ls }))

/-- Every lane writes its protected area. -/
def State.areasWrite (s : State) (f : LaneId → Lane → Sequencer) : State :=
  LaneId.list.foldl (fun s x => s.areaWrite x (fun _ => f x (s.lane x))) s

/-- Whether the pumphouse's cores run: P3 released, and their firmware read and accepted (Table 13-6). -/
def State.coresRun (s : State) : Bool := s.ph.powered && s.ph.released.getLsbD 3 && s.ph.fwOk

/-- Whether the pumphouse serves its ports: P4 released (Table 13-6). -/
def State.phRuns (s : State) : Bool := s.ph.powered && s.ph.released.getLsbD 4

/-! ## The basin (R293, R294) -/

/-- The regions of Table 12-1: base, size in MiB, the masters that write it and those that read it, 1 to 8. -/
def basinRegions : List (Nat × Nat × List Nat × List Nat) :=
  let cores := [4, 5, 6, 7]
  let all := [1, 2, 3, 4, 5, 6, 7, 8]
  let inner := [1, 2, 3, 4, 5, 6, 7]
  [(0x00000000, 32, cores, cores), (0x02000000, 96, cores, all), (0x08000000, 24, [1, 2, 3], inner), (0x09800000, 8, cores, inner),
   (0x0A000000, 24, [1, 2, 3], inner), (0x0B800000, 8, cores, inner), (0x0C000000, 32, [8], all), (0x0E000000, 32, cores, all),
   (0x10000000, 192, cores, all), (0x1C000000, 16, cores, all), (0x1D000000, 48, [], [])]

/-- The index of the region of a basin address. -/
def basinRegion (a : Nat) : Option Nat := basinRegions.findIdx? (fun r => r.1 ≤ a && a < r.1 + r.2.1 * 1048576)

/-- Whether master `m` may write, or read, basin address `a` (Table 12-1): in regions 2 and 4 a lane writes its own part of 8 MiB only. -/
def basinMay (write : Bool) (m a : Nat) : Bool :=
  match basinRegion a with
  | none => false
  | some i =>
    match basinRegions[i]? with
    | none => false
    | some r =>
      if write then r.2.2.1.contains m && (!(i == 2 || i == 4) || (a - r.1) / 0x800000 + 1 == m) else r.2.2.2.contains m

/-- The bus error in which an access of master `m` ends: the host learns it from its KMP response (R381, R382). -/
def State.busError (s : State) (m : Nat) : State := if m = 8 then s else s.emit (.busError m)

/-- An access of master `m` outside its regions (R294): counted and recorded, and shown in PH_EVENT bit 1 where the host made it. -/
def State.violation (s : State) (m addr : Nat) (write : Bool) : State :=
  let info := fld m 28 4 + fld ((basinRegion addr).getD 10) 24 4 + b2n write
  { s.busError m with
           bs := { s.bs with violCnt := sat s.bs.violCnt, violAddr := addr, violInfo := info }
           ph := if m = 8 then { s.ph with event := s.ph.event ||| 2 } else s.ph }

/-- The master that the pumphouse's own accesses are made as: its core 0 (which core does what is not stated, log entry 107). -/
def corePh : Nat := 4

/-- A read of `n` bytes of the basin by master `m`: zeros, a count and a record where the basin controller refuses it (R294). -/
def State.basinRead (s : State) (m a n : Nat) : State × List Byte :=
  if basinMay false m a then (s, Memory.readN s.basin a n) else (s.violation m a false, List.replicate n 0#8)

/-- An uncorrectable error that a read of the basin reports: counted, with its address (R295). -/
def State.eccError (s : State) (a : Nat) : State := { s with bs := { s.bs with eccUncorr := sat s.bs.eccUncorr, eccAddr := a } }

/-- A write of bytes to the basin by master `m`: discarded and recorded where the basin controller refuses it (R294). -/
def State.basinWrite (s : State) (m a : Nat) (bs : List Byte) : State :=
  if basinMay true m a then { s with basin := Memory.writeN s.basin a bs } else s.violation m a true

/-! ## The cross-lane links (R130) -/

/-- A link frame that fails its check is discarded and counted in VT_LINK_ERR of the lane it came from; the own entry counts those of the loopback
endpoint (R130). A lane whose link endpoints are in reset (D6) receives nothing. -/
def State.linkError (s : State) (x link : LaneId) : State :=
  s.modLane x (fun l => if l.linksUp then { l with vt := { l.vt with linkErr := l.vt.linkErr.modify link sat } } else l)

/-- A new challenge (R341): a free value. -/
def State.newChallenge (s : State) : State :=
  { s with cfg := { s.cfg with challenge := Config.freeChallenge s.fresh }, fresh := s.fresh + 1 }

/-! ## Records (chapter 15) -/

/-- A record put into a lane's queue of 256; it is dropped and counted where the queue is full (R364). -/
def LaneMail.push (m : LaneMail) (r : Record) : LaneMail :=
  if m.queue.length < 256 then { m with queue := m.queue ++ [r] } else { m with dropped := m.dropped + 1 }

/-- A record of lane `x` of its own (R365). -/
def Lane.log (l : Lane) (x : LaneId) (code sev : Nat) (ps : List Nat) : Lane :=
  { l with mb := l.mb.push { code := code, source := x.num, severity := sev, cycle := l.td.cycle % 2 ^ 32, params := ps } }

/-- A record that every lane in service produces with identical content: a unit record, source 0x05 (R364). -/
def Lane.logUnit (l : Lane) (code sev : Nat) (ps : List Nat) : Lane :=
  { l with mb := l.mb.push { code := code, source := 5, severity := sev, cycle := l.td.cycle % 2 ^ 32, params := ps } }

/-- A unit record in every lane in service. -/
def State.logUnit (s : State) (code sev : Nat) (ps : List Nat) : State :=
  s.mapLanes (fun _ l => if l.inService then l.logUnit code sev ps else l)

/-- A record of the pumphouse, which waits to be written (R362). -/
def State.logPh (s : State) (code sev : Nat) (ps : List Nat) : State :=
  let r : Record := { code := code, source := 4, severity := sev, cycle := s.cycle % 2 ^ 32, params := ps }
  { s with warden := { s.warden with own := s.warden.own ++ [r] } }

/-! ## Mailboxes and notices (chapter 12) -/

/-- Host inbound mailbox `n` made FULL with `len` bytes at `addr` under `tag` (R297). -/
def State.fillIn (s : State) (n addr len tag : Nat) : State :=
  let b : Mailbox := { state := .full, addr := addr, len := len, tag := tag, code := 0 }
  { s with mail := { s.mail with inn := Assoc.put Mailbox.reset s.mail.inn n b } }

/-- The state of host inbound mailbox `n`. -/
def State.inBox (s : State) (n : Nat) : Mailbox := Assoc.get Mailbox.reset s.mail.inn n

/-- The state of host outbound mailbox `n`. -/
def State.outBox (s : State) (n : Nat) : Mailbox := Assoc.get Mailbox.reset s.mail.out n

/-- An access of the pumphouse to a mailbox refused by R298: a bus error to it, counted in its MB_BUSERR_CNT. -/
def State.phRefused (s : State) : State := { s.busError corePh with mail := { s.mail with busErr := sat s.mail.busErr } }

/-- The acknowledge of host outbound mailbox `n` with a return code: FULL to ACKED; in any other state the write is refused and
counted (R297, R298). -/
def State.ackOut (s : State) (n code : Nat) : State :=
  let b := s.outBox n
  if b.state == .full then
    { s with mail := { s.mail with out := Assoc.put Mailbox.reset s.mail.out n { b with state := .acked, code := code } } }
  else s.phRefused

/-- The 64 bytes of a notice (R302); its parameters are padded with 0. -/
def noticeBytes (lost cycle utc code : Nat) (ps : List Nat) : List Byte :=
  be 2 0x0C20 ++ be 2 code ++ be 4 lost ++ be 8 cycle ++ be 4 utc ++ be 4 0 ++
    padTo 32 (ps.flatMap (be 4)) ++ be 8 0

/-- UTC seconds as records show them: 0 while UTC is not present (R292). -/
def State.utc (s : State) : Nat := if s.ptp.present then s.ptp.seconds else 0

/-- The basin address at which notices are placed in region 7 (log entry 3). -/
def noticeAddr : Nat := 0x0E000000

/-- A notice delivered through host inbound mailbox 0 (R302). -/
def State.deliverNotice (s : State) (code : Nat) (cycle : Nat) (ps : List Nat) : State :=
  let bs := noticeBytes s.mail.lostSince cycle s.utc code ps
  let s := (s.basinWrite corePh noticeAddr bs).fillIn 0 noticeAddr 64 code
  { s with mail := { s.mail with lostSince := 0 } }

/-- The pumphouse posts a notice: delivered while mailbox 0 is EMPTY, else queued, else dropped and counted (R302). A pumphouse in reset posts none. -/
def State.notice (s : State) (code : Nat) (ps : List Nat) : State :=
  if !s.coresRun then s
  else if (s.inBox 0).state == .empty && s.mail.notices.isEmpty then s.deliverNotice code s.cycle ps
  else if s.mail.notices.length < 256 then
    { s with mail := { s.mail with notices := s.mail.notices ++ [(code, s.cycle, ps)] } }
  else
    { s with mail := { s.mail with lostCnt := sat s.mail.lostCnt, lostSince := s.mail.lostSince + 1 } }

/-! ## Drive, leaving service and stopping (chapters 6 and 9) -/

/-- Whether the drive gate of a lane is open: the voting-mode option latched (R160). -/
def Lane.gateOpen (l : Lane) : Bool := l.rc.optDone && l.rc.opts.voting

/-- A lane stops the toggle drive of every switch element it drives, WATCH_OUT's included (R101, R135, R136). An open test
window of its own ends with it, and so does what it quenched. -/
def LaneIO.stopDrive (io : LaneIO) : LaneIO :=
  { io with drives := false, toggle := 0, quench := 0, groupDrive := 0, groupQuench := 0, watchOut := false, window := none }

/-- VT_MINORITY_CAUSE of a lane (Table 6-12). -/
def Vote.causeReg (v : Vote) : Nat := fld v.minCause 28 4 + cyc28 v.minCycle

/-- VT_STOP of a lane. -/
def Vote.stopReg (v : Vote) : Nat := fld v.stopCause 28 4 + cyc28 v.stopCycle

/-- VT_ROT_LAST of a lane. -/
def Vote.rotReg (v : Vote) : Nat := fld v.rotLast 28 4 + cyc28 v.rotCycle

/-- TD_LATE_CAUSE of a lane (Table 4-7). -/
def TideUnit.lateReg (t : TideUnit) : Nat := fld t.lateCause 28 4 + cyc28 t.lateCycle

/-- PE_FAULT of a lane (Table 3-7). -/
def Engine.faultReg (e : Engine) : Nat := fld e.faultCode 24 8 + fld e.faultPos 0 21

/-- A queue read side whose transfer in progress ends without being delivered. -/
def QueueRx.drop (q : QueueRx) : QueueRx := { q with part := [] }

/-- A reset requested (R318): the sluices begin to close before any domain enters reset, and a transfer into the lane that is in flight is completed with
SLUICE_CLOSED. -/
def ResetUnit.request (r : ResetUnit) (source : Nat) : ResetUnit :=
  let flying := fun (q : QueueRx) => b2n (!q.part.isEmpty)
  { r with resetReq := some source, sluice := if r.sluice == .closed then .closed else .closing,
           sluiceErr := satAdd r.sluiceErr (flying r.rxPh + flying r.rxLane.a + flying r.rxLane.b + flying r.rxLane.c),
           rxPh := r.rxPh.drop, rxLane := r.rxLane.map QueueRx.drop }

/-- A lane leaves service as minority with a cause of Table 6-12: it stops its drive, gives no gauge, records the cause, writes
LANE_WITHDRAWN and, unless a breach dump comes first, requests its reset with source 0x4 (R135, R146, R153). -/
def Lane.withdraw (l : Lane) (x : LaneId) (cause : Nat) (dump : Bool) (ms : Nat) : Lane :=
  let v := { l.vt with state := .withdrawn, minCause := cause, minCycle := l.td.cycle, minCnt := sat l.vt.minCnt, windowOpen := false,
                       own := none, leaving := false, attempt := 1, abortRun := 0, startMs := ms, afterUnit := false }
  { l with vt := v, io := l.io.stopDrive, pe := { l.pe with sweepEn := false },
           rc := if dump then { l.rc with resetReq := none } else l.rc.request 4 }.log x 0x0601 3 [v.causeReg]

/-- A lane stops (R136): no drive, no gauge, no sweep until the next unit start; VT_STOP holds the cause and a LANE_STOPPED
record is written. -/
def Lane.stop (l : Lane) (x : LaneId) (cause : Nat) : Lane :=
  let v := { l.vt with state := .stopped, stopCause := cause, stopCycle := l.td.cycle, windowOpen := false, own := none,
                       decision := 4 }
  { l with vt := v, io := l.io.stopDrive, pe := { l.pe with sweepEn := false } }.log x 0x0603 4 [v.stopReg]

/-- The VT_STOP cause that a lane's mask gives where a peer is missing (R134). -/
def stopCauseOfMask (m : Mask) (missing : Bool) : Nat :=
  if Mask.count m ≤ 1 then 4 else if Mask.count m == 2 then (if missing then 3 else 2) else (if missing then 3 else 1)

/-- A ring's ports switched to pass-through: the switch-over takes both links down (R199). -/
def Ring.toPass (g : Ring) : Ring :=
  if g.state == .pass then g else { g with state := .pass, linkE := false, linkW := false, heldE := [], heldW := [] }

/-- The pumphouse's part when the unit has failed safe (R137, R199): UNIT_OK opens, the rings go to pass-through, the role is
STOPPED, and the notices of both are posted, with VT_STOP of the lane that stopped first (Table 12-5). -/
def State.failSafe (s : State) : State :=
  let p0 := match s.unit.firstStop with
    | some x => (s.lane x).vt.stopReg
    | none => 0
  let ring := s.rings.ring.map (fun p => (p.1, if p.2.state == .unused then p.2 else p.2.toPass))
  { s with unit := { s.unit with role := .stopped },
           ph := { s.ph with unitOk := false, pass := true },
           rings := { s.rings with ring := ring } }.notice 3 [p0] |>.notice 1 [Role.stopped.code, s.unit.epoch]

/-- Whether the unit runs cycles as watcher or sleeper. -/
def State.leads (s : State) : Bool := s.unit.role == .watcher
def State.sleeps (s : State) : Bool := s.unit.role == .sleeper

/-- After a lane has left service (R137): with fewer than two lanes in service UNIT_OK opens, and when the last of them has left
the pumphouse does its part. -/
def State.settleService (s : State) : State :=
  if (s.leads || s.sleeps) && s.serviceLanes.isEmpty then s.failSafe
  else if s.serviceLanes.length < 2 then { s with ph := { s.ph with unitOk := false } }
  else s

/-- A notice that the service mask has changed (Table 12-5, 0x0002), where it has. -/
def State.maskNotice (old : Mask) (gone : Option LaneId) (s : State) : State :=
  if s.serviceMask = old then s
  else s.notice 2 [Mask.bits s.serviceMask, match gone with
    | some x => (s.lane x).vt.causeReg
    | none => 0]

/-- Lane `x` withdraws from service; a lane that is not in service, a candidate or leaving has nothing to withdraw from. -/
def State.withdraw (s : State) (x : LaneId) (cause : Nat) (dump : Bool) : State :=
  let old := s.serviceMask
  ((s.modLane x (fun l => l.withdraw x cause dump s.tideMs)).maskNotice old (some x)).settleService

/-- Lane `x` stops; the first lane of the unit to do so is remembered (Table 12-5). -/
def State.stopLane (s : State) (x : LaneId) (cause : Nat) : State :=
  let old := s.serviceMask
  let s := s.modLane x (fun l => l.stop x cause)
  ({ s with unit := { s.unit with firstStop := s.unit.firstStop.orElse (fun _ => some x) } }.maskNotice old (some x)).settleService

/-! ## Halves -/

/-- Half of an integer; that of an odd one is rounded as Config.tieUp says, since the spec does not say how. -/
def halve (i : Int) : Int := if i % 2 = 0 then i / 2 else if Config.tieUp i then i / 2 + 1 else i / 2

/-! ## Digests (R121, R125) -/

/-- The 262,144 bytes of the constant table: 65,536 entries, 0 beyond the constant count. -/
def constBytes (t : Table 32) : List Byte := (List.range 65536).flatMap (fun i => be 4 (Table.read t i).toNat)

/-- The 2,048 bytes of the force table (R125): the active entries first, ascending, the rest zero. -/
def forceBytes (f : Assoc (Option W16)) : List Byte :=
  padTo 2048 (f.flatMap (fun p => be 4 p.1 ++ be 2 ((p.2.getD 0#16).toNat) ++ be 2 1))

/-- The plain constant digest (R121). -/
def plainDigest (t : Table 32) : List Byte := shake256 64 (constBytes t)

/-- The constant-table digest that enters the gauge (R125). -/
def constDigest (t : Table 32) (f : Assoc (Option W16)) : List Byte := shake256 64 (constBytes t ++ forceBytes f)

/-! ## The constant table and the forces -/

/-- Variable `i` under force (R122). -/
def Engine.forceOf (e : Engine) (i : Nat) : Option W16 := Assoc.get none e.forces i

/-- The value the bindings of a variable take: its forced value, or the committed one (R123). After the commit the committed
state is the current buffer (R64). -/
def Engine.bound (e : Engine) (i : Nat) : W16 := (e.forceOf i).getD (Table.read e.cur i)

/-- Whether any force is active in the unit (R126). -/
def State.anyForce (s : State) : Bool := LaneId.list.any (fun x => (s.lane x).evaluates && !(s.lane x).pe.forces.isEmpty)

/-! ## The check-value unit (R189) -/

/-- A job put at the end of the queue of its class; the CV_SCAN registers show the scan that was issued last. -/
def CheckUnit.issue (c : CheckUnit) (j : CvJob) : CheckUnit :=
  match j with
  | .seal _ _ => { c with seals := c.seals ++ [j] }
  | .verify _ _ _ _ => { c with verifies := c.verifies ++ [j] }
  | .scan addr len a b basin =>
    { c with scans := c.scans ++ [j], scanAddr := addr, scanLen := len,
             scanCtrl := fld (b.getD 0) 16 3 + flag b.isSome 15 + fld a 8 3 + flag basin 0 }

/-- The class in progress, that of the highest class with work: idle, seal, verify, scan (R189, Table 7-14). -/
def CheckUnit.cls (c : CheckUnit) : Nat :=
  if !c.seals.isEmpty then 1 else if !c.verifies.isEmpty then 2 else if !c.scans.isEmpty then 3 else 0

/-- The unit completes the oldest job of the highest class that has work, and counts it. -/
def CheckUnit.serve (c : CheckUnit) : CheckUnit :=
  match c.seals, c.verifies, c.scans with
  | _ :: js, _, _ => { c with seals := js, sealCnt := sat c.sealCnt }
  | [], _ :: js, _ => { c with verifies := js, verifyCnt := sat c.verifyCnt }
  | [], [], _ :: js => { c with scans := js, scanCnt := sat c.scanCnt }
  | [], [], [] => c

/-- `k` jobs completed. -/
def CheckUnit.serveMany : Nat → CheckUnit → CheckUnit
  | 0, c => c
  | k + 1, c => serveMany k c.serve

/-- Jobs of one of the higher classes issued, and the unit's work until they are complete; a scan that waits lets them pass. -/
def CheckUnit.run (c : CheckUnit) (js : List CvJob) : CheckUnit :=
  let d := js.foldl CheckUnit.issue c
  d.serveMany (d.seals.length + (if c.verifies.length < d.verifies.length then d.verifies.length else 0))

/-- The oldest scan complete: everything of the higher classes is, too. -/
def CheckUnit.serveScan (c : CheckUnit) : CheckUnit := c.serveMany (c.seals.length + c.verifies.length + 1)

end Sys2Proof.Machine
end

