-- ==== Sys2Proof/Machine/Operands.lean ====
section
/-! DEFINITION. The operand forms of a term: which term a cell evaluates next, its source A and source B at their widths, the
constant as operand, and the operator of a chain (R67 to R75). -/

namespace Sys2Proof.Machine

/-- The width of a variable (R69): BOOL or 16-bit. -/
def isBool (m : Image) (i : BitVec 18) : Bool := (m.var i.toNat).ty == .bool

/-- Negation at a width (R68): 1 − x at BOOL width, the complement at 16-bit width. -/
def negate (bool : Bool) (v : Nat) : Nat := if bool then 1 - v else 65535 - v

/-- The value of source A after NEGA, read from the current buffer (R62, R68). -/
def operandA (m : Image) (e : Engine) (t : Term) : Nat :=
  let v := (Table.read e.cur t.srcA.toNat).toNat
  if t.negA then negate (isBool m t.srcA) v else v

/-- A constant as an operand: bits 15:0, and at BOOL width 1 where they are not 0 (R68, R69). -/
def constOperand (e : Engine) (i : Nat) (bool : Bool) : Nat :=
  let v := (Table.read e.consts i).toNat % 65536
  if bool then b2n (decide (v ≠ 0)) else v

/-- Whether source B of a term is read at BOOL width: a variable's own width, a constant's is that of source A, except as the
preset of a timer, the limit of CTU or the load value of CTD (R69). -/
def bIsBool (m : Image) (t : Term) : Bool :=
  if t.bk then
    (if t.op.isTimer || t.op == .ctu || t.op == .ctd then false else isBool m t.srcA)
  else isBool m t.srcB

/-- The value of source B after NEGB (R68, R69). -/
def operandB (m : Image) (e : Engine) (t : Term) : Nat :=
  let bool := bIsBool m t
  let v := if t.bk then constOperand e t.constIdx bool else (Table.read e.cur t.srcB.toNat).toNat
  if t.negB then negate bool v else v

/-- The operator of AND, OR, XOR and ADDS on two values (Table 3-3); every other opcode gives the second. -/
def chainOp (op : Op) (x y : Nat) : Nat :=
  match op with
  | .and => x &&& y
  | .or => x ||| y
  | .xor => x ^^^ y
  | .adds => min (x + y) 65535
  | _ => y

/-- The result r of AND, OR, XOR, ADDS or MOV from a and b (R74, R75). -/
def linkResult (m : Image) (e : Engine) (t : Term) : Nat :=
  match t.op with
  | .mov => operandA m e t
  | op => chainOp op (operandA m e t) (operandB m e t)

/-- The condition c of a closing SEL, timer or counter: the accumulator's value; 0 where a counter closes no chain (R75). -/
def condition (acc : Option W16) : Nat := (acc.getD 0#16).toNat

/-- The word a cell evaluates next: its term index and the word; none when its run is at its end. -/
def nextWord (m : Image) (e : Engine) (cell : Nat) : Option (Nat × W64) :=
  let p := Assoc.get 0 e.pos cell
  if p < m.runLen e.level cell then
    let i := m.termIndex e.level cell p
    m.terms[i]?.map (fun w => (i, w))
  else none

end Sys2Proof.Machine
end

