-- ==== Sys2Proof/Machine/Flags.lean ====
section
/-! DEFINITION. The events a result can raise: the range event of R72 and the timer range event of R83, and the write of a result
under the buffer rules of Table 3-1. -/

namespace Sys2Proof.Machine

/-- A value written to a variable by its term: COMB into current and next, REG and OUT into next (Table 3-1). -/
def Engine.writeVar (e : Engine) (m : Image) (i : Nat) (v : W16) : Engine :=
  let e := { e with next := Table.write e.next i v }
  if (m.var i).cls == .comb then { e with cur := Table.write e.cur i v } else e

/-- The greatest value a destination admits: 1 for BOOL, the entry's limit for ENUM, 65,535 for the others (R71). -/
def limitOf (v : VarEntry) : Nat :=
  match v.ty with
  | .bool => 1
  | .enum => v.limit.toNat
  | _ => 65535

/-- The counts and flags of a range event at a term (R72). -/
def Engine.rangeEvent (e : Engine) (term : Nat) : Engine :=
  { e with rangeCnt := sat e.rangeCnt, rangeTerm := term }

/-- A result written to its destination: above the limit the cold value is written and a range event recorded, with one unit
record for the first of the cycle (R72). -/
def Lane.writeResult (l : Lane) (m : Image) (term : Nat) (dst : BitVec 18) (v : Nat) : Lane :=
  let entry := m.var dst.toNat
  if limitOf entry < v then
    let e := (l.pe.rangeEvent term).writeVar m dst.toNat entry.cold
    let l' := { l with pe := { e with rangeSeen := true } }
    if l.pe.rangeSeen then l' else l'.logUnit 0x0301 2 [term, dst.toNat]
  else { l with pe := l.pe.writeVar m dst.toNat (BitVec.ofNat 16 v) }

/-- The effective preset E of a timer term: source B times the prescaler of its TIMER variable (R82). -/
def effectivePreset (m : Image) (e : Engine) (t : Term) : Nat := operandB m e t * (m.var t.srcA.toNat).prescaler

/-- A timer range event: the count stays, DST takes its cold value, PE_TIMER_CNT counts (R83). -/
def Lane.timerRange (l : Lane) (m : Image) (t : Term) : Lane :=
  let e := l.pe.writeVar m t.dst.toNat (m.var t.dst.toNat).cold
  { l with pe := { e with timerCnt := sat l.pe.timerCnt } }

end Sys2Proof.Machine
end

