-- ==== Sys2Proof/Machine/RingFrame.lean ====
section
/-! DEFINITION. The bytes of Dikeline frames (R195, Tables 8-2 to 8-7) and of VK2 frames (R225, R226, Table 8-12): header, body, padding and
FCS, built and read; `vk2` tells the two apart. -/

namespace Sys2Proof

/-! ## Frames (R195, R225) -/

/-- The IEEE 802.3 CRC-32 in the order in which IEEE 802.3 transmits its FCS (R195; log entry 90). -/
def ethFcs (t : List Byte) : List Byte := (be 4 (ieeeCrc t)).reverse

/-- The complement of the FCS, with which a node ends a frame that it spoils (R196, R209). -/
def spoiltFcs (t : List Byte) : List Byte := (ethFcs t).map (fun b => ~~~b)

/-- A header in its bytes: 24 of Table 8-2, or 8 of Table 8-12. -/
def RingHdr.bytes (vk2 : Bool) (h : RingHdr) : List Byte :=
  if vk2 then be 1 h.ty ++ be 1 h.srcAddr ++ be 1 h.dst ++ be 1 h.hops ++ be 2 h.cycle ++ be 2 h.len
  else
    be 1 (0x10 + h.ty % 16) ++ be 1 (flag h.dir 7) ++ be 1 h.ring ++ be 1 h.srcAddr ++ be 1 h.srcUnit ++ be 1 h.dst ++ be 1 h.hops ++ be 1 0 ++
      be 4 h.cycle ++ be 2 h.len ++ be 2 0 ++ be 8 (twos 64 h.corr)

/-- Whether a destination address names the modules: 0x00, or 0xFF with every node (R193). -/
def RingHdr.forModules (h : RingHdr) : Bool := h.dst == 0 || h.dst == 0xFF

/-- The length of a header. -/
def hdrLen (vk2 : Bool) : Nat := if vk2 then 8 else 24

/-- The header that the first bytes of a frame spell. -/
def RingHdr.ofBytes (vk2 : Bool) (f : List Byte) : RingHdr :=
  if vk2 then
    { ty := getByte f 0, dir := false, ring := 0, srcAddr := getByte f 1, srcUnit := 0, dst := getByte f 2, hops := getByte f 3, cycle := getBE f 4 2,
      len := getBE f 6 2, corr := 0 }
  else
    { ty := bits (getByte f 0) 0 4, dir := bit (getByte f 1) 7, ring := getByte f 2, srcAddr := getByte f 3, srcUnit := getByte f 4,
      dst := getByte f 5, hops := getByte f 6, cycle := getBE f 8 4, len := getBE f 12 2, corr := ofTwos 64 (getBE f 16 8) }

/-- A frame before its FCS: header with the body's length, body, and 0x00 up to the 60 bytes that a frame of 64 has before it (R195). -/
def ringText (vk2 : Bool) (h : RingHdr) (body : List Byte) : List Byte :=
  let t := { h with len := body.length }.bytes vk2 ++ body
  t ++ List.replicate (60 - t.length) 0#8

/-- A whole frame (R195, R225). -/
def ringFrame (vk2 : Bool) (h : RingHdr) (body : List Byte) : List Byte :=
  let t := ringText vk2 h body
  t ++ ethFcs t

/-- What stands before the FCS of a frame. -/
def frameText (f : List Byte) : List Byte := f.take (f.length - 4)

/-- Whether a received frame has a length of R195 and a valid FCS. -/
def frameWhole (f : List Byte) : Bool :=
  decide (64 ≤ f.length) && decide (f.length ≤ 2048) && f.drop (f.length - 4) == ethFcs (frameText f)

/-- The header and body of a frame that passes its checks: length and FCS, the version of a native frame, and a body that fits. -/
def readFrame (vk2 : Bool) (f : List Byte) : Option (RingHdr × List Byte) :=
  let h := RingHdr.ofBytes vk2 f
  if frameWhole f && (vk2 || bits (getByte f 0) 4 4 == 1) && decide (hdrLen vk2 + h.len + 4 ≤ f.length) then
    some (h, slice f (hdrLen vk2) h.len)
  else none

/-- A frame as a node forwards it: one hop further, on a native ring with its correction grown, and with its FCS formed anew (R196, R225); every other byte
goes on as it came. -/
def forwarded (vk2 : Bool) (f : List Byte) (more : Int) : List Byte :=
  let h := RingHdr.ofBytes vk2 f
  let t := frameText f
  let t := if vk2 then t.take 3 ++ be 1 (h.hops + 1) ++ t.drop 4
    else t.take 6 ++ be 1 (h.hops + 1) ++ slice t 7 9 ++ be 8 (twos 64 (h.corr + more)) ++ t.drop 24
  t ++ ethFcs t

/-- The time that a frame of a length takes with preamble, delimiter and gap (R44, Table 8-11), in units of 2^−16 ns. -/
def frameTime (vk2 : Bool) (length : Nat) : Int := (((length + 20) * (if vk2 then 80 else 8) * 65536 : Nat) : Int)

/-! ## Bodies (Tables 8-4 to 8-7, R215, R225, R226) -/

/-- Sixteen bytes with the bits of node addresses set: byte a div 8, bit 7 − (a mod 8) (Table 8-5). -/
def nodeBits (l : List Nat) : List Byte := l.foldl (fun p a => setPayloadBit p a true) (List.replicate 16 0#8)

/-- The node addresses whose bits are set. -/
def nodesOf (b : List Byte) : List Nat := (List.range 128).filter (payloadBit b)

/-- A SYNC body: Table 8-5, or the 12 bytes of a VK2 SYNC (R225). -/
def SyncBody.bytes (vk2 : Bool) (b : SyncBody) : List Byte :=
  if vk2 then be 4 b.cycle ++ be 2 b.tCycle ++ be 1 b.unit ++ be 1 0 ++ be 4 b.epoch
  else
    be 8 b.cycle ++ be 2 b.tCycle ++ be 1 0 ++ be 1 b.rank ++ be 4 b.start ++ be 8 (twos 64 b.launchErr) ++ be 4 b.epoch ++ be 1 b.unit ++ be 3 0 ++
      padTo 8 b.digest ++ nodeBits b.admitted ++ nodeBits b.resync

/-- The SYNC that a body spells. -/
def SyncBody.ofBytes (vk2 : Bool) (b : List Byte) : SyncBody :=
  if vk2 then
    { cycle := getBE b 0 4, tCycle := getBE b 4 2, rank := 0, start := 0, launchErr := 0, epoch := getBE b 8 4, unit := getByte b 6, digest := [],
      admitted := [], resync := [] }
  else
    { cycle := getBE b 0 8, tCycle := getBE b 8 2, rank := getByte b 11, start := getBE b 12 4, launchErr := ofTwos 64 (getBE b 16 8),
      epoch := getBE b 24 4, unit := getByte b 28, digest := slice b 32 8, admitted := nodesOf (slice b 40 16), resync := nodesOf (slice b 56 16) }

/-- A COLDSTART body (Table 8-7). -/
def ColdBody.bytes (b : ColdBody) : List Byte :=
  be 1 b.rank ++ be 1 (flag b.preferred 7) ++ be 1 b.round ++ be 1 0 ++ be 4 b.epoch ++ be 2 b.tCycle ++ be 6 0 ++ padTo 8 b.digest

/-- The COLDSTART that a body spells. -/
def ColdBody.ofBytes (b : List Byte) : ColdBody :=
  { rank := getByte b 0, preferred := bit (getByte b 1) 7, round := getByte b 2, epoch := getBE b 4 4, tCycle := getBE b 8 2, digest := slice b 16 8 }

/-- The INTEGRATE that a body spells (Table 8-6). -/
def IntegrateBody.ofBytes (b : List Byte) : IntegrateBody :=
  { digest := slice b 0 8, offset := ofTwos 64 (getBE b 8 8), tIn := getBE b 16 4, tOut := getBE b 20 4, vendor := getBE b 24 4, product := getBE b 28 4 }

/-- A DIAG request (R215, R226): its code, kind 0x00 and data. -/
def diagRequest (code : Nat) (data : List Byte) : List Byte := be 1 code ++ be 1 0 ++ be 2 0 ++ data

/-- DELAY bodies (Table 8-4). -/
def delayReqBody (ident : Nat) : List Byte := be 2 ident ++ be 6 0
def delayRespBody (ident : Nat) (turnaround : Nat) : List Byte := be 2 ident ++ be 6 0 ++ be 8 turnaround

end Sys2Proof
end

