-- ==== Sys2Proof/Machine/CrossFrame.lean ====
section
/-! DEFINITION. The frames of the cross-links (R256, Table 10-2) and the 32 bytes of a partner report (R261), built and read. -/

namespace Sys2Proof.Machine

/-- The address of a unit on the cross-links (Table 10-2). -/
def crossAddr (unit : Nat) : List Byte := [0x02#8, 0x4B#8, 0x47#8, 0x00#8, 0x00#8] ++ be 1 unit

/-- What stands at the head of a cross-link frame from one unit to another (Table 10-2). -/
def crossHead (dst src : Nat) : List Byte := crossAddr dst ++ crossAddr src ++ be 2 0x88B5

/-- A whole cross-link frame, padded with 0x00 to 64 bytes before its FCS (R256). -/
def crossFrame (dst src kind : Nat) (content : List Byte) : List Byte :=
  let t := crossHead dst src ++ be 1 kind ++ be 1 0 ++ content
  let t := t ++ List.replicate (60 - t.length) 0#8
  t ++ ethFcs t

/-- Whether the FCS of a received frame is right. -/
def crossSound (f : List Byte) : Bool := decide (4 ≤ f.length) && f.drop (f.length - 4) == ethFcs (frameText f)

/-- The kind and content of a valid frame of the partner (R256, R263): of 64 bytes or more, to this unit, from its companion. -/
def readCross (own partner : Nat) (f : List Byte) : Option (Nat × List Byte) :=
  if crossSound f && decide (64 ≤ f.length) && f.take 14 == crossHead own partner then
    some (getByte f 14, (frameText f).drop 16)
  else none

/-- The mirror telegram that the content of a frame carries, without the padding of a short frame (R256, R258). -/
def mirrorText (content : List Byte) : List Byte := content.take (32 + getBE content 10 2)

end Sys2Proof.Machine

namespace Sys2Proof

/-- The index of a cross-link's port among the module's, counted from P1. -/
def XPort.index : XPort → Nat
  | .p27 => 26
  | .p28 => 27

/-- The 32 bytes of a report (R261). -/
def PartnerReport.bytes (r : PartnerReport) : List Byte :=
  padTo 32 (be 1 r.unit ++ be 1 r.role ++ be 1 (Machine.Mask.bits r.mask) ++ be 1 r.rotation ++ be 4 r.epoch ++ be 8 r.cycle ++ padTo 8 (r.digest.take 8) ++
    be 1 r.ready ++ be 1 r.swap ++ be 2 r.tCycle)

/-- The report that 32 bytes spell. -/
def PartnerReport.ofBytes (b : List Byte) : PartnerReport :=
  { unit := getByte b 0, role := getByte b 1, mask := Machine.Mask.ofBits (getByte b 2), rotation := getByte b 3, epoch := getBE b 4 4,
    cycle := getBE b 8 8, digest := slice b 16 8, ready := getByte b 24, swap := getByte b 25, tCycle := getBE b 26 2 }

end Sys2Proof
end

