-- ==== Sys2Proof/Machine/EngineCore.lean ====
section
/-! DEFINITION. How a cell of the Polder engine takes its next term: the skip count, the chain, the closing term (R77), the end of
a level and of the sweep (R58, R89), and the engine fault (R91). -/

namespace Sys2Proof

/-- The cold values of an image's variables as a state buffer (R66). -/
def Image.coldState (m : Image) : Table 16 := (List.range m.vars.length).foldl (fun t i => Table.write t i (m.var i).cold) []

end Sys2Proof

namespace Sys2Proof.Machine

/-! ## The end of a resync attempt (R153) -/

/-- A lane in a phase of a resync (Table 6-7). -/
def LaneState.inResync : LaneState → Bool
  | .withdrawn | .reset | .loading | .joining | .base | .catchUp | .candidate | .rotationTest => true
  | _ => false

/-- The lane's resync data of one attempt cleared. -/
def Vote.clearAttempt (v : Vote) : Vote :=
  { v with baseCycle := none, baseTaken := none, blocks := PerLane.all [], deltas := PerLane.all [], applied := none, kept := [],
           arrivals := [], roles := [], said := [], ctxCycle := 0, candRun := PerLane.all 0, joinCycle := none, got := PerLane.all none, own := none,
           windowOpen := false }

/-- VT_ROT_LAST of a lane whose rotation failed in its resync (Table 6-10). -/
def Vote.rotFailed (v : Vote) : Vote := if v.rotLast = 0 then v else { v with rotLast := 5 }

/-- RESYNC_ABORT (R153): the attempt ends with a code; the lane starts the next one from reset with source 0x4, and after the third
abort in a row it enters FAILED with a LANE_FAILED record. Where a breach dump comes first, the reset waits for it (R91). -/
def Lane.abort (l : Lane) (x : LaneId) (code ms : Nat) (rotating dump : Bool) : Lane :=
  let run := l.vt.abortRun + 1
  let v := { l.vt.clearAttempt with abort := code, abortRun := run }
  let pe := { l.pe with sweepEn := false }
  if 3 ≤ run then
    { l with vt := { v with state := .failed, rotLast := if rotating then 5 else v.rotLast }, pe := pe }.log x 0x0604 3 [code]
  else
    { l with vt := { v with state := .reset, attempt := min 3 (v.attempt + 1), startMs := ms }, pe := pe,
             rc := if dump then l.rc else l.rc.request 4 }

/-- The rotation counts as completed when its lane fails or is admitted (R154, R157); a ROTATION_DONE record shows its result. -/
def State.endRotation (s : State) (x : LaneId) : State :=
  if s.unit.rot.leaving = some x then
    { s.modLane x (fun l => l.log x 0x0606 1 [l.vt.rotReg]) with unit := { s.unit with rot := { state := 0, next := x.next, defer := 0, since := s.tideMs, checkAt := 0, leaving := none } } }
  else s

/-- A lane's attempt is aborted; a lane that is in no resync has none (R153). -/
def State.abortBy (s : State) (x : LaneId) (code : Nat) (dump : Bool) : State :=
  if (s.lane x).vt.state.inResync then
    let rot := decide (s.unit.rot.leaving = some x)
    let s := s.modLane x (fun l => l.abort x code s.tideMs rot dump)
    if (s.lane x).vt.state == .failed then s.endRotation x else s
  else s

/-- An attempt aborted without a dump. -/
def State.abortResync (s : State) (x : LaneId) (code : Nat) : State := s.abortBy x code false

/-! ## Faults and the end of a sweep -/

/-- A lane with a fatal error leaves service with cause 0x6, or as a candidate its attempt with code 4, before its dump (R91, R152, R368). -/
def State.leaveFaulty (s : State) (x : LaneId) : State :=
  if (s.lane x).vt.state == .candidate then s.abortBy x 4 true else s.withdraw x 6 true

/-- An engine fault: the sweep stops, PE_FAULT holds cause and term index, the lane gives no gauge, stops its drive and leaves
service with cause 0x6; a candidate, whose gauge is missing then, aborts its attempt with code 4 (R152). Its reset waits for the breach dump (R91, R368). -/
def State.engineFault (s : State) (x : LaneId) (code pos : Nat) : State :=
  let s := s.modLane x (fun l =>
    { l with pe := { l.pe with state := .fault, faultCode := code, faultPos := pos } }.log x 0x0302 3
      [fld code 24 8 + fld pos 0 21])
  s.leaveFaulty x

/-- Every cell has come to the end of its run. -/
def Engine.levelDone (e : Engine) (m : Image) : Bool :=
  (List.range 16).all (fun c => decide (m.runLen e.level c ≤ Assoc.get 0 e.pos c))

/-- The gauge scan (R128): slots 3 and 4 over the 540,744 bytes from the next buffer on. -/
def Engine.gaugeScan (e : Engine) : CvJob := .scan (Config.bufferAddr e.physNext).toNat 540744 3 (some 4) false

/-- The sweep's results when its last level is complete (R61, R89; PE_SWEEP_LAST, PE_CELL_BUSY, TD_T_SWEEP), and the gauge scan that is issued
then. The sweep's end lies its length after the freeze writes, at 5 ns a clock. -/
def Lane.sweepDone (l : Lane) (m : Image) : Lane :=
  let busy := (List.range 16).foldl (fun b c =>
    Assoc.put 0 b c (((List.range m.levelCount).map (fun lv => m.runLen lv c)).sum)) ([] : Assoc Nat)
  { l with
      cv := l.cv.issue l.pe.gaugeScan
      pe := { l.pe with state := .complete, sweepLast := l.pe.clocks, sweepMax := max l.pe.sweepMax l.pe.clocks,
                        stallLast := l.pe.stalls, busy := busy, cycleDone := l.td.cycle % 2 ^ 32, sweepLate := false },
      td := { l.td with phase := .vote, tSweep := l.td.tFreeze + ceilDiv l.pe.clocks 2 } }

/-- After a cell has moved: at the end of a level the engine stands at the barrier, and after the last level the sweep is
complete (R58, R89). -/
def Lane.settleLevel (l : Lane) (m : Image) : Lane :=
  if l.pe.levelDone m then
    let l := { l with pe := { l.pe with state := .barrier } }
    if l.pe.level + 1 = m.levelCount then l.sweepDone m else l
  else l

/-- A cell moved to the next term of its run. -/
def Engine.advance (e : Engine) (cell : Nat) : Engine := { e with pos := Assoc.upd 0 e.pos cell (· + 1) }

/-- A cell's accumulator set (R74, R75). -/
def Engine.setAcc (e : Engine) (cell : Nat) (a : Option W16) : Engine := { e with acc := Assoc.put none e.acc cell a }

/-- What a command finds at a cell: nothing (no sweep, the run at its end, or another command's term), a fault, a skipped term, or
the term to evaluate with its index and the accumulator. -/
inductive Found where
  | nothing
  | bad (code pos : Nat)
  | skipped (m : Image)
  | term (m : Image) (idx : Nat) (t : Term) (acc : Option W16)
  deriving DecidableEq, Repr

/-- The next term of a cell as the command of opcode `op` finds it; `link` for the command of chain links. A word that is
undefined or a LEVEL word inside a run is a fault (R91). -/
def Lane.find (l : Lane) (cell : Nat) (mine : Term → Bool) : Found :=
  match l.image? with
  | none => .nothing
  | some m =>
    if l.pe.state == .sweeping && l.pe.started then
      match nextWord m l.pe cell with
      | none => .nothing
      | some (i, w) =>
        match Term.decode w with
        | none => .bad 2 i
        | some t =>
          if t.op == .level then .bad 3 i
          else if mine t then
            (if 0 < Assoc.get 0 l.pe.skip cell then .skipped m else .term m i t (Assoc.get none l.pe.acc cell))
          else .nothing
    else .nothing

/-- A term command at a cell (R77): a skipped term has no effect and counts the skip down; else `run` evaluates the term. Either
way the cell moves on, and the level may be complete. -/
def State.termStep (s : State) (x : LaneId) (cell : Nat) (mine : Term → Bool)
    (run : Image → Nat → Term → Option W16 → Lane → Lane) : State :=
  match (s.lane x).find cell mine with
  | .nothing => s
  | .bad code pos => s.engineFault x code pos
  | .skipped m =>
    s.modLane x (fun l =>
      { l with pe := ({ l.pe with skip := Assoc.upd 0 l.pe.skip cell (· - 1) } : Engine).advance cell }.settleLevel m)
  | .term m i t acc =>
    s.modLane x (fun l => { run m i t acc l with pe := (run m i t acc l).pe.advance cell }.settleLevel m)

/-- The plain command of an opcode: its terms with CHAIN clear; after a closing or single term the accumulator is empty (R74). -/
def State.opStep (s : State) (x : LaneId) (cell : Nat) (op : Op)
    (run : Image → Nat → Term → Option W16 → Lane → Lane) : State :=
  s.termStep x cell (fun t => t.op == op && !t.chain)
    (fun m i t acc l => { run m i t acc l with pe := (run m i t acc l).pe.setAcc cell none })

/-- A term whose result is one value (Table 3-3). -/
def State.valueStep (s : State) (x : LaneId) (cell : Nat) (op : Op) (value : Image → Engine → Term → Option W16 → Nat) : State :=
  s.opStep x cell op (fun m i t acc l => l.writeResult m i t.dst (value m l.pe t acc))

/-- The value of a closing or single AND, OR, XOR or ADDS (R75): the accumulator and r under the term's operator, or r alone. -/
def closing (m : Image) (e : Engine) (t : Term) (acc : Option W16) : Nat :=
  match acc with
  | none => linkResult m e t
  | some a => chainOp t.op a.toNat (linkResult m e t)

/-- A timer term: E above 65,000 is a timer range event; else the count in the TIMER variable and the output in DST follow
`run count E c` (R82 to R86). -/
def State.timerStep (s : State) (x : LaneId) (cell : Nat) (op : Op) (run : Nat → Nat → Nat → Nat × Bool) : State :=
  s.opStep x cell op (fun m i t acc l =>
    let e := effectivePreset m l.pe t
    if 65000 < e then l.timerRange m t
    else
      let r := run (Table.read l.pe.cur t.srcA.toNat).toNat e (condition acc)
      let l := { l with pe := l.pe.writeVar m t.srcA.toNat (BitVec.ofNat 16 r.1) }
      l.writeResult m i t.dst (b2n r.2))

end Sys2Proof.Machine
end

