-- ==== Sys2Proof/Machine/Telegrams.lean ====
section
/-! DEFINITION. Sealed telegrams: their layout (Tables 7-1, 7-2), the seals and their prefix (R165, R166, R170), the acceptance
checks of Table 7-8, and the treatment of NET2 copies (R185, R186). -/

namespace Sys2Proof.Machine

/-- A telegram as its bytes spell it (Table 7-1). -/
structure Tele where
  version : Nat
  ty      : Nat
  pair    : Nat
  forced  : Bool
  copy    : Bool
  zero    : Bool
  sid     : Nat
  seq     : Nat
  alive   : Nat
  len     : Nat
  time    : Nat
  epoch   : Nat
  payload : List Byte
  seal1   : Nat
  seal2   : Nat
  deriving DecidableEq, Repr

/-- The fields of a telegram whose seal fields are `w` bytes long. `zero` says that every reserved bit is 0. -/
def Tele.ofBytes (w : Nat) (b : List Byte) : Tele :=
  let p := getBE b 10 2
  { version := bits (getByte b 0) 4 4, ty := bits (getByte b 0) 0 4, pair := bits (getByte b 1) 6 2, forced := bit (getByte b 1) 5,
    copy := bit (getByte b 1) 4, zero := bits (getByte b 1) 0 4 == 0 && bits (getBE b 2 2) 10 6 == 0,
    sid := bits (getBE b 2 2) 0 10, seq := getBE b 4 4, alive := getBE b 8 2, len := p, time := getBE b 12 8,
    epoch := getBE b 20 4, payload := slice b 24 p, seal1 := getBE b (24 + p) w, seal2 := getBE b (24 + p + w) w }

/-- A telegram header with SEAL_PAIR and COPY 0 (R165). -/
def teleHeader (ty sid seq alive len time epoch : Nat) (forced : Bool) : List Byte :=
  be 1 (0x30 + ty) ++ be 1 (flag forced 5) ++ be 2 sid ++ be 4 seq ++ be 2 alive ++ be 2 len ++ be 8 time ++ be 4 epoch

/-- The two identifiers under which a VK3 with identifier `u` receives: the lower and the higher of its own and its companion's
(R166). -/
def ownIds (u : Nat) : Nat × Nat := (min u (companion u), max u (companion u))

/-- The receiving identifiers of a session a VK3 sends on (R166). -/
def peerIds (e : SessEntry) : Nat × Nat :=
  if e.partner = 0 then (e.peer, 0) else (min e.peer e.partner, max e.peer e.partner)

/-- The parameters of lane `x`'s seal: its row of Table 7-4, or a legacy set (R170). -/
def sealSet (legacy : Option CrcParams) (x : LaneId) : CrcParams := legacy.getD (sealParams x)

/-- The seal prefix (Table 7-5): the lane code and the receiving identifiers. -/
def sealPrefix (x : LaneId) (ids : Nat × Nat) : List Byte := be 1 x.num ++ be 1 ids.1 ++ be 1 ids.2 ++ be 1 0

/-- The seal of lane `x` over a header and payload under receiving identifiers (Table 7-5, R165). -/
def sealOf (legacy : Option CrcParams) (x : LaneId) (ids : Nat × Nat) (header payload : List Byte) : Nat :=
  crc (sealSet legacy x) (sealPrefix x ids ++ header ++ payload)

/-- The two lanes that SEAL_PAIR names (Table 7-2). -/
def pairLanes : Nat → Option (LaneId × LaneId)
  | 1 => some (.a, .b)
  | 2 => some (.b, .c)
  | 3 => some (.c, .a)
  | _ => none

/-- SEAL_PAIR of two lanes, and the lane named first (R168): the earlier in the cyclic order A, B, C, A. -/
def pairOf (x y : LaneId) : Nat × LaneId × LaneId :=
  match x, y with
  | .a, .b | .b, .a => (1, .a, .b)
  | .b, .c | .c, .b => (2, .b, .c)
  | _, _ => (3, .c, .a)

/-- The bytes a seal covers of a received telegram: the header with SEAL_PAIR and COPY 0 (R165). -/
def sealedHeader (b : List Byte) : List Byte :=
  b.take 1 ++ be 1 (getByte b 1 % 64 - (if bit (getByte b 1) 4 then 16 else 0)) ++ slice b 2 22

/-- The bytes of one seal field of a session: 4, or ceil(width / 8) under a legacy set (R170). -/
def sealWidth (legacy : Option CrcParams) : Nat :=
  match legacy with
  | none => 4
  | some p => ceilDiv p.width 8

/-- Check 1 of Table 7-8: length and type. -/
def lengthTypeOk (legacy : Option CrcParams) (b : List Byte) : Bool :=
  let t := Tele.ofBytes (sealWidth legacy) b
  t.version == 3 && (t.ty == 1 || t.ty == 2 || t.ty == 3 || t.ty == 8) && t.zero && t.pair != 0 && decide (t.len ≤ 1024) &&
    decide (b.length = t.len + 24 + 2 * sealWidth legacy)

/-- Check 2 of Table 7-8: both seals under their lanes' parameters and the receiver's own prefix. -/
def sealsOk (legacy : Option CrcParams) (u : Nat) (b : List Byte) : Bool :=
  let t := Tele.ofBytes (sealWidth legacy) b
  match pairLanes t.pair with
  | none => false
  | some (x, y) =>
    let h := sealedHeader b
    t.seal1 == sealOf legacy x (ownIds u) h t.payload && t.seal2 == sealOf legacy y (ownIds u) h t.payload

/-- The job by which a lane has a telegram's seals verified (R189): the slots of the lanes that SEAL_PAIR names, or the legacy set's for both. -/
def verifyJob (addr : Nat) (legacy : Option Nat) (b : List Byte) : CvJob :=
  match legacy, pairLanes (bits (getByte b 1) 6 2) with
  | some k, _ => .verify addr b.length (5 + k) (5 + k)
  | none, some (x, y) => .verify addr b.length x.idx y.idx
  | none, none => .verify addr b.length 0 0

/-- The legacy set of the session that a telegram names. -/
def legacyAt (m : Image) (b : List Byte) : Option Nat := (m.session (bits (getBE b 2 2) 0 10)).bind (fun e => e.legacy)

/-- Whether a telegram came on the path its session names (check 3). -/
def pathOk (e : SessEntry) : Path → Bool
  | .ring r node => e.transport == .ring && decide (e.port = r.val + 1) && decide (e.node = node)
  | .net2 _ => e.transport == .net2
  | .wire l => e.transport == .wire && decide (e.port = l.val + 31)
  | .can p => e.transport == .can && decide (e.port = p.val + 21)
  | .cross _ => false

/-- Check 3 of Table 7-8: session, direction, path and the payload length of Table 7-3. -/
def sessionOk (e : SessEntry) (t : Tele) (p : Path) : Bool :=
  pathOk e p &&
    (if t.ty = 1 then e.rx && decide (t.len = e.rxLen)
     else if t.ty = 2 then e.tx && decide (t.len = 0) && e.transport != .ring
     else if t.ty = 3 then e.rx && decide (t.len = 16) && e.transport != .ring
     else false)

/-- The context of a session. -/
def Sessions.at (t : Sessions) (sid : Nat) : SessCtx := Assoc.get SessCtx.reset t.ctx sid

/-- The context of a session set. -/
def Sessions.set (t : Sessions) (sid : Nat) (c : SessCtx) : Sessions := { t with ctx := Assoc.put SessCtx.reset t.ctx sid c }

/-- A refusal counted with its code (R180; TS_REFUSE_CNT, TS_LAST_REFUSAL, LAST_CODE). -/
def Sessions.refuse (t : Sessions) (sid code : Nat) : Sessions :=
  let t := { t with refuseCnt := Assoc.upd 0 t.refuseCnt code sat, lastCode := code, lastSid := sid }
  let c := t.at sid
  if c.state == .absent then t else t.set sid { c with refused := sat c.refused, lastCode := code }

/-- Checks 1 to 3 of Table 7-8: the telegram and its session, or the code of the first that fails with the identifier. -/
def checkFrame (m : Image) (u : Nat) (p : Path) (b : List Byte) : Except (Nat × Nat) (Tele × SessEntry) :=
  let legacy := m.legacyFor b
  let sid := bits (getBE b 2 2) 0 10
  if !lengthTypeOk legacy b then .error (sid, 1)
  else if !sealsOk legacy u b then .error (sid, 2)
  else
    let t := Tele.ofBytes (sealWidth legacy) b
    match m.session t.sid with
    | none => .error (sid, 3)
    | some e => if sessionOk e t p then .ok (t, e) else .error (sid, 3)

/-- The unit's epoch for the RING sessions of a session's ring (R252). -/
def ringEpochOf (own : Assoc Nat) (e : SessEntry) : Nat := Assoc.get 0 own (e.port - 1)

/-- Whether an epoch is too low for a session (check 4): RING, other than the unit's own on its ring; else below the peer epoch. -/
def epochLow (e : SessEntry) (c : SessCtx) (own : Assoc Nat) (t : Tele) : Bool :=
  if e.transport == .ring then t.epoch != ringEpochOf own e else decide (t.epoch < c.peerEpoch)

/-- A higher epoch than the peer's clears what the context knows of the sender (R180). For a RING session the peer epoch is the unit's own (Table 7-6);
it clears the three values at the first telegram under a new own epoch: DEDUCED from the sentence under Table 7-8 (log entry 82). -/
def SessCtx.newEpoch (c : SessCtx) (t : Tele) : SessCtx :=
  if c.peerEpoch < t.epoch then { c with peerEpoch := t.epoch, lastSeq := none, lastAlive := none, stale := 0 } else c

/-! ## NET2 copies (R185, R186) -/

/-- Whether a telegram matches a held first copy (R185). -/
def FirstCopy.matches (f : FirstCopy) (t : Tele) (netB : Bool) : Bool :=
  let g := Tele.ofBytes 4 f.tele
  !f.closed && (f.netB != netB) && (g.copy != t.copy) && decide (g.ty = t.ty) &&
    (if t.ty = 1 then decide (g.seq = t.seq) else decide (g.time = t.time))

/-- A telegram's bytes with COPY taken as 0. -/
def withoutCopy (b : List Byte) : List Byte :=
  b.take 1 ++ be 1 (getByte b 1 - (if bit (getByte b 1) 4 then 16 else 0)) ++ b.drop 2

/-- What a first copy is to a telegram that may be its second (R185): no match; complete pair repeated; late; equal; different. -/
inductive CopyCase where
  | first | repeated | late | pair | fault
  deriving DecidableEq, Repr

/-- The case of a NET2 telegram against the held first copy of its kind (R185, R186): `win` is the pairing window in ticks. -/
def copyCase (held : Option FirstCopy) (t : Tele) (netB : Bool) (win stamp : Nat) (b : List Byte) : CopyCase :=
  match held with
  | none => .first
  | some f =>
    if !f.matches t netB then .first
    else if f.paired then .repeated
    else if f.stamp + win ≤ stamp then .late
    else if withoutCopy f.tele = withoutCopy b then .pair
    else .fault

/-- A held first copy counted as missing where it is replaced or closed unpaired (R185). -/
def countMissing (t : Sessions) (sid : Nat) (f : Option FirstCopy) : Sessions :=
  match f with
  | some f =>
    if f.paired || f.closed then t
    else
      let c := t.at sid
      { t.set sid { c with missing := sat c.missing } with copyMissing := sat t.copyMissing }
  | none => t

/-! ## A lane's acceptance -/

/-- A lane that takes telegrams: one that evaluates, or one in catch-up that replays (R151). -/
def Lane.listens (l : Lane) : Bool := l.evaluates || l.vt.state == .catchUp

/-- The freeze point that is still to come in a lane: what is stamped before it the lane verifies at once, what is stamped at it or after it waits until
it has passed (R23, R96). -/
def Lane.nextFreeze (l : Lane) (m : Image) : Nat := m.freezeAt (if l.pe.freezeDone then l.td.cycle + 1 else l.td.cycle)

/-- A lane counts a telegram that R96 carries into the next cycle: one stamped at or after the freeze point of the cycle in which its stamp lies,
whenever the lane reads it. TD_STATUS shows it for that cycle. -/
def Lane.defer (l : Lane) (m : Image) (stamp : Nat) : Lane :=
  let n := stamp / m.period
  if m.freezeAt n ≤ stamp then
    { l with td := { l.td with deferCnt := sat l.td.deferCnt, deferNow := l.td.deferNow || decide (n = l.td.cycle),
                               deferLast := l.td.deferLast || decide (n + 1 = l.td.cycle) } }
  else l

/-- The record of an uncorrectable basin error (R19). -/
def Lane.basinError (l : Lane) (x : LaneId) (addr : Nat) : Lane := l.log x 0x0704 2 [addr]

/-- A DATA telegram after check 4 as a first or only copy: checks 5 and 6, and the candidate (R180). The second result is the refusal code, 0 where it
passed. The context's counter of accepted telegrams counts DATA telegrams alone: DEDUCED (log entry 32). -/
def SessCtx.takeData (c : SessCtx) (e : SessEntry) (t : Tele) (cand : Candidate) : SessCtx × Nat :=
  let c := c.newEpoch t
  if t.seq = 0 then (c, 5)
  else if (match c.lastSeq with
    | some r => !later t.seq r
    | none => false) then (c, 5)
  else
    let stale := if c.lastAlive = some t.alive then min (c.stale + 1) 65535 else 0
    let c := { c with lastSeq := some t.seq, stale := stale, lastAlive := some t.alive }
    if e.staleK ≤ stale then ({ c with staleRef := true }, 6)
    else
      let c := { c with staleRef := false, accepted := sat c.accepted }
      if c.state == .senderFault then (c, 0) else ({ c with cand := some cand }, 0)

/-- A SESSION_STATE record where a session's state changes (R183). -/
def Lane.stateRecord (l : Lane) (sid : Nat) (old new : SessState) : Lane :=
  if old = new then l else l.logUnit 0x0701 1 [sid, old.code, new.code]

/-- A sender fault (R186). -/
def Lane.senderFault (l : Lane) (sid : Nat) : Lane :=
  let c := l.ts.at sid
  let ts := (l.ts.set sid { c with cand := none, state := .senderFault, timeout := 0, current := false })
  let l := { l with ts := { ts.refuse sid 9 with pairFault := sat l.ts.pairFault } }.logUnit 0x0703 3 [sid]
  l.stateRecord sid c.state .senderFault

/-- The seals of a telegram that has passed check 1 verified by the check-value unit (R180, R189): one that fails check 1 asks for no verification. -/
def Lane.verifySeals (l : Lane) (m : Image) (a : Arrival) (b : List Byte) : Lane :=
  if lengthTypeOk (m.legacyFor b) b then { l with cv := l.cv.run [verifyJob a.addr (legacyAt m b) b] } else l

/-- A lane takes a DATA telegram (R180, R185, R186, Table 7-13: STALE shows whether the latest was refused by check 6): `own` are the unit's epochs on its rings, `u` its identifier. -/
def Lane.takeTelegram (l : Lane) (m : Image) (u : Nat) (own : Assoc Nat) (a : Arrival) (b : List Byte) : Lane :=
  let l := l.verifySeals m a b
  match checkFrame m u a.path b with
  | .error (sid, code) => { l with ts := l.ts.refuse sid code }
  | .ok (t, e) =>
    if t.ty ≠ 1 then l
    else
      let c := { l.ts.at t.sid with staleRef := false }
      let l := { l with ts := l.ts.set t.sid c }
      if epochLow e c own t then { l with ts := l.ts.refuse t.sid 4 }
      else
        let netB : Bool := a.path == .net2 true
        let kase := if e.transport == .net2 then copyCase c.firstData t netB (e.pairWin * 100000) a.stamp b else .first
        match kase with
        | .repeated => { l with ts := l.ts.refuse t.sid 5 }
        | .late =>
          let ts := l.ts.set t.sid { c with late := sat c.late }
          { l with ts := { ts.refuse t.sid 10 with copyLate := sat l.ts.copyLate } }
        | .pair =>
          { l with ts := l.ts.set t.sid { c with firstData := c.firstData.map (fun f => { f with paired := true }) } }
        | .fault =>
          let ts := l.ts.set t.sid { c with firstData := c.firstData.map (fun f => { f with paired := true }) }
          Lane.senderFault { l with ts } t.sid
        | .first =>
          let cand : Candidate := { addr := a.addr, stamp := a.stamp, time := t.time, payload := t.payload }
          let r := c.takeData e t cand
          let ts := l.ts.set t.sid r.1
          if r.2 ≠ 0 then { l with ts := ts.refuse t.sid r.2 }
          else
            let ts := { ts with acceptCnt := sat ts.acceptCnt }
            let ts := if e.transport == .net2 then
                let ts := countMissing ts t.sid c.firstData
                let f : FirstCopy := { addr := a.addr, stamp := a.stamp, netB := netB, tele := b, paired := false, closed := false }
                ts.set t.sid { ts.at t.sid with firstData := some f }
              else ts
            { l with ts := ts }

/-- What a lane finds of a TIME telegram of type `ty` after checks 1 to 5 and the NET2 copies (R180, R185): the lane with what was
counted, and the telegram with its session where it passed as a first copy. -/
def Lane.takeTime (l : Lane) (m : Image) (u : Nat) (own : Assoc Nat) (ty : Nat) (a : Arrival) (b : List Byte) : Lane × Option (Tele × SessEntry) :=
  let l := l.verifySeals m a b
  match checkFrame m u a.path b with
  | .error (sid, code) => ({ l with ts := l.ts.refuse sid code }, none)
  | .ok (t, e) =>
    if t.ty ≠ ty then (l, none)
    else
      let c := l.ts.at t.sid
      if epochLow e c own t then ({ l with ts := l.ts.refuse t.sid 4 }, none)
      else
        let netB : Bool := a.path == .net2 true
        let kase := if e.transport == .net2 then copyCase c.firstTime t netB (e.pairWin * 100000) a.stamp b else .first
        match kase with
        | .repeated => ({ l with ts := l.ts.refuse t.sid 5 }, none)
        | .late =>
          let ts := l.ts.set t.sid { c with late := sat c.late }
          ({ l with ts := { ts.refuse t.sid 10 with copyLate := sat l.ts.copyLate } }, none)
        | .pair =>
          ({ l with ts := l.ts.set t.sid { c with firstTime := c.firstTime.map (fun f => { f with paired := true }) } }, none)
        | .fault =>
          let ts := l.ts.set t.sid { c with firstTime := c.firstTime.map (fun f => { f with paired := true }) }
          (Lane.senderFault { l with ts } t.sid, none)
        | .first =>
          let c := c.newEpoch t
          if t.seq ≠ 0 then ({ l with ts := (l.ts.set t.sid c).refuse t.sid 5 }, none)
          else
            let ts := l.ts.set t.sid c
            let ts := { ts with acceptCnt := sat ts.acceptCnt }
            let ts := if e.transport == .net2 then
                let ts := countMissing ts t.sid c.firstTime
                let f : FirstCopy := { addr := a.addr, stamp := a.stamp, netB := netB, tele := b, paired := false, closed := false }
                ts.set t.sid { ts.at t.sid with firstTime := some f }
              else ts
            ({ l with ts := ts }, some (t, e))

/-! ## The freeze point's part of a session (R181 to R183) -/

/-- The allowance a of R181: 100 ticks on a ring, else 100 ppm of the time since τ, rounded up. -/
def allowance (e : SessEntry) (r : TimeRef) (f : Nat) : Int :=
  if e.transport == .ring then 100 else ((ceilDiv (f - r.tau) 10000 : Nat) : Int)

/-- The time reference in force: 0 on a ring (R175); none once 1,024 cycles have passed since its request (R178). -/
def refAt (e : SessEntry) (c : SessCtx) (n : Nat) : Option TimeRef :=
  if e.transport == .ring then some ⟨0, 0, n⟩
  else match c.ref with
    | some r => if r.cycle + 1024 ≤ n then none else some r
    | none => none

/-- Whether a candidate is current at the freeze value `f`: age strictly less than the maximum age (R181). -/
def fresh (e : SessEntry) (r : TimeRef) (t : Candidate) (f : Nat) : Bool :=
  decide ((f : Int) - ((t.time : Int) - r.theta) + allowance e r f < (e.maxAge : Int) * 100)

/-- The first receive field of an ENUM variable that a payload puts above its limit (R47). -/
def rangeBad (m : Image) (e : SessEntry) (p : List Byte) : Option FieldEntry :=
  e.rxMap.find? (fun f => (m.var f.var).ty == .enum && decide ((m.var f.var).limit.toNat < payloadField p f.off f.width))

/-- A context cleared as for a timeout (R183). -/
def SessCtx.cleared (c : SessCtx) (e : SessEntry) : SessCtx :=
  let c := { c with lastSeq := none, lastAlive := none, stale := 0, cand := none }
  if e.transport == .ring then c else { c with peerEpoch := 0, ref := none }

/-- The session state's change at a freeze point (Table 7-9). On leaving 0x02 or 0x04 the timeout count shows the value that reached the limit, and
the end of a sender fault counts as a timeout in the lane's counter: DEDUCED, the table states neither (log entry 83). -/
def SessCtx.advance (c : SessCtx) (e : SessEntry) (current : Bool) : SessCtx :=
  match c.state with
  | .absent => c
  | .notEst | .timedOut => if current then { c with state := .valid, timeout := 0 } else c
  | .valid =>
    if current then { c with timeout := 0 }
    else if c.timeout + 1 < e.timeout then { c with timeout := c.timeout + 1 }
    else { c.cleared e with state := .timedOut, timeout := min (c.timeout + 1) 255, timeouts := sat c.timeouts }
  | .senderFault =>
    if c.timeout + 1 < e.timeout then { c with timeout := c.timeout + 1 }
    else { c.cleared e with state := .notEst, timeout := min (c.timeout + 1) 255, timeouts := sat c.timeouts }

/-- The reference instant agreed for the outstanding TIME_REQ (R176): the smallest of the lanes' readings, of those that have come. DEDUCED: the
spec does not say what holds while the reading of a lane in service is missing (log entry 81). -/
def SessCtx.reqInstant (c : SessCtx) : Option Nat :=
  (LaneId.list.filterMap (fun y => c.reqOwn.get y)).foldl (fun (a : Option Nat) v =>
    match a with
    | some w => some (min v w)
    | none => some v) none

/-- A session at the freeze point of cycle n (R178, R181 to R183, R47): its reference, its candidate's freshness and range, its state; and the
payload its fields take, none for the safe values. Where no lane's reading of the request has come, the echoed timestamp is taken as in a
sleeper (log entry 81). -/
def Lane.freezeSession (l : Lane) (m : Image) (e : SessEntry) (n : Nat) (sleeper : Bool) : Lane × Option (List Byte) :=
  let f := m.freezeAt n
  let c := l.ts.at e.sid
  let c := match c.resp with
    | some (stamp, ts, echo) =>
      if stamp < f then
        let tau := if sleeper then echo else c.reqInstant.getD echo
        { c with ref := some ⟨(ts : Int) - (tau : Int), tau, echo / m.period⟩, resp := none, refs := sat c.refs }
      else c
    | none => c
  let ref := refAt e c n
  let c := if e.transport == .ring then c else { c with ref := ref }
  let old := c.state
  let verdict : Option (Candidate × Bool) := match c.cand, ref with
    | some t, some r => some (t, fresh e r t f)
    | _, _ => none
  match verdict with
  | some (t, true) =>
    (match rangeBad m e t.payload with
    | some fld =>
      let c := { c with cand := none }.advance e false
      let ts := (l.ts.set e.sid { c with current := false }).refuse e.sid 8
      let l := { l with ts := ts }.logUnit 0x0702 2 [e.sid, fld.var]
      (l.stateRecord e.sid old c.state, none)
    | none =>
      let ok := c.state != .senderFault
      let c := c.advance e ok
      ({ l with ts := l.ts.set e.sid { c with current := ok } }.stateRecord e.sid old c.state,
        if ok then some t.payload else none))
  | some (_, false) =>
    let c := { c with cand := none }.advance e false
    let ts := (l.ts.set e.sid { c with current := false }).refuse e.sid 7
    ({ l with ts := ts }.stateRecord e.sid old c.state, none)
  | none =>
    let c := c.advance e false
    ({ l with ts := l.ts.set e.sid { c with current := false } }.stateRecord e.sid old c.state, none)

/-- The summary record of a session (Table 6-3) as 128 bits. -/
def SessCtx.summary (c : SessCtx) : BitVec 128 :=
  BitVec.ofNat 128 (ofBE (be 1 c.state.code ++ be 1 (min c.timeout 255) ++ be 2 c.stale ++ be 4 (c.lastSeq.getD 0) ++
    be 2 (c.lastAlive.getD 0) ++ be 2 0 ++ be 4 c.nextSeq))

/-- A session context in its layout (Table 7-6), `own` the unit's leadership epoch on its ring for a RING session; an instant agreed is the least of the
lanes' (R178). -/
def SessCtx.image (c : SessCtx) (own : Option Nat) : List Byte :=
  let ref : TimeRef := if own.isSome then ⟨0, 0, 0⟩ else c.ref.getD ⟨0, 0, 0⟩
  let cand := c.cand.map (fun t => (t.addr, t.stamp))
  let place := fun (p : Option (Nat × Nat)) => be 4 (p.getD (0, 0)).1 ++ be 4 ((p.getD (0, 0)).2 % 2 ^ 32)
  be 16 c.summary.toNat ++ be 4 (own.getD c.peerEpoch) ++ be 4 0 ++ be 8 (twos 64 ref.theta) ++ be 8 ref.tau ++
    be 8 c.reqStamp ++ be 8 (c.reqInstant.getD 0) ++ place cand ++ place (c.firstData.map (fun f => (f.addr, f.stamp))) ++
    be 4 c.accepted ++ be 4 c.refused ++ be 4 c.missing ++ be 4 c.late ++ be 4 c.refs ++ be 4 c.timeouts ++
    place (c.firstTime.map (fun f => (f.addr, f.stamp))) ++ padTo 152 []

/-- The unit's epoch that the context of session `k` shows where it is a RING session (Table 7-6). -/
def ringOwn (m : Image) (own : Assoc Nat) (k : Nat) : Option Nat :=
  (m.session k).bind (fun e => if e.transport == .ring then some (ringEpochOf own e) else none)

/-- The session-store summary of a lane (Table 6-1), unlisted records 0. -/
def Sessions.summaries (t : Sessions) : Table 128 :=
  t.ctx.foldl (fun tab p => Table.write tab p.1 p.2.summary) []

/-- Every session of the image at a unit start: not established, its next sequence number 1 where it sends (R183, R164); the
contexts of sessions the image does not have are absent. -/
def Sessions.started (m : Image) : Sessions :=
  m.sessions.foldl (fun t e =>
    t.set e.sid { SessCtx.reset with state := .notEst, nextSeq := if e.tx then 1 else 0 }) Sessions.reset

/-- Whether a session asks for the time in cycle n (R176): no reference, or every 64 cycles after the request of the one it holds. -/
def SessCtx.asks (e : SessEntry) (c : SessCtx) (n : Nat) : Bool :=
  e.rx && e.transport != .ring &&
    (match refAt e c n with
    | none => true
    | some r => decide (r.cycle < n) && (n - r.cycle) % 64 == 0)

/-- The TIME_REQs of the cycle become the outstanding ones (R176). Readings of peers for the same request may have come already. -/
def Lane.markRequests (l : Lane) (m : Image) (n : Nat) : Lane :=
  { l with ts := m.sessions.foldl (fun t e =>
      let c := t.at e.sid
      if c.asks e n then
        let own := PerLane.map (fun (v : Option Nat) => match v with
          | some k => if n * m.period ≤ k then some k else none
          | none => none) c.reqOwn
        t.set e.sid { c with reqStamp := n * m.period, reqOwn := own }
      else t) l.ts }

/-- The sessions that send DATA advance to their next sequence number once the cycle's telegram is spent (R164). -/
def Sessions.advanceSent (t : Sessions) (m : Image) : Sessions :=
  m.senders.foldl (fun t e => t.set e.sid { t.at e.sid with nextSeq := nextSeq (t.at e.sid).nextSeq }) t

/-- The TIME_REQs that the freeze point of cycle n has taken wait no more: their answer went out with the outputs of that cycle, or not at all
(R177). -/
def Sessions.dropAnswers (t : Sessions) (m : Image) (n : Nat) : Sessions :=
  m.senders.foldl (fun t e =>
    t.set e.sid { t.at e.sid with answers := (t.at e.sid).answers.filter (fun a => decide (m.freezeAt n ≤ a.stamp)) }) t

/-- A lane's reading of its tide for a TIME_REQ (R177), named by its timestamp and its arrival stamp. -/
def SessCtx.noteReading (c : SessCtx) (y : LaneId) (echo stamp instant : Nat) : SessCtx :=
  if c.answers.any (fun a => a.echo == echo && a.stamp == stamp) then
    { c with answers := c.answers.map (fun a => if a.echo = echo ∧ a.stamp = stamp then { a with own := a.own.set y (some instant) } else a) }
  else { c with answers := c.answers ++ [{ echo := echo, stamp := stamp, own := (PerLane.all none).set y (some instant) }] }

/-- What the sending side of a lane's sessions has spent once the telegrams of cycle n are handed over (R164, R177). -/
def Sessions.spent (t : Sessions) (m : Image) (n : Nat) : Sessions := (t.dropAnswers m n).advanceSent m

end Sys2Proof.Machine
end

