-- ==== Sys2Proof/Machine/VitalCore.lean ====
section
/-! DEFINITION. The vital inputs and outputs as shared operations: the filter (R230), the drive at a tide mark (R105, R236), the
judgement of a regular sample (R244, R248), latches and their reset (R246). -/

namespace Sys2Proof.Machine

/-- Bit `i` of a register of flags. -/
def onBit {w : Nat} (v : BitVec w) (i : Nat) : Bool := v.getLsbD i

/-- Bit `i` set to `b`. -/
def putBit {w : Nat} (v : BitVec w) (i : Nat) (b : Bool) : BitVec w :=
  if b then v ||| BitVec.ofNat w (2 ^ i) else v &&& ~~~ (BitVec.ofNat w (2 ^ i))

/-- The milliseconds of a lane's tide. -/
def Lane.ms (l : Lane) : Nat := l.td.tide / 100000

/-! ## Filter and frozen value -/

/-- One step of the filter of R230: the new count and filtered value. -/
def filterStep (n count : Nat) (filtered sample : Bool) : Nat × Bool :=
  let c := if sample then min (count + 1) n else count - 1
  (c, if c = n then true else if c = 0 then false else filtered)

/-- A regular sample at input channel `c` (R229, R230, R232): a used channel's filter moves, a held cross-circuit stays at 0. -/
def LaneIO.sampleInput (m : Image) (raw : BitVec 64) (io : LaneIO) (c : Nat) : LaneIO :=
  let e := m.input c
  if !e.used then io
  else if onBit io.xcirc c then { io with count := Assoc.put 0 io.count c 0, filt := putBit io.filt c false }
  else
    let r := filterStep e.depth (Assoc.get 0 io.count c) (onBit io.filt c) (onBit raw c)
    { io with count := Assoc.put 0 io.count c r.1, filt := putBit io.filt c r.2 }

/-! ## Latches and records -/

/-- The OUTPUT_FAULT record of a channel (R245). -/
def Lane.faultRecord (l : Lane) (x : LaneId) (k code : Nat) : Lane := l.log x 0x0903 3 [k, groupOf k, code]

/-- The open test window ends and its result is discarded (R242): the quench is released, an on-pulse's pattern stops, and the channel is aborted
in this interval. DESIGN CHOICE: a window that ends because the lane may no longer drive the channel counts as aborted too (log entry 99). -/
def LaneIO.abortTest (io : LaneIO) (w : TestWindow) (ms : Nat) : LaneIO :=
  { io with window := none, abortCnt := sat io.abortCnt, test := Assoc.put 0 io.test w.channel 3,
            missed := Assoc.upd 0 io.missed w.channel (· + 1), quench := putBit io.quench w.channel false,
            toggle := if w.onPulse then putBit io.toggle w.channel false else io.toggle,
            driveEnd := if w.onPulse then Assoc.put 0 io.driveEnd w.channel ms else io.driveEnd }

/-- The open test window ends where `p` holds of it. -/
def LaneIO.abortTestIf (io : LaneIO) (ms : Nat) (p : TestWindow → Bool) : LaneIO :=
  match io.window with
  | some w => if p w then io.abortTest w ms else io
  | none => io

/-- A lane opens and latches a group: its group switch is quenched and its channels lose their drive (Table 9-4, R235, R236). The first cause and
channel stand. -/
def LaneIO.latchGroup (io : LaneIO) (k cause ms : Nat) : LaneIO :=
  let g := groupOf k
  let io := io.abortTestIf ms (fun w => groupOf w.channel == g)
  let io := { io with groupQuench := putBit io.groupQuench g true }
  let mine := (List.range 32).filter (fun c => groupOf c == g)
  let io := mine.foldl (fun io c =>
    { io with driveEnd := if onBit io.toggle c then Assoc.put 0 io.driveEnd c ms else io.driveEnd,
              toggle := putBit io.toggle c false }) io
  if onBit io.latched g then { io with groupDrive := putBit io.groupDrive g false }
  else { io with latched := putBit io.latched g true, groupDrive := putBit io.groupDrive g false,
                 groupCause := Assoc.put 0 io.groupCause g cause, groupChan := Assoc.put 0 io.groupChan g k,
                 groupExt := putBit io.groupExt g false }

/-- A channel whose windows in four consecutive intervals were aborted or skipped is OVERDUE, with one record (R243). -/
def Lane.overdueCheck (l : Lane) (x : LaneId) (k : Nat) : Lane :=
  if 4 ≤ Assoc.get 0 l.io.missed k && !onBit l.io.overdue k then
    { l with io := { l.io with overdue := putBit l.io.overdue k true } }.log x 0x0902 2 [k]
  else l

/-- What an abort may bring (R243): the channel whose window was open is judged for OVERDUE. -/
def Lane.afterAbort (l : Lane) (x : LaneId) (open_ : Option TestWindow) : Lane :=
  match open_ with
  | some w => l.overdueCheck x w.channel
  | none => l

/-- A latched fault of a channel (FAULT 0x1 or 0x2) with its group (Table 9-4, R245); a test window that the latch aborts counts (R243). -/
def Lane.latchFault (l : Lane) (x : LaneId) (k code cause : Nat) : Lane :=
  ({ l with io := { l.io.latchGroup k cause l.ms with fault := Assoc.put 0 l.io.fault k code } }.faultRecord x k code).afterAbort x l.io.window

/-- Whether a fault reaction of Table 9-4 holds the quench of channel `k`: in the pause after an overcurrent, and after the fourth (R236). -/
def LaneIO.held (io : LaneIO) (k : Nat) : Bool := onBit io.paused k || Assoc.get 0 io.fault k == 4

/-- Whether channel `k` is a pulse source in its dark window (R231). -/
def LaneIO.inDark (io : LaneIO) (k : Nat) : Bool := decide (24 ≤ k) && onBit io.dark (k - 24)

/-- Whether a fault of a channel keeps it from being driven: latched (0x1, 0x2, 0x4), or in its overcurrent pause (R236). -/
def LaneIO.blocked (io : LaneIO) (k : Nat) : Bool :=
  let f := Assoc.get 0 io.fault k
  f == 1 || f == 2 || f == 4 || onBit io.paused k || onBit io.latched (groupOf k)

/-- A fault reset of the groups of a mask (R246): their channels' latched faults and their latches are cleared. -/
def LaneIO.faultReset (io : LaneIO) (mask : BitVec 4) : LaneIO :=
  let chans := (List.range 32).filter (fun c => onBit mask (groupOf c))
  let io := chans.foldl (fun io c =>
    let f := Assoc.get 0 io.fault c
    if f == 1 || f == 2 || f == 4 then
      { io with fault := Assoc.put 0 io.fault c 0, xpair := Assoc.put none io.xpair c none,
                retry := if f == 4 then Assoc.put 0 io.retry c 0 else io.retry,
                ocRun := if f == 4 then Assoc.put 0 io.ocRun c 0 else io.ocRun, highRun := Assoc.put 0 io.highRun c 0,
                quench := putBit io.quench c (onBit io.paused c || io.inDark c) }
    else io) io
  let io := (List.range 4).foldl (fun io g =>
    if onBit mask g then
      { io with groupCause := Assoc.put 0 io.groupCause g 0, groupChan := Assoc.put 0 io.groupChan g 0,
                groupExt := putBit io.groupExt g false }
    else io) io
  { io with latched := io.latched &&& ~~~ mask, groupQuench := io.groupQuench &&& ~~~ mask, resetCnt := sat io.resetCnt }

/-! ## The drive -/

/-- The commands of the cycle now driven (VO_CMD): the bound OUT values of used channels, and 1 for a pulse source. -/
def Lane.commands (l : Lane) (m : Image) : BitVec 32 :=
  (List.range 32).foldl (fun v k =>
    let o := m.output k
    putBit v k (o.pulse || (o.used && decide (l.pe.bound o.var ≠ 0#16)))) 0#32

/-- Whether neither a fault nor the unit's role keeps a lane from channel `k` (R236), given whether the unit is the sleeper and whether it may
drive its shared outputs (R265). -/
def LaneIO.permits (io : LaneIO) (m : Image) (sleeper share : Bool) (k : Nat) : Bool :=
  !io.blocked k && (!(m.output k).shared || (!sleeper && share))

/-- Whether channel `k` is driven in the cycle with these commands, but for the dark windows of a pulse source (R236). -/
def LaneIO.granted (io : LaneIO) (m : Image) (cmd : BitVec 32) (sleeper share : Bool) (k : Nat) : Bool :=
  ((m.output k).used || (m.output k).pulse) && onBit cmd k && io.permits m sleeper share k

/-- Whether R236 lets a lane deliver the toggle pattern to channel `k`. -/
def LaneIO.mayDrive (io : LaneIO) (m : Image) (cmd : BitVec 32) (sleeper share : Bool) (k : Nat) : Bool :=
  io.granted m cmd sleeper share k && !io.inDark k

/-- Whether the lane drives channel `k` for its demand: by the pattern, or as a pulse source in its dark window; an on-pulse is no drive (R400). -/
def LaneIO.driven (io : LaneIO) (k : Nat) : Bool :=
  (onBit io.toggle k || io.inDark k) && !(match io.window with
    | some w => w.onPulse && w.channel == k
    | none => false)

/-- The drive of one channel set for a cycle (R236, R400): the pattern, the quench that a fault reaction or a dark window still holds, and the
instants at which the drive begins and ends. -/
def LaneIO.driveChannel (m : Image) (cmd : BitVec 32) (sleeper share : Bool) (ms : Nat) (io : LaneIO) (k : Nat) : LaneIO :=
  let was := io.driven k
  let now := io.granted m cmd sleeper share k
  { io with toggle := putBit io.toggle k (now && !io.inDark k),
            quench := putBit io.quench k (io.held k || io.inDark k),
            driveBegin := if now && !was then Assoc.put 0 io.driveBegin k ms else io.driveBegin,
            lowRun := if now && !was then Assoc.put 0 io.lowRun k 0 else io.lowRun,
            highRun := if was && !now then Assoc.put 0 io.highRun k 0 else io.highRun,
            driveEnd := if was && !now then Assoc.put 0 io.driveEnd k ms else io.driveEnd }

/-- The drive of a lane set for a cycle at its tide's millisecond (R105, R236, R242). A channel whose test window is open keeps its
pulse unless its command changes or the lane may no longer drive it; then the window is aborted. -/
def Lane.setDrive (l : Lane) (m : Image) (sleeper share : Bool) : Lane :=
  let io := l.io
  let cmd := l.commands m
  let io1 := io.abortTestIf l.ms (fun w =>
    onBit cmd w.channel != onBit io.cmd w.channel || !io.permits m sleeper share w.channel)
  let keep : Option Nat := io1.window.map (·.channel)
  let io2 := (List.range 32).foldl (fun io k =>
    if keep = some k then io else io.driveChannel m cmd sleeper share l.ms k) io1
  { l with io := { io2 with drives := true, cmd := cmd, groupDrive := ~~~ io2.latched, groupQuench := io2.latched,
                            watchOut := !sleeper && share } }

/-- The drive of lane `x` set for a cycle (R236), with what an aborted test brings (R243). -/
def Lane.drive (l : Lane) (x : LaneId) (m : Image) (sleeper share : Bool) : Lane :=
  (l.setDrive m sleeper share).afterAbort x l.io.window

/-! ## The judgement of a regular sample -/

/-- A channel the lane does not drive reads high (Table 9-4): the third such sample in a row, the first at least 6 ms after its
last drive or dark window ended, latches the channel and its group. -/
def Lane.judgeHigh (l : Lane) (x : LaneId) (k : Nat) : Lane :=
  let io := l.io
  if onBit io.readback k && decide (Assoc.get 0 io.driveEnd k + 6 ≤ l.ms) then
    let n := Assoc.get 0 io.highRun k + 1
    let l := { l with io := { io with highRun := Assoc.put 0 io.highRun k n } }
    let f := Assoc.get 0 io.fault k
    if 3 ≤ n && f != 1 && f != 2 then l.latchFault x k 1 1 else l
  else { l with io := { io with highRun := Assoc.put 0 io.highRun k 0 } }

/-- A driven channel (Table 9-4): the third low sample in a row, the first at least 3 ms after its drive began, with its group
closed and its field supply OK, marks it FAULT 0x5; a high sample clears that, and a sample with the group open or the supply low breaks the run.
DESIGN CHOICE: Table 9-4 gives its codes no priority. FAULT 0x5 is entered only on a channel that holds no other code, so a driven channel that shows
0x3 keeps it and writes no record for 0x5 (log entry 119). -/
def Lane.judgeLow (l : Lane) (x : LaneId) (k : Nat) : Lane :=
  let io := l.io
  let f := Assoc.get 0 io.fault k
  if onBit io.readback k then
    { l with io := { io with lowRun := Assoc.put 0 io.lowRun k 0, fault := if f = 5 then Assoc.put 0 io.fault k 0 else io.fault } }
  else
    let ok := if k < 16 then io.fs1Ok else io.fs2Ok
    if decide (Assoc.get 0 io.driveBegin k + 3 ≤ l.ms) && onBit io.groupsRead (groupOf k) && ok then
      let n := Assoc.get 0 io.lowRun k + 1
      let l := { l with io := { io with lowRun := Assoc.put 0 io.lowRun k n } }
      if 3 ≤ n && f == 0 then
        { l with io := { l.io with fault := Assoc.put 0 io.fault k 5 } }.faultRecord x k 5
      else l
    else { l with io := { io with lowRun := Assoc.put 0 io.lowRun k 0 } }

/-- A shared output in the sleeper (R248), judged on a compared sample: the readback `read` taken at millisecond `ms` against the watcher's command.
A mismatch is FAULT 0x6 for as long as it stands (`LaneIO.faultCode`). -/
def Lane.judgePartner (x : LaneId) (ms : Nat) (read : BitVec 32) (l : Lane) (k : Nat) : Lane :=
  let io := l.io
  if onBit read k = onBit io.partnerCmd k then
    { l with io := { io with partnerRun := Assoc.put 0 io.partnerRun k 0, partnerDiff := putBit io.partnerDiff k false } }
  else if Assoc.get 0 io.partnerMs k + 6 ≤ ms then
    let n := Assoc.get 0 io.partnerRun k + 1
    let l := { l with io := { io with partnerRun := Assoc.put 0 io.partnerRun k n } }
    if n = 3 then { l with io := { l.io with partnerDiff := putBit io.partnerDiff k true } }.log x 0x0904 2 [k] else l
  else l

/-- One compared sample of a sleeper's shared outputs (R248): its millisecond and its readback. -/
def Lane.compareSample (m : Image) (x : LaneId) (l : Lane) (p : Nat × BitVec 32) : Lane :=
  ((List.range 32).filter (fun k => (m.output k).shared)).foldl (Lane.judgePartner x p.1 p.2) l

/-- A sleeper's regular sample of its shared outputs (R248): compared while the cycle's mirror frame is there; until then it is held for the frame
that may still come. -/
def Lane.partnerSample (l : Lane) (m : Image) (x : LaneId) : Lane :=
  if l.io.partnerLive then l.compareSample m x (l.ms, l.io.readback)
  else { l with io := { l.io with partnerHeld := l.io.partnerHeld ++ [(l.ms, l.io.readback)] } }

/-- The samples of the cycle that were held for its mirror frame, compared once it is there (R248). -/
def Lane.compareHeld (l : Lane) (m : Image) (x : LaneId) : Lane :=
  if l.io.partnerLive then l.io.partnerHeld.foldl (Lane.compareSample m x) { l with io := { l.io with partnerHeld := [] } } else l

/-- VO_CHAN[k].FAULT: the code of R244, or 0x6 while the channel is mismatched (R248). -/
def LaneIO.faultCode (io : LaneIO) (k : Nat) : Nat := if onBit io.partnerDiff k then 6 else Assoc.get 0 io.fault k

/-- A new watcher's shared outputs are its own: the comparison with a partner ends, and what it showed. DESIGN CHOICE: R248 does not say what becomes
of a FAULT 0x6 at the change of role; it clears (log entry 120). -/
def LaneIO.endPartner (io : LaneIO) : LaneIO :=
  { io with partnerCmd := 0, partnerLive := false, partnerDiff := 0, partnerRun := [], partnerHeld := [] }

/-- The judgement of one output channel at a regular sample in a lane in service (R244); a sleeper's shared outputs are judged by R248 alone. DESIGN
CHOICE: a sample taken while a test pulse's quench or pattern is on the channel judges nothing and breaks no run (log entry 121). -/
def Lane.judgeOutput (m : Image) (x : LaneId) (sleeper : Bool) (l : Lane) (k : Nat) : Lane :=
  if (m.output k).shared && sleeper then l
  else if !l.inService || l.io.inDark k then l
  else if l.io.driven k && !onBit l.io.quench k then l.judgeLow x k
  else if onBit l.io.toggle k then l
  else l.judgeHigh x k

/-- The judgement of all outputs at a regular sample (R244, R248). -/
def Lane.judgeOutputs (l : Lane) (m : Image) (x : LaneId) (sleeper : Bool) : Lane :=
  let l := (List.range 32).foldl (Lane.judgeOutput m x sleeper) l
  if sleeper then l.partnerSample m x else l

/-- A field supply below 17 V at three consecutive samples clears its OK flag; at 17 V or more it is OK (Table 9-4). Voltages in
units of 0.1 V. The result: the run of low samples and the flag. -/
def supplyStep (v low : Nat) (ok : Bool) : Nat × Bool :=
  if 170 ≤ v then (0, true) else (low + 1, if 3 ≤ low + 1 then false else ok)

/-! ## The switching network (R16, R233 to R235) -/

/-- Whether a lane's pattern is fast enough to hold an element closed: 10 kHz or more, as measured (R234, Table 16-7). -/
def LaneIO.fast (io : LaneIO) : Bool := decide (10 ≤ io.toggleFreq)

/-- A switch element of output channel `k` conducts while its lane delivers a pattern of 10 kHz or more and does not assert its quench
(R234, R235). -/
def LaneIO.element (io : LaneIO) (k : Nat) : Bool := onBit io.toggle k && io.fast && !onBit io.quench k

/-- A switch element of group switch `g`, likewise. -/
def LaneIO.groupElement (io : LaneIO) (g : Nat) : Bool := onBit io.groupDrive g && io.fast && !onBit io.groupQuench g

/-- A network of six elements conducts while both elements of one of its three paths, A with B, B with C and C with A, conduct (R233). -/
def State.network (s : State) (element : LaneIO → Bool) : Bool :=
  let e := fun x => element (s.lane x).io
  (e .a && e .b) || (e .b && e .c) || (e .c && e .a)

/-- Whether the network of output channel `k` conducts (R233). -/
def State.channelConducts (s : State) (k : Nat) : Bool := s.network (·.element k)

/-- Whether group switch `g` conducts (R233). -/
def State.groupConducts (s : State) (g : Nat) : Bool := s.network (·.groupElement g)

/-- Whether an output is connected to its field supply: its own network and its group's lie in series (R233). -/
def State.outputConducts (s : State) (k : Nat) : Bool := s.groupConducts (groupOf k) && s.channelConducts k

/-- Whether at least two lanes deliver the toggle pattern to WATCH_OUT (Table 10-7). -/
def State.watchDriven (s : State) : Bool := s.network (·.watchOut)

/-- Whether WATCH_OUT is lit: its network of six elements conducts (R266). -/
def State.watchLit (s : State) : Bool := s.network (fun io => io.watchOut && io.fast)

end Sys2Proof.Machine
end

