-- ==== Sys2Proof/Machine/PairCore.lean ====
section
/-! DEFINITION. The pair: the mirror data a watcher sends (R257, R258), a mirror frame as a sleeper takes it (R255, R260, R272),
readiness (R269), the partner report (R261), and the change of role (R250, R264). -/

namespace Sys2Proof.Machine

/-! ## The mirror data of the watcher -/

/-- The state of the swap as the control block of cycle n carries it (Table 10-3, R271): notice to cycle s − 3, commit or cancel in
cycle s − 2. -/
def Swap.carried (w : Swap) (n : Nat) : Nat :=
  if w.state = 0 ∨ w.cycle = 0 then 0
  else if n + 2 = w.cycle then (if w.sentCommit then 2 else 3)
  else if n + 2 < w.cycle ∧ w.state = 1 then 1
  else 0

/-- The shared commands of a lane's committed state (Table 10-3). -/
def Lane.sharedCmd (l : Lane) (m : Image) : Nat :=
  (List.range 32).foldl (fun v k =>
    let o := m.output k
    v + flag (o.shared && o.used && decide (l.pe.bound o.var ≠ 0#16)) k) 0

/-- The control block of cycle n (Table 10-3). -/
def controlBlock (m : Image) (l : Lane) (u : UnitState) (mask : Mask) (n : Nat) : List Byte :=
  let sw := u.swap.carried n
  let ch := u.lastChange
  let req := match ch with
    | some (_, b) => b
    | none => []
  padTo 4096 (be 8 n ++ padTo 64 m.digest ++ plainDigest l.pe.consts ++ be 4 m.mirrored.length ++ be 4 m.senders.length ++
    be 4 (l.sharedCmd m) ++ be 1 (Mask.bits mask) ++ be 1 sw ++ be 2 0 ++ be 8 (if sw = 0 then 0 else u.swap.cycle) ++
    be 2 req.length ++ padTo 6 [] ++ be 8 (match ch with
      | some (a, _) => a
      | none => 0) ++ padTo 2176 req)

/-- The mirror data of cycle n (R257): the control block, the session records, the mirrored values of the committed state. -/
def mirrorData (m : Image) (l : Lane) (u : UnitState) (mask : Mask) (n : Nat) : List Byte :=
  controlBlock m l u mask n ++
    m.senders.flatMap (fun e => be 2 e.sid ++ be 2 0 ++ be 4 (l.ts.at e.sid).nextSeq ++ be 4 0) ++
    m.mirrored.flatMap (fun i => be 2 (Table.read l.pe.cur i).toNat)

/-- A list cut into pieces of at most `k`, `n` of them. -/
def chunks {α : Type} (k : Nat) : Nat → List α → List (List α)
  | 0, _ => []
  | n + 1, bs => bs.take k :: chunks k n (bs.drop k)

/-- The payloads of the mirror telegrams (R258): each an 8-byte segment header and a chunk of at most 1,016 bytes. -/
def mirrorSegments (d : List Byte) : List (List Byte) :=
  let n := ceilDiv d.length 1016
  ((chunks 1016 n d).zip (List.range n)).map (fun p => be 2 p.2 ++ be 2 n ++ be 4 (1016 * p.2) ++ p.1)

/-! ## The mirror frame in a sleeper -/

/-- The image that a mirror frame of a digest is laid out by, and whether it must be mapped (R260, R272): the lane's own, or the
source image of its state-transfer map, read from its other slot. -/
def Lane.mirrorImage (l : Lane) (m : Image) (digest : List Byte) : Option (Image × Bool) :=
  if digest = m.digest then some (m, false)
  else if m.transfer.issue ≠ 0 ∧ digest = m.transfer.digest then
    match l.otherSlot.image with
    | some src => if src.digest = digest then some (src, true) else none
    | none => none
  else none

/-- A mirror frame whose segments are all there, checked for its length and the image it names (R260). -/
def Lane.mirrorComplete (l : Lane) (m : Image) (data : List Byte) : Bool :=
  match l.mirrorImage m (slice data 8 64) with
  | some (src, _) => decide (data.length = src.mirrorVolume)
  | none => false

/-- A mirror telegram accepted (R260): its segment joins the frame of its cycle; a complete frame stands in `full` with the stamp
of its last segment; a lane in resync keeps the last 32 for its replay (R151). -/
def Lane.takeSegment (l : Lane) (m : Image) (t : Tele) (stamp : Nat) : Lane :=
  let n := t.time / m.period
  let idx := getBE t.payload 0 2
  let cnt := getBE t.payload 2 2
  let r := if l.mir.cycle = n ∧ l.mir.count = cnt then l.mir
    else { l.mir with cycle := n, count := cnt, segs := [], stamp := 0 }
  let r := { r with lastSeq := some t.seq, segs := Assoc.put [] r.segs idx (t.payload.drop 8), stamp := max r.stamp stamp }
  let all := (List.range cnt).all (fun i => decide (Assoc.get [] r.segs i ≠ []))
  let data := (List.range cnt).flatMap (fun i => Assoc.get [] r.segs i)
  if all && decide (0 < cnt) && l.mirrorComplete m data then
    let recent := if l.keepsArrivals then ((n, r.stamp, data) :: r.recent).take 32 else []
    { l with mir := { r with full := some (n, r.stamp, data), recent := recent } }
  else { l with mir := r }

/-- A value written into current and next (R255). -/
def Engine.writeBoth (e : Engine) (i : Nat) (v : W16) : Engine :=
  { e with cur := Table.write e.cur i v, next := Table.write e.next i v }

/-- The frame of cycle n − 1 as a sleeper lane finds it at the freeze point of cycle n: complete, and stamped earlier (R260). -/
def Lane.frameFor (l : Lane) (m : Image) (n : Nat) : Option (List Byte × Nat) :=
  match l.mir.full with
  | some (c, stamp, data) => if c + 1 = n ∧ stamp < m.freezeAt n then some (data, stamp) else none
  | none => none

/-- The next sequence numbers of a frame of image `src` in a lane's contexts (R255). -/
def Sessions.mirrored (t : Sessions) (m src : Image) (data : List Byte) : Sessions :=
  (src.senders.zip (List.range src.senders.length)).foldl (fun t p =>
    let off := 4096 + 12 * p.2
    match m.session p.1.sid with
    | some e => if e.tx then t.set e.sid { t.at e.sid with nextSeq := getBE data (off + 4) 4 } else t
    | none => t) t

/-- A sleeper's lane that ends its catch-up takes the next sequence numbers of the last complete frame, as the donors have (R151, R255). -/
def Lane.mirrorSeqs (l : Lane) (m : Image) : Lane :=
  match l.mir.full with
  | some (_, _, data) => (match l.mirrorImage m (slice data 8 64) with
    | some (src, _) => { l with ts := l.ts.mirrored m src data }
    | none => l)
  | none => l

/-- The mirrored values written (R255), through the state-transfer map where the frame is of its source image (R272). -/
def Lane.mirrorValues (l : Lane) (m : Image) (data : List Byte) : Lane :=
  match l.mirrorImage m (slice data 8 64) with
  | none => l
  | some (src, mapped) =>
    let base := 4096 + 12 * src.senders.length
    let vals := src.mirrored.zip (List.range src.mirrored.length)
    let value := fun (i : Nat) => BitVec.ofNat 16 (getBE data (base + 2 * i) 2)
    let pe := if mapped then
        m.transfer.pairs.foldl (fun e p =>
          match vals.find? (fun v => v.1 == p.2) with
          | some v => e.writeBoth p.1 (value v.2)
          | none => e) l.pe
      else vals.foldl (fun e v => e.writeBoth v.1 (value v.2)) l.pe
    { l with pe := pe, ts := l.ts.mirrored m src data }

/-- A lane's view of the watcher's shared commands from a mirror frame (R248). The tide mark of the cycle is the instant at which a
changed command acts. -/
def LaneIO.partner (io : LaneIO) (cmd : BitVec 32) (ms : Nat) : LaneIO :=
  let io := (List.range 32).foldl (fun io k =>
    if onBit io.partnerCmd k = onBit cmd k then io
    else { io with partnerMs := Assoc.put 0 io.partnerMs k ms, partnerRun := Assoc.put 0 io.partnerRun k 0 }) io
  { io with partnerCmd := cmd, partnerLive := true }

/-- MIRROR_APPLY (R255): at the freeze point of cycle n a sleeper lane applies the complete frame of cycle n − 1, or counts a run
broken. Its change request is kept for the apply cycle (R262). -/
def Lane.mirrorApply (l : Lane) (m : Image) (n : Nat) : Lane :=
  match l.frameFor m n with
  | none => { l with mir := { l.mir with run := 0 } }
  | some (data, _) =>
    let l := l.mirrorValues m data
    let io := l.io.partner (BitVec.ofNat 32 (getBE data 144 4)) (n * m.tCycle)
    let len := getBE data 160 2
    let ch := if len = 0 then l.mir.change else some (getBE data 168 8, slice data 176 len)
    { l with io := io, mir := { l.mir with applied := some (n - 1), run := l.mir.run + 1, change := ch } }

/-! ## Readiness and the partner report -/

/-- Whether a lane applies mirror frames through its state-transfer map (XL_STATUS.MAPPED). -/
def State.mapped (s : State) : Bool :=
  s.sleeps && (match s.serviceLanes with
    | x :: _ => (match (s.lane x).mir.full, (s.lane x).image? with
      | some (_, _, data), some m => slice data 8 64 != m.digest && ((s.lane x).mirrorImage m (slice data 8 64)).isSome
      | _, _ => false)
    | [] => false)

/-- XL_STATUS.NOT_READY (R269, Table 10-7): the first condition that fails; but a sleeper that can apply no frame of the watcher's image names that, 0x4,
ahead of the frames it has not applied (R272). -/
def State.notReady (s : State) : Nat :=
  if !s.sleeps then 5
  else match s.serviceLanes with
    | x :: _ :: _ =>
      let l := s.lane x
      let m := l.image
      let differs := s.rings.ring.any (fun p => p.2.schedDiff && (m.ring p.1).mode == .native)
      let (sameT, known) := match s.unit.partner with
        | some r => (r.tCycle == m.tCycle, r.digest == m.digest.take 8 || r.digest == m.transfer.digest.take 8)
        | none => (false, true)
      if !known then 4
      else if s.unit.mirrorRun < 16 then 2
      else if !sameT || differs then 3
      else 0
    | _ => 1

/-- UP_STATUS.SWAP_BLOCK (R360): firmware of any part on trial, or fallen back since the last activation. -/
def State.swapBlock (s : State) : Nat :=
  let onTrial := fun (f : Firmware) => (if f.active then f.slot1.mark else f.slot0.mark) == .trial
  if LaneId.list.any (fun x => onTrial (s.lane x).ls.fw) || onTrial s.ph.fw then 1
  else if s.upd.fellBack then 2 else 0

/-- The swap response of a sleeper's report of cycle n (R261, R271, R360). -/
def State.swapResponse (s : State) (n : Nat) : Nat :=
  if !s.sleeps || s.unit.swap.cycle = 0 then 0
  else if s.unit.swap.gotCommit ∧ n + 1 = s.unit.swap.cycle then 2
  else if s.unit.swap.state = 1 then (if s.notReady = 0 ∧ s.swapBlock = 0 then 1 else 3)
  else 0

/-- The identifier of the unit, as its lanes have latched it (R325). -/
def State.unitId (s : State) : Nat := (s.lane (s.serviceLanes.headD .a)).rc.opts.unitId

/-- The partner report of a unit in cycle n (R261). -/
def State.partnerReport (s : State) (n : Nat) : PartnerReport :=
  let m := s.image
  { unit := s.unitId, role := s.unit.role.code, mask := s.serviceMask, rotation := s.unit.rot.state,
    epoch := s.unit.epoch, cycle := n, digest := m.digest.take 8, ready := s.notReady, swap := s.swapResponse n,
    tCycle := m.tCycle }

/-! ## The cross-links (R256) -/

/-- Whether the pumphouse sends on a cross-link: it runs its ports, and has not refused the port's SFP, whose transmitter it leaves disabled (R393). -/
def State.crossSends (s : State) (p : XPort) : Bool := s.phRuns && !bit s.ph.sfpRefused p.index

/-- A frame sent to the partner on both cross-links (R256). -/
def State.sendCross (s : State) (kind : Nat) (content : List Byte) : State :=
  [XPort.p27, XPort.p28].foldl (fun s p =>
    if s.crossSends p then s.emit (.cross p (crossFrame (companion s.unitId) s.unitId kind content)) else s) s

/-- A valid frame of the partner on a cross-link (R263, R264): the cycle is not silent, and a held takeover ends. -/
def UnitState.heardOn (u : UnitState) (port : XPort) : UnitState :=
  let u := { u with held := false }
  match port with
  | .p27 => { u with heard27Now := true }
  | .p28 => { u with heard28Now := true }

/-- What the pumphouse makes of a frame that arrives on a cross-link (R256, Table 10-6): a wrong FCS is counted; a valid frame of the partner is
heard, and its kind and content go on. A refused SFP only sends nothing (R393). -/
def State.crossIn (s : State) (port : XPort) (frame : List Byte) : State × Option (Nat × List Byte) :=
  let t := s.traffic (port.index + 1)
  if !s.phRuns then (s, none)
  else if !crossSound frame then
    ({ t with xl := match port with
      | .p27 => { s.xl with err27 := sat s.xl.err27 }
      | .p28 => { s.xl with err28 := sat s.xl.err28 } }, none)
  else match readCross s.unitId (companion s.unitId) frame with
    | some kc => ({ t with unit := s.unit.heardOn port }, some kc)
    | none => (t, none)

/-! ## Changes of role -/

/-- The answer to the swap request (Table 10-4), which is pending no more. -/
def State.answerSwap (s : State) (code : Nat) : State :=
  let t := { s with unit := { s.unit with swap := { s.unit.swap with mailbox := none }, pend := s.unit.pend.filter (fun p => p.format != 3) } }
  match s.unit.swap.mailbox with
  | some mb => t.ackOut mb code
  | none => t

/-- The former watcher has followed the new watcher's SYNC, or its mirror frame, of cycle `n`: the swap request is ACCEPTED (Table
10-4). -/
def State.swapFollowed (s : State) (n : Nat) : State :=
  if s.unit.swap.state = 3 ∧ s.unit.swap.cycle = n ∧ s.sleeps then s.answerSwap 0 else s

/-- A unit record and a notice of a new role (R302, R365): `why` is 0 start, 1 fail-over, 2 swap, 3 gave way. -/
def State.roleNotice (s : State) (why : Nat) : State :=
  (s.logUnit 0x0A01 1 [s.unit.role.code, s.unit.epoch, why]).notice 1 [s.unit.role.code, s.unit.epoch]

/-- The forces in effect, with their values. -/
def Engine.forced (e : Engine) : List (Nat × W16) := e.forces.map (fun p => (p.1, p.2.getD 0#16))

/-- The FORCE records of releases, written when the cycle is committed: the new value is the committed one (R126). -/
def Lane.releaseRecords (l : Lane) (freed : List (Nat × W16)) : Lane :=
  freed.foldl (fun l p => l.logUnit 0x0503 1 [p.1, p.2.toNat, (Table.read l.pe.cur p.1).toNat, 2]) l

/-- A lane whose forces end because its unit becomes the watcher: forces are not mirrored, and a new watcher runs without (R126). -/
def Lane.endForces (l : Lane) : Lane :=
  let l := l.releaseRecords l.pe.forced
  { l with pe := { l.pe with forces := [] } }

/-- The epoch of the RING sessions of every ring. -/
def everyRing (epoch : Nat) : Assoc Nat := (List.range 4).foldl (fun a r => Assoc.put 0 a r epoch) []

/-- The next sequence numbers of a new watcher that has applied no mirror frame since its start: 1 in every session (R264). -/
def Lane.firstSeqs (l : Lane) (m : Image) : Lane :=
  { l with ts := m.senders.foldl (fun t e => t.set e.sid { t.at e.sid with nextSeq := 1 }) l.ts }

/-- A CAN port without its reference messages: only the watcher sends them (R287). -/
def CanPort.dropRefs (c : CanPort) : CanPort :=
  { c with queue := c.queue.filter (fun e => e.sid.isSome),
           pinned := match c.pinned with
             | some e => if e.sid.isSome then some e else none
             | none => none }

/-- The state from which a unit that starts as the sleeper runs: its retained-state store is not used (R273). -/
def Lane.forgetStore (l : Lane) : Lane :=
  if l.inService then
    let t := l.image.coldState
    { l with pe := { l.pe with prev := t, cur := t, next := t } }
  else l

/-- The contact of UNIT_OK closed by the firmware of the pumphouse; without power, and before it runs, the contact stays as it is (R327, R390). -/
def Pumphouse.closeContact (p : Pumphouse) : Pumphouse := { p with unitOk := p.unitOk || (p.powered && p.released.getLsbD 3 && p.fwOk) }

/-- A unit becomes the watcher with an epoch (R252, R264): it stores the epoch first; the RING sessions of a ring change to it at that ring's next
SYNC, so `ringEpoch` stays as it is but at the unit's start. A swap that was only requested ends with the role it asked to leave, and its requester
gets SWAP_ABORTED (DESIGN CHOICE, log entry 125). UNIT_OK closes, once the pumphouse's firmware runs (R390). -/
def State.becomeWatcher (s : State) (epoch : Nat) (why : Nat) : State :=
  let s := if why = 2 then s else s.answerSwap 0x0514
  let s := s.configWrite (fun c => { c with epoch := epoch })
  let s := s.mapLanes (fun _ l =>
    let l := if why = 0 || s.unit.mirrored then l.endForces else l.endForces.firstSeqs l.image
    { l with io := l.io.endPartner })
  { s with
      unit := { s.unit with role := .watcher, epoch := epoch, ringEpoch := if why = 0 then everyRing epoch else s.unit.ringEpoch, tideSet := true,
                            silentRun := 0, held := false, heldRec := false, mirrorSeq := 0, giveWay := false,
                            swap := if why = 2 then s.unit.swap else Swap.reset },
      ph := s.ph.closeContact
      xl := { s.xl with lastTakeover := s.cycle % 2 ^ 32 } }.roleNotice why

/-- A unit becomes the sleeper of a watcher with an epoch (R250, R253, R267); the RING sessions of a ring take the epoch at that ring's next SYNC
but at the unit's start (R252). A unit that starts so uses no retained state (R273); a former watcher sends no reference message that is still
queued (R287). UNIT_OK closes, once the pumphouse's firmware runs (R390). -/
def State.becomeSleeper (s : State) (epoch : Nat) (why : Nat) : State :=
  let s := s.configWrite (fun c => { c with epoch := epoch })
  ({ s with
      ph := s.ph.closeContact,
      unit := { s.unit with role := .sleeper, epoch := epoch, ringEpoch := if why = 0 then everyRing epoch else s.unit.ringEpoch,
                            silentRun := 0, held := false, heldRec := false, giveWay := false, mirrorRun := 0 },
      can := Assoc.mapVal CanPort.reset CanPort.dropRefs s.can }.mapLanes (fun _ l =>
    if why = 0 then l.forgetStore else { l with mir := { MirrorRx.reset with doneChange := l.mir.doneChange } })).roleNotice why

end Sys2Proof.Machine
end

