-- ==== Sys2Proof/Machine/Changes.lean ====
section
/-! DEFINITION. Requests as their bytes spell them (Tables 5-3, 5-4), what their items do to the constants and the forces, the constant
overlay, the change-log queue, and the acknowledge once two lanes have committed the apply cycle (R117 to R126, R262). -/

namespace Sys2Proof.Machine

/-! ## Request bytes -/

/-- The header fields of a request (Table 5-3). -/
def reqFormat (b : List Byte) : Nat := getBE b 0 2
def reqCount (b : List Byte) : Nat := getBE b 2 2
def reqOperator (b : List Byte) : Nat := getBE b 4 4
def reqApply (b : List Byte) : Nat := getBE b 8 8
def reqDigest (b : List Byte) : List Byte := slice b 16 64
def reqAuth (b : List Byte) : List Byte := slice b 80 32

/-- An item of 8 bytes (Table 5-4): kind, index and value. -/
structure Item where
  kind  : Nat
  index : Nat
  value : Nat
  deriving DecidableEq, Repr

/-- Item `k` of a request. -/
def itemAt (b : List Byte) (k : Nat) : Item :=
  { kind := getBE b (128 + 8 * k) 1, index := getBE b (129 + 8 * k) 3, value := getBE b (132 + 8 * k) 4 }

/-- The items of a request. -/
def reqItems (b : List Byte) : List Item := (List.range (reqCount b)).map (itemAt b)

/-- A change item (kinds 0x01 and 0x02) and a force item (kinds 0x03 to 0x05). -/
def Item.isChange (i : Item) : Bool := i.kind == 1 || i.kind == 2
def Item.isForce (i : Item) : Bool := i.kind == 3 || i.kind == 4 || i.kind == 5

/-- The constant a change item writes: its own, or the one that backs its PAR variable (R117). -/
def Item.constant (m : Image) (i : Item) : Nat := if i.kind = 1 then i.index else (m.var i.index).constIdx

/-! ## What the items do (R120, R124) -/

/-- One item applied to the constant table or the force table. -/
def Engine.applyItem (m : Image) (e : Engine) (i : Item) : Engine :=
  match i.kind with
  | 1 | 2 => { e with consts := Table.write e.consts (i.constant m) (BitVec.ofNat 32 i.value) }
  | 3 => { e with forces := Assoc.put none e.forces i.index (some (BitVec.ofNat 16 i.value)) }
  | 4 => { e with forces := Assoc.put none e.forces i.index none }
  | 5 => { e with forces := [] }
  | _ => e

/-- A whole request applied. -/
def Engine.applyRequest (m : Image) (e : Engine) (b : List Byte) : Engine := (reqItems b).foldl (Engine.applyItem m) e

/-- The forces that one item releases. -/
def Engine.releasedBy (e : Engine) (i : Item) : List (Nat × W16) :=
  e.forced.filter (fun p => (i.kind == 4 && i.index == p.1) || i.kind == 5)

/-- The forces a request releases, with their values, item after item (R126). -/
def Engine.released (m : Image) (e : Engine) (b : List Byte) : List (Nat × W16) :=
  ((reqItems b).foldl (fun (p : Engine × List (Nat × W16)) i => (p.1.applyItem m i, p.2 ++ p.1.releasedBy i)) (e, [])).2

/-- The FORCE record of an item that sets or changes a force, written when it applies (R126): the old value is the variable's in the committed
state, or the old forced value. -/
def Lane.forceRecord (l : Lane) (i : Item) : Lane :=
  if i.kind ≠ 3 then l
  else match l.pe.forceOf i.index with
    | some old => l.logUnit 0x0503 1 [i.index, old.toNat, i.value, 1]
    | none => l.logUnit 0x0503 1 [i.index, (Table.read l.pe.cur i.index).toNat, i.value, 0]

/-- A lane applies an item with its record. -/
def Lane.applyItem (m : Image) (l : Lane) (i : Item) : Lane :=
  let l := l.forceRecord i
  { l with pe := l.pe.applyItem m i }

/-- A lane applies a request (R120, R124). -/
def Lane.applyRequest (l : Lane) (m : Image) (b : List Byte) : Lane := (reqItems b).foldl (Lane.applyItem m) l

/-! ## The sleeper's change (R262) -/

/-- The change request of the latest complete mirror frame that a sleeper lane knows before the freeze point of cycle n, with its
apply cycle: that of the frame in hand, else of the last one applied. -/
def Lane.mirrorKnown (l : Lane) (m : Image) (n : Nat) : Option (Nat × List Byte) :=
  match l.mir.full with
  | some (_, stamp, data) =>
    let len := getBE data 160 2
    if stamp < m.freezeAt n ∧ len ≠ 0 then some (getBE data 168 8, slice data 176 len) else l.mir.change
  | none => l.mir.change

/-- The change a sleeper lane must apply at the boundary of cycle n (R262): due, under its own image digest, not yet applied. -/
def Lane.mirrorChange (l : Lane) (m : Image) (n : Nat) : Option (Nat × List Byte) :=
  match l.mirrorKnown m n with
  | some (a, b) => if a ≤ n ∧ reqDigest b = m.digest ∧ l.mir.doneChange ≠ some (a, b) then some (a, b) else none
  | none => none

/-- The constants and forces a lane will have in cycle n, with every change that is due then and known now (R150). -/
def State.engineAt (s : State) (x : LaneId) (n : Nat) : Engine :=
  let l := s.lane x
  let m := l.image
  let due := s.unit.pend.filter (fun p => decide (p.format = 1) && decide (p.apply ≤ n) && p.accepted.get x && !p.appliedBy.get x)
  let e := due.foldl (fun e p => e.applyRequest m p.bytes) l.pe
  match (if s.sleeps then l.mirrorChange m n else none) with
  | some (_, b) => e.applyRequest m b
  | none => e

/-! ## The change log's queue (R347) -/

/-- The first 32 bytes of the constant-table digest of a lane: the digest of entries whose kind names no other (log entry 40). -/
def Lane.logDigest (l : Lane) : List Byte := (constDigest l.pe.consts l.pe.forces).take 32

/-- The lane whose values stand for the unit: the first in service, else lane A. -/
def State.voice (s : State) : LaneId := s.serviceLanes.headD .a

/-- A change-log entry put into the queue of entries that wait to be written. -/
def State.pushLog (s : State) (i : LogItem) : State := { s with cfg := { s.cfg with logQueue := s.cfg.logQueue ++ [i] } }

/-- The entry that an event of its own writes: nobody asked for it, and no mailbox waits for it. -/
def eventItem (kind cycle : Nat) (before after : List Byte) : LogItem :=
  { kind := kind, operator := 0, cycle := cycle, before := before, after := after, mailbox := none, code := 0, merged := false }

/-- An entry whose digests do not change. -/
def State.pushPlain (s : State) (kind operator cycle code : Nat) (mailbox : Option Nat) : State :=
  let d := (s.lane s.voice).logDigest
  s.pushLog { kind := kind, operator := operator, cycle := cycle, before := d, after := d, mailbox := mailbox, code := code, merged := false }

/-! ## The overlay (R121) -/

/-- The overlay with a request's change items merged: a later item overwrites an earlier entry; the first request under another image
digest clears the overlay first. -/
def Config.mergeItems (c : Config) (m : Image) (b : List Byte) : Config :=
  let base : Assoc (Option W32) := if c.overlayImg = m.digest then c.overlay else []
  let ov := ((reqItems b).filter Item.isChange).foldl (fun o i =>
    Assoc.put none o (i.constant m) (some (BitVec.ofNat 32 i.value))) base
  { c with overlay := ov, overlayImg := m.digest }

/-- Whether a request has change items. -/
def hasChange (b : List Byte) : Bool := (reqItems b).any Item.isChange

/-- A request committed by two lanes is merged into the overlay, with the plain constant digest after it. -/
def State.mergeOverlay (s : State) (x : LaneId) (p : Pending) : State :=
  if p.format = 1 && hasChange p.bytes then
    let l := s.lane x
    let c := s.cfg.mergeItems l.image p.bytes
    s.configWrite (fun _ => { c with overlayDig := plainDigest l.pe.consts, overlaySeq := p.logSeq })
  else s

/-! ## The commit of an apply cycle (R120, R121, R262) -/

/-- What two lanes' commit of the apply cycle does: the overlay, then the acknowledge; a sleeper's mirrored request enters the change log
instead. A request whose mailbox a pumphouse reset has answered (mailbox 5, R300) is acknowledged no more. -/
def State.settlePend (s : State) (x : LaneId) (p : Pending) : State :=
  let s := s.mergeOverlay x p
  let s := { s with unit := { s.unit with pend := s.unit.pend.filter (fun q => q != p) } }
  if p.mailbox < 4 then s.ackOut p.mailbox 0
  else if p.mailbox ≠ 4 then s
  else
    let d := (s.lane s.voice).logDigest
    s.pushLog { kind := p.format, operator := reqOperator p.bytes, cycle := p.apply, before := d, after := d, mailbox := none, code := 0,
                merged := hasChange p.bytes }

/-- Lane `x` has committed cycle n: it counts towards every request it applied at or before n; forces that the request released are
recorded; two lanes settle it, which is the pumphouse's part: while its cores are in reset it waits (State.settleRest). -/
def State.noteCommit (s : State) (x : LaneId) (n : Nat) : State :=
  s.unit.pend.foldl (fun s p =>
    if (p.format ≤ 4 || p.format == 16) && p.appliedBy.get x && !p.commits.get x && decide (p.apply ≤ n) then
      let s := s.modLane x (fun l => l.releaseRecords p.freed)
      let q := { p with commits := p.commits.set x true }
      let s := { s with unit := { s.unit with pend := s.unit.pend.map (fun r => if r = p then q else r) } }
      if 2 ≤ Mask.count q.commits && s.coresRun then s.settlePend x q else s
    else s) s

/-- The requests that two lanes committed while the pumphouse was in reset, settled once its cores run again (R120, R121). -/
def State.settleRest (s : State) : State :=
  s.unit.pend.foldl (fun s p => if 2 ≤ Mask.count p.commits then s.settlePend s.voice p else s) s

end Sys2Proof.Machine
end

