-- ==== Sys2Proof/Machine/ImageCheck.lean ====
section
/-! DEFINITION. The bytes of a Polder image (Tables 2-2 to 2-11), the load-time checks in the order of Table 2-12 (R52), and the
image a lane reads once all of them pass. `loadImage` answers the refusal code of the first check that fails, with the offending
index where one exists and 0 where none does (log entry 13). -/

namespace Sys2Proof

/-- What a lane's own records settle for checks 5, 7 and 8: the enrolled key, the station identifier of the enrolment record and
the image issue floor (R350, R353). -/
structure LoadEnv where
  key     : Option (List Byte)
  station : Nat
  floor   : Nat
  deriving DecidableEq, Repr

/-- Cuts `bs` into `k` pieces of `n` bytes. -/
def pieces (n : Nat) : Nat → List Byte → List (List Byte)
  | 0, _ => []
  | k + 1, bs => bs.take n :: pieces n k (bs.drop n)

/-- The position of the first entry that fails, counted from 0. -/
def firstBad {α : Type} (bad : α → Bool) (l : List α) : Option Nat := l.findIdx? bad

/-- The position of the first key that is not above the key before it, counted on from `i`. -/
def firstFall : Nat → List Nat → Option Nat
  | i, a :: b :: r => if a < b then firstFall (i + 1) (b :: r) else some (i + 1)
  | _, _ => none

/-- The position of the first entry whose key occurred before it. -/
def firstRepeat (seen : List Nat) : List Nat → Nat → Option Nat
  | [], _ => none
  | k :: ks, i => if seen.contains k then some i else firstRepeat (k :: seen) ks (i + 1)

/-- The file with its nine directory entries: type, offset and length (Table 2-3). -/
structure RawImage where
  file : List Byte
  dir  : List (Nat × Nat × Nat)
  deriving DecidableEq, Repr

/-- The file with its directory read. -/
def RawImage.ofBytes (f : List Byte) : RawImage :=
  { file := f,
    dir := (pieces 12 9 (slice f 64 108)).map (fun e => (getBE e 0 2, getBE e 4 4, getBE e 8 4)) }

/-- A header field. -/
def RawImage.hdr (r : RawImage) (off n : Nat) : Nat := getBE r.file off n

/-- The offset of section `i`, 0 for the variable table up to 8 for the signature block. -/
def RawImage.secOff (r : RawImage) (i : Nat) : Nat := (r.dir.getD i (0, 0, 0)).2.1

/-- The length of section `i`. -/
def RawImage.secLen (r : RawImage) (i : Nat) : Nat := (r.dir.getD i (0, 0, 0)).2.2

/-- The bytes of section `i`. -/
def RawImage.sec (r : RawImage) (i : Nat) : List Byte := slice r.file (r.secOff i) (r.secLen i)

/-- Header counts and parameters (Table 2-2). -/
def RawImage.tCycle (r : RawImage) : Nat := r.hdr 24 2
def RawImage.freeze (r : RawImage) : Nat := r.hdr 26 2
def RawImage.nVars (r : RawImage) : Nat := r.hdr 36 4
def RawImage.nTerms (r : RawImage) : Nat := r.hdr 40 4
def RawImage.nLevels (r : RawImage) : Nat := r.hdr 44 2
def RawImage.nSess (r : RawImage) : Nat := r.hdr 46 2
def RawImage.nConst (r : RawImage) : Nat := r.hdr 48 4
def RawImage.nFields (r : RawImage) : Nat := r.hdr 52 2

/-- The image digest: the first 64 bytes of SHAKE256 over every byte before the signature block (R51). -/
def RawImage.digest (r : RawImage) : List Byte := shake256 64 (r.file.take (r.secOff 8))

/-! Checks 1 to 10. -/

/-- A check that names no offender. -/
def plain (bad : Bool) : Option Nat := if bad then some 0 else none

/-- Check 4 for one section: alignment, no overlap with what stands before, at most 7 padding bytes, all zero, and the section
within the file (R30, Table 2-12). It answers the offset of the padding byte that is not zero, else that of the section (log entry 13). -/
def badPlace (f : List Byte) (prevEnd off len : Nat) : Option Nat :=
  if off % 8 ≠ 0 ∨ off < prevEnd ∨ prevEnd + 7 < off ∨ f.length < off + len then some off
  else (firstBad (fun b => b != 0#8) (slice f prevEnd (off - prevEnd))).map (prevEnd + ·)

/-- Check 4 over the sections in file order. -/
def badPlaces (f : List Byte) : Nat → List (Nat × Nat × Nat) → Option Nat
  | _, [] => none
  | prevEnd, (_, off, len) :: rest => (badPlace f prevEnd off len).orElse (fun _ => badPlaces f (off + len) rest)

/-- Check 4: BAD_LAYOUT. A directory entry of the wrong type or length is named by its index, a place in the file by its offset (log
entry 13). -/
def badLayout (r : RawImage) : Option Nat :=
  (plain (decide (r.file.length < 4096) || decide (25165824 < r.file.length))).orElse fun _ =>
  (firstBad (fun p => p.1.1 != p.2 + 2) r.dir.zipIdx).orElse fun _ =>
  (badPlaces r.file 256 r.dir).orElse fun _ =>
    if r.secLen 8 ≠ 3325 then some 8
    else if r.secLen 3 ≠ 772 then some 3
    else if r.secOff 8 + r.secLen 8 ≠ r.file.length then some (r.secOff 8 + r.secLen 8) else none

/-- Check 5: NO_KEY. -/
def noKey (e : LoadEnv) (r : RawImage) : Bool :=
  match e.key with
  | none => true
  | some k => slice (r.sec 8) 4 8 != shake256 8 k

/-- Check 6: BAD_SIGNATURE. -/
def badSignature (e : LoadEnv) (r : RawImage) : Bool :=
  let s := r.sec 8
  getBE s 0 2 != 1 || getBE s 2 2 != 0x0CED || !allZero (slice s 12 4) ||
    !Config.mlDsaVerify (e.key.getD []) r.digest (slice s 16 3309)

/-- A count outside its limits. -/
def outside (lo hi n : Nat) : Bool := decide (n < lo) || decide (hi < n)

/-- The ring blocks as raw bytes: header and slots, cut as the slot counts say; none where the section's length does not fit. -/
def cutRings : Nat → List Byte → Option (List (List Byte × List (List Byte)))
  | 0, bs => if bs.isEmpty then some [] else none
  | k + 1, bs =>
    let n := getBE bs 4 2
    if bs.length < 32 + 16 * n then none
    else match cutRings k (bs.drop (32 + 16 * n)) with
      | none => none
      | some r => some ((bs.take 32, pieces 16 n (bs.drop 32)) :: r)

/-- Whether the section of directory entry `k` does not match its count (Table 2-1), the counts inside the ring schedules and the transfer map among
those that a section's length must match (log entry 13). -/
def countOff (r : RawImage) (k : Nat) : Bool :=
  match k with
  | 0 => r.secLen 0 != 16 * r.nVars
  | 1 => r.secLen 1 != 64 * r.nLevels + 8 * r.nTerms
  | 2 => r.secLen 2 != 4 * r.nConst
  | 4 => r.secLen 4 != 88 + 64 * r.nSess || getBE (r.sec 4) 0 2 != r.nSess
  | 5 => (cutRings 4 (r.sec 5)).isNone
  | 7 => r.secLen 7 != 80 + 8 * getBE (r.sec 7) 72 4
  | _ => false

/-- Check 9: OVER_LIMIT. A section that does not match its count is named by the index of its directory entry (log entry 13). -/
def overLimit (r : RawImage) : Option Nat :=
  (plain (outside 1 262144 r.nVars || outside 1 2097152 r.nTerms || outside 1 4096 r.nLevels || outside 0 65536 r.nConst ||
    outside 0 1024 r.nSess || outside 0 16384 r.nFields)).orElse fun _ => firstBad (countOff r) (List.range 9)

/-- Check 10: BAD_PARAMETER. A reserved field of the section directory is named by the index of its entry (log entry 13). -/
def badParameter (r : RawImage) : Option Nat :=
  (plain (outside 5 1000 r.tCycle || outside 100 600 r.freeze || outside 1 3600 (r.hdr 28 2) || outside 8 168 (r.hdr 30 2) ||
    outside 250 10000 (getBE (r.sec 3) 0 2) || r.hdr 32 2 % 2 ^ 15 != 0 || r.hdr 34 2 != 0 || r.hdr 54 2 != 0 ||
    !allZero (slice r.file 172 84))).orElse fun _ => firstBad (fun e => getBE e 2 2 != 0) (pieces 12 9 (slice r.file 64 108))

/-! The variable table (check 11). -/

/-- The type a byte names. -/
def VarType.ofByte : Nat → Option VarType
  | 0 => some .bool | 1 => some .enum | 2 => some .uint16 | 3 => some .timer | 4 => some .counter
  | _ => none

/-- The class a byte names. -/
def VarClass.ofByte : Nat → Option VarClass
  | 0 => some .inp | 1 => some .out | 2 => some .comb | 3 => some .reg | 4 => some .par
  | _ => none

/-- One entry of the variable table read from its 16 bytes (Table 2-4); none where a type, a class, a reserved field or a
reserved bit is wrong. -/
def readVar (b : List Byte) : Option VarEntry :=
  match VarType.ofByte (getByte b 4), VarClass.ofByte (getByte b 5) with
  | some ty, some cls =>
    if bits (getByte b 6) 0 5 != 0 || getBE b 14 2 != 0 then none
    else some { ident := getBE b 0 4, ty, cls, mirror := bit (getByte b 6) 7, retain := bit (getByte b 6) 6,
                forceable := bit (getByte b 6) 5, prescaler := getByte b 7, cold := BitVec.ofNat 16 (getBE b 8 2),
                limit := BitVec.ofNat 16 (getBE b 10 2), constIdx := getBE b 12 2 }
  | _, _ => none

/-- R34, R36 and R39 for one entry. -/
def VarEntry.ok (nConst : Nat) (consts : Table 32) (v : VarEntry) : Bool :=
  let k := (consts.read v.constIdx).toNat
  (match v.cls with
   | .inp | .out => !v.mirror && !v.retain
   | .comb | .par => !v.mirror && !v.retain && !v.forceable
   | .reg => !v.forceable) &&
  (match v.ty with
   | .timer | .counter => v.cls == .reg
   | _ => true) &&
  (match v.ty with
   | .timer => v.prescaler == 1 || v.prescaler == 10 || v.prescaler == 100
   | _ => v.prescaler == 0) &&
  (match v.ty with
   | .bool => v.limit == 1#16
   | .enum => true
   | _ => v.limit == 0xFFFF#16) &&
  decide (v.cold.toNat ≤ v.limit.toNat) &&
  (match v.cls with
   | .par => decide (v.constIdx < nConst) && decide (k ≤ v.limit.toNat)
   | _ => v.constIdx == 0xFFFF)

/-- The constant table as a table of 32-bit entries. -/
def readConsts (bs : List Byte) (n : Nat) : Table 32 :=
  (pieces 4 n bs).zipIdx.foldl (fun t p => t.write p.2 (BitVec.ofNat 32 (ofBE p.1))) []

/-- Check 11: the index of the first variable at fault. -/
def badVariable (nConst : Nat) (consts : Table 32) (vs : List (Option VarEntry)) : Option Nat :=
  match firstBad (fun v => match v with
      | none => true
      | some v => !v.ok nConst consts) vs with
  | some i => some i
  | none => firstRepeat [] (vs.map (fun v => match v with
      | none => 0
      | some v => v.ident)) 0

/-! The term stream (checks 12 to 17). A term stands with its term index, its level and the position in its run. -/

/-- One term of a run. -/
structure Placed where
  idx   : Nat
  level : Nat
  term  : Term
  deriving DecidableEq, Repr

/-- What the term checks read. -/
structure TermEnv where
  vars   : List VarEntry
  nConst : Nat
  consts : Table 32
  deriving DecidableEq, Repr

/-- The entry of a variable. -/
def TermEnv.var (e : TermEnv) (i : BitVec 18) : VarEntry := e.vars.getD i.toNat VarEntry.absent

/-- BOOL width (R69). -/
def TermEnv.isBool (e : TermEnv) (i : BitVec 18) : Bool := (e.var i).ty == .bool

/-- A field that its opcode does not use and that is not 0 (R68). -/
def unusedNotZero (t : Term) : Bool :=
  (!t.op.usesDst && t.dst != 0#18) || (!t.op.usesA && t.srcA != 0#18) ||
    (match t.op with
     | .nop => t.srcB != 0#18 || t.chain || t.negA || t.negB || t.bk
     | .level => decide (2 ^ 12 ≤ t.srcB.toNat) || t.chain || t.negA || t.negB || t.bk
     | .guard => decide (2 ^ 16 ≤ t.srcB.toNat) || t.bk
     | .mov | .rise | .fall => t.srcB != 0#18 || t.bk
     | _ => false)

/-- Check 12: BAD_TERM, for one word. -/
def badTerm (e : TermEnv) (w : W64) : Bool :=
  match Term.decode w with
  | none => true
  | some t =>
    let n := e.vars.length
    unusedNotZero t || (t.op.usesDst && decide (n ≤ t.dst.toNat)) || (t.op.usesA && decide (n ≤ t.srcA.toNat)) ||
      (t.op.usesB && !t.bk && decide (n ≤ t.srcB.toNat)) ||
      (t.bk && (decide (e.nConst ≤ t.constIdx) || decide (2 ^ 16 ≤ t.srcB.toNat))) ||
      (t.op == .lut && t.bk &&
        decide (e.nConst ≤ t.constIdx + 1 + bits (e.consts.read t.constIdx).toNat 16 16))

/-- The class rule of R38 and the destination classes of Table 3-3. -/
def dstClassOk (e : TermEnv) (t : Term) : Bool :=
  let c := (e.var t.dst).cls
  match t.op with
  | .nop | .level | .guard => true
  | .sr | .rs => c == .reg || c == .out
  | _ => c == .out || c == .comb || c == .reg

/-- The operand and destination widths of Table 3-3 (R69, R83). A chain link does not write DST, which holds that of its closing term (R74):
its width is no concern of the link. -/
def widthsOk (e : TermEnv) (t : Term) : Bool :=
  let a := e.isBool t.srcA
  let b := e.isBool t.srcB
  let d := e.isBool t.dst
  let sameB := t.bk || a == b
  match t.op with
  | .nop | .level => true
  | .guard => a
  | .mov => t.chain || d == a
  | .and | .or | .xor | .sel => sameB && (t.chain || d == a)
  | .eq | .ne | .lt | .le => d
  | .adds => t.chain || (e.var t.dst).ty == .uint16
  | .subs => (e.var t.dst).ty == .uint16
  | .lut => !a && t.bk && !d
  | .sr | .rs => a && (t.bk || b) && d
  | .rise | .fall => a && d
  | .ton | .tof | .tp =>
    (e.var t.srcA).ty == .timer && (t.bk || !b) && d &&
      (!t.bk ||
        decide (bits (e.consts.read t.constIdx).toNat 0 16 * (e.var t.srcA).prescaler ≤ 65000))
  | .ctu | .ctd => a && (t.bk || !b) && (e.var t.dst).ty == .counter

/-- The width of the intermediate value a link passes on and a closing term takes: BOOL for SEL, the timers and the counters, UINT16 for
ADDS, whose result it is whatever its operands are (R73, Table 3-3). -/
def chainBool (e : TermEnv) (t : Term) : Bool :=
  match t.op with
  | .sel | .ton | .tof | .tp | .ctu | .ctd => true
  | .adds => false
  | _ => e.isBool t.srcA

/-- Check 13: TERM_TYPE, for one word by itself: classes, widths, negation, and who may carry CHAIN (R38, R68, R69, R73). -/
def termType (e : TermEnv) (w : W64) : Bool :=
  match Term.decode w with
  | none => false
  | some t => (!t.chain && !dstClassOk e t) || !widthsOk e t || (t.negA && !t.op.negAOk) || (t.negB && !t.op.negBOk) || (t.chain && !t.op.mayLink)

/-- Check 13 for one term with the term before it and the term after it in its run: who may and who must close a chain, and the one width of
a chain (R73, R78). -/
def chainType (e : TermEnv) (before after : Option Term) (t : Term) : Bool :=
  let linked := match before with
    | some p => p.chain
    | none => false
  (t.op.mustClose && !linked) ||
    (t.chain &&
      (match after with
       | none => false
       | some u => u.op != .guard && (!(u.chain || u.op.mayClose) || chainBool e t != chainBool e u)))

/-- The terms of a stream, cut into runs by the level directory; a word that is undefined is left out (check 12 refused it). -/
def cutRuns (words : List W64) (lvl : Nat) (start : Nat) : List Nat → List (List Placed)
  | [] => []
  | n :: ns =>
    ((slice words start n).zipIdx.filterMap (fun p =>
        match Term.decode p.1 with
        | none => none
        | some t => some { idx := start + p.2, level := lvl, term := t })) ::
      cutRuns words lvl (start + n) ns

/-- Every run of every level. -/
def cutLevels (words : List W64) (lvl start : Nat) : List (List Nat) → List (List Placed)
  | [] => []
  | r :: rs => cutRuns words lvl (start + 1) r ++ cutLevels words (lvl + 1) (start + 1 + r.sum) rs

/-- A check over each term of a run with its neighbours: the term index of the first at fault. -/
def runScan (bad : Option Term → Option Term → Placed → Bool) (before : Option Term) : List Placed → Option Nat
  | [] => none
  | p :: ps =>
    if bad before (ps.head?.map (fun q => q.term)) p then some p.idx
    else runScan bad (some p.term) ps

/-- The first fault over all runs. -/
def runsScan (bad : Option Term → Option Term → Placed → Bool) (runs : List (List Placed)) : Option Nat :=
  runs.findSome? (runScan bad none)

/-- The LEVEL words: index and number as the level directory places them (R37). -/
def levelWords (start lvl : Nat) : List (List Nat) → List (Nat × Nat)
  | [] => []
  | r :: rs => (start, lvl) :: levelWords (start + 1 + r.sum) (lvl + 1) rs

/-- Whether the word is the LEVEL word of level `n`. -/
def isLevelWord (w : W64) (n : Nat) : Bool :=
  match Term.decode w with
  | some t => t.op == .level && t.levelNo == n
  | none => false

/-- The variables a term reads from the current buffer as its sources (R38). -/
def Term.reads (t : Term) : List Nat :=
  (if t.op.usesA then [t.srcA.toNat] else []) ++ (if t.op.usesB && !t.bk then [t.srcB.toNat] else [])

/-- The first level in which each variable is written: destinations of closing terms (R38; a second writer is check 17's concern). -/
def writerLevels (runs : List (List Placed)) : Assoc (Option Nat) :=
  runs.flatten.foldl (fun m p =>
    if p.term.op.usesDst && !p.term.chain && (Assoc.get none m p.term.dst.toNat).isNone then
      Assoc.insert p.term.dst.toNat (some p.level) m else m) []

/-- Check 14: LEVEL_STRUCTURE. -/
def levelStructure (e : TermEnv) (words : List W64) (dirs : List (List Nat)) (runs : List (List Placed)) : Option Nat :=
  if (dirs.map (fun r => 1 + r.sum)).sum != words.length then some 0
  else match (levelWords 0 0 dirs).find? (fun p => !isLevelWord (words.getD p.1 0#64) p.2) with
  | some p => some p.1
  | none =>
    match runs.flatten.find? (fun p => p.term.op == .level) with
    | some p => some p.idx
    | none =>
      let wl := writerLevels runs
      (runs.flatten.find? (fun p => p.term.reads.any (fun v =>
        (e.vars.getD v VarEntry.absent).cls == .comb &&
          (match Assoc.get none wl v with
           | none => true
           | some l => decide (p.level ≤ l))))).map (fun p => p.idx)

/-- Check 15: CHAIN_PLACEMENT, for one term (the GUARD's skip range is judged over the rest of its run). -/
def chainPlacement : List Placed → Option Nat
  | [] => none
  | p :: ps =>
    let link := p.term.chain &&
      (match ps.head? with
       | none => true
       | some q => q.term.op == .guard || q.term.dst != p.term.dst)
    let k := p.term.constIdx
    let guard := p.term.op == .guard && decide (1 ≤ k) &&
      (match ps[k - 1]? with
       | none => false
       | some q => q.term.chain)
    if link || guard then some p.idx else chainPlacement ps

/-- Check 16: GUARD_RANGE. -/
def guardRange : List Placed → Option Nat
  | [] => none
  | p :: ps => if p.term.op == .guard && decide (ps.length < p.term.constIdx) then some p.idx else guardRange ps

/-- The variables a term writes: its destination unless it is a link, and its TIMER variable (R38, R82). -/
def Term.writes (t : Term) : List Nat :=
  (if t.op.usesDst && !t.chain then [t.dst.toNat] else []) ++ (if t.op.isTimer then [t.srcA.toNat] else [])

/-- Check 17: MULTIPLE_WRITER: the first variable with a second writer, or the first TIMER variable that a term other than a
timer term writes (R38, R82). -/
def multipleWriter (e : TermEnv) (runs : List (List Placed)) : Option Nat :=
  let ws := runs.flatten.flatMap (fun p => p.term.writes)
  match firstRepeat [] ws 0 with
  | some i => some (ws.getD i 0)
  | none =>
    (runs.flatten.find? (fun p => p.term.op.usesDst && !p.term.chain && (e.var p.term.dst).ty == .timer)).map
      (fun p => p.term.dst.toNat)

/-! The local I/O map (checks 18 and 19). -/

/-- The index that an I/O entry without a binding holds (R41). -/
def noVar : Nat := 0xFFFFFFFF

/-- One input entry (Table 2-6). -/
def readIn (b : List Byte) : InEntry :=
  { used := bit (getByte b 0) 7, pulsed := bit (getByte b 0) 6, depth := getByte b 1, source := getByte b 2,
    var := getBE b 4 4 }

/-- One output entry (Table 2-6). -/
def readOut (b : List Byte) : OutEntry :=
  { used := bit (getByte b 0) 7, pulse := bit (getByte b 0) 6, sensitive := bit (getByte b 0) 5,
    shared := bit (getByte b 0) 4, var := getBE b 4 4 }

/-- An index names a declared BOOL variable of class `c`. -/
def boolVar (vs : List VarEntry) (c : VarClass) (i : Nat) : Bool :=
  match vs[i]? with
  | none => false
  | some v => v.ty == .bool && v.cls == c

/-- Check 18 for an input entry. -/
def badIn (vs : List VarEntry) (b : List Byte) : Bool :=
  let i := readIn b
  bits (getByte b 0) 0 6 != 0 || getByte b 3 != 0 ||
    (if i.used then i.depth == 0 || !boolVar vs .inp i.var || (!i.pulsed && i.source != 0xFF)
     else i.pulsed || i.depth != 0 || i.source != 0xFF || i.var != noVar)

/-- Check 18 for an output entry. -/
def badOut (vs : List VarEntry) (b : List Byte) : Bool :=
  let o := readOut b
  bits (getByte b 0) 0 4 != 0 || !allZero (slice b 1 3) ||
    (if o.used then !boolVar vs .out o.var && !(o.pulse && o.var == noVar)
     else o.var != noVar || (!o.pulse && getByte b 0 != 0))

/-- Check 18: BAD_IO_MAP. -/
def badIoMap (vs : List VarEntry) (s : List Byte) : Option Nat :=
  if getBE s 2 2 != 0 then some 0
  else match firstBad (badIn vs) (pieces 8 64 (s.drop 4)) with
  | some i => some i
  | none => firstBad (badOut vs) (pieces 8 32 (s.drop 516))

/-- Check 19: PIN_CONFLICT. -/
def pinConflict (ins : List InEntry) (outs : List OutEntry) : Option Nat :=
  match firstBad (fun p => p.1.pulse && (p.1.var != noVar || decide (p.2 < 24))) outs.zipIdx with
  | some i => some i
  | none =>
    firstBad (fun i => i.used && i.pulsed &&
      (decide (i.source < 24) ||
        (match outs[i.source]? with
         | none => true
         | some o => !o.pulse))) ins

/-! The session table (checks 20 and 21). -/

/-- A CAN identifier field: bits 30 and 29 clear, and 11 bits where bit 31 is clear (R398). -/
def badCanId (v : Nat) : Bool := bits v 29 2 != 0 || (!bit v 31 && decide (0x7FF < bits v 0 29))

/-- Check 20 for one entry (Table 2-8, R42, R398). -/
def badSessionEntry (b : List Byte) : Bool :=
  let tr := getByte b 2
  let fl := getByte b 3
  let peer := getByte b 4
  let par := getByte b 5
  let port := getByte b 6
  let node := getByte b 7
  decide (1023 < getBE b 0 2) || decide (3 < tr) || bits fl 2 3 != 0 || bits fl 6 2 == 0 ||
    outside 1 254 peer || (par != 0 && par != companion peer) ||
    (match tr with
     | 0 => outside 1 4 port || outside 1 127 node || getBE b 16 2 != 0
     | 1 => port != 0 || node != 0
     | 2 => outside 31 32 port || node != 0
     | _ => outside 21 26 port || node != 0) ||
    getBE b 12 2 == 0 || outside 1 255 (getBE b 18 2) ||
    (if tr == 1 then outside 1 100 (getBE b 14 2) else getBE b 14 2 != 0) ||
    decide (1024 < getBE b 20 2) || decide (1024 < getBE b 22 2) ||
    (bit fl 7 && getBE b 32 2 == 0) || (bit fl 6 && getBE b 34 2 == 0) ||
    (if tr == 1 then getBE b 36 4 == 0 || getBE b 40 4 == 0 || getBE b 44 2 == 0
     else !allZero (slice b 36 12) || !allZero (slice b 56 8)) ||
    bits (getBE b 46 2) 12 4 != 0 ||
    (if tr == 3 then badCanId (getBE b 48 4) || badCanId (getBE b 52 4) else !allZero (slice b 48 8))

/-- Strictly rising. -/
def rising : List Nat → Bool
  | a :: b :: r => decide (a < b) && rising (b :: r)
  | _ => true

/-- Check 20: BAD_SESSION. A session out of order or repeated is named by its index. -/
def badSession (pre : List Byte) (es : List (List Byte)) : Option Nat :=
  if getBE pre 2 2 != 0 then some 0
  else match firstBad badSessionEntry es with
  | some i => some i
  | none => firstFall 0 (es.map (fun b => getBE b 0 2))

/-- One legacy check parameter set (Table 2-7); none where its width is 0. -/
def readLegacy (b : List Byte) : Option CrcParams :=
  if getByte b 0 == 0 then none
  else some { width := getByte b 0, poly := getBE b 4 8, init := getBE b 12 8, refIn := bit (getByte b 1) 7,
              refOut := bit (getByte b 1) 6, xorOut := getBE b 20 8 }

/-- The legacy set an entry names, where its legacy check flag is set. -/
def legacyOf (b : List Byte) : Option Nat := if bit (getByte b 3) 5 then some (bits (getByte b 3) 0 2) else none

/-- Check 21: LEGACY_SET. -/
def legacySet (sets es : List (List Byte)) : Option Nat :=
  match firstBad (fun p =>
      let b := p.1
      if es.any (fun s => legacyOf s == some p.2) then
        outside 8 64 (getByte b 0) || bits (getByte b 1) 0 6 != 0 || getBE b 2 2 != 0
      else !allZero b) sets.zipIdx with
  | some i => some i
  | none =>
    firstBad (fun s =>
      match legacyOf s with
      | some k => k == 3
      | none => bits (getByte s 3) 0 2 != 0) es

/-! The ring schedules (check 22). -/

/-- The ring mode a byte names. -/
def RingMode.ofByte : Nat → Option RingMode
  | 0 => some .unused | 1 => some .native | 2 => some .vk2
  | _ => none

/-- One slot entry (Table 2-10). -/
def readSlot (b : List Byte) : SlotEntry :=
  { out := getByte b 0 == 1, node := getByte b 1, len := getBE b 2 2, start := getBE b 4 4, sid := getBE b 8 2 }

/-- The occupancy of a slot in ns: frame time and guard (R44). -/
def occupancy (m : RingMode) (len : Nat) : Nat := (len + 20) * (if m == .vk2 then 80 else 8) + 2000

/-- One ring block read (Tables 2-9, 2-10); its schedule digest is computed over the block by Table 8-5 (R212). -/
def readRing (p : List Byte × List (List Byte)) : RingBlock :=
  let h := p.1
  { mode := (RingMode.ofByte (getByte h 1)).getD .unused, nodes := getByte h 2, inStart := getBE h 8 4,
    syncStart := getBE h 12 4, outStart := getBE h 16 4, diagStart := getBE h 20 4, idleStart := getBE h 24 4,
    slots := p.2.map readSlot, digest := shake256 8 (h ++ p.2.flatten) }

/-- Slot `j` of a ring (R44): a field outside its range or reserved, a start not after that of the slot before it, a place outside the segment of its
kind or over the next slot, or no session of its node that uses it (`mine`). -/
def badSlot (m : RingMode) (r : RingBlock) (raw : List (List Byte)) (mine : SlotEntry → Bool) (j : Nat) : Bool :=
  let b := raw.getD j []
  let s := readSlot b
  let lo := if s.out then r.outStart else r.inStart
  let hi := if s.out then r.diagStart else r.syncStart
  let fin := s.start + occupancy m s.len
  decide (1 < getByte b 0) || outside 1 127 (getByte b 1) || outside 64 2048 (getBE b 2 2) || !allZero (slice b 10 6) ||
    (decide (0 < j) && decide (s.start ≤ (readSlot (raw.getD (j - 1) [])).start)) || decide (s.start < lo) || decide (hi < fin) ||
    (decide (j + 1 < raw.length) && decide ((readSlot (raw.getD (j + 1) [])).start < fin)) || !mine s

/-- A ring header that breaks R43 or R44, or does not agree with its slots, for ring `i` + 1: `fNs` and `dNs` are F and D in ns, `est` the lane's own sweep
estimate. -/
def badRingHead (tCycle fNs dNs est i : Nat) (h : List Byte) (r : RingBlock) : Bool :=
  getByte h 0 != i + 1 || getByte h 3 != 0 || getBE h 6 2 != 0 || getBE h 28 4 != 0 ||
    (match RingMode.ofByte (getByte h 1) with
     | none => true
     | some .unused => !allZero (h.drop 2)
     | some _ =>
       decide (126 < r.nodes) || !rising [r.inStart, r.syncStart, r.outStart, r.diagStart, r.idleStart] ||
         decide (tCycle * 1000000 < r.idleStart) || decide (fNs < r.syncStart) ||
         decide (r.outStart < fNs + est * 5 + 2500000) || decide (dNs < r.diagStart) ||
         (r.slots.map (fun s => s.node)).eraseDups.length != r.nodes)

/-- R43 and R44 for ring `i` + 1, whose slots begin at position `base` of the section: a header is named by the ring's number, a slot by its position
(log entry 13). -/
def badRing (tCycle fNs dNs est : Nat) (sess : List (List Byte)) (i base : Nat) (p : List Byte × List (List Byte)) : Option Nat :=
  let r := readRing p
  let mine := fun (s : SlotEntry) => sess.any (fun b =>
    getByte b 2 == 0 && getByte b 6 == i + 1 && getByte b 7 == s.node && getBE b 0 2 == s.sid && bit (getByte b 3) (if s.out then 6 else 7))
  if badRingHead tCycle fNs dNs est i p.1 r then some (i + 1)
  else match RingMode.ofByte (getByte p.1 1) with
    | some .unused | none => none
    | some m => (firstBad (badSlot m r p.2 mine) (List.range p.2.length)).map (base + ·)

/-- The rings of the section, each with its index and the position at which its slots begin. -/
def ringBases (rs : List (List Byte × List (List Byte))) : List (Nat × Nat × List Byte × List (List Byte)) :=
  rs.zipIdx.map (fun p => (p.2, ((rs.take p.2).map (fun r => r.2.length)).sum, p.1))

/-- Every RING session has exactly one slot for each direction it uses (R44). -/
def ringSlotsMissing (rings : List RingBlock) (b : List Byte) : Bool :=
  let count := fun (out : Bool) =>
    (((rings.getD (getByte b 6 - 1) ⟨.unused, 0, 0, 0, 0, 0, 0, [], []⟩).slots).filter
      (fun s => s.out == out && s.sid == getBE b 0 2)).length
  getByte b 2 == 0 &&
    ((bit (getByte b 3) 7 && count false != 1) || (bit (getByte b 3) 6 && count true != 1))

/-- Check 22: RING_SCHEDULE. A session without its slot is named by its index (log entry 13). -/
def ringSchedule (tCycle freeze est : Nat) (sec : List Byte) (sess : List (List Byte)) : Option Nat :=
  match cutRings 4 sec with
  | none => some 0
  | some rs =>
    match (ringBases rs).findSome? (fun p =>
        badRing tCycle (tCycle * freeze * 1000) (tCycle * 1000000 - 500000) est sess p.1 p.2.1 p.2.2) with
    | some i => some i
    | none => firstBad (ringSlotsMissing (rs.map readRing)) sess

/-! The telegram maps (check 23) and the bindings (check 24). -/

/-- One map entry (Table 2-11). -/
def readField (b : List Byte) : FieldEntry :=
  { var := getBE b 0 4, off := getBE b 4 2, width := getByte b 6, safe := BitVec.ofNat 16 (getBE b 8 2) }

/-- Check 23 for an entry by itself. -/
def badField (vs : List VarEntry) (b : List Byte) : Bool :=
  let f := readField b
  decide (vs.length ≤ f.var) || decide (8191 < f.off) || outside 1 16 f.width || getByte b 7 != 0 || getBE b 10 2 != 0 ||
    ((vs.getD f.var VarEntry.absent).ty == .bool && f.width != 1)

/-- Two fields of one map overlap. -/
def overlaps (f g : FieldEntry) : Bool := decide (f.off < g.off + g.width) && decide (g.off < f.off + f.width)

/-- Fields of one map overlap (R46). -/
def anyOverlap : List FieldEntry → Bool
  | [] => false
  | f :: fs => fs.any (overlaps f) || anyOverlap fs

/-- One map of a session: the reference lies in the section, and the fields fit R45 and R46. -/
def badMap (vs : List VarEntry) (sec : List Byte) (off n len : Nat) (rx : Bool) : Bool :=
  let fs := (pieces 12 n (sec.drop off)).map readField
  off % 12 != 0 || decide (sec.length < off + 12 * n) ||
    fs.any (fun f =>
      let v := vs.getD f.var VarEntry.absent
      decide (8 * len < f.off + f.width) ||
        (if rx then v.cls != .inp || decide (v.limit.toNat < f.safe.toNat) else f.safe != 0#16)) ||
    anyOverlap fs

/-- Check 23: TELEGRAM_MAP. -/
def telegramMap (vs : List VarEntry) (sec : List Byte) (sess : List (List Byte)) : Option Nat :=
  if sec.length % 12 != 0 then some sec.length
  else match firstBad (badField vs) (pieces 12 (sec.length / 12) sec) with
  | some i => some (12 * i)
  | none =>
    firstBad (fun b =>
      badMap vs sec (getBE b 24 4) (getBE b 32 2) (getBE b 20 2) true ||
        badMap vs sec (getBE b 28 4) (getBE b 34 2) (getBE b 22 2) false) sess

/-- The fields of a session's map, none where the session does not use the direction. -/
def sessMap (sec : List Byte) (used : Bool) (off n : Nat) : List FieldEntry :=
  if used then (pieces 12 n (sec.drop off)).map readField else []

/-- The transport a byte names. -/
def Transport.ofByte : Nat → Transport
  | 0 => .ring
  | 1 => .net2
  | 2 => .wire
  | _ => .can

/-- One session entry with its maps (Table 2-8). -/
def readSession (maps : List Byte) (b : List Byte) : SessEntry :=
  let fl := getByte b 3
  { sid := getBE b 0 2, transport := Transport.ofByte (getByte b 2), rx := bit fl 7, tx := bit fl 6, legacy := legacyOf b,
    peer := getByte b 4, partner := getByte b 5, port := getByte b 6, node := getByte b 7, maxAge := getBE b 8 4,
    staleK := getBE b 12 2, pairWin := getBE b 14 2, latency := getBE b 16 2, timeout := getBE b 18 2,
    rxLen := getBE b 20 2, txLen := getBE b 22 2, rxMap := sessMap maps (bit fl 7) (getBE b 24 4) (getBE b 32 2),
    txMap := sessMap maps (bit fl 6) (getBE b 28 4) (getBE b 34 2), addrA := getBE b 36 4, addrB := getBE b 40 4,
    udp := getBE b 44 2, vlan := getBE b 46 2, canTx := getBE b 48 4, canRx := getBE b 52 4, partnerA := getBE b 56 4,
    partnerB := getBE b 60 4 }

/-- Check 24: the first IN variable without exactly one source (R48). -/
def badBinding (vs : List VarEntry) (ins : List InEntry) (ss : List SessEntry) : Option Nat :=
  let srcs := (ins.filter (fun i => i.used)).map (fun i => i.var) ++ ss.flatMap (fun s => s.rxMap.map (fun f => f.var))
  firstBad (fun p => p.1.cls == .inp && (srcs.filter (fun v => v == p.2)).length != 1) vs.zipIdx

/-! The transfer map (check 28). -/

/-- The state-transfer map (R49). -/
def readTransfer (s : List Byte) : TransferMap :=
  { station := getBE s 0 4, issue := getBE s 4 4, digest := slice s 8 64,
    pairs := (pieces 8 (getBE s 72 4) (s.drop 80)).map (fun b => (getBE b 0 4, getBE b 4 4)) }

/-- Check 28 at load: TRANSFER_MAP. -/
def transferBad (vs : List VarEntry) (s : List Byte) : Option Nat :=
  let n := getBE s 72 4
  if getBE s 76 4 != 0 || (getBE s 4 4 == 0 && n != 0) then some 0
  else
    let t := readTransfer s
    (firstFall 0 (t.pairs.map (fun p => p.1))).orElse fun _ => firstBad (fun p => match vs[p.1]? with
      | none => true
      | some v => v.cls != .reg) t.pairs

/-! The whole load. -/

/-- Everything the later checks read, parsed once. -/
structure Parsed where
  raw    : RawImage
  varsO  : List (Option VarEntry)
  vars   : List VarEntry
  consts : Table 32
  dirs   : List (List Nat)
  words  : List W64
  runs   : List (List Placed)
  sess   : List (List Byte)
  deriving DecidableEq, Repr

/-- The level directory: 16 run lengths for each level (R37). -/
def readDirs (bs : List Byte) (n : Nat) : List (List Nat) := (pieces 64 n bs).map (fun d => (pieces 4 16 d).map ofBE)

/-- The sections read by the header's counts. -/
def Parsed.of (r : RawImage) : Parsed :=
  let varsO := (pieces 16 r.nVars (r.sec 0)).map readVar
  let dirs := readDirs (r.sec 1) r.nLevels
  let words := (pieces 8 r.nTerms ((r.sec 1).drop (64 * r.nLevels))).map (fun b => BitVec.ofNat 64 (ofBE b))
  { raw := r, varsO, vars := varsO.map (fun v => v.getD VarEntry.absent), consts := readConsts (r.sec 2) r.nConst,
    dirs, words, runs := cutLevels words 0 0 dirs, sess := pieces 64 r.nSess ((r.sec 4).drop 88) }

/-- The term environment of a file. -/
def Parsed.env (p : Parsed) : TermEnv := { vars := p.vars, nConst := p.raw.nConst, consts := p.consts }

/-- The sessions of a file. -/
def Parsed.sessions (p : Parsed) : List SessEntry := p.sess.map (readSession (p.raw.sec 6))

/-- The input and output entries of a file. -/
def Parsed.inputs (p : Parsed) : List InEntry := (pieces 8 64 ((p.raw.sec 3).drop 4)).map readIn
def Parsed.outputs (p : Parsed) : List OutEntry := (pieces 8 32 ((p.raw.sec 3).drop 516)).map readOut

/-- The mirror volume of a file (R56). -/
def Parsed.mirrorVolume (p : Parsed) : Nat :=
  2 * (p.vars.filter (fun v => v.mirror)).length + 12 * (p.sess.filter (fun b => bit (getByte b 3) 6)).length + 4096

/-- The lane's own sweep estimate (R54). -/
def Parsed.estimate (p : Parsed) : Nat := sweepEstimate p.raw.nTerms p.raw.nLevels

/-- The checks of Table 2-12 in order, each with its refusal code; a check answers the offending index where it fails. -/
def loadChecks (e : LoadEnv) (p : Parsed) : List (Nat × Option Nat) :=
  let r := p.raw
  [ (0x0201, plain (slice r.file 0 4 != be 4 0x504C4452)),
    (0x0202, plain (r.hdr 4 2 != 3 || r.hdr 6 2 != 256)),
    (0x0203, plain (slice r.file 8 8 != be 8 0x564B332D32363200)),
    (0x0204, badLayout r),
    (0x0205, plain (noKey e r)),
    (0x0206, plain (badSignature e r)),
    (0x0207, plain (r.hdr 16 4 != e.station)),
    (0x0208, plain (decide (r.hdr 20 4 < e.floor))),
    (0x0209, overLimit r),
    (0x020A, badParameter r),
    (0x020B, badVariable r.nConst p.consts p.varsO),
    (0x020C, firstBad (badTerm p.env) p.words),
    (0x020D, (firstBad (termType p.env) p.words).orElse (fun _ => runsScan (fun b a t => chainType p.env b a t.term) p.runs)),
    (0x020E, levelStructure p.env p.words p.dirs p.runs),
    (0x020F, p.runs.findSome? chainPlacement),
    (0x0210, p.runs.findSome? guardRange),
    (0x0211, multipleWriter p.env p.runs),
    (0x0212, badIoMap p.vars (r.sec 3)),
    (0x0213, pinConflict p.inputs p.outputs),
    (0x0214, badSession ((r.sec 4).take 88) p.sess),
    (0x0215, legacySet (pieces 28 3 ((r.sec 4).drop 4)) p.sess),
    (0x0216, ringSchedule r.tCycle r.freeze p.estimate (r.sec 5) p.sess),
    (0x0217, telegramMap p.vars (r.sec 6) p.sess),
    (0x0218, badBinding p.vars p.inputs p.sessions),
    (0x0219, plain (p.estimate != r.hdr 56 4 || decide (80000 * r.tCycle < p.estimate))),
    (0x021A, plain (decide (r.tCycle * 1000000 - 500000 < r.tCycle * r.freeze * 1000 + p.estimate * 5 + 2500000))),
    (0x021B, plain (p.mirrorVolume != r.hdr 60 4 || decide (640000000 * r.tCycle < p.mirrorVolume * 8000))),
    (0x021C, transferBad p.vars (r.sec 7)) ]

/-- The image a lane reads from a file that passed every check. -/
def Parsed.image (p : Parsed) : Image :=
  let r := p.raw
  { station := r.hdr 16 4, issue := r.hdr 20 4, tCycle := r.tCycle, freeze := r.freeze, retainAge := r.hdr 28 2,
    rotation := r.hdr 30 2, allow2oo2 := bit (r.hdr 32 2) 15, vars := p.vars, runs := p.dirs, terms := p.words,
    nConst := r.nConst, consts := p.consts, testIval := getBE (r.sec 3) 0 2, inputs := p.inputs, outputs := p.outputs,
    legacy := (pieces 28 3 ((r.sec 4).drop 4)).map readLegacy, sessions := p.sessions,
    rings := ((cutRings 4 (r.sec 5)).getD []).map readRing, transfer := readTransfer (r.sec 7), fieldObjs := r.nFields,
    digest := r.digest }

/-- The first check that fails, with its code and index (R52). -/
def firstRefusal : List (Nat × Option Nat) → Option (Nat × Nat)
  | [] => none
  | (code, some i) :: _ => some (code, i)
  | (_, none) :: rest => firstRefusal rest

/-- The load-time check of a file: its refusal, or the image (R52). -/
def loadImage (e : LoadEnv) (f : List Byte) : Except (Nat × Nat) Image :=
  let p := Parsed.of (RawImage.ofBytes f)
  match firstRefusal (loadChecks e p) with
  | some c => .error c
  | none => .ok p.image

/-- R50: the transfer map fits the running image. -/
def transferFits (new running : Image) : Bool :=
  let t := new.transfer
  t.station == running.station && t.issue == running.issue && t.digest == running.digest &&
    t.pairs.all (fun p =>
      let a := new.var p.1
      let b := running.var p.2
      running.hasVar p.2 && a.ident == b.ident && a.ty == b.ty && a.prescaler == b.prescaler) &&
    rising (t.pairs.map (fun p => p.1))

end Sys2Proof
end

