-- ==== Sys2Proof/Machine/LinkMsg.lean ====
section
/-! DEFINITION. The bytes of the cross-lane links: the check value that every link frame ends with (R130), the GAUGE message (Table 6-4) and the
delta (R150). The spec gives no layout of a TIDE or VERDICT message; those travel as the values they carry (log entry 20). -/

namespace Sys2Proof

/-! ## Link frames (R130) -/

/-- A link frame: its content and the IEEE 802.3 CRC-32 over it. -/
def linkFrame (body : List Byte) : List Byte := body ++ be 4 (ieeeCrc body)

/-- Whether a frame ends with the CRC-32 of what stands before it (R130). -/
def linkFrameOk (b : List Byte) : Bool :=
  let n := b.length - 4
  decide (4 ≤ b.length) && getBE b n 4 == ieeeCrc (b.take n)

/-- The lane that a sender code names: 0x01 A, 0x02 B, 0x03 C (Table 6-4). -/
def LaneId.ofCode : Nat → Option LaneId
  | 1 => some .a
  | 2 => some .b
  | 3 => some .c
  | _ => none

/-! ## GAUGE (Table 6-4) -/

/-- Bytes 0 to 31 of a GAUGE message (Table 6-4). -/
def GaugeMsg.body (m : GaugeMsg) : List Byte :=
  be 1 1 ++ be 1 (m.sender.idx + 1) ++ be 1 (flag m.test 7 + flag m.candidate 6 + flag m.leaving 5) ++
    be 1 (flag m.mask.c 2 + flag m.mask.b 1 + flag m.mask.a 0) ++ be 8 m.cycle ++ be 16 m.gauge.toNat ++ be 1 m.echo.toNat ++ be 3 0

/-- The 36 bytes of a GAUGE message as they travel, big-endian (R128, R131). -/
def GaugeMsg.frame (m : GaugeMsg) : List Byte := linkFrame m.body

/-- The GAUGE message that the bytes of a link frame spell: 36 bytes of type 0x01 from one of the three lanes. The reserved bits of a received
message are not looked at. -/
def GaugeMsg.ofFrame (b : List Byte) : Option GaugeMsg :=
  if b.length = 36 ∧ getByte b 0 = 1 then
    (LaneId.ofCode (getByte b 1)).map (fun y =>
      { sender := y, test := bit (getByte b 2) 7, candidate := bit (getByte b 2) 6, leaving := bit (getByte b 2) 5,
        mask := { a := bit (getByte b 3) 0, b := bit (getByte b 3) 1, c := bit (getByte b 3) 2 },
        cycle := getBE b 4 8, gauge := BitVec.ofNat 128 (getBE b 12 16), echo := BitVec.ofNat 8 (getByte b 28) })
  else none

/-! ## Deltas (R150) -/

/-- The force table's 2,048 bytes (R125) of the forces a delta carries. -/
def forceImage (f : List (Nat × W16)) : List Byte := padTo 2048 (f.flatMap (fun p => be 4 p.1 ++ be 2 p.2.toNat ++ be 2 1))

/-- The forces that 2,048 bytes of a force table list: its active entries (R125). -/
def forcesOf (b : List Byte) : List (Nat × W16) :=
  ((List.range 256).filter (fun i => getBE b (8 * i + 6) 2 == 1)).map (fun i => (getBE b (8 * i) 4, BitVec.ofNat 16 (getBE b (8 * i + 4) 2)))

/-- A delta in the layout of R150. -/
def Delta.bytes (d : Delta) : List Byte :=
  be 8 d.cycle ++ be 4 d.slots.length ++ be 4 d.consts.length ++ be 1 (b2n d.forces.isSome) ++ List.replicate 15 0#8 ++
    d.slots.flatMap (fun p => be 4 p.1.toNat ++ be 2 p.2.toNat) ++ d.consts.flatMap (fun p => be 4 p.1.toNat ++ be 4 p.2.toNat) ++
    (match d.forces with
    | some f => forceImage f
    | none => [])

/-- The delta that bytes in the layout of R150 spell; none where they are not as long as their header says. -/
def Delta.ofBytes (b : List Byte) : Option Delta :=
  let ns := getBE b 8 4
  let nc := getBE b 12 4
  let f := getByte b 16 == 1
  let c0 := 32 + 6 * ns
  let f0 := c0 + 8 * nc
  if b.length = f0 + (if f then 2048 else 0) then
    some { cycle := getBE b 0 8,
           slots := (List.range ns).map (fun i => (BitVec.ofNat 18 (getBE b (32 + 6 * i) 4), BitVec.ofNat 16 (getBE b (36 + 6 * i) 2))),
           consts := (List.range nc).map (fun i => (BitVec.ofNat 16 (getBE b (c0 + 8 * i) 4), BitVec.ofNat 32 (getBE b (c0 + 4 + 8 * i) 4))),
           forces := if f then some (forcesOf (slice b f0 2048)) else none }
  else none

end Sys2Proof
end

