-- ==== Sys2Proof/Machine/ResyncCore.lean ====
section
/-! DEFINITION. The resync of a lane as shared operations (R146 to R153): the start and the abort of an attempt, the base, the deltas,
the replay of catch-up, and admission. -/

namespace Sys2Proof.Machine

/-- The donors of a lane in resync: the two other lanes, where both are in service (R146). -/
def State.donors (s : State) (x : LaneId) : Option (LaneId × LaneId) :=
  match x.peers with
  | [y, z] => if (s.lane y).inService && (s.lane z).inService then some (y, z) else none
  | _ => none

/-! ## The base (R149) -/

/-- What of a donor's local I/O the base carries (Table 6-8): input filter counts and output supervision, none of the donor's own samples, drive or
counters. -/
def LaneIO.fromDonor (own donor : LaneIO) : LaneIO :=
  { donor with raw := own.raw, readback := own.readback, groupsRead := own.groupsRead, watchIn := own.watchIn,
               litInCycle := own.litInCycle, litLast := own.litLast, darkRun := own.darkRun, sampled := own.sampled, sampleCnt := own.sampleCnt, lastMs := own.lastMs,
               drives := false, toggle := 0, toggleFreq := 0, quench := 0, groupDrive := 0, groupQuench := 0, watchOut := false, mirrorSent := own.mirrorSent, cmd := 0,
               dark := 0, partnerHeld := [], disagree := own.disagree, window := none, xcircCnt := own.xcircCnt, testCnt := own.testCnt, abortCnt := own.abortCnt, ocCnt := own.ocCnt,
               resetCnt := own.resetCnt }

/-- An array of `n` numbers of `w` bytes in a base. -/
def baseArray (n w : Nat) (a : Assoc Nat) : List Byte := (List.range n).flatMap (fun i => be w (Assoc.get 0 a i))

/-- The 4,096 bytes of local input filter counts and vital output supervision (Table 6-8). DESIGN CHOICE: the spec gives their size, not their
layout (log entry 84). -/
def LaneIO.baseBytes (io : LaneIO) : List Byte :=
  let d := LaneIO.reset.fromDonor io
  padTo 4096 (baseArray 64 4 d.count ++ be 8 d.filt.toNat ++ be 8 d.frozen.toNat ++ be 8 d.xcirc.toNat ++ baseArray 64 4 d.xzeros ++
    be 4 d.paused.toNat ++ baseArray 32 1 d.fault ++ (List.range 32).flatMap (fun k => be 1 (((Assoc.get none d.xpair k).map (· + 1)).getD 0)) ++
    baseArray 32 4 d.retry ++ baseArray 32 4 d.ocRun ++ baseArray 32 1 d.test ++ be 4 d.overdue.toNat ++ baseArray 32 4 d.intervals ++ baseArray 32 4 d.missed ++
    baseArray 32 8 d.driveBegin ++ baseArray 32 8 d.driveEnd ++ baseArray 32 4 d.highRun ++ baseArray 32 4 d.lowRun ++
    be 2 d.fs1 ++ be 2 d.fs2 ++ be 4 d.fs1Low ++ be 4 d.fs2Low ++ be 1 (b2n d.fs1Ok) ++ be 1 (b2n d.fs2Ok) ++ be 1 d.latched.toNat ++
    baseArray 4 1 d.groupCause ++ be 1 d.groupExt.toNat ++ baseArray 4 1 d.groupChan ++ be 4 d.partnerCmd.toNat ++ be 1 (b2n d.partnerLive) ++
    be 4 d.partnerDiff.toNat ++ baseArray 32 4 d.partnerRun ++ baseArray 32 8 d.partnerMs)

/-- The 1,054,976 bytes of a base (Table 6-8): the header of 256 bytes, the committed state, the constant table and the force table of the next
cycle, the session contexts, and the local I/O. DESIGN CHOICE: Table 6-8 gives the header's fields and its size, not their offsets or widths; they stand in
its order as 8, 64 and 64 bytes, and zeros follow (log entry 84). -/
def Base.bytes (b : Base) (m : Image) : List Byte :=
  padTo 256 (be 8 b.cycle ++ padTo 64 m.digest ++ b.digest) ++
    (List.range 262144).flatMap (fun i => be 2 (Table.read b.state i).toNat) ++ constBytes b.consts ++ forceBytes b.forces ++
    (List.range 1024).flatMap (fun k =>
      (Assoc.get SessCtx.reset b.ctx k).image (ringOwn m b.epochs k)) ++
    b.io.baseBytes

/-- Block `i` of 4 KiB of a base as its donor streams it (R149). -/
def Base.block (b : Base) (m : Image) (i : Nat) : List Byte := slice (b.bytes m) (4096 * i) 4096

/-- The table of words that bytes of a base hold from offset `off`, `n` words of `w` bytes. -/
def tableOf (w n : Nat) (bs : List Byte) (off : Nat) : Table (8 * w) :=
  (List.range n).foldl (fun t i => Table.write t i (BitVec.ofNat (8 * w) (getBE bs (off + w * i) w))) []

/-- The forces that 2,048 bytes of a force table list (R125). -/
def forcesFrom (bs : List Byte) : Assoc (Option W16) := (forcesOf bs).foldl (fun a p => Assoc.put none a p.1 (some p.2)) []

/-- What a donor holds of the base at the freeze point of cycle k + 1, before its freeze writes: the committed state and the constant-table digest as they
stood at the commit of cycle k, the constants and forces of cycle k + 1. The contexts and the I/O follow at the freeze point itself. -/
def Lane.takeBase (l : Lane) (k : Nat) : Lane :=
  { l with vt := { l.vt with baseTaken := some { cycle := k, digest := constDigest l.vt.lastConsts l.vt.lastForces, state := l.pe.cur,
                                                  consts := l.pe.consts, forces := l.pe.forces, ctx := [], epochs := [], io := l.io } } }

/-- The rest of the base: session contexts, under the unit's epochs on its rings, and local I/O at the freeze point. -/
def Lane.takeBaseRest (l : Lane) (epochs : Assoc Nat) : Lane :=
  { l with vt := { l.vt with baseTaken := l.vt.baseTaken.map (fun b => { b with ctx := l.ts.ctx, epochs := epochs, io := l.io }) } }

/-- A donor's context as the joining lane takes it: the counters at offsets 72 to 95 are the lane's own (R171), 0 after its
reset. -/
def SessCtx.fromDonor (c : SessCtx) : SessCtx :=
  { c with accepted := 0, refused := 0, missing := 0, late := 0, refs := 0, timeouts := 0, lastCode := 0 }

/-- The base loaded (R149, Table 6-8) from its bytes `bs`: the committed state, the constants and the forces. The contexts and the I/O are those of
the donors' base `b` that the bytes carry; what Table 6-8 reserves of a context has no layout (log entry 84). The lane passes to catch-up, and
of the arrivals it has kept it drops those stamped before the freeze point at which the contexts stand. The table carries no previous buffer;
DESIGN CHOICE: it holds the base's state too until the first delta gives it (log entry 84). -/
def Lane.loadBase (l : Lane) (m : Image) (b : Base) (bs : List Byte) : Lane :=
  let state := tableOf 2 262144 bs 256
  { l with
      pe := { l.pe with cur := state, next := state, prev := state, consts := tableOf 4 65536 bs 524544,
                        forces := forcesFrom (slice bs 786688 2048), copyDone := true, state := .waiting },
      ts := { l.ts with ctx := b.ctx.map (fun p => (p.1, p.2.fromDonor)) },
      io := l.io.fromDonor b.io,
      vt := { l.vt with state := .catchUp, applied := some b.cycle, ctxCycle := b.cycle + 1, blocks := PerLane.all [],
                        arrivals := l.vt.arrivals.filter (fun a => decide (m.freezeAt (b.cycle + 1) ≤ a.arr.stamp)),
                        kept := l.vt.kept.filter (fun p => decide (m.freezeAt (b.cycle + 1) < p.1 * 100000)) } }

/-! ## Deltas (R150, R151) -/

/-- The slots in which two buffers differ, up to the variable count. -/
def changedSlots (old new : Table 16) (n : Nat) : List (BitVec 18 × W16) :=
  ((List.range n).filter (fun i => decide (Table.read old i ≠ Table.read new i))).map
    (fun i => (BitVec.ofNat 18 i, Table.read new i))

/-- The mirror frame that a sleeper's donors applied in cycle n, as a lane in resync has kept it (R151, R255): that of cycle n − 1, complete and
stamped before the freeze point of cycle n. -/
def Lane.keptFrame (l : Lane) (m : Image) (n : Nat) : Option (List Byte) :=
  (l.mir.recent.find? (fun f => decide (f.1 + 1 = n) && decide (f.2.1 < m.freezeAt n))).map (·.2.2)

/-- A delta applied (R150): the slots written into current and next, the constants and forces for the next cycle. Previous takes
the current buffer as it stood at the end of that sweep (R63): IN, PAR and COMB slots new, REG and OUT slots old, but for the REG slots that the
cycle's mirror frame wrote in a sleeper (R255). -/
def Lane.applyDelta (l : Lane) (m : Image) (d : Delta) : Lane :=
  let swept := match l.keptFrame m d.cycle with
    | some data => (l.mirrorValues m data).pe.cur
    | none => l.pe.cur
  let prev := d.slots.foldl (fun t p =>
    match (m.var p.1.toNat).cls with
    | .reg | .out => t
    | _ => Table.write t p.1.toNat p.2) swept
  let cur := d.slots.foldl (fun t p => Table.write t p.1.toNat p.2) l.pe.cur
  let consts := d.consts.foldl (fun t p => Table.write t p.1.toNat p.2) l.pe.consts
  let forces := match d.forces with
    | some f => f.foldl (fun a p => Assoc.put none a p.1 (some p.2)) []
    | none => l.pe.forces
  { l with pe := { l.pe with prev := prev, cur := cur, next := cur, consts := consts, forces := forces },
           vt := { l.vt with applied := some d.cycle, lastState := cur,
                             deltas := l.vt.deltas.map (fun ds => ds.filter (fun b => decide (d.cycle < getBE b 0 8))) } }

/-- The delta of cycle c as both donors sent it, byte for byte (R150), if it has come. -/
def Vote.deltaOf (v : Vote) (y z : LaneId) (c : Nat) : Option Delta :=
  let of := fun (x : LaneId) => (v.deltas.get x).find? (fun b => getBE b 0 8 == c)
  match of y, of z with
  | some d, some e => if d = e then Delta.ofBytes d else none
  | _, _ => none

/-- The deltas that are due applied in cycle order, at most `fuel` of them (R151). -/
def Lane.applyDeltas (l : Lane) (m : Image) (y z : LaneId) : Nat → Lane
  | 0 => l
  | fuel + 1 =>
    match l.vt.applied with
    | none => l
    | some c =>
      match l.vt.deltaOf y z (c + 1) with
      | none => l
      | some d => (l.applyDelta m d).applyDeltas m y z fuel

/-- The timestamp of the TIME_REQ that a TIME_RESP stamped `stamp` may answer (R176, R178): the outstanding one. A telegram stamped at or after
F belongs to the next cycle (R96), in which a TIME_REQ that the lane is about to commit has replaced it (log entry 19). -/
def Lane.outstanding (l : Lane) (m : Image) (e : SessEntry) (stamp : Nat) : Nat :=
  let n := l.td.cycle
  let c := l.ts.at e.sid
  if l.pe.freezeDone && l.vt.committed != some n && decide (m.freezeAt n ≤ stamp) && c.asks e n then 0 else c.reqStamp

/-- A TIME_RESP after checks 1 to 5 (R178, R179): matched with the outstanding request it waits for the freeze point, else it is
refused as UNMATCHED. A sleeper takes each. DESIGN CHOICE: an answer to a request that the next cycle's has replaced is refused (R176), though the example
of Table 7-10 (t6 to t8) takes one to the request of the cycle before (log entry 19). -/
def Lane.takeResp (l : Lane) (m : Image) (e : SessEntry) (t : Tele) (stamp : Nat) (sleeper : Bool) : Lane :=
  let c := l.ts.at e.sid
  let echo := getBE t.payload 0 8
  let ts := getBE t.payload 8 8
  if sleeper then { l with ts := l.ts.set e.sid { c with resp := some (stamp, ts, echo) } }
  else if l.outstanding m e stamp ≠ 0 ∧ echo = l.outstanding m e stamp then
    { l with ts := l.ts.set e.sid { c with resp := some (stamp, ts, echo), reqStamp := 0 } }
  else { l with ts := l.ts.refuse e.sid 11 }

/-- A TIME_REQ after checks 1 to 5 (R177): it waits for its answer, with the lane's own reading. -/
def Lane.takeReq (l : Lane) (x : LaneId) (e : SessEntry) (t : Tele) (stamp own : Nat) : Lane :=
  { l with ts := l.ts.set e.sid ((l.ts.at e.sid).noteReading x t.time stamp own) }

/-- An arrival that a lane verifies as in service (R19, R180): treated as not received, with a record, where the lane's read of it reports an
uncorrectable error; else counted where R96 carries it on, and given to `take` with its bytes. -/
def Lane.readArrival (l : Lane) (x : LaneId) (m : Image) (mem : Memory) (a : Arrival) (take : Lane → List Byte → Lane) : Lane :=
  if a.unreadable then l.basinError x a.addr else take (l.defer m a.stamp) (Memory.readN mem a.addr a.len)

/-- One kept arrival replayed in catch-up, as in service (R151): under the epochs and the role in which the donors took it. -/
def Lane.replayArrival (x : LaneId) (m : Image) (u : Nat) (mem : Memory) (l : Lane) (k : Kept) : Lane :=
  let a := k.arr
  let own := k.epochs
  l.readArrival x m mem a (fun l b =>
    match bits (getByte b 0) 0 4 with
    | 1 => l.takeTelegram m u own a b
    | 3 => (match l.takeTime m u own 3 a b with
      | (l, some (t, e)) => l.takeResp m e t a.stamp k.sleeper
      | (l, none) => l)
    | 2 => (l.takeTime m u own 2 a b).1
    | _ => l.takeTelegram m u own a b)

/-- An element put behind those of its stamp and before those of later ones. -/
def insertByStamp (stamp : α → Nat) (a : α) : List α → List α
  | [] => [a]
  | b :: l => if stamp a < stamp b then a :: b :: l else b :: insertByStamp stamp a l

/-- Arrivals in the order of their stamps, those of one stamp as they came (R151, R180). -/
def byStamp (stamp : α → Nat) (as : List α) : List α := as.foldl (fun l a => insertByStamp stamp a l) []

/-- Whether the unit was a sleeper at the freeze point of cycle `n`, as a lane in resync has noted it; `now` where it has no note (R151). -/
def Vote.roleIn (v : Vote) (n : Nat) (now : Bool) : Bool := ((v.roles.find? (fun p => p.1 == n)).map (·.2)).getD now

/-- The kept samples up to a cycle's freeze point fed to the filters (R151). -/
def Lane.replaySamples (l : Lane) (m : Image) (n : Nat) : Lane :=
  let due := l.vt.kept.filter (fun p => decide (p.1 * 100000 ≤ m.freezeAt n))
  let rest := l.vt.kept.filter (fun p => !decide (p.1 * 100000 ≤ m.freezeAt n))
  let io := due.foldl (fun io p => (List.range 64).foldl (LaneIO.sampleInput m p.2) io) l.io
  { l with io := io, vt := { l.vt with kept := rest } }

/-- The reference instants that a lane in resync has heard for the TIME_REQs of cycle n become those of its outstanding requests (R176). -/
def Lane.takeSaid (l : Lane) (m : Image) (n : Nat) : Lane :=
  let due := l.vt.said.filter (fun p => decide (p.2.1 = n * m.period))
  let ts := due.foldl (fun t p =>
    let c := t.at p.1
    if c.reqStamp = p.2.1 then t.set p.1 { c with reqOwn := c.reqOwn.set p.2.2.1 (some p.2.2.2) } else t) l.ts
  { l with ts := ts, vt := { l.vt with said := l.vt.said.filter (fun p => decide (n * m.period < p.2.1)) } }

/-- What the commit and the hand-over of cycle n do to the session contexts of a lane of the watcher that hands over nothing itself, as in
service (R151, R152, R164, R176, R177). -/
def Lane.spendCycle (l : Lane) (m : Image) (n : Nat) : Lane :=
  let l := l.markRequests m n
  { l with ts := l.ts.spent m n }.takeSaid m n

/-- One cycle replayed (R151): what the commit of the cycle before did to the contexts, the arrivals stamped before its freeze point in order
of their stamps, the samples, then the sessions' freshness decisions at that freeze point; each as the unit's role was then, `now` where the lane has not
noted it. -/
def Lane.replayCycle (x : LaneId) (m : Image) (u : Nat) (now : Bool) (mem : Memory) (l : Lane) : Lane :=
  let n := l.vt.ctxCycle + 1
  let due := byStamp (·.arr.stamp) (l.vt.arrivals.filter (fun a => decide (a.arr.stamp < m.freezeAt n)))
  let rest := l.vt.arrivals.filter (fun a => !decide (a.arr.stamp < m.freezeAt n))
  let td := l.td
  let sleeper := l.vt.roleIn n now
  let l := if l.vt.roleIn (n - 1) now then l else l.spendCycle m (n - 1)
  let l := { l with td := { l.td with cycle := n }, pe := { l.pe with freezeDone := false }, vt := { l.vt with arrivals := rest } }
  let l := due.foldl (Lane.replayArrival x m u mem) l
  let l := l.replaySamples m n
  let l := m.sessions.foldl (fun l e => (l.freezeSession m e n sleeper).1) l
  { l with td := { l.td with cycle := td.cycle, deferNow := td.deferNow, deferLast := td.deferLast }, vt := { l.vt with ctxCycle := n } }

/-- The cycles replayed up to the last delta applied, at most `fuel` of them (R151). -/
def Lane.replay (x : LaneId) (m : Image) (u : Nat) (now : Bool) (mem : Memory) (l : Lane) : Nat → Lane
  | 0 => l
  | fuel + 1 =>
    match l.vt.applied with
    | none => l
    | some c =>
      if l.vt.ctxCycle < c then (l.replayCycle x m u now mem).replay x m u now mem fuel else l

/-! ## The image of a lane -/

/-- What the load-time checks 5, 7 and 8 use (R147): the enrolled key, the station identifier and the lane's issue floor. -/
def State.loadEnv (s : State) (x : LaneId) : LoadEnv :=
  { key := s.cfg.key, station := s.cfg.station, floor := (s.lane x).ls.floor }

/-- The record of an image refused (R52, IMAGE_REFUSED): code, index, issue. -/
def Lane.imageRefused (l : Lane) (x : LaneId) (code idx : Nat) (file : List Byte) : Lane :=
  l.log x 0x0201 2 [code, idx, getBE file 20 4]

/-- The legacy parameter sets loaded into slots 5 to 7 with the fixed slots 0 to 4 (R188); the seal slots are disabled in
independent-lane mode (R159). -/
def CheckUnit.load (cv : CheckUnit) (m : Option Image) (indep : Bool) : CheckUnit :=
  let own := fun (x : LaneId) => if indep then none else some (sealParams x)
  let fixed : Assoc (Option CrcParams) := (List.range 5).foldl (fun a i =>
    Assoc.put none a i (match i with
      | 0 => own .a
      | 1 => own .b
      | 2 => own .c
      | 3 => some gaugeParams3
      | _ => some gaugeParams4)) []
  let slots := match m with
    | none => fixed
    | some m => (List.range 3).foldl (fun a i => Assoc.put none a (5 + i) (m.legacy.getD i none)) fixed
  { cv with slots := slots }

/-- A lane activates the image of its active slot: it runs it, with its nominal length and legacy slots (R60, R188). -/
def Lane.activate (l : Lane) (m : Image) : Lane :=
  let slot := { l.activeSlot with mark := .active, image := some m, code := 0 }
  let ls := if l.ls.active then { l.ls with slot1 := slot, running := true } else { l.ls with slot0 := slot, running := true }
  { l with ls := ls, cv := l.cv.load (some m) (!l.rc.opts.voting), rc := { l.rc with wdogTimeout := 2 * m.tCycle, wdogLeft := 2 * m.tCycle } }

/-- Admission (R152): the lane votes from the cycle that begins, its resync ended; VT_RESYNC_CNT, VT_RESYNC_TIME and a
LANE_ADMITTED record. -/
def Lane.takeIn (l : Lane) (x : LaneId) (mask : Mask) (ms : Nat) : Lane :=
  let time := ms - l.vt.startMs
  let v := { l.vt.clearAttempt with state := .inService, mask := mask, resyncCnt := sat l.vt.resyncCnt, resyncTime := time,
                                    abortRun := 0, disagree := PerLane.all 0, committed := none }
  { l with vt := v }.log x 0x0602 1 [time, l.vt.attempt]

end Sys2Proof.Machine
end

