-- ==== Sys2Proof/Machine/VoteCore.lean ====
section
/-! DEFINITION. The gauge (R128), the decision tables (Table 6-5, R134), the commit (R97, R64, R113, R176, R150) and the agreement of the
tide (R25, R140 to R142) as shared operations. -/

namespace Sys2Proof.Machine

/-! ## The gauge (R128) -/

/-- The gauge stream of Table 6-1: the next buffer, the session-store summary as it stood at the freeze point, the constant-table digest,
the cycle number. -/
def Lane.gaugeStream (l : Lane) : List Byte :=
  (List.range 262144).flatMap (fun i => be 2 (Table.read l.pe.next i).toNat) ++
    (List.range 1024).flatMap (fun i => be 16 (Table.read l.vt.summary i).toNat) ++
    constDigest l.pe.consts l.pe.forces ++ be 8 l.td.cycle

/-- The two CRC-64 values over the stream (Table 6-2). -/
def Lane.gaugeParts (l : Lane) : BitVec 64 × BitVec 64 :=
  (BitVec.ofNat 64 (crc gaugeParams3 l.gaugeStream), BitVec.ofNat 64 (crc gaugeParams4 l.gaugeStream))

/-- Bits 127:64 slot 3, bits 63:0 slot 4 (R128). -/
def gaugeOf (p : BitVec 64 × BitVec 64) : BitVec 128 := p.1 ++ p.2

/-- The gauge with bit `b` inverted (R144). -/
def flipBit (g : BitVec 128) (b : Nat) : BitVec 128 := g ^^^ BitVec.ofNat 128 (2 ^ b)

/-- Whether cycle n sends a test gauge, and which lane sends it (R144). -/
def testCycle (n : Nat) : Bool := n % 256 == 128
def testLane (n : Nat) : LaneId := LaneId.ofIdx (n / 256)
def testBitOf (n : Nat) : Nat := (n / 768) % 128

/-! ## The decision (R133, R134) -/

/-- What a peer's gauge is to a lane at the close of its window (R132). -/
inductive Against where
  | equal | different | missing
  deriving DecidableEq, Repr

/-- A peer's gauge against `own`: missing if not received; a lane that counts as disagreeing in rate or offset is different (R141,
R142). -/
def Vote.against (v : Vote) (own : BitVec 128) (y : LaneId) : Against :=
  match v.got.get y with
  | none => .missing
  | some g => if v.disagree.get y ≠ 0 then .different else if g.gauge = own then .equal else .different

/-- Two peers' gauges against each other. -/
def Vote.peersEqual (v : Vote) (y z : LaneId) : Bool :=
  match v.got.get y, v.got.get z with
  | some g, some h => decide (g.gauge = h.gauge) && decide (v.disagree.get y = 0) && decide (v.disagree.get z = 0)
  | _, _ => false

/-- The outcome of a window. -/
inductive Verdict3 where
  | continue_ (removed : Option LaneId)
  | minority
  | stop (cause : Nat)
  deriving DecidableEq, Repr

/-- Table 6-5, seen from a lane with peers y and z. -/
def decideThree (xy xz : Against) (yz : Bool) (y z : LaneId) : Verdict3 :=
  match xy, xz with
  | .equal, .equal => .continue_ none
  | .equal, _ => .continue_ (some z)
  | _, .equal => .continue_ (some y)
  | .different, .different => if yz then .minority else .stop 1
  | _, _ => .stop 3

/-- R134: a lane with one peer continues only if the gauges are equal and neither lane disagrees in rate (3) or offset (4). -/
def decideTwo (xy : Against) (flag : Nat) : Verdict3 :=
  match xy with
  | .missing => .stop 3
  | .different => if flag = 3 then .stop 5 else if flag = 4 then .stop 6 else .stop 2
  | .equal => if flag = 3 then .stop 5 else if flag = 4 then .stop 6 else .continue_ none

/-- The peers of a lane in its service mask. -/
def Vote.inMask (v : Vote) (x : LaneId) : List LaneId := x.peers.filter (fun y => v.mask.get y)

/-- The decision of a lane whose own gauge is `own` (R133, R134). With two lanes a disagreement of equal gauges is one of rate or of
offset, by the lane's own flag or its peer's. -/
def Vote.decide3 (v : Vote) (x : LaneId) (own : BitVec 128) : Verdict3 :=
  match v.inMask x with
  | [y, z] => decideThree (v.against own y) (v.against own z) (v.peersEqual y z) y z
  | [y] =>
    let same : Bool := match v.got.get y with
      | some g => decide (g.gauge = own)
      | none => false
    decideTwo (v.against own y) (if same then (if v.disagree.get x ≠ 0 then v.disagree.get x else v.disagree.get y) else 0)
  | _ => .stop 4

/-- Whether the window's gauges are all in (R132). -/
def Vote.allIn (v : Vote) (x : LaneId) : Bool := (v.inMask x).all (fun y => (v.got.get y).isSome)

/-! ## The masks after a window (R133, R138, R145, R152, R156) -/

/-- A mask without a lane. -/
def Mask.drop (m : Mask) (y : LaneId) : Mask := m.set y false

/-- The later of two lanes in the order A, B, C. -/
def laterLane (y z : LaneId) : LaneId := if y.idx < z.idx then z else y

/-- The peer a mutual exclusion removes (R138): both peers' masks of this cycle exclude the other. -/
def Vote.mutual (v : Vote) (x : LaneId) : Option LaneId :=
  match x.peers with
  | [y, z] =>
    match v.got.get y, v.got.get z with
    | some g, some h => if v.mask.get y && v.mask.get z && !g.mask.get z && !h.mask.get y then some (laterLane y z) else none
    | _, _ => none
  | _ => none

/-- A lane's mask after it continues: the lane that the decision removes, the lanes whose comparators echoed 0x02, the higher of two
peers that exclude each other, and the lanes that leave. -/
def Vote.maskAfter (v : Vote) (x : LaneId) (removed : Option LaneId) : Mask :=
  let m := match removed with
    | some y => Mask.drop v.mask y
    | none => v.mask
  let m := match v.mutual x with
    | some y => Mask.drop m y
    | none => m
  x.peers.foldl (fun m y =>
    let leaving : Bool := match v.got.get y with
      | some g => g.leaving
      | none => false
    if leaving || v.testEcho.get y = 2 then Mask.drop m y else m) m

/-- The donors' count of a candidate's consecutive equal gauges (R152). -/
def Vote.countCandidates (v : Vote) (x : LaneId) (own : BitVec 128) : Vote :=
  x.peers.foldl (fun v y =>
    if v.mask.get y then v
    else match v.cand.get y with
      | some g => { v with candRun := v.candRun.set y (if g.gauge = own then v.candRun.get y + 1 else 0) }
      | none => { v with candRun := v.candRun.set y 0 }) v

/-! ## The commit (R64, R65, R97, R113) -/

/-- The rotation of the buffers at commit (R64): current becomes previous, next becomes current, previous becomes next; the copy of R65
begins. -/
def Engine.commit (e : Engine) : Engine :=
  { e with prev := e.cur, cur := e.next, next := e.prev, physPrev := e.physCur, physCur := e.physNext, physNext := e.physPrev,
           copyDone := false, state := .copying }

/-- The first 88 bytes of a snapshot (Table 5-1). -/
def snapshotHead (m : Image) (n power : Nat) : List Byte :=
  be 8 n ++ be 4 power ++ be 4 m.retained.length ++ padTo 64 m.digest ++ be 4 m.issue ++ be 4 0

/-- The snapshot of the committed state of cycle n (R113, Table 5-1). -/
def Lane.snapshot (l : Lane) (m : Image) (n power : Nat) : Snapshot :=
  let vals := m.retained.map (fun i => Table.read l.pe.cur i)
  { cycle := n, power := power, issue := m.issue, digest := m.digest, complete := true, values := vals,
    valDigest := shake256 32 (snapshotHead m n power ++ vals.flatMap (fun v => be 2 v.toNat)) }

/-- The snapshot written over the older half (R113); the retention clock restarts. With more than 131,008 RETAIN variables none is
written. -/
def Lane.writeSnapshot (l : Lane) (m : Image) (n power : Nat) : Lane :=
  if 131008 < m.retained.length then l
  else
    let sn := l.snapshot m n power
    let ls := if l.ls.newer1 then { l.ls with snap0 := some sn, newer1 := false } else { l.ls with snap1 := some sn, newer1 := true }
    { l with ls := { ls with retention := some 0 } }

/-- A lane commits cycle n at an offset (R97): its buffers rotate, it records the commit and the state committed, and the registers of the last
cycle change together (R379). -/
def Lane.commit (l : Lane) (n offset : Nat) : Lane :=
  let shown : LastCycle :=
    { tFreeze := l.td.tFreeze, tSweep := l.td.tSweep, tScan := l.td.tScan, tVote := offset, tHandover := l.td.tHandover, defer := l.td.deferLast,
      sweep := l.pe.sweepLast, stall := l.pe.stallLast, cycle := l.pe.cycleDone, busy := l.pe.busy }
  { l with pe := l.pe.commit, vt := { l.vt with committed := some n, lastState := l.pe.next, lastConsts := l.pe.consts, lastForces := l.pe.forces }, td := { l.td with phase := .committed, tVote := offset, shown := shown } }

/-- The delta of cycle n of a donor whose committed state of the cycle before was `old` (R150): the slots of the committed state that changed,
and the changes of constants and forces for cycle n + 1. -/
def State.deltaFor (s : State) (x : LaneId) (n : Nat) (old : Table 16) : Delta :=
  let l := s.lane x
  let m := l.image
  let e := s.engineAt x (n + 1)
  let changed := (List.range m.nConst).filter (fun i => decide (Table.read l.pe.consts i ≠ Table.read e.consts i))
  { cycle := n, slots := changedSlots old l.pe.cur m.vars.length,
    consts := changed.map (fun i => (BitVec.ofNat 16 i, Table.read e.consts i)),
    forces := if e.forces = l.pe.forces then none else some (e.forces.map (fun p => (p.1, p.2.getD 0#16))) }

/-- Whether a lane takes deltas: its base of an earlier cycle is under way or taken (R150). -/
def State.joinerFor (s : State) (x : LaneId) (n : Nat) : Bool :=
  x.peers.any (fun y => (s.lane y).vt.state == .base || (s.lane y).vt.state == .catchUp) &&
    (match (s.lane x).vt.baseTaken with
    | some b => decide (b.cycle < n)
    | none => false)

/-- What the commit of a lane in service whose committed state before was `old` brings with it: the snapshot, the TIME_REQs of a watcher, the delta of a donor, and the requests
that were to be committed. -/
def State.afterCommit (s : State) (x : LaneId) (n : Nat) (old : Table 16) : State :=
  let m := (s.lane x).image
  let power := s.cfg.powerCycles
  let s := s.mramWrite (.lane x) (.retained x) (fun s => s.modLane x (fun l => l.writeSnapshot m n power))
  let s := s.modLane x (fun l => if s.leads then l.markRequests m n else { l with ts := l.ts.dropAnswers m n })
  let s := if s.joinerFor x n then s.emit (.delta x (s.deltaFor x n old).bytes) else s
  s.noteCommit x n

/-! ## The agreement of the tide (R25, R140 to R142, R148) -/

/-- The median of three integers. -/
def median3 (a b c : Int) : Int := max (min a b) (min (max a b) c)

/-- The lanes whose values a lane forms the agreed tide from, without itself (R25, R148, R159): the peers in its mask; the peers in
independent-lane mode; the donors of a lane that has joined. -/
def State.tidePeers (s : State) (x : LaneId) : List LaneId :=
  let l := s.lane x
  if l.inService then l.vt.inMask x
  else if l.indep then x.peers.filter (fun y => (s.lane y).indep)
  else if l.vt.joinCycle.isSome then x.peers.filter (fun y => (s.lane y).inService)
  else []

/-- The agreed tide as an offset to the lane's own, from its peers' offsets; a lane in resync counts no value of its own. -/
def agreedOffset (own : Bool) (offs : List Int) : Int :=
  match offs, own with
  | [a, b], true => median3 0 a b
  | [a], true => halve a
  | [a, b], false => halve (a + b)
  | [a], false => a
  | _, _ => 0

/-- The rate deviation of a lane between two agreements in units of 0.01 ppm (R141): the drift of its tide against the agreed one over the `time` that lay
between them in ticks, less the correction it applies. -/
def deviation (rel last : Int) (time : Nat) (rate : Int) : Int := (rel - last) * 100000000 / (time : Int) - rate

/-- Lane `y`'s value entered into lane `l`'s record of the agreement: its offset to the agreed value, and its deviation where an earlier
agreement exists; at most 16 are kept. -/
def TideUnit.note (t : TideUnit) (y : LaneId) (rel rate : Int) (period : Nat) : TideUnit :=
  let devs := match t.lastOff.get y with
    | some (p, c) => ((t.devs.get y) ++ [deviation rel p ((t.cycle - c) * period) rate])
    | none => t.devs.get y
  { t with lastOff := t.lastOff.set y (some (rel, t.cycle)), devs := t.devs.set y (devs.drop (devs.length - 16)) }

/-- Whether the average of a lane's deviations exceeds 300 ppm in magnitude (R141); exactly 300 ppm is admitted. -/
def exceedsRate (devs : List Int) : Bool := decide (30000 * devs.length < devs.sum.natAbs)

/-- One lane's offset against the limit of 20 µs (R142): the run of consecutive agreements beyond it, counted once AGREED has been set. -/
def TideUnit.offset (t : TideUnit) (y : LaneId) (rel : Int) : TideUnit :=
  let off : Bool := decide (2000 < rel.natAbs)
  { t with offRun := t.offRun.set y (if off && t.everAgreed then t.offRun.get y + 1 else 0) }

/-- The disagreement flag of a lane after an agreement: 3 rate, 4 offset; a flag once set stays. -/
def flagOf (old : Nat) (t : TideUnit) (y : LaneId) : Nat :=
  if old ≠ 0 then old else if exceedsRate (t.devs.get y) then 3 else if 2 ≤ t.offRun.get y then 4 else 0

/-- The rate correction with which a lane brings its tide to the value it steers to (R25, R27): what cancels its own deviation of the last
agreement, and towards that value, `ahead` ticks in front of its own tide, an amount that the spec leaves open (log entry 8), within ±500 ppm
(Table 6-6). DEDUCED: the direction is R25's, the cancelled deviation that of the example beside R142. -/
def steer (ahead dev : Int) (amount : Nat) : Int :=
  let push : Int := if 0 < ahead then (amount : Int) else if ahead < 0 then -(amount : Int) else 0
  clamp (-50000) 50000 (push - dev)

/-- The ring on which a sleeper observes the leader's tide (R27): one that it follows, also through a holdover, or else a VK2 ring on which it has heard
its master (R224). -/
def State.leaderRing (s : State) : Option Ring :=
  let native := s.rings.ring.find? (fun p => p.2.state == .follow || p.2.state == .holdover)
  if s.sleeps then (native.orElse (fun _ => s.rings.ring.find? (fun p => p.2.state == .vk2Passive && p.2.timeSet))).map (·.2) else none

/-- How far the Dikeline leader's tide is in front of the lanes' own in ticks (R27), from units of 2^−16 ns: the offset θ of R204 is the own clock's lead, so
its negative; 0 for a unit that observes none. -/
def State.leaderAhead (s : State) : Int := (s.leaderRing.map (fun g => -g.offset / 655360)).getD 0

/-- What a lane takes part with in an agreement: the lanes whose values form the agreed tide, whether its own counts among them, the lanes it
only measures (R148), and how far the leader's tide is ahead (R27). -/
structure Agreement where
  peers    : List LaneId
  own      : Bool
  measured : List LaneId
  ahead    : Int

/-- The agreement formed in a lane (R25, R27, R140): offsets of the peers to its own tide, deviations, the AGREED flag, and the rate correction.
A deviation pairs a lane's drift since the agreement before with the correction that its TIDE message says it applied. -/
def Lane.agree (l : Lane) (x : LaneId) (a : Agreement) (period fresh : Nat) : Lane :=
  let value := fun (y : LaneId) => (l.td.rx.get y).getD (0, 0)
  let ag := agreedOffset a.own (a.peers.map (fun y => (value y).1))
  let mine : LaneId × Int × Int := (x, 0, l.td.rate)
  let heard := a.peers.map (fun y => (y, value y))
  let voters := mine :: heard
  let td := voters.foldl (fun t p => (t.note p.1 (p.2.1 - ag) p.2.2 period).offset p.1 (p.2.1 - ag)) l.td
  let td := a.measured.foldl (fun t y => t.note y ((value y).1 - ag) (value y).2 period) td
  let within := (if a.own then voters else heard).all (fun p => decide ((p.2.1 - ag).natAbs ≤ 2000))
  let dis := if l.inService then voters.foldl (fun (d : PerLane Nat) p => d.set p.1 (flagOf (d.get p.1) td p.1)) l.vt.disagree
    else l.vt.disagree
  let dev := ((td.devs.get x).getLast?).getD 0
  { l with
      td := { td with agreed := within, everAgreed := td.everAgreed || within, spread := -ag,
                      rate := steer (ag + a.ahead) dev (Config.freeRate fresh).natAbs,
                      rx := (a.peers ++ a.measured).foldl (fun r y => r.set y none) td.rx, agreements := td.agreements + 1,
                      agreeCycle := some l.td.cycle },
      vt := { l.vt with disagree := dis } }

end Sys2Proof.Machine
end

