-- ==== Sys2Proof/Machine/Resync.lean ====
section
/-! DEFINITION. The commands of the resync and of lane rotation (R146 to R157). -/

namespace Sys2Proof.Machine

/-- RESYNC_LOADING_COMPLETE (R147, R333): the lane has run its test slices, the active image read from its own flash passes every check of Table
2-12 in force now, and its digest equals the donors': the lane passes to joining. A refused image aborts the attempt with code 1; without two donors it
aborts with code 3. -/
def execResyncLoadingComplete (x : LaneId) (s : State) : Out :=
  let l := s.lane x
  if l.vt.state ≠ .loading || l.bi.slices ≠ 1 || l.rc.fail = 5 then .next s
  else match s.donors x with
    | none => .next (s.abortResync x 3)
    | some (y, _) =>
      match loadImage (s.loadEnv x) l.activeSlot.file with
      | .error (code, idx) =>
        .next ((s.modLane x (fun l => l.imageRefused x code idx l.activeSlot.file)).abortResync x 1)
      | .ok m =>
        if m.digest = (s.lane y).image.digest then
          .next (s.modLane x (fun l =>
            let l := l.activate m
            { l with vt := { l.vt with state := .joining } }))
        else .next s

/-- A donor starts to measure a lane that has taken the tide (R148); it has taken no base for it yet. -/
def Lane.watchJoiner (l : Lane) (x : LaneId) : Lane :=
  { l with td := { l.td with lastOff := l.td.lastOff.set x none, devs := l.td.devs.set x [], offRun := l.td.offRun.set x 0,
                             rx := l.td.rx.set x none },
           vt := { l.vt with disagree := l.vt.disagree.set x 0, candRun := l.vt.candRun.set x 0, baseTaken := none } }

/-- RESYNC_JOINING (R147, R148): with both links' delays measured and the donors' TIDE messages in, the lane sets its tide once to the
agreed value and passes to the base phase. Its base is that of the first cycle that both donors have still to commit (R149). -/
def execResyncJoining (x : LaneId) (s : State) : Out :=
  let l := s.lane x
  match s.donors x with
  | none => .next (if l.vt.state = .joining then s.abortResync x 3 else s)
  | some (y, z) =>
    match l.td.rx.get y, l.td.rx.get z with
    | some p, some q =>
      if l.vt.state == .joining && l.rc.fail != 5 && (l.td.linkDelay.get y).isSome && (l.td.linkDelay.get z).isSome then
        let tide := ((l.td.tide : Int) + agreedOffset false [p.1, q.1]).toNat
        let done := decide ((s.lane y).vt.committed = some s.cycle) || decide ((s.lane z).vt.committed = some s.cycle)
        let s := s.modLane x (fun l =>
          { l with td := { l.td with tide := tide, cycle := s.cycle, rx := PerLane.all none },
                   vt := { l.vt with state := .base, joinCycle := some (if done then s.cycle + 1 else s.cycle) } })
        .next ((s.modLane y (·.watchJoiner x)).modLane z (·.watchJoiner x))
      else .next s
    | _, _ => .next s

/-- BASE_BLOCK_RECEIVE (R149): block `block` of the stream of `donor` arrives. It is accepted only if both donors' copies are identical; a mismatch
aborts with code 2. With all 258 blocks in, the lane holds the base and passes to catch-up. A frame that fails its check is counted in any
state of the lane (R130). -/
def execBaseBlockReceive (x donor : LaneId) (block : Fin 258) (crcOk : Bool) (s : State) : Out :=
  let l := s.lane x
  if !crcOk then .next (s.linkError x donor)
  else if l.vt.state ≠ .base || donor = x then .next s
  else match s.donors x, (s.lane donor).vt.baseTaken with
    | none, _ => .next (s.abortResync x 3)
    | some _, none => .next s
    | some (y, z), some b =>
      let data := b.block (s.lane donor).image block.val
      let other := if donor = y then z else y
      let s1 := s.modLane x (fun l =>
        { l with vt := { l.vt with blocks := l.vt.blocks.modify donor (fun b => Assoc.insert block.val data b) } })
      let v := (s1.lane x).vt
      let has := fun (d : LaneId) (i : Nat) => (v.blocks.get d).any (fun p => p.1 == i)
      if has other block.val && Assoc.get [] (v.blocks.get other) block.val ≠ data then .next (s1.abortResync x 2)
      else if (List.range 258).all (fun i => has y i && has z i) then
        .next (s1.modLane x (fun l => l.loadBase l.image b ((v.blocks.get donor).flatMap (·.2))))
      else .next s1

/-- The bytes of the buffered deltas of one donor (R150). -/
def Vote.deltaBytes (v : Vote) (d : LaneId) : Nat := ((v.deltas.get d).map List.length).sum

/-- DELTA_RECEIVE (R150): the bytes of a delta of cycle c are buffered; one that differs from the other donor's delta of the cycle aborts the attempt
with code 2, a buffer above 4 MiB with code 6. -/
def execDeltaReceive (x donor : LaneId) (data : List Byte) (crcOk : Bool) (s : State) : Out :=
  let l := s.lane x
  if !crcOk then .next (s.linkError x donor)
  else if !l.keepsArrivals || donor = x then .next s
  else match s.donors x with
    | none => .next (s.abortResync x 3)
    | some (y, z) =>
      let other := if donor = y then z else y
      let s1 := s.modLane x (fun l => { l with vt := { l.vt with deltas := l.vt.deltas.modify donor (· ++ [data]) } })
      let v := (s1.lane x).vt
      if (v.deltas.get other).any (fun e => getBE e 0 8 == getBE data 0 8 && e != data) then .next (s1.abortResync x 2)
      else if 0x400000 < v.deltaBytes donor then .next (s1.abortResync x 6)
      else .next s1

/-- RESYNC_PHASE_TIMEOUT (R147): a phase that exceeds its maximum aborts the attempt with code 5. -/
def execResyncPhaseTimeout (x : LaneId) (s : State) : Out :=
  .next (if (s.lane x).vt.state = .rotationTest then s else s.abortResync x 5)

/-- RESYNC_ATTEMPT_TIMEOUT (R153): an attempt that has not ended in admission within its limit is abandoned with code 5. -/
def execResyncAttemptTimeout (x : LaneId) (s : State) : Out :=
  .next (if (s.lane x).vt.state = .rotationTest then s else s.abortResync x 5)

/-! ## Lane rotation -/

/-- A partner whose report came in the last 16 cycles (R270). -/
def State.partnerHeard (s : State) : Option PartnerReport :=
  match s.unit.partner with
  | some r => if s.cycle ≤ s.unit.partnerCycle + 16 then some r else none
  | none => none

/-- VT_ROTATION.DEFER (R155, Table 6-15): why a due rotation cannot start; 0 where it can. A change in service is pending while a request with a change item
(R117, R119) waits for its apply cycle; forces alone are none (R159 names the two apart). DESIGN CHOICE: of several conditions that fail at once the first in the order 0x01, 0x04, 0x05, 0x02, 0x03, 0x06
shows, that of R155's list; the spec gives none (log entry 85). -/
def State.rotationDefer (s : State) : Nat :=
  if Mask.count s.serviceMask < 3 then 1
  else if s.unit.pend.any (fun p => p.format == 1 && hasChange p.bytes) then 4
  else if s.upd.holder.isSome then 5
  else match s.partnerHeard with
    | some r =>
      if Mask.count r.mask < 3 then 2
      else if r.rotation = 2 ∨ r.rotation = 3 ∨ r.rotation = 4 then 3
      else if r.rotation = 1 ∧ !s.leads then 6
      else 0
    | none => 0

/-- ROTATION_DUE (R154, R155): a rotation becomes due in a unit that votes; DEFER shows why it cannot start yet. -/
def execRotationDue (s : State) : Out :=
  if (s.leads || s.sleeps) && s.unit.rot.state = 0 && s.unit.rot.leaving.isNone then
    .next { s with unit := { s.unit with rot := { s.unit.rot with state := 1, defer := s.rotationDefer, checkAt := s.tideMs + 60000 } } }
  else .next s

/-- ROTATION_DEFER_CHECK (R155): the conditions of a deferred rotation are checked again, every 60 s. -/
def execRotationDeferCheck (s : State) : Out :=
  if s.unit.rot.state = 1 then
    .next { s with unit := { s.unit with rot := { s.unit.rot with defer := s.rotationDefer, checkAt := s.tideMs + 60000 } } }
  else .next s

/-- LANE_ROTATION_START (R155, R156): in the first cycle in which nothing defers a due rotation, the next lane sets LEAVING in the GAUGE
message it has still to send; it withdraws at the next tide mark (TIDE_MARK). -/
def execLaneRotationStart (s : State) : Out :=
  let x := s.unit.rot.next
  let l := s.lane x
  if s.unit.rot.state = 1 && s.rotationDefer = 0 && l.inService && l.vt.own.isNone && l.vt.committed ≠ some l.td.cycle then
    .next ({ s with unit := { s.unit with rot := { s.unit.rot with state := 2, defer := 0, leaving := some x } } }.modLane x
      (fun l => { l with vt := { l.vt with leaving := true } }))
  else .next s

end Sys2Proof.Machine
end

