-- ==== Sys2Proof/Machine/RequestCore.lean ====
section
/-! DEFINITION. Host requests: the checks each lane makes on a request (Tables 5-5, 10-4, 12-4, 14-2 and 14-4), in their order, as the
order number and the code of the first that fails; the agreement of the lanes (R119); and what settling a request does (R346, R347). -/

namespace Sys2Proof.Machine

/-! ## The mailbox level (R301, Table 12-4) -/

/-- The bytes that a format requires, from its item count (Tables 5-3, 14-3; R366, R371); none for a format that is not defined. -/
def formatLen (f count : Nat) : Option Nat :=
  match f with
  | 0x01 | 0x04 => some (128 + 8 * count)
  | 0x02 | 0x03 | 0x13 | 0x15 | 0x18 | 0x30 | 0x31 | 0x32 => some 136
  | 0x10 => some (128 + 3357)
  | 0x11 => some (128 + 5301)
  | 0x12 => some 176
  | 0x14 | 0x17 => some 128
  | 0x16 => some 192
  | _ => none

/-- Whether a message lies wholly in region 6, and has a length it may have: only such a message is read. -/
def messageLies (addr len : Nat) : Bool :=
  decide (0x0C000000 ≤ addr) && decide (addr + len ≤ 0x0E000000) && decide (0 < len) && decide (len ≤ 65536)

/-- The mailbox-level code of a message, 0 where it reaches its operation (Table 12-4). -/
def messageCode (addr len : Nat) (b : List Byte) (readError : Bool) : Nat :=
  if addr < 0x0C000000 ∨ 0x0E000000 < addr + len then 0x0C01
  else if len = 0 ∨ 65536 < len then 0x0C02
  else if readError then 0x0C04
  else if len < 2 then 0x0C02
  else match formatLen (reqFormat b) (reqCount b) with
    | none => 0x0C03
    | some n => if len < n then 0x0C02 else 0

/-! ## Checks 1 to 6 -/

/-- The life-cycle state as the unit shows it: that of the lanes in service, else lane A's. -/
def State.life (s : State) : Nat := (s.lane s.voice).ls.life

/-- Whether a life-cycle state permits a kind of request (R116, R124, R159, R337, R342, R371; log entry 50 for the requests that Table
14-2 has no row for). -/
def permitted (life : Nat) (indep : Bool) (b : List Byte) : Bool :=
  let service := life == 2 || life == 3 || life == 4
  match reqFormat b with
  | 0x01 =>
    let kinds := reqItems b
    !indep && service && !(kinds.any Item.isChange && life == 4) && !(kinds.any Item.isForce && life == 3)
  | 0x02 | 0x03 | 0x04 => service
  | 0x10 | 0x12 => life != 5
  | 0x11 => life == 2 || life == 4
  | 0x13 => life != 5
  | 0x18 => true
  | _ => service || life == 1

/-- The authenticator of a request: the first 32 bytes of SHAKE256 over the password hash and the request with its authenticator
zero (R118). -/
def authenticator (pwHash b : List Byte) : List Byte :=
  shake256 32 (pwHash ++ b.take 80 ++ List.replicate 32 0#8 ++ b.drop 112)

/-- The item bytes of a one-item request: byte 0 and bytes 1 to 3, and the value. -/
def itemBytes (b : List Byte) (k : Nat) : List Byte := slice b (128 + 8 * k) 8

/-- Whether a list has an element twice. -/
def hasRepeat : List Nat → Bool
  | [] => false
  | n :: ns => ns.contains n || hasRepeat ns

/-- What the items of a change request may not be (R117): an unknown kind, a reserved field set, the same constant twice, change and
force items mixed. -/
def badItems (m : Image) (b : List Byte) : Bool :=
  let is := reqItems b
  is.any (fun i => !i.isChange && !i.isForce) || (is.any Item.isChange && is.any Item.isForce) ||
    is.any (fun i => (i.kind == 4 || i.kind == 5) && i.value != 0) || is.any (fun i => i.kind == 5 && i.index != 0) ||
    hasRepeat ((is.filter (fun i => i.kind == 1 || (i.kind == 2 && m.hasVar i.index && (m.var i.index).cls == .par))).map (Item.constant m))

/-- Check 4 (BAD_REQUEST): the format's item count, its kinds and its reserved fields. Table 12-4 names only a message shorter than its format
requires; a longer one is refused here (log entry 89). -/
def badRequest (m : Image) (b : List Byte) : Bool :=
  let f := reqFormat b
  let n := reqCount b
  let it := itemBytes b 0
  let wrongLen := match formatLen f n with
    | some k => b.length != k
    | none => true
  let applyZero := reqApply b = 0 || f = 1 || f = 2 || f = 3 || f = 4 || f = 0x10 || f = 0x13
  wrongLen || !allZero (slice b 112 16) || !applyZero ||
    (match f with
    | 0x01 => n = 0 || 256 < n || badItems m b
    | 0x02 => n != 1 || getByte it 0 != 0x10 || getBE it 1 3 != 0 || 15 < getBE it 4 4
    | 0x03 => n != 1 || getByte it 0 != 0x20 || getBE it 1 7 != 0
    | 0x04 => n = 0 || 16 < n || (List.range n).any (fun k =>
        let i := itemBytes b k
        getByte i 0 < 0x30 || 0x35 < getByte i 0 || getBE i 2 2 != 0)
    | 0x13 => n != 1 || getByte it 0 != 0x30 || getBE it 1 3 != 0 || (getBE it 4 4 != 1 && getBE it 4 4 != 2)
    | 0x15 => n != 1
    | 0x18 => n != 1 || getBE it 4 4 = 0 || 256 < getBE it 4 4
    | 0x32 => n != 1 || 3 < getByte it 0 || getBE it 1 7 != 0
    | _ => n != 0)

/-- The formats that wait for an apply cycle (R120), one request of each at a time. -/
def waits (f : Nat) : Bool := f == 1 || f == 2 || f == 3 || f == 4 || f == 0x10 || f == 0x13

/-- Whether a request of the same format is pending, or under check or waiting for its log entry in another mailbox. -/
def State.pendingSame (s : State) (mb f : Nat) : Bool :=
  (f != 3 && s.unit.pend.any (fun p => p.format == f)) ||
    s.unit.reqs.any (fun q => q.1 != mb && (match q.2 with
      | some r => reqFormat r.bytes == f
      | none => false)) ||
    (f == 3 && s.leads && (s.unit.swap.state == 1 || s.unit.swap.state == 2)) || (f == 0x13 && s.unit.resetAt.isSome)

/-- Whether the update session lock is held, or agreed to a requester whose log entry still waits (R354). -/
def State.lockTaken (s : State) (mb : Nat) : Bool :=
  s.upd.holder.isSome || s.unit.reqs.any (fun q => q.1 != mb && (match q.2 with
    | some r => r.settled && reqFormat r.bytes == 0x14
    | none => false))

/-- Check 6 (BUSY, R119, R301, R354). -/
def State.busy (s : State) (mb : Nat) (r : Request) : Bool :=
  let f := reqFormat r.bytes
  (waits f && s.pendingSame mb f) || ((f == 1 || f == 0x14) && s.lockTaken mb) ||
    ((f == 0x15 || f == 0x16 || f == 0x17) && (match s.upd.holder with
      | some h => h != r.requester
      | none => false))

/-- The password change that is agreed and waits for its log entry (R344): the newest of them. -/
def State.newPassword (s : State) : Option LogItem := s.cfg.logQueue.reverse.find? (fun i => i.kind == 0x12 && i.code == 0 && i.mailbox.isSome)

/-- The password hash in force for a request agreed now (R344): that of the last password change agreed. -/
def State.hashInForce (s : State) : List Byte :=
  match s.newPassword with
  | some i => i.after
  | none => s.cfg.pwHash

/-- The first of checks 1 to 6 that a request fails in lane `x`, as order and code; orders are those of Table 5-5 times 100, and 350 for
INITIAL_PASSWORD (R340). -/
def State.headCheck (s : State) (x : LaneId) (mb : Nat) (r : Request) : Option (Nat × Nat) :=
  let l := s.lane x
  let b := r.bytes
  let m := l.image
  let f := reqFormat b
  if !permitted l.ls.life l.indep b then some (100, 0x0501)
  else if s.cfg.lockout ≠ 0 then some (200, 0x0502)
  else if reqAuth b ≠ authenticator s.hashInForce b then some (300, 0x0503)
  else if s.cfg.pwInitial ∧ s.newPassword.isNone ∧ 2 ≤ l.ls.life ∧ f ≠ 0x12 ∧ f ≠ 0x18 then some (350, 0x0E0F)
  else if badRequest m b then some (400, 0x0504)
  else if reqDigest b ≠ padTo 64 m.digest then some (500, 0x0505)
  else if s.busy mb r then some (600, 0x050D)
  else none

/-! ## The checks of items (orders 7 to 14) -/

/-- Whether a value written to constant `c` is too large for a PAR variable it backs (BAD_VALUE). -/
def constTooLarge (m : Image) (c value : Nat) : Bool :=
  m.vars.any (fun v => v.cls == .par && v.constIdx == c && (65536 ≤ value || limitOf v < value % 65536))

/-- Whether constant `c` with a value would give a timer an effective preset above 65,000 (TIMER_RANGE, R82). -/
def timerTooLong (m : Image) (e : Engine) (c value : Nat) : Bool :=
  let e := { e with consts := Table.write e.consts c (BitVec.ofNat 32 value) }
  m.terms.any (fun w => match Term.decode w with
    | some t => t.op.isTimer && t.bk && t.constIdx == c && 65000 < effectivePreset m e t
    | none => false)

/-- The first failing check of a change item (R119): FORCED, NOT_PAR, BAD_INDEX, BAD_VALUE, TIMER_RANGE. -/
def changeCheck (m : Image) (e : Engine) (i : Item) : Option (Nat × Nat) :=
  let par := i.kind = 2
  if par ∧ (e.forceOf i.index).isSome then some (700, 0x0506)
  else if par ∧ m.hasVar i.index ∧ (m.var i.index).cls ≠ .par then some (800, 0x0507)
  else if (if par then !m.hasVar i.index else decide (m.nConst ≤ i.index)) then some (1000, 0x0508)
  else if constTooLarge m (i.constant m) i.value then some (1100, 0x0509)
  else if timerTooLong m e (i.constant m) i.value then some (1200, 0x050A)
  else none

/-- The first failing check of a force item: NOT_FORCEABLE, BAD_INDEX, BAD_VALUE. -/
def forceCheck (m : Image) (i : Item) : Option (Nat × Nat) :=
  let v := m.var i.index
  if i.kind = 5 then none
  else if m.hasVar i.index ∧ ¬ ((v.cls = .inp ∨ v.cls = .out) ∧ v.forceable) then some (900, 0x0510)
  else if !m.hasVar i.index then some (1000, 0x0508)
  else if i.kind = 3 ∧ limitOf v < i.value then some (1100, 0x0509)
  else none

/-- The checks 13 and 14 on a whole change request: TOO_MANY forces, OVERLAY_FULL. -/
def State.wholeCheck (s : State) (x : LaneId) (b : List Byte) : Option (Nat × Nat) :=
  let l := s.lane x
  let m := l.image
  if 256 < (l.pe.applyRequest m b).forces.length then some (1300, 0x0511)
  else if hasChange b ∧ 8192 < (s.cfg.mergeItems m b).overlay.length then some (1400, 0x0516)
  else none

/-- A settings item whose byte 1 or value is out of range (R281, Tables 11-3 and 11-5). -/
def badSetting (i : List Byte) : Bool :=
  let k := getByte i 1
  let v := getBE i 4 4
  let net := k ≤ 2
  let port := 21 ≤ k ∧ k ≤ 26
  match getByte i 0 with
  | 0x30 => !net
  | 0x31 => !net || v ≠ fld (bits v 13 3) 13 3 + bits v 0 6
  | 0x32 => k ≠ 2 || 127 < v
  | 0x33 => !port || 255 < v || 5 < bits v 0 4 || (8 < bits v 4 4 && bits v 4 4 ≠ 15)
  | 0x34 => !port || bit v 29 || (!bit v 30 && 0x7FF < bits v 0 29)
  | _ => (k ≠ 31 && k ≠ 32) || 1 < v

/-! ## The lanes that check, and their agreement (R119) -/

/-- The lanes that check requests: those in service; while none is, those released that have not failed. -/
def State.checkLanes (s : State) : List LaneId :=
  if s.serviceLanes.isEmpty then
    LaneId.list.filter (fun x => (s.lane x).rc.released.getLsbD 7 && (s.lane x).rc.fail == 0)
  else s.serviceLanes

/-- The request of a host mailbox. -/
def State.req (s : State) (mb : Nat) : Option Request := Assoc.get none s.unit.reqs mb

/-- The request of a host mailbox set. -/
def State.setReq (s : State) (mb : Nat) (r : Option Request) : State :=
  { s with unit := { s.unit with reqs := Assoc.put none s.unit.reqs mb r } }

/-- The lower of two findings: a lane stops at the first check that fails. -/
def firstOf (a b : Option (Nat × Nat)) : Option (Nat × Nat) :=
  match a, b with
  | some p, some q => if q.1 < p.1 then some q else some p
  | none, q => q
  | p, none => p

/-- A finding of lane `x` noted in its request. -/
def Request.note (r : Request) (x : LaneId) (c : Option (Nat × Nat)) : Request :=
  { r with codes := r.codes.modify x (fun a => firstOf a c) }

/-- The code a lane has found, 0 where it accepts. -/
def Request.code (r : Request) (x : LaneId) : Nat :=
  match r.codes.get x with
  | some p => p.2
  | none => 0

/-- What a verdict carries as the digest of the request, for a stage request with the digest of the package the lane has verified. -/
def State.verdictDigest (s : State) (x : LaneId) (r : Request) : List Byte :=
  shake256 32 r.bytes ++
    (if reqFormat r.bytes = 0x15 then
      (match s.upd.kind with
      | 1 => (match (s.lane x).otherSlot.image with
        | some m => m.digest
        | none => [])
      | 2 => (if (s.lane x).ls.fw.active then (s.lane x).ls.fw.slot0 else (s.lane x).ls.fw.slot1).digest
      | _ => (if s.ph.fw.active then s.ph.fw.slot0 else s.ph.fw.slot1).digest)
    else [])

/-- The outcome of the verdicts a lane holds: still open, accepted under a digest, or refused with a code. -/
inductive Agreed where
  | open_
  | accept (digest : List Byte)
  | refuse (code : Nat)
  deriving DecidableEq, Repr

/-- The code, other than ACCEPTED, that two of the verdicts share. -/
def sharedCode (cs : List Nat) : Option Nat := cs.find? (fun c => c != 0 && 2 ≤ (cs.filter (· == c)).length)

/-- A digest under which two of the verdicts accept. -/
def sharedAccept (vs : List (Nat × List Byte)) : Option (List Byte) :=
  (vs.find? (fun v => v.1 == 0 && 2 ≤ (vs.filter (· == v)).length)).map (·.2)

/-- The agreement over the verdicts in hand, `expected` of them still to come or here, of the `lanes` that check (R119, R355, R356). To be accepted, stage
and activate requests need every lane. -/
def agree (f expected lanes : Nat) (vs : List (Nat × List Byte)) : Agreed :=
  let codes := vs.map (·.1)
  if f = 0x15 ∨ f = 0x16 then
    if vs.length < expected then .open_
    else if codes.all (· == 0) then
      if expected < 2 ∨ expected < lanes then .refuse 0x050C else
      (match sharedAccept vs with
      | some d => if vs.all (fun v => v.2 == d) then .accept d else .refuse 0x0E0E
      | none => .refuse 0x0E0E)
    else match sharedCode codes with
      | some c => .refuse c
      | none => .refuse (if f = 0x16 ∧ codes.contains 0x0E0D then 0x0E0D else 0x050C)
  else match sharedAccept vs with
    | some d => .accept d
    | none => match sharedCode codes with
      | some c => .refuse c
      | none => if vs.length < expected then .open_ else .refuse 0x050C

/-- The verdicts of the lanes that check which lane `x` holds. -/
def State.heldVerdicts (s : State) (x : LaneId) (r : Request) : List (Nat × List Byte) :=
  s.checkLanes.filterMap (fun y => (r.got.get x).get y)

/-! ## Settling a request -/

/-- Whether a code was given before the authenticator was found correct: these write no change-log entry (R347). -/
def earlyCode (c : Nat) : Bool := c == 0x0501 || c == 0x0502 || c == 0x0503

/-- How many of the lanes that read a request found its authenticator wrong, and how many right: those that stopped at no check up to it. -/
def State.authFound (s : State) (r : Request) : Nat × Nat :=
  let found := (s.checkLanes.filter (fun x => r.readable.get x)).map r.code
  ((found.filter (· == 0x0503)).length, (found.filter (fun c => !earlyCode c)).length)

/-- The failure count after the lanes' findings (R346): an authenticator that two find wrong counts, and from the fifth on starts a lockout of 15
minutes; one that two find correct returns the count to 0. -/
def Config.countAuth (c : Config) (wrong right : Nat) : Config :=
  if 2 ≤ wrong then
    let n := min (c.failures + 1) 5
    { c with failures := n, lockout := if n = 5 then 900000 else c.lockout }
  else if 2 ≤ right then { c with failures := 0 }
  else c

/-- What the update session's registers show of a stage or activate request that has ended (Tables 14-12, 14-13). -/
def Update.ended (u : Update) (f code : Nat) (digest : List Byte) : Update :=
  if f = 0x15 then { u with lastCode := code, stage := if code = 0 then 3 else 4, staged := if code = 0 then digest.drop 32 else [] }
  else if f = 0x16 then { u with lastCode := code }
  else u

/-- The failure count of the security record after a request's checks (R346), which the pumphouse writes. -/
def State.countAuth (s : State) (wrong right : Nat) : State := s.configWrite (fun c => c.countAuth wrong right)

/-- A request refused: the change-log entry, the acknowledge (R119, R347). -/
def State.refuseReq (s : State) (mb : Nat) (r : Request) (code : Nat) : State :=
  let f := reqFormat r.bytes
  let s := { s with upd := s.upd.ended f code [] }
  let counted := code = 0x050D && ((f == 1 && s.upd.holder.isSome) || f == 0x14 || f == 0x15 || f == 0x16 || f == 0x17)
  let s := if counted then { s with upd := { s.upd with busyCnt := sat s.upd.busyCnt } } else s
  let s := if earlyCode code then s
    else s.pushPlain f (reqOperator r.bytes) (reqApply r.bytes % 2 ^ 32) code none
  (s.setReq mb none).ackOut mb code

/-- The slot that a firmware does not run. -/
def Firmware.idle (f : Firmware) : FwSlot := if f.active then f.slot0 else f.slot1

/-- The slot that a firmware runs. -/
def Firmware.run (f : Firmware) : FwSlot := if f.active then f.slot1 else f.slot0

/-- The kind of what lane `x` holds verified in its idle slot under a digest: 1 image, 2 lane firmware, 3 pumphouse firmware; none where it
holds nothing under it. -/
def State.heldKind (s : State) (x : LaneId) (d : List Byte) : Option Nat :=
  let l := s.lane x
  let named := fun (f : Firmware) => f.idle.mark == .verified && f.idle.digest == d
  if l.otherSlot.mark == .verified && (match l.otherSlot.image with
      | some m => m.digest == d
      | none => false) then some 1
  else if named l.ls.fw then some 2
  else if named s.ph.fw then some 3
  else none

/-- The digest of what runs of a kind of package in lane `x` or the pumphouse: image, lane firmware, pumphouse firmware. -/
def State.runDigest (s : State) (x : LaneId) (kind : Nat) : List Byte :=
  match kind with
  | 1 => (s.lane x).image.digest
  | 2 => (s.lane x).ls.fw.run.digest
  | _ => s.ph.fw.run.digest

/-- The change-log entry of an agreed request, which its effect waits for (R120, R347): its digests are the password hash's for a password
change, those of the package or image that runs and of the one staged or named for an update, the constant table's for the rest (log entry 40). -/
def State.acceptItem (s : State) (mb : Nat) (r : Request) (apply : Nat) : LogItem :=
  let l := s.lane s.voice
  let b := r.bytes
  let d := l.logDigest
  let f := reqFormat b
  let mask := (shake256 32 (s.hashInForce ++ slice b 128 16))
  let newHash := (List.zip (slice b 144 32) mask).map (fun p => p.1 ^^^ p.2)
  let (before, after) : List Byte × List Byte :=
    if f = 0x12 then (s.hashInForce, newHash)
    else if f = 0x15 then ((s.runDigest s.voice s.upd.kind).take 32, s.upd.staged.take 32)
    else if f = 0x16 then ((s.runDigest s.voice ((s.heldKind s.voice (slice b 128 64)).getD 1)).take 32, slice b 128 32)
    else if f = 1 then
      let e := l.pe.applyRequest l.image b
      (d, (constDigest e.consts e.forces).take 32)
    else (d, d)
  { kind := f, operator := reqOperator b, cycle := apply, before := before, after := after, mailbox := some mb, code := 0,
    merged := false }

/-- The apply cycle fixed at agreement (R120, R270, R339): the cycle in progress plus 2, or plus 8 for a swap, where the header names 0; none
where it names an earlier one. -/
def applyCycle (f named cycle : Nat) : Option Nat :=
  if !waits f then some 0
  else
    let least := cycle + (if f = 3 then 8 else 2)
    if named = 0 then some least else if named < least then none else some named

/-- What has changed since the doorbell and refuses a request at its agreement: another password hash in force (R344), or the update session lock agreed
to another (R354). -/
def State.lateCode (s : State) (mb : Nat) (r : Request) : Option Nat :=
  let f := reqFormat r.bytes
  if reqAuth r.bytes ≠ authenticator s.hashInForce r.bytes then some 0x0503
  else if (f == 1 || f == 0x14) && s.lockTaken mb then some 0x050D
  else none

/-- A request agreed: its apply cycle is fixed, and it waits for its change-log entry (R120); CYCLE_PAST where it names a cycle too
early. -/
def State.acceptReq (s : State) (mb : Nat) (r : Request) (digest : List Byte) : State :=
  let f := reqFormat r.bytes
  match s.lateCode mb r with
  | some c => (if c = 0x0503 then s.countAuth 2 0 else s.countAuth 0 2).refuseReq mb r c
  | none =>
    let s := s.countAuth 0 2
    match applyCycle f (reqApply r.bytes) s.cycle with
    | none => s.refuseReq mb r 0x050B
    | some a =>
      let s := { s with upd := s.upd.ended f 0 digest }
      (s.setReq mb (some { r with settled := true })).pushLog (s.acceptItem mb r a)

/-- A request on which the lanes' findings agree to refuse (R119), or on which they do not agree: its authenticator counts as they found it
(R346). -/
def State.refuseFound (s : State) (mb : Nat) (r : Request) (code : Nat) : State :=
  (s.countAuth (s.authFound r).1 (s.authFound r).2).refuseReq mb r code

/-- The lanes' agreement on the request of a mailbox, as lane `x` sees it, where it stands (R119). -/
def State.trySettle (s : State) (mb : Nat) (x : LaneId) : State :=
  match s.req mb with
  | none => s
  | some r =>
    if r.settled || !r.sent then s
    else
      let readers := s.checkLanes.filter (fun y => r.readable.get y)
      match agree (reqFormat r.bytes) readers.length s.checkLanes.length (s.heldVerdicts x r) with
      | .open_ => s
      | .accept d => s.acceptReq mb r d
      | .refuse c => s.refuseFound mb r c

/-- The lanes send their verdicts: each holds its own (R119). A single lane finds no other to agree with. -/
def State.sendVerdicts (s : State) (mb : Nat) (r : Request) : State :=
  let lanes := s.checkLanes.filter (fun x => r.readable.get x)
  let own := fun (x : LaneId) => (r.code x, s.verdictDigest x r)
  let got := lanes.foldl (fun (g : PerLane (PerLane (Option (Nat × List Byte)))) x =>
    g.modify x (fun p => p.set x (some (own x)))) r.got
  let s := s.setReq mb (some { r with sent := true, got := got })
  let s := lanes.foldl (fun s x => s.emit (.verdict x (.request (Fin.ofNat 4 mb) (BitVec.ofNat 16 (own x).1) (own x).2))) s
  if lanes.length < 2 then s.refuseFound mb r 0x050C else s

/-- Whether every lane that checks has failed one of the checks 1 to 6, which stand before those of the items. -/
def State.allFailed (s : State) (r : Request) : Bool :=
  s.checkLanes.all (fun x => !r.readable.get x || (match r.codes.get x with
    | some p => decide (p.1 ≤ 600)
    | none => false))

/-- The request put back after a part of its checks; the verdicts go once all of it is done, or once each lane's first failing check is known
(R119). -/
def State.afterCheck (s : State) (mb : Nat) (r : Request) (last : Bool) : State :=
  let s := s.setReq mb (some r)
  if last || s.allFailed r then s.sendVerdicts mb r else s

/-- The next item of a request of format `f` and kind `k`, checked in every lane that checks; verdicts after the last (R119). -/
def State.checkItem (s : State) (mb f k : Nat) (check : LaneId → List Byte → Option (Nat × Nat)) (whole : LaneId → Option (Nat × Nat)) :
    State :=
  match s.req mb with
  | none => s
  | some r =>
    if r.sent || reqFormat r.bytes ≠ f || reqCount r.bytes ≤ r.done || getByte (itemBytes r.bytes r.done) 0 ≠ k then s
    else
      let last := reqCount r.bytes = r.done + 1
      let it := itemBytes r.bytes r.done
      let r := s.checkLanes.foldl (fun r x => (r.note x (check x it)).note x (if last then whole x else none)) r
      s.afterCheck mb { r with done := r.done + 1 } last

/-- A request of a format without kinds of items, checked in every lane that checks. -/
def State.checkWhole (s : State) (mb f : Nat) (check : LaneId → List Byte → Option (Nat × Nat)) : State :=
  match s.req mb with
  | none => s
  | some r =>
    if r.sent || reqFormat r.bytes ≠ f then s
    else
      let r := s.checkLanes.foldl (fun r x => r.note x (check x r.bytes)) r
      s.afterCheck mb r true

end Sys2Proof.Machine
end

