-- ==== Sys2Proof/Machine/Receive.lean ====
section
/-! DEFINITION. The receive area of the basin (R23, R151, R279, R293): what the pumphouse places there, with the length, the arrival stamp and the
path that it writes beside it, and what a lane finds. -/

namespace Sys2Proof

/-- Whether an arrival occupies any of `len` bytes from `a`. -/
def Arrival.meets (v : Arrival) (a len : Nat) : Bool := decide (v.addr < a + len) && decide (a < v.addr + v.len)

end Sys2Proof

namespace Sys2Proof.Machine

/-- Where what is received lies: the place the pumphouse chooses in region 1; a place that is not there is taken as its base. -/
def recvAddr (a len : Nat) : Nat := if 0x02000000 ≤ a ∧ a < 0x08000000 ∧ a + len ≤ 0x08000000 then a else 0x02000000

/-- The arrivals that the pumphouse must still keep when it places something stamped `now`: each for at least 16 cycles after its stamp
(R151). -/
def State.keptArrivals (s : State) (now : Nat) : List Arrival :=
  s.recv.filterMap (fun p => p.2.filter (fun a => decide (now ≤ a.stamp + 16 * s.image.period)))

/-- The address at which `len` bytes stamped `now` are placed: the pumphouse's choice, or the first behind all that it still keeps where that
choice would write over a kept arrival (R151; the order in which it uses the area is not stated, log entry 78). -/
def State.freePlace (s : State) (at_ : Placing) (len : Nat) : Nat :=
  let a := recvAddr at_.addr len
  let kept := s.keptArrivals at_.stamp
  if kept.any (·.meets a len) then recvAddr (kept.foldl (fun n v => max n (v.addr + v.len)) 0) len else a

/-- Bytes placed in the receive area with their length, arrival stamp and path beside them (R23, R279). What lay there is gone. -/
def State.place (s : State) (at_ : Placing) (path : Path) (bs : List Byte) : State :=
  let a := s.freePlace at_ bs.length
  let rest := s.recv.filter (fun p => !((p.2.map (·.meets a bs.length)).getD false))
  { s.basinWrite corePh a bs with recv := Assoc.put none rest a (some { addr := a, len := bs.length, stamp := at_.stamp, path := path, unreadable := false }) }

/-- What a lane finds at an address of the receive area (R23): the arrival placed there, with what its own read reports. -/
def State.arrivalAt (s : State) (addr : Nat) (unreadable : Bool) : Option Arrival :=
  (Assoc.get none s.recv addr).map (fun a => { a with unreadable := unreadable })

end Sys2Proof.Machine
end

