-- ==== Sys2Proof/Machine/Sessions.lean ====
section
/-! DEFINITION. The commands of the sealed telegrams in the lanes: acceptance, NET2 copies, the time reference, the session states,
mirror telegrams, and the hand-over of seals (chapters 7 and 10). -/

namespace Sys2Proof.Machine

/-! ## The session states -/

/-- The decision of a freeze point on one session taken on its own: the session's part of the freeze point that is still to come in
the cycle, where it takes the session from state `old` to state `new`; the freeze point itself then finds it done (R183). -/
def State.decideSession (s : State) (x : LaneId) (sid : Nat) (old new : SessState) : State :=
  let l := s.lane x
  let m := l.image
  match m.session sid with
  | none => s
  | some e =>
    let r := (l.freezeSession m e l.td.cycle s.sleeps).1
    if l.evaluates && !l.pe.freezeDone && (l.ts.at sid).state == old && (r.ts.at sid).state == new then
      s.modLane x (fun _ => r)
    else s

/-- SESSION_TIMEOUT (R183, Table 7-9): a valid session without a current telegram whose timeout count reaches the session timeout
passes to timed out, its acceptance state cleared, with a SESSION_STATE record. -/
def execSessionTimeout (x : LaneId) (sid : Fin 1024) (s : State) : Out := .next (s.decideSession x sid.val .valid .timedOut)

/-- SENDER_FAULT_END (R183, Table 7-9): a session in sender fault whose timeout count reaches the session timeout returns to not
established, cleared as for a timeout. -/
def execSenderFaultEnd (x : LaneId) (sid : Fin 1024) (s : State) : Out :=
  .next (s.decideSession x sid.val .senderFault .notEst)

/-- TIME_REFERENCE_EXPIRY (R178): from the freeze point of cycle r + 1,024 on a reference taken from the request of cycle r counts as
absent. -/
def execTimeReferenceExpiry (x : LaneId) (sid : Fin 1024) (s : State) : Out :=
  let l := s.lane x
  let c := l.ts.at sid.val
  match c.ref with
  | some r =>
    if r.cycle + 1024 ≤ l.td.cycle then .next (s.modLane x (fun l => { l with ts := l.ts.set sid.val { c with ref := none } }))
    else .next s
  | none => .next s

/-! ## Arrivals -/

/-- A telegram that a lane holds until the freeze point of its cycle has passed: it is stamped at or after the one still to come (R96). -/
def Lane.holdEarly (l : Lane) (m : Image) (e : Early) : Lane :=
  let l := l.defer m e.arr.stamp
  { l with ts := { l.ts with early := l.ts.early ++ [e] } }

/-- A DATA telegram that lane `x` verifies (R180, R185, R186). -/
def State.verifyData (s : State) (x : LaneId) (a : Arrival) (b : List Byte) : State :=
  s.modLane x (fun l => l.takeTelegram l.image l.rc.opts.unitId s.unit.ringEpoch a b)

/-- A TIME_REQ that lane `x` verifies (R177): one that passes checks 1 to 5 waits for its answer, and the lane tells its peers its own tide `own` at that
moment. -/
def State.verifyReq (s : State) (x : LaneId) (a : Arrival) (own : Nat) (b : List Byte) : State :=
  let l := s.lane x
  match l.takeTime l.image l.rc.opts.unitId s.unit.ringEpoch 2 a b with
  | (l', some (t, e)) =>
    let s := s.modLane x (fun _ => l'.takeReq x e t a.stamp own)
    if l.inService || l.vt.state == .candidate then s.emit (.verdict x (.respInstant (Fin.ofNat 1024 e.sid) t.time a.stamp own)) else s
  | (l', none) => s.modLane x (fun _ => l')

/-- A TIME_RESP that lane `x` verifies (R178, R179): one that echoes the outstanding request waits for the freeze point that takes it; any other is
refused as UNMATCHED. A sleeper takes each. -/
def State.verifyResp (s : State) (x : LaneId) (a : Arrival) (b : List Byte) : State :=
  s.modLane x (fun l =>
    match l.takeTime l.image l.rc.opts.unitId s.unit.ringEpoch 3 a b with
    | (l, some (t, e)) => l.takeResp l.image e t a.stamp s.sleeps
    | (l, none) => l)

/-- What a lane's read of the basin that reports an uncorrectable error brings (R19, R295): a count in the basin controller and a record of the lane. -/
def State.unreadable (s : State) (x : LaneId) (a : Nat) : State := (s.eccError a).modLane x (fun l => l.basinError x a)

/-- A telegram that lane `x` verifies, of the kind of the command that brought it; the lane reads it as a master of the basin (R294). -/
def State.verify (s : State) (x : LaneId) (e : Early) : State :=
  let r := s.basinRead x.num e.arr.addr e.arr.len
  match e.kind with
  | 2 => r.1.verifyReq x e.arr e.own r.2
  | 3 => r.1.verifyResp x e.arr r.2
  | _ => r.1.verifyData x e.arr r.2

/-- A telegram read by lane `x` (R19, R23, R96, R151): kept for the replay while the lane resyncs; treated as not received where the read reports an
uncorrectable error; held where its stamp lies at or after the freeze point still to come, so that the stamp alone decides to which cycle it
belongs; else verified. A lane that evaluates nothing takes none. -/
def State.arrive (s : State) (x : LaneId) (e : Early) : State :=
  let l := s.lane x
  if l.keepsArrivals then
    let k : Kept := { arr := e.arr, epochs := s.unit.ringEpoch, sleeper := s.sleeps }
    (if e.arr.unreadable then s.eccError e.arr.addr else s).modLane x (fun l => { l with vt := { l.vt with arrivals := l.vt.arrivals ++ [k] } })
  else if !l.evaluates then s
  else if e.arr.unreadable then s.unreadable x e.arr.addr
  else if l.nextFreeze l.image ≤ e.arr.stamp then s.modLane x (fun l => l.holdEarly l.image e)
  else (s.modLane x (fun l => l.defer l.image e.arr.stamp)).verify x e

/-- The telegrams that lane `x` has held and whose freeze point has passed, verified in the order of their stamps (R96). -/
def State.takeEarly (s : State) (x : LaneId) : State :=
  let l := s.lane x
  let due := l.ts.early.filter (fun e => decide (e.arr.stamp < l.nextFreeze l.image))
  let rest := l.ts.early.filter (fun e => !decide (e.arr.stamp < l.nextFreeze l.image))
  let s := s.modLane x (fun l => { l with ts := { l.ts with early := rest } })
  (byStamp (·.arr.stamp) due).foldl (fun s e => if e.arr.unreadable then s.unreadable x e.arr.addr else s.verify x e) s

/-- DATA_TELEGRAM_RECEIVE (R23, R180, R185, R186): lane `x` reads what the pumphouse has placed at an address of the receive area: acceptance checks
1 to 6, and the candidate. -/
def execDataTelegramReceive (x : LaneId) (addr : BitVec 29) (unreadable : Bool) (s : State) : Out :=
  match s.arrivalAt addr.toNat unreadable with
  | none => .next s
  | some a => .next (s.arrive x { arr := a, kind := 1, own := 0 })

/-- PAIRING_WINDOW_CLOSE (R185): a held first copy whose window closes unpaired is counted as a missing copy and can no longer be
paired. A pair that is complete stays held as it is. DESIGN CHOICE: R185 both refuses a matching copy at or after the window's end with COPY_LATE and
says that a copy counted as missing at the window's close no longer matches; which of the two holds is decided by whether this event has run (log
entry 111). -/
def execPairingWindowClose (x : LaneId) (sid : Fin 1024) (time : Bool) (s : State) : Out :=
  .next (s.modLane x (fun l =>
    let c := l.ts.at sid.val
    let held := if time then c.firstTime else c.firstData
    let ts := countMissing l.ts sid.val held
    let c := ts.at sid.val
    let closed := held.map (fun f => if f.paired then f else { f with closed := true })
    { l with ts := ts.set sid.val (if time then { c with firstTime := closed } else { c with firstData := closed }) }))

/-- TIME_REQ_RECEIVE (R177): lane `x` reads a TIME_REQ, its own tide being `own` at that moment. -/
def execTimeReqReceive (x : LaneId) (addr : BitVec 29) (unreadable : Bool) (own : BitVec 64) (s : State) : Out :=
  match s.arrivalAt addr.toNat unreadable with
  | none => .next s
  | some a => .next (s.arrive x { arr := a, kind := 2, own := own.toNat })

/-- TIME_RESP_RECEIVE (R178, R179): lane `x` reads a TIME_RESP. -/
def execTimeRespReceive (x : LaneId) (addr : BitVec 29) (unreadable : Bool) (s : State) : Out :=
  match s.arrivalAt addr.toNat unreadable with
  | none => .next s
  | some a => .next (s.arrive x { arr := a, kind := 3, own := 0 })

/-! ## Mirror telegrams -/

/-- Checks 1 and 2 and the checks of R260 in place of check 3, for a mirror telegram. -/
def mirrorFrameOk (u : Nat) (b : List Byte) : Bool :=
  let t := Tele.ofBytes 4 b
  lengthTypeOk none b && sealsOk none u b && decide (t.ty = 8) && decide (t.sid = 0)

/-- A second copy of a mirror telegram that the lane has taken already (R256). -/
def Lane.mirrorCopy (l : Lane) (m : Image) (t : Tele) : Bool :=
  decide (l.mir.lastSeq = some t.seq) ||
    (decide (l.mir.cycle = t.time / m.period) && decide (Assoc.get [] l.mir.segs (getBE t.payload 0 2) = t.payload.drop 8))

/-- Whether a lane takes mirror telegrams: one that evaluates in voting mode, or that resyncs beyond joining. -/
def Lane.takesMirror (l : Lane) : Bool := l.inService || l.vt.state == .candidate || l.keepsArrivals

/-- The epoch check of R260: a sleeper takes the epoch it follows; a unit that decides, and a watcher for R267, any. -/
def State.mirrorEpochOk (s : State) (epoch : Nat) : Bool :=
  match s.unit.role with
  | .sleeper => decide (epoch = s.unit.epoch)
  | .deciding | .watcher => true
  | _ => false

/-- A source that outranks this watcher (R267): a higher epoch, or an equal epoch with a lower unit identifier. -/
def State.outranked (s : State) (epoch unit : Nat) : Bool :=
  decide (s.unit.epoch < epoch) || (decide (epoch = s.unit.epoch) && decide (unit < s.unitId))

/-- What the unit does with a complete mirror frame or the report of a watcher (R251, R252, R267): it remembers the epoch; a unit that
decides without a native ring becomes the sleeper; a sleeper takes the epoch of the watcher it follows; an outranked watcher gives way at its next tide
mark. DESIGN CHOICE: without a SYNC a sleeper learns a higher epoch of its watcher from a report, which R261's four uses do not name (log entry 124). -/
def State.heardWatcher (s : State) (epoch unit : Nat) : State :=
  let s := { s with unit := { s.unit with heardEpoch := max s.unit.heardEpoch epoch } }
  match s.unit.role with
  | .deciding => if s.image.startRing.isNone then s.becomeSleeper epoch 0 else s
  | .sleeper =>
    if s.unit.epoch < epoch then { s.configWrite (fun c => { c with epoch := epoch }) with unit := { s.unit with epoch := epoch } } else s
  | .watcher =>
    if s.outranked epoch unit then { s with unit := { s.unit with giveWay := true, giveEpoch := max s.unit.giveEpoch epoch } } else s
  | _ => s

/-- The first lane in service, which stands for the unit where one count is kept for all lanes. -/
def State.firstLane (s : State) (x : LaneId) : Bool := decide (s.serviceLanes.head? = some x)

/-- A lane checks a mirror telegram that the pumphouse has placed (R19, R260), counted where R96 carries it on; a refused one is counted in
XL_SEG_ERR_CNT. -/
def State.takeMirror (s : State) (x : LaneId) (a : Arrival) : State :=
  let l := s.lane x
  let m := l.image
  if !l.takesMirror then s
  else if a.unreadable then s.unreadable x a.addr
  else
    let (s, b) := s.basinRead x.num a.addr a.len
    let t := Tele.ofBytes 4 b
    let s := s.modLane x (fun l =>
      let l := l.defer m a.stamp
      if lengthTypeOk none b then { l with cv := l.cv.run [verifyJob a.addr none b] } else l)
    let refused := if s.firstLane x then { s with xl := { s.xl with segErr := sat s.xl.segErr } } else s
    if !mirrorFrameOk l.rc.opts.unitId b || !s.mirrorEpochOk t.epoch then refused
    else if l.mirrorCopy m t then s
    else if !(match l.mir.lastSeq with
      | some r => later t.seq r
      | none => decide (t.seq ≠ 0)) then refused
    else
      let s' := s.modLane x (fun l => l.takeSegment m t a.stamp)
      if (s'.lane x).mir.full ≠ l.mir.full then s'.heardWatcher t.epoch (companion l.rc.opts.unitId) else s'

/-- MIRROR_TELEGRAM_RECEIVE (R23, R255, R256, R260): the mirror telegram of a valid frame of the partner is placed in the basin with its stamp, and
each lane checks what it reads there. -/
def execMirrorTelegramReceive (port : XPort) (frame : List Byte) (at_ : Placing) (unreadable : PerLane Bool) (s : State) : Out :=
  let r := s.crossIn port frame
  match r.2 with
  | some (1, content) =>
    let s := r.1
    let b := mirrorText content
    let a := s.freePlace at_ b.length
    let path := Path.cross (port == .p28)
    .next (LaneId.list.foldl (fun s x =>
      s.takeMirror x { addr := a, len := b.length, stamp := at_.stamp, path := path, unreadable := unreadable.get x }) (s.place at_ path b))
  | _ => .next r.1

/-! ## The hand-over of seals -/

/-- The session's payload as a lane sends it (R46, R123): each field the low-order bits of the bound value. -/
def Lane.sendPayload (l : Lane) (e : SessEntry) : List Byte :=
  e.txMap.foldl (fun p f => setPayloadField p f.off f.width (l.pe.bound f.var).toNat) (List.replicate e.txLen 0#8)

/-- A header and payload with the lane's seal (R165, R166, R170). -/
def Lane.hand (m : Image) (x : LaneId) (e : SessEntry) (kind seg cycle : Nat) (h p : List Byte) : Handed :=
  { lane := x, sid := e.sid, kind := kind, seg := seg, cycle := cycle, header := h, payload := p,
    sealVal := be (sealWidth (m.legacyOf e)) (sealOf (m.legacyOf e) x (peerIds e) h p) }

/-- The epoch a telegram of a session carries (R164, R252): on a ring the epoch that the sessions of that ring use, else the unit's. -/
def UnitState.epochFor (u : UnitState) (e : SessEntry) : Nat := if e.transport == .ring then ringEpochOf u.ringEpoch e else u.epoch

/-- The DATA telegram of a session in cycle n (R164). -/
def Lane.dataFor (l : Lane) (m : Image) (u : UnitState) (x : LaneId) (n : Nat) (e : SessEntry) : Handed :=
  Lane.hand m x e 1 0 n
    (teleHeader 1 e.sid (l.ts.at e.sid).nextSeq (n % 65536) e.txLen (n * m.period) (u.epochFor e) (!l.pe.forces.isEmpty))
    (l.sendPayload e)

/-- The TIME_REQ of a session marked at the commit of cycle n (R176). -/
def Lane.reqFor (l : Lane) (m : Image) (u : UnitState) (x : LaneId) (n : Nat) (e : SessEntry) : Handed :=
  Lane.hand m x e 2 0 n (teleHeader 2 e.sid 0 (n % 65536) 0 (n * m.period) (u.epochFor e) (!l.pe.forces.isEmpty)) []

/-- t_s of a request that waits (R177): the largest reading, once every lane in service has given its own. -/
def Answer.time (a : Answer) (mask : Mask) : Option Nat :=
  if LaneId.list.all (fun y => !mask.get y || (a.own.get y).isSome) then
    some ((LaneId.list.filterMap (fun y => if mask.get y then a.own.get y else none)).foldl max 0)
  else none

/-- The TIME_REQs that are answered with the outputs of cycle n (R177), as timestamp and t_s: the freeze point of n has taken them, and this lane
has passed them itself. -/
def SessCtx.answersDue (c : SessCtx) (m : Image) (n : Nat) (x : LaneId) (mask : Mask) : List (Nat × Nat) :=
  (c.answers.filter (fun a => decide (a.stamp < m.freezeAt n) && (a.own.get x).isSome)).filterMap (fun a =>
    (a.time mask).map (fun t => (a.echo, t)))

/-- The TIME_RESP number `seg` of a session in a cycle (R177). -/
def Lane.respFor (l : Lane) (m : Image) (u : UnitState) (x : LaneId) (n seg echo ts : Nat) (e : SessEntry) : Handed :=
  Lane.hand m x e 3 seg n (teleHeader 3 e.sid 0 (n % 65536) 16 (n * m.period) (u.epochFor e) (!l.pe.forces.isEmpty))
    (be 8 echo ++ be 8 ts)

/-- A sequence number `k` further, 0xFFFF_FFFF followed by 1 (R164). -/
def seqPlus (n k : Nat) : Nat := (n + k - 1) % max32 + 1

/-- The mirror telegrams of cycle n as a lane seals them (R258), under the prefix that names the pair. -/
def Lane.mirrorFor (l : Lane) (m : Image) (u : UnitState) (x : LaneId) (n : Nat) : List Handed :=
  let segs := mirrorSegments (mirrorData m l u l.vt.mask n)
  (segs.zip (List.range segs.length)).map (fun p =>
    let h := teleHeader 8 0 (seqPlus u.mirrorSeq (p.2 + 1)) (n % 65536) p.1.length (n * m.period) u.epoch (!l.pe.forces.isEmpty)
    { lane := x, sid := 0, kind := 8, seg := p.2, cycle := n, header := h, payload := p.1,
      sealVal := be 4 (sealOf none x (ownIds l.rc.opts.unitId) h p.1) })

/-- Seals of DATA telegrams handed over less than 20 µs before the start of their ring slots (R98). -/
def lateForSlot (m : Image) (offset : Nat) : Nat :=
  ((List.range 4).map (fun r => ((m.ring r).slots.filter (fun sl =>
    sl.out && decide (sl.start < offset * 10 + 20000))).length)).sum

/-- The telegrams of cycle n that a lane in service hands over, with their seals: DATA, TIME_REQ, TIME_RESP and the mirror frame
(R164, R168, R176, R177, R258). -/
def Lane.handed (l : Lane) (m : Image) (u : UnitState) (x : LaneId) (n : Nat) (mask : Mask) : List Handed :=
  let sent := { l with ts := l.ts.advanceSent m }
  m.senders.map (l.dataFor m u x n) ++
    (m.sessions.filter (fun e => e.rx && e.transport != .ring && decide ((l.ts.at e.sid).reqStamp = n * m.period))).map
      (l.reqFor m u x n) ++
    m.senders.flatMap (fun e =>
      let due := (l.ts.at e.sid).answersDue m n x mask
      (due.zip (List.range due.length)).map (fun p => l.respFor m u x n p.2 p.1.1 p.1.2 e)) ++
    sent.mirrorFor m u x n

/-- The seal job of a telegram handed over (R189): the prefix it was sealed under, its header and payload. -/
def Handed.job (m : Image) (unit : Nat) (h : Handed) : CvJob :=
  let ids := if h.kind = 8 then ownIds unit else match m.session h.sid with
    | some e => peerIds e
    | none => (0, 0)
  .seal (sealPrefix h.lane ids) (h.header ++ h.payload)

/-- The lane's state after its hand-over: sequence numbers, its own instant of each request, the counters and the margin (R98, R104,
R176). -/
def Lane.afterHandover (l : Lane) (m : Image) (x : LaneId) (n offset : Nat) (hs : List Handed) : Lane :=
  let count := hs.length
  let reqs := m.sessions.filter (fun e => e.rx && e.transport != .ring && decide ((l.ts.at e.sid).reqStamp = n * m.period))
  let ts := l.ts.spent m n
  let ts := reqs.foldl (fun t e =>
    t.set e.sid { t.at e.sid with reqOwn := (t.at e.sid).reqOwn.set x (some (n * m.period + offset)) }) ts
  { l with
      ts := { ts with sentCnt := satAdd ts.sentCnt count }
      cv := l.cv.run (hs.map (Handed.job m l.rc.opts.unitId))
      td := { l.td with phase := .handed, tHandover := offset, marginMin := min l.td.marginMin (m.deadlineTicks - offset),
                        sealLateCnt := satAdd l.td.sealLateCnt (lateForSlot m offset) } }

/-- SEAL_HANDOVER (R97, R98, R164, R176, R177, R258): a lane in service of the watcher that has committed the cycle hands the header,
payload and its own seal of every telegram to the pumphouse at an offset before D; a sleeper and a lane in independent-lane mode
hand over nothing (R253, R159). -/
def execSealHandover (x : LaneId) (offset : BitVec 32) (s : State) : Out :=
  let l := s.lane x
  let m := l.image
  let n := l.td.cycle
  if l.inService && s.leads && l.vt.committed = some n && l.td.phase = .committed && offset.toNat < m.deadlineTicks && !l.td.pastD then
    let mask := s.serviceMask
    let hs := l.handed m s.unit x n mask
    let s := { s with out := { s.out with handed := s.out.handed ++ hs } }
    let s := (hs.filter (fun h => h.kind == 2)).foldl (fun s h =>
      s.emit (.verdict x (.reqInstant (Fin.ofNat 1024 h.sid) (n * m.period) (n * m.period + offset.toNat)))) s
    .next (s.modLane x (fun l => l.afterHandover m x n offset.toNat hs))
  else .next s

/-- Whether every telegram of the mirror frame of cycle `n` has been sent. -/
def State.mirrorWhole (s : State) (n : Nat) : Bool :=
  let mine := s.out.assembled.filter (fun a => a.kind == 8 && a.cycle == n)
  let total : Nat := match mine with
    | a :: _ => getBE a.bytes 26 2
    | [] => 0
  decide (0 < total) && (List.range total).all (fun i => mine.any (fun a => a.seg == i))

/-- MIRROR_FRAME_SENT (R259, R265): the pumphouse reports at an offset of the cycle that it has sent a complete mirror frame on a cross-link: that of
the cycle in progress, or else that of the cycle before it. A lane takes the report of its cycle's frame before its D. -/
def execMirrorFrameSent (offset : BitVec 32) (s : State) : Out :=
  let n := s.cycle
  if !s.leads || !(s.crossSends .p27 || s.crossSends .p28) then .next s
  else if s.mirrorWhole n then
    .next ({ s with xl := { s.xl with mirrorCycle := n % 2 ^ 32 } }.mapLanes (fun _ l =>
      if l.td.cycle == n && !l.td.pastD && decide (offset.toNat < l.image.deadlineTicks) then
        { l with io := { l.io with mirrorSent := some n } }
      else l))
  else if decide (0 < n) && s.mirrorWhole (n - 1) then .next { s with xl := { s.xl with mirrorCycle := (n - 1) % 2 ^ 32 } }
  else .next s

end Sys2Proof.Machine
end

