-- ==== Sys2Proof/Machine/Requests.lean ====
section
/-! DEFINITION. The commands of a request on its way: the doorbell of a host mailbox, the checks of its items, the verdicts of the lanes,
and the acknowledges (chapters 5, 12 and 14). -/

namespace Sys2Proof.Machine

/-! ## The doorbell (R296 to R301) -/

/-- An access refused by R298: the mailbox is unchanged and the access counted; a host access sets PH_EVENT bit 2 too. -/
def State.mailboxError (s : State) : State :=
  { s with mail := { s.mail with busErr := sat s.mail.busErr }, ph := { s.ph with event := s.ph.event ||| 4 } }

/-- Where the pumphouse copies a message to (R296, R299): the place it chooses in region 5, aligned to 64 bytes; a place that is not there is taken as
its base. -/
def copyAddr (a : Nat) : Nat := if 0x0B800000 ≤ a ∧ a + 65536 ≤ 0x0C000000 then a / 64 * 64 else 0x0B800000

/-- Pumphouse-to-lane mailbox `n` rung with a copy in lane `x`: a lane that serves its mailboxes takes and acknowledges it at once; in
another it stays FULL (R297, R300); one that is not EMPTY refuses the write. -/
def State.ringLane (s : State) (n addr len tag : Nat) (x : LaneId) : State :=
  let l := s.lane x
  let b := Assoc.get Mailbox.reset l.mb.p2l n
  let put := fun (st : MbState) => s.modLane x (fun l =>
    { l with mb := { l.mb with p2l := Assoc.put Mailbox.reset l.mb.p2l n { state := st, addr := addr, len := len, tag := tag, code := 0 } } })
  if b.state ≠ .empty then s.phRefused
  else if l.rc.released.getLsbD 7 then put .empty else put .full

/-- The requests that the pumphouse serves alone (R366, R371). -/
def servedAlone (f : Nat) : Bool := f == 0x30 || f == 0x31

/-- A message that reaches its operation (R299, R301): it is copied to region 5 and offered to each lane, and the lanes make checks 1 to 6;
a lane that cannot read its copy treats it as not received (R19). Region 5 is open to every lane (Table 12-1). -/
def State.dispatch (s : State) (mb copyTo tag : Nat) (r : Request) : State :=
  if servedAlone (reqFormat r.bytes) then s.setReq mb (some r)
  else
    let a := copyAddr copyTo
    let s := s.basinWrite corePh a r.bytes
    let s := LaneId.list.foldl (fun s x => s.ringLane mb a r.bytes.length tag x) s
    let s := s.checkLanes.foldl (fun s x => if r.readable.get x then s else s.unreadable x a) s
    let r := s.checkLanes.foldl (fun r x => if r.readable.get x then r.note x (s.headCheck x mb r) else r) r
    s.afterCheck mb r false

/-- The holder of the update session has sent a request: its 600 s begin again (R354). -/
def Update.heardFrom (u : Update) (who : Requester) : Update :=
  if u.holder = some who then { u with remaining := 600000 } else u

/-- The doorbell of a host outbound mailbox (R297, R298, R301, R117 to R119): an EMPTY host outbound mailbox becomes FULL with its tag, and the pumphouse
reads and dispatches the message on its format, or acknowledges it with a code of Table 12-4. A mailbox that is not EMPTY refuses the write; a message
to a pumphouse in reset stays FULL (R300); one without supply has no mailbox. -/
def State.doorbell (s : State) (mb tag : Nat) (requester : Requester) (copyTo : Nat) (readError : Bool) (laneErrors : PerLane Bool) : State :=
  let b := s.outBox mb
  if !s.ph.powered then s
  else if b.state ≠ .empty then s.mailboxError
  else
    let full : Mailbox := { b with state := .full, tag := tag % 65536, code := 0 }
    let s := { s with mail := { s.mail with out := Assoc.put Mailbox.reset s.mail.out mb full }, upd := s.upd.heardFrom requester }
    if !s.coresRun then s
    else
    let r := if messageLies b.addr b.len then s.basinRead corePh b.addr b.len else (s, [])
    let s := if messageLies b.addr b.len && readError then r.1.eccError b.addr else r.1
    match messageCode b.addr b.len r.2 readError with
    | 0 =>
      s.dispatch mb copyTo full.tag
        { bytes := r.2, requester := requester, readable := laneErrors.map (fun e => !e), done := 0, codes := PerLane.all none,
          sent := false, got := PerLane.all (PerLane.all none), settled := false }
    | code => s.ackOut mb code

/-- MAILBOX_DOORBELL (R297, R298, R301): the host writes the doorbell of its outbound mailbox `mb`. -/
def execMailboxDoorbell (mb : Fin 4) (tag : BitVec 32) (requester : Requester) (copyTo : BitVec 32) (readError : Bool)
    (laneErrors : PerLane Bool) (s : State) : Out :=
  .next (s.doorbell mb.val tag.toNat requester copyTo.toNat readError laneErrors)

/-! ## The items of a change request (R117, R119, R124, R127, R262) -/

/-- A change item in lane `x`: a sleeper refuses it with NOT_WATCHER, then checks 7 to 12. -/
def State.changeItem (s : State) (x : LaneId) (it : List Byte) : Option (Nat × Nat) :=
  let l := s.lane x
  if s.sleeps then some (606, 0x0515)
  else changeCheck l.image l.pe { kind := getBE it 0 1, index := getBE it 1 3, value := getBE it 4 4 }

/-- A force item in lane `x`: checks 9 to 11. -/
def State.forceItem (s : State) (x : LaneId) (it : List Byte) : Option (Nat × Nat) :=
  forceCheck (s.lane x).image { kind := getBE it 0 1, index := getBE it 1 3, value := getBE it 4 4 }

/-- Checks 13 and 14 on the whole request of a mailbox in lane `x`. -/
def State.wholeOf (s : State) (mb : Nat) (x : LaneId) : Option (Nat × Nat) :=
  match s.req mb with
  | some r => s.wholeCheck x r.bytes
  | none => none

/-- CHANGE_CONSTANT (R117, R119): the next item, of kind 0x01, is checked. -/
def execChangeConstant (mb : Fin 4) (s : State) : Out := .next (s.checkItem mb.val 1 1 s.changeItem (s.wholeOf mb.val))

/-- CHANGE_PAR_VARIABLE (R117, R119, R127): the next item, of kind 0x02, is checked. -/
def execChangePar (mb : Fin 4) (s : State) : Out := .next (s.checkItem mb.val 1 2 s.changeItem (s.wholeOf mb.val))

/-- SET_FORCE (R124): the next item, of kind 0x03, is checked. -/
def execSetForce (mb : Fin 4) (s : State) : Out := .next (s.checkItem mb.val 1 3 s.forceItem (s.wholeOf mb.val))

/-- RELEASE_FORCE (R124): the next item, of kind 0x04, is checked. -/
def execReleaseForce (mb : Fin 4) (s : State) : Out := .next (s.checkItem mb.val 1 4 s.forceItem (s.wholeOf mb.val))

/-- RELEASE_ALL_FORCES (R124): the next item, of kind 0x05, is checked. -/
def execReleaseAllForces (mb : Fin 4) (s : State) : Out := .next (s.checkItem mb.val 1 5 s.forceItem (s.wholeOf mb.val))

/-! ## Fault reset, swap and settings -/

/-- FAULT_RESET (R246): the one item, of kind 0x10; it has no check after the sixth. -/
def execFaultReset (mb : Fin 4) (s : State) : Out := .next (s.checkItem mb.val 2 0x10 (fun _ _ => none) (fun _ => none))

/-- The swap's own checks in a lane (R262, Table 10-4): a sleeper refuses with NOT_WATCHER, a watcher without a partner with NO_PARTNER. -/
def State.swapCheck (s : State) : Option (Nat × Nat) :=
  if s.sleeps then some (605, 0x0515) else if s.partnerHeard.isNone then some (606, 0x0512) else none

/-- SWAP_REQUEST (R270): the one item, of kind 0x20. -/
def execSwapRequest (mb : Fin 4) (s : State) : Out := .next (s.checkItem mb.val 3 0x20 (fun _ _ => s.swapCheck) (fun _ => none))

/-- A settings item of a kind (R281): BAD_VALUE where it is out of range. -/
def State.settingItem (s : State) (mb kind : Nat) : State :=
  s.checkItem mb 4 kind (fun _ it => if badSetting it then some (1100, 0x0509) else none) (fun _ => none)

/-- SET_OWN_IPV4_ADDRESS (R281): the next item, of kind 0x30. -/
def execSetOwnIpv4 (mb : Fin 4) (s : State) : Out := .next (s.settingItem mb.val 0x30)

/-- SET_PRIORITY_MARKING (R281): the next item, of kind 0x31. -/
def execSetPriorityMarking (mb : Fin 4) (s : State) : Out := .next (s.settingItem mb.val 0x31)

/-- SET_PTP_DOMAIN (R281): the next item, of kind 0x32. -/
def execSetPtpDomain (mb : Fin 4) (s : State) : Out := .next (s.settingItem mb.val 0x32)

/-- SET_CAN_BIT_RATES (R281): the next item, of kind 0x33. -/
def execSetCanBitRates (mb : Fin 4) (s : State) : Out := .next (s.settingItem mb.val 0x33)

/-- SET_CAN_REFERENCE_MESSAGE (R281): the next item, of kind 0x34. -/
def execSetCanReference (mb : Fin 4) (s : State) : Out := .next (s.settingItem mb.val 0x34)

/-- SET_WIRE_TERMINATION (R281): the next item, of kind 0x35. -/
def execSetWireTermination (mb : Fin 4) (s : State) : Out := .next (s.settingItem mb.val 0x35)

/-! ## Verdicts (R119, R114, R176, R177) -/

/-- VERDICT_RECEIVE (R119, R114, R176, R177): lane `x` takes a peer's verdict on a request, its findings for the restart decision, or its
reading for a time request; the lanes settle a request once the verdicts allow it. A frame that fails its CRC is counted (R130). -/
def execVerdictReceive (x sender : LaneId) (v : Verdict) (crcOk : Bool) (s : State) : Out :=
  if !crcOk then .next (s.linkError x sender)
  else if sender = x then .next s
  else match v with
    | .findings f => .next { s with unit := { s.unit with findings := s.unit.findings.set sender (some f) } }
    | .request mb code digest =>
      match s.req mb.val with
      | none => .next s
      | some r =>
        let r := { r with got := r.got.modify x (fun p => p.set sender (some (code.toNat, digest))) }
        .next ((s.setReq mb.val (some r)).trySettle mb.val x)
    | .reqInstant sid stamp instant =>
      .next (s.modLane x (fun l =>
        let c := l.ts.at sid.val
        if l.keepsArrivals then { l with vt := { l.vt with said := l.vt.said ++ [(sid.val, stamp, sender, instant)] } }
        else { l with ts := l.ts.set sid.val { c with reqOwn := c.reqOwn.set sender (some instant) } }))
    | .respInstant sid time stamp instant =>
      .next (s.modLane x (fun l => { l with ts := l.ts.set sid.val ((l.ts.at sid.val).noteReading sender time stamp instant) }))

/-! ## The acknowledges (R297, R298, R302) -/

/-- The next notice of the queue delivered where host inbound mailbox 0 is EMPTY (R302). -/
def State.nextNotice (s : State) : State :=
  match s.mail.notices with
  | [] => s
  | (code, cycle, ps) :: rest =>
    if (s.inBox 0).state == .empty then { s with mail := { s.mail with notices := rest } }.deliverNotice code cycle ps else s

/-- The pumphouse reads the acknowledge of host inbound mailbox `n`, which empties it (R297), and goes on with its notices. -/
def State.readInAck (s : State) (n : Nat) : State :=
  let b := s.inBox n
  if b.state == .acked then
    { s with mail := { s.mail with inn := Assoc.put Mailbox.reset s.mail.inn n { b with state := .empty } } }.nextNotice
  else s

/-- The acknowledge of a host inbound mailbox (R297, R298, R300, R302): the host acknowledges host inbound mailbox `mb`, FULL to ACKED; the pumphouse ignores
the code and reads the acknowledge at once, which empties the mailbox, or once it is out of reset. In any other state the write is refused. -/
def State.ackIn (s : State) (mb code : Nat) : State :=
  let b := s.inBox mb
  if b.state ≠ .full then s.mailboxError
  else
    let acked : Mailbox := { b with state := .acked, code := code % 65536 }
    let s := { s with mail := { s.mail with inn := Assoc.put Mailbox.reset s.mail.inn mb acked } }
    if s.coresRun then s.readInAck mb else s

/-- MAILBOX_ACKNOWLEDGE (R297, R298, R302): the host writes the acknowledge of its inbound mailbox `mb`. -/
def execMailboxAcknowledge (mb : Fin 4) (code : BitVec 32) (s : State) : Out := .next (s.ackIn mb.val code.toNat)

/-- The read of MB_OUT_ACK (R298): that of an ACKED host outbound mailbox's acknowledge makes it EMPTY; in any other state it changes nothing. -/
def State.takeAck (s : State) (mb : Nat) : State :=
  let b := s.outBox mb
  if b.state == .acked then { s with mail := { s.mail with out := Assoc.put Mailbox.reset s.mail.out mb { b with state := .empty } } } else s

/-- What a read of a mailbox's acknowledge register returns (R298, Table 12-9). -/
def Mailbox.ackReg (b : Mailbox) : Nat := if b.state == .acked then fld b.tag 16 16 + fld b.code 0 16 else 0xFFFFFFFF

/-- MB_OUT_ACK (R298): the host reads the acknowledge of its outbound mailbox `mb`. -/
def execMbOutAck (mb : Fin 4) (s : State) : Out := .next ((s.takeAck mb.val).emit (.ackValue mb.val (s.outBox mb.val).ackReg))

end Sys2Proof.Machine
end

