-- ==== Sys2Proof/Machine/LifeCycle.lean ====
section
/-! DEFINITION. Life cycle, enrolment, password, update session, staging and activation, firmware commit and the issue floor (chapter 14):
the checks of Table 14-4 and what the agreed requests do. -/

namespace Sys2Proof.Machine

/-! ## Transitions (R341, R342) -/

/-- The signers that Table 14-6 admits for a transition: Kelinagon, the station data authority; none for a pair that is not in it. -/
def transitionSigners (old new : Nat) : Option (Bool × Bool) :=
  match old, new with
  | 0, 1 | 1, 2 | 1, 4 | 2, 1 => some (true, false)
  | 2, 3 | 3, 2 => some (false, true)
  | 2, 5 | 3, 5 | 4, 5 => some (true, true)
  | _, _ => none

/-- Whether the grade fuse forbids a transition (R5): a blown fuse forbids COMMISSIONING and SERVICE for good. -/
def gradeForbids (gradeL : Bool) (new : Nat) : Bool := gradeL && (new == 2 || new == 3)

/-- Kelinagon's key as the part is given it, which it accepts only if it matches the hash in OTP (R349). -/
def kelinagonKey : List Byte := be 1952 Config.kelinagonKey.toNat
def kelinagonKeyOk : Bool := decide (shake256 32 kelinagonKey = be 32 Config.kelinagonOtp.toNat)

/-- The fingerprint of Kelinagon's key: the first 8 bytes of SHAKE256 over it (Tables 14-5, 14-8). -/
def kelinagonPrint : List Byte := shake256 8 kelinagonKey

/-- Whether a token's format, serial number, station identifier, challenge or fingerprint is wrong (BAD_TOKEN, Table 14-5). -/
def badToken (c : Config) (serial t : List Byte) : Bool :=
  let kelinagon := getByte t 4 = 1
  getBE t 0 2 != 0x10 || getBE t 5 3 != 0 || getBE t 28 4 != 0 || slice t 8 16 != padTo 16 serial ||
    getBE t 24 4 != (if kelinagon then 0 else c.station) || getBE t 32 8 != c.challenge.toNat ||
    slice t 40 8 != (if kelinagon then kelinagonPrint else padTo 8 c.fingerprint)

/-- Whether a Kelinagon signature verifies: under a key that the hash in OTP admits (R349; log entry 10). -/
def kelinagonSigned (digest sig : List Byte) : Bool := kelinagonKeyOk && Config.mlDsaVerify kelinagonKey digest sig

/-- Whether a token's signature verifies (R341). -/
def tokenSigned (c : Config) (t : List Byte) : Bool :=
  let d := shake256 64 (t.take 48)
  let sig := slice t 48 3309
  if getByte t 4 = 1 then kelinagonSigned d sig
  else match c.key with
    | some k => Config.mlDsaVerify k d sig
    | none => false

/-- The checks of Table 14-4 on a transition in lane `x`. -/
def State.transitionCheck (s : State) (x : LaneId) (b : List Byte) : Option (Nat × Nat) :=
  let l := s.lane x
  let t := slice b 128 3357
  let old := getByte t 2
  let new := getByte t 3
  let force := !l.pe.forces.isEmpty
  match transitionSigners old new with
  | none => some (610, 0x0E01)
  | some (kelinagon, station) =>
    if old ≠ l.ls.life then some (610, 0x0E01)
    else if gradeForbids s.cfg.gradeL new then some (611, 0x0E02)
    else if badToken s.cfg l.rc.opts.serial t then some (612, 0x0E03)
    else if !((kelinagon && getByte t 4 == 1) || (station && getByte t 4 == 2)) then some (613, 0x0E04)
    else if !tokenSigned s.cfg t then some (614, 0x0E05)
    else if (old = 2 ∨ old = 4) ∧ force then some (615, 0x0E06)
    else if (new = 3 ∧ ¬ (l.ls.running ∧ l.rc.opts.voting)) ∨ (new = 5 ∧ force) ∨ (old = 1 ∧ new = 4 ∧ ¬ s.cfg.gradeL) then some (616, 0x0E07)
    else none

/-- LIFE_CYCLE_TRANSITION (R339 to R342): the token of the request is checked. -/
def execLifeCycleTransition (mb : Fin 4) (s : State) : Out := .next (s.checkWhole mb.val 0x10 s.transitionCheck)

/-- Both settings areas of a firmware erased (R342). -/
def Firmware.eraseAreas (f : Firmware) : Firmware := { f with area0 := FwArea.reset, area1 := FwArea.reset }

/-- What erasure removes of a lane's image slots (R342). -/
def Lane.eraseSlots (l : Lane) : Lane :=
  { l with ls := { l.ls with slot0 := ImageSlot.reset, slot1 := ImageSlot.reset, running := false, marked := none, floorRun := 0 },
           rc := { l.rc with wdogTimeout := if l.ls.running then 1000 else l.rc.wdogTimeout } }

/-- What erasure removes in a lane's retained-state copy and its protected area (R342): the snapshots, the issue floor, the settings areas. -/
def State.eraseLane (s : State) (x : LaneId) : State :=
  let s := s.modLane x Lane.eraseSlots
  let s := s.mramWrite (.lane x) (.retained x) (fun s => s.modLane x (fun l => { l with ls := { l.ls with snap0 := none, snap1 := none } }))
  s.areaWrite x (fun q => { q with floor := 0, fw := q.fw.eraseAreas })

/-- What erasure removes in the configuration region (R342): key, password hash, settings and overlay. -/
def Config.erase (c : Config) : Config :=
  { c with key := none, fingerprint := [], station := 0, pwHash := [], salt := [], settings := Settings.reset, settings1 := Settings.reset, overlay := [],
           overlayImg := [], overlayDig := [] }

/-- A password of Kelinagon's put in force (R342, R401). -/
def Config.initialPassword (c : Config) (secret : BitVec 128 × BitVec 256) : Config :=
  { c with salt := be 16 secret.1.toNat, pwHash := be 32 secret.2.toNat, pwInitial := true }

/-- Erasure in the whole unit. -/
def State.erase (s : State) : State :=
  LaneId.list.foldl State.eraseLane (s.mramWrite .pumphouse .configuration (fun s =>
    { s with cfg := s.cfg.erase, ph := { s.ph with fw := s.ph.fw.eraseAreas } }))

/-- A unit record of the lanes that check requests, for events that need no lane in service. -/
def State.logChecking (s : State) (code sev : Nat) (ps : List Nat) : State :=
  s.checkLanes.foldl (fun s x => s.modLane x (fun l => l.logUnit code sev ps)) s

/-- Every lane that runs cycles stops, in independent-lane mode too, and the unit fails safe (R137, R337), where a transition leaves no cycle to run.
VT_STOP has no cause for it: 0x0. -/
def State.endCycles (s : State) : State :=
  let s := (LaneId.list.filter (fun x => (s.lane x).evaluates)).foldl (fun s x => s.stopLane x 0) s
  if s.unit.role == .stopped then s else s.failSafe

/-- A transition takes effect (R342, Table 14-6): each lane writes the state to its protected area, the pumphouse the rest. -/
def State.transition (s : State) (old new seq : Nat) : State :=
  let s := s.logChecking 0x0E01 1 [old, new, seq]
  let s := s.areasWrite (fun _ l => if l.rc.powered then { l.ls with life := new } else l.ls)
  let s := { s with cfg := { s.cfg with transitions := sat s.cfg.transitions } }.newChallenge
  match new with
  | 3 => { s with cfg := { s.cfg with rwlFuse := true } }
  | 5 =>
    let s := s.endCycles.erase
    { s with cfg := { s.cfg with retired := true } }
  | 1 => (if old = 0 then s else s.endCycles.erase).configWrite (·.initialPassword Config.factorySecret)
  | _ => if old = 1 then s.configWrite (·.initialPassword Config.deliverySecret) else s

/-- The requests of a format whose apply cycle has come and that no lane has applied (R120). -/
def State.due (s : State) (f : Nat) : List Pending :=
  s.unit.pend.filter (fun p => p.format == f && (p.apply ≤ s.cycle || !s.cyclesRun) && Mask.count p.appliedBy == 0)

/-- A pending request marked as applied by the lanes in service that did not refuse it; acknowledged at once where no lane in service goes on to commit
a cycle. -/
def State.applied (s : State) (p : Pending) : State :=
  let by_ := s.serviceMask
  let q := { p with appliedBy := { a := by_.a && p.accepted.a, b := by_.b && p.accepted.b, c := by_.c && p.accepted.c } }
  if !s.serviceLanes.isEmpty then { s with unit := { s.unit with pend := s.unit.pend.map (fun r => if r = p then q else r) } }
  else
    let s := { s with unit := { s.unit with pend := s.unit.pend.filter (fun r => r != p) } }
    if p.mailbox < 4 then s.ackOut p.mailbox 0 else s

/-- TRANSITION_APPLY (R342): an agreed transition takes effect at the boundary of its apply cycle, or at once while no cycle runs. It writes the MRAM, so
it waits while the rail that feeds that is down (R313). -/
def execTransitionApply (s : State) : Out :=
  match s.due 0x10 with
  | [] => .next s
  | p :: _ =>
    let t := slice p.bytes 128 4
    if !s.ph.powered then .next s
    else .next ((s.transition (getByte t 2) (getByte t 3) p.logSeq).applied p)

/-! ## Enrolment and password (R343, R344, R350) -/

/-- The checks of Table 14-4 on an enrolment record in lane `x`. -/
def State.enrolCheck (s : State) (x : LaneId) (b : List Byte) : Option (Nat × Nat) :=
  let r := slice b 128 5301
  if getBE r 0 2 ≠ 0x11 ∨ getBE r 2 2 ≠ 0 ∨ getBE r 28 4 ≠ 0 ∨ slice r 4 16 ≠ padTo 16 (s.lane x).rc.opts.serial ∨
      getBE r 24 4 ≤ s.cfg.enrolNo ∨ slice r 1984 8 ≠ kelinagonPrint then some (617, 0x0E08)
  else if !kelinagonSigned (shake256 64 (r.take 1992)) (slice r 1992 3309) then some (618, 0x0E09)
  else none

/-- ENROLMENT (R350): the record of the request is checked. -/
def execEnrolment (mb : Fin 4) (s : State) : Out := .next (s.checkWhole mb.val 0x11 s.enrolCheck)

/-- PASSWORD_CHANGE (R344): it has no check after the sixth. -/
def execPasswordChange (mb : Fin 4) (s : State) : Out := .next (s.checkWhole mb.val 0x12 (fun _ _ => none))

/-- An accepted enrolment record (R341, R350): it replaces the key; another station returns the issue floors to 0 and erases the overlay; a
new challenge. -/
def State.enrol (s : State) (b : List Byte) : State :=
  let r := slice b 128 5301
  let key := slice r 32 1952
  let station := getBE r 20 4
  let other := station ≠ s.cfg.station
  let c := { s.cfg with key := some key, fingerprint := shake256 8 key, station := station, enrolNo := getBE r 24 4 }
  let c := if other then { c with overlay := [], overlayImg := [], overlayDig := [] } else c
  let s := s.configWrite (fun _ => c)
  (if other then s.areasWrite (fun _ l => { l.ls with floor := 0 }) else s).newChallenge

/-! ## Software reset (R339) -/

/-- A software reset item with a value. -/
def State.resetItem (s : State) (mb value : Nat) : State :=
  match s.req mb with
  | some r => if getBE (itemBytes r.bytes 0) 4 4 = value then s.checkItem mb 0x13 0x30 (fun _ _ => none) (fun _ => none) else s
  | none => s

/-- SOFTWARE_WARM_RESET (R339): the one item, with value 1. -/
def execSoftwareWarmReset (mb : Fin 4) (s : State) : Out := .next (s.resetItem mb.val 1)

/-- SOFTWARE_COLD_RESET (R339): the one item, with value 2. -/
def execSoftwareColdReset (mb : Fin 4) (s : State) : Out := .next (s.resetItem mb.val 2)

/-! ## The update session (R354) -/

/-- OPEN_UPDATE_SESSION (R354): BUSY while the lock is held is check 6; nothing follows it. -/
def execOpenUpdateSession (mb : Fin 4) (s : State) : Out := .next (s.checkWhole mb.val 0x14 (fun _ _ => none))

/-- NO_SESSION (Table 14-4): no requester holds the lock. -/
def State.noSession (s : State) : Option (Nat × Nat) := if s.upd.holder.isNone then some (621, 0x0E0C) else none

/-- CLOSE_UPDATE_SESSION (R354): only the holder; NO_SESSION where nobody holds the lock. -/
def execCloseUpdateSession (mb : Fin 4) (s : State) : Out := .next (s.checkWhole mb.val 0x17 (fun _ _ => s.noSession))

/-- UPDATE_SESSION_LAPSE (R354): 600 s without a request from the holder release the lock. -/
def execUpdateSessionLapse (s : State) : Out := .next { s with upd := { s.upd with holder := none, remaining := 0 } }

/-! ## Staging (R351, R352, R355) -/

/-- Whether a file is a firmware package by its magic (R351). -/
def isFirmware (f : List Byte) : Bool := getBE f 0 4 == 0x4B465733

/-- The digest of a firmware package: of every byte before its signature block. -/
def packageDigest (f : List Byte) : List Byte := shake256 64 (f.take (f.length - 3325))

/-- BAD_PACKAGE (R351): header, target or signature wrong. -/
def badPackage (f : List Byte) : Bool :=
  let n := f.length
  let sig := f.drop (n - 3325)
  n < 64 + 3325 || 8388608 < n || (getByte f 4 != 1 && getByte f 4 != 2) || getByte f 5 != 0 || getBE f 13 3 != 0 ||
    !allZero (slice f 20 44) || getBE f 16 4 != n - 64 - 3325 || getByte f 12 = 0 || 128 < getByte f 12 ||
    getBE sig 0 2 != 1 || getBE sig 2 2 != 0x0CED || slice sig 4 8 != kelinagonPrint || getBE sig 12 4 != 0 ||
    !kelinagonSigned (packageDigest f) (slice sig 16 3309)

/-- The idle slot set. -/
def Firmware.setIdle (f : Firmware) (v : FwSlot) : Firmware := if f.active then { f with slot0 := v } else { f with slot1 := v }

/-- The running slot set. -/
def Firmware.setRun (f : Firmware) (v : FwSlot) : Firmware := if f.active then { f with slot1 := v } else { f with slot0 := v }

/-- A verified package as a slot holds it (R22). -/
def packageSlot (f : List Byte) : FwSlot :=
  { mark := .verified, version := getBE f 8 4, settings := getBE f 6 2, step := getByte f 12, digest := packageDigest f, file := f }

/-- A lane's idle image slot set. -/
def Lane.setOther (l : Lane) (v : ImageSlot) : Lane :=
  { l with ls := if l.ls.active then { l.ls with slot0 := v, marked := none } else { l.ls with slot1 := v, marked := none } }

/-- An image written into the idle slot of lane `x` and checked there by Table 2-12 (R52, R355): the slot is verified, or marked empty
with its code and an IMAGE_REFUSED record (R53). -/
def Lane.stageImage (l : Lane) (x : LaneId) (e : LoadEnv) (f : List Byte) : Lane × Nat :=
  match loadImage e f with
  | .ok m => (l.setOther { mark := .verified, code := 0, file := f, image := some m }, 0)
  | .error (code, idx) => ((l.setOther { ImageSlot.reset with code := code }).imageRefused x code idx f, code)

/-- Lane firmware written into the idle firmware slot and checked (R352, R355). -/
def Lane.stageFirmware (l : Lane) (f : List Byte) : Lane × Nat :=
  let code := if badPackage f then 0x0E0A else if getByte f 12 < l.ls.fw.otp then 0x0E0B else 0
  ({ l with ls := { l.ls with fw := l.ls.fw.setIdle (if code = 0 then packageSlot f else FwSlot.reset) } }, code)

/-- The code of pumphouse firmware, which each lane checks on the pumphouse's behalf (R355). -/
def State.pumphouseCode (s : State) (f : List Byte) : Nat :=
  if badPackage f then 0x0E0A else if getByte f 12 < s.ph.fw.otp then 0x0E0B else 0

/-- The code of a firmware package in lane `x` (R351, R352, R355): its own kind's, or the pumphouse's, which each lane checks on the pumphouse's behalf. -/
def State.firmwareCode (s : State) (x : LaneId) (f : List Byte) : Nat :=
  if getByte f 4 = 2 then s.pumphouseCode f
  else if badPackage f then 0x0E0A else if getByte f 12 < (s.lane x).ls.fw.otp then 0x0E0B else 0

/-- The code and order of a stage request before its package is written anywhere: a place outside region 6, an image in FACTORY_TEST (Table 14-2), and
without a session BAD_PACKAGE and ROLLBACK, which stand before NO_SESSION in Table 14-4 (R340). -/
def State.stageFirst (s : State) (x : LaneId) (addr len : Nat) (f : List Byte) : Option (Nat × Nat) :=
  if addr < 0x0C000000 ∨ 0x0E000000 < addr + len ∨ len = 0 then some (400, 0x0504)
  else if (s.lane x).ls.life = 1 ∧ !isFirmware f then some (100, 0x0501)
  else if s.upd.holder.isNone ∧ isFirmware f ∧ s.firmwareCode x f ≠ 0 then some (619, s.firmwareCode x f)
  else s.noSession

/-- The kind of a package (Table 14-13). -/
def packageKind (f : List Byte) : Nat := if !isFirmware f then 1 else if getByte f 4 = 2 then 3 else 2

/-- A package handed to lane `x`, which writes it into its idle slot and checks it (R355). -/
def State.stageLane (s : State) (r : Request) (x : LaneId) (kind : Nat) (f : List Byte) : State × Request :=
  let (l, code) := match kind with
    | 1 => (s.lane x).stageImage x (s.loadEnv x) f
    | 2 => (s.lane x).stageFirmware f
    | _ => (s.lane x, s.pumphouseCode f)
  (s.modLane x (fun _ => l), if code = 0 then r else r.note x (some (619, code)))

/-- The lanes that a package is handed to (R355): every lane that runs, whether its verdict counts or not, but one that cannot read its copy of the
request (R19). -/
def State.stageLanes (s : State) (r : Request) : List LaneId :=
  LaneId.list.filter (fun x => (s.lane x).rc.released.getLsbD 7 && r.readable.get x)

/-- STAGE_PACKAGE (R22, R355): the pumphouse copies the package into its flash staging area and hands that copy to each lane; those that check give
their verdict on it. -/
def execStagePackage (mb : Fin 4) (s : State) : Out :=
  match s.req mb.val with
  | none => .next s
  | some r =>
    if r.sent || reqFormat r.bytes ≠ 0x15 then .next s
    else
      let it := itemBytes r.bytes 0
      let addr := getBE it 0 4
      let len := getBE it 4 4
      let lies := decide (0x0C000000 ≤ addr) && decide (addr + len ≤ 0x0E000000)
      let (s, f) := if lies then s.basinRead corePh addr len else (s, [])
      let r := s.checkLanes.foldl (fun r x => r.note x (s.stageFirst x addr len f)) r
      let kind := packageKind f
      let ready := s.checkLanes.filter (fun x => r.readable.get x && (r.codes.get x).isNone)
      if ready.isEmpty then .next (s.afterCheck mb.val r true)
      else
        let s := { s with upd := { s.upd with kind := kind, stage := 2, staged := [], staging := f } }
        let s := ((s.stageLanes r).filter (fun x => !(s.checkLanes.contains x))).foldl (fun s x => (s.stageLane r x kind s.upd.staging).1) s
        let (s, r) := ready.foldl (fun (p : State × Request) x => p.1.stageLane p.2 x kind p.1.upd.staging) (s, r)
        let s := if kind = 3 then
            { s with ph := { s.ph with fw := s.ph.fw.setIdle (if s.pumphouseCode s.upd.staging = 0 then packageSlot s.upd.staging else FwSlot.reset) } }
          else s
        .next (s.afterCheck mb.val r true)

/-! ## Activation (R356) -/

/-- The checks of an activate request in lane `x`: NOT_PERMITTED for an image in FACTORY_TEST (Table 14-2), NO_SESSION, NOT_STAGED, and for an image its state-transfer map (R50, R356). -/
def State.activateCheck (s : State) (x : LaneId) (b : List Byte) : Option (Nat × Nat) :=
  let l := s.lane x
  let held := s.heldKind x (slice b 128 64)
  if held = some 1 ∧ l.ls.life = 1 then some (100, 0x0501)
  else match s.noSession, held with
    | some c, _ => some c
    | none, none => some (622, 0x0E0D)
    | none, some 1 =>
      match l.otherSlot.image with
      | some m => if m.transfer.issue = 0 ∨ transferFits m l.image then none else some (625, 0x021C)
      | none => some (622, 0x0E0D)
    | none, some _ => none

/-- ACTIVATE (R356): the digest of the request is checked. -/
def execActivate (mb : Fin 4) (s : State) : Out := .next (s.checkWhole mb.val 0x16 s.activateCheck)

/-- The lanes mark the slot under a digest for the next start (R356), in every lane that holds it. -/
def State.markSlots (s : State) (d : List Byte) : State :=
  let s := s.mapLanes (fun x l => match s.heldKind x d with
    | some 1 => { l with ls := { l.ls with marked := some (!l.ls.active) } }
    | some 2 => { l with ls := { l.ls with fw := { l.ls.fw with marked := some (!l.ls.fw.active) } } }
    | _ => l)
  if s.heldKind s.voice d = some 3 then
    { s with ph := { s.ph with fw := { s.ph.fw with marked := some (!s.ph.fw.active) } } }
  else s

/-- The acknowledge of an agreed request. One that a pumphouse reset has overtaken is kept under a key from 8 on: its mailbox has the answer
RECEIVER_RESTARTED and gets no other (R300). -/
def State.ackReq (s : State) (mb code : Nat) : State := if mb < 4 then s.ackOut mb code else s

/-- An agreed and logged activation (R354, R356): slots marked, its own change-log entry, ACCEPTED, the lock released, the restart 100 ms
away. -/
def State.activateNow (s : State) (mb operator : Nat) (d before : List Byte) : State :=
  let s := s.markSlots d
  let s := s.pushLog { eventItem 0x20 0 before (d.take 32) with operator := operator }
  let s := { s with upd := { s.upd with holder := none, remaining := 0, activation := 1, fellBack := false },
                    unit := { s.unit with activateAt := some (s.cfg.opTime + 100) } }
  s.ackReq mb 0

/-! ## The change log (R347, R348) -/

/-- Bytes 0 to 95 of a change-log entry (Table 14-7). -/
def entryHead (s : State) (i : LogItem) (seq : Nat) : List Byte :=
  be 4 seq ++ be 2 i.kind ++ be 2 i.code ++ be 4 i.operator ++ be 6 s.cfg.opTime ++ be 2 0 ++ be 4 s.cfg.powerCycles ++ be 4 s.utc ++
    be 4 i.cycle ++ padTo 32 i.before ++ padTo 32 i.after

/-- The lanes that compute chaining values: those released. -/
def State.chainLanes (s : State) : List LaneId := LaneId.list.filter (fun x => (s.lane x).rc.released.getLsbD 7)

/-- The sequence number and chaining value of the newest entry on which two lanes agree (R348). -/
def State.chainHead (s : State) : Option (Nat × List Byte) :=
  let heads := s.chainLanes.map (fun x => ((s.lane x).ls.logSeq, (s.lane x).ls.logChain))
  heads.find? (fun h => 2 ≤ (heads.filter (· == h)).length)

/-- The entries first to first + count − 1 that the change log still holds, in order. -/
def State.logEntries (s : State) (first count : Nat) : List Byte :=
  let head := (s.lane s.voice).ls.logSeq
  (List.range count).flatMap (fun k =>
    let n := first + k
    if 1 ≤ n ∧ n ≤ head ∧ head < n + 4096 then Assoc.get [] s.cfg.log ((n - 1) % 4096) else [])

/-- Data for the host placed in region 7 and announced through host inbound mailbox 1, and the request acknowledged; BUSY where that mailbox
is not EMPTY (R348, R366; log entry 3). -/
def State.returnData (s : State) (mb : Nat) (bs : List Byte) : State :=
  if 4 ≤ mb then s
  else if (s.inBox 1).state ≠ .empty then s.ackOut mb 0x050D
  else
    let s := s.basinWrite corePh 0x0E010000 bs
    (s.fillIn 1 0x0E010000 bs.length (s.outBox mb).tag).ackOut mb 0

/-- READ_CHANGE_LOG (R348): it has no check after the sixth. -/
def execReadChangeLog (mb : Fin 4) (s : State) : Out := .next (s.checkItem mb.val 0x18 (match s.req mb.val with
  | some r => getByte (itemBytes r.bytes 0) 0
  | none => 0) (fun _ _ => none) (fun _ => none))

/-- The dump region of a part by its index (R371): 0 to 2 the lanes, 3 the pumphouse. -/
def Warden.dump (w : Warden) (i : Nat) : Dump :=
  match i with
  | 0 => w.dumpA
  | 1 => w.dumpB
  | 2 => w.dumpC
  | _ => w.dumpP

/-- A dump region set. -/
def Warden.setDump (w : Warden) (i : Nat) (d : Dump) : Warden :=
  match i with
  | 0 => { w with dumpA := d }
  | 1 => { w with dumpB := d }
  | 2 => { w with dumpC := d }
  | _ => { w with dumpP := d }

/-- The part that a dump index names. -/
def partOf (i : Nat) : Part :=
  match i with
  | 0 => .lane .a
  | 1 => .lane .b
  | 2 => .lane .c
  | _ => .pumphouse

/-- A region's header with a state, its CRC formed anew (R369). -/
def dumpState (bs : List Byte) (st : Nat) : List Byte :=
  let h := bs.take 7 ++ be 1 st ++ slice bs 8 244
  h ++ be 4 (ieeeCrc h) ++ bs.drop 256

/-- A dump released by its owner (R371). -/
def Dump.release (d : Dump) : Dump := { d with state := 0, bytes := dumpState d.bytes 0 }

/-- What an agreed request does once its change-log entry is written (R120, R270, R339, R344, R350, R354 to R356, R371). A change is applied at its
cycle by every lane that did not refuse it. DESIGN CHOICE: a lane that could not read its copy (R19) has not refused it, and applies it with the others; the
spec does not say (log entry 112). -/
def State.afterLog (s : State) (mb : Nat) (r : Request) (i : LogItem) (seq : Nat) : State :=
  let b := r.bytes
  let f := reqFormat b
  let s := s.setReq mb none
  let accepted : Mask := r.codes.map (fun c => c.isNone)
  let wait : Pending := { mailbox := mb, format := f, bytes := b, apply := i.cycle, accepted := accepted, logSeq := seq,
                          appliedBy := PerLane.all false, commits := PerLane.all false, freed := [] }
  let s := if f = 3 ∨ f = 0x13 then { s with unit := { s.unit with pend := s.unit.pend ++ [wait] } } else s
  match f with
  | 0x03 => { s with unit := { s.unit with swap := { Swap.reset with state := 1, cycle := i.cycle,
                                                                      mailbox := if mb < 4 then some mb else none } } }
  | 0x11 => (s.enrol b).ackReq mb 0
  | 0x12 => (s.configWrite (fun c => { c with salt := slice b 128 16, pwHash := i.after, pwInitial := false })).ackReq mb 0
  | 0x13 => { s with unit := { s.unit with resetAt := some (getBE b 132 4, i.cycle) } }.ackReq mb 0
  | 0x14 => if mb < 4 then { s with upd := { s.upd with holder := some r.requester, remaining := 600000 } }.ackOut mb 0 else s
  | 0x15 => s.ackReq mb 0
  | 0x16 => s.activateNow mb (reqOperator b) (slice b 128 64) i.before
  | 0x17 => { s with upd := { s.upd with holder := none, remaining := 0 } }.ackReq mb 0
  | 0x18 => s.returnData mb (s.logEntries (getBE b 128 4) (getBE b 132 4))
  | 0x32 =>
    let d := getByte b 128
    (s.mramWrite (partOf d) (.dump (partOf d)) (fun s => { s with warden := s.warden.setDump d (s.warden.dump d).release })).ackReq mb 0
  | _ =>
    let s := { s with unit := { s.unit with pend := s.unit.pend ++ [wait] } }
    if f = 1 ∧ s.leads ∧ hasChange b then { s with unit := { s.unit with lastChange := some (i.cycle, b) } } else s

/-- The request that waits for a change-log entry goes on, or is acknowledged with LOG_ERROR. -/
def State.onLogged (s : State) (i : LogItem) (seq : Option Nat) : State :=
  match i.mailbox with
  | none => s
  | some mb => match s.req mb with
    | none => s
    | some r => match seq with
      | some n => s.afterLog mb r i n
      | none => (s.setReq mb none).ackReq mb 0x050E

/-- CHANGE_LOG_ENTRY_WRITE (R347, R348): the first entry that waits is written once two lanes have the same chaining value for it, and the
lanes keep it as the newest; `written` false where it could not be written (LOG_ERROR). A pumphouse whose cores are in reset writes none, one without
supply begins none (R313). -/
def execChangeLogEntryWrite (written : Bool) (s : State) : Out :=
  match s.cfg.logQueue with
  | [] => .next s
  | i :: rest =>
    if !s.coresRun then .next s
    else
    let s := { s with cfg := { s.cfg with logQueue := rest } }
    match s.chainHead, written with
    | some (n, chain), true =>
      let head := entryHead s i (n + 1)
      let value := shake256 32 (chain ++ head)
      let s := s.mramWrite .pumphouse .changeLog (fun s => { s with cfg := { s.cfg with log := Assoc.put [] s.cfg.log (n % 4096) (head ++ value) } })
      let s := s.areasWrite (fun x l => if s.chainLanes.contains x then { l.ls with logSeq := n + 1, logChain := value } else l.ls)
      let s := if i.merged then s.configWrite (fun c => { c with overlaySeq := n + 1 }) else s
      .next (s.onLogged i (some (n + 1)))
    | _, _ => .next (s.onLogged i none)

/-- LOCKOUT_END (R346): the lockout ends; the count stays at 5. -/
def execLockoutEnd (s : State) : Out := .next { s with cfg := { s.cfg with lockout := 0 } }

/-! ## Commit of firmware, issue floor (R353, R359) -/

/-- The active settings area (chapter 14): the committed one with the higher generation; true for the second. -/
def Firmware.activeArea (f : Firmware) : Bool := f.area1.committed && (!f.area0.committed || decide (f.area0.generation < f.area1.generation))

/-- Whether a firmware runs on trial. -/
def Firmware.onTrial (f : Firmware) : Bool := f.run.mark == .trial

/-- Whether the second settings area of the pumphouse is the one in use (R357): the active one, or while its firmware is on trial the other, into which
that has migrated it. -/
def Firmware.usedArea (f : Firmware) : Bool := f.activeArea != f.onTrial

/-- The settings in effect, of the area in use (R281, R357). -/
def State.settings (s : State) : Settings := if s.ph.fw.usedArea then s.cfg.settings1 else s.cfg.settings

/-- The settings of the area in use changed. -/
def State.setSettings (s : State) (c : Settings) : State :=
  { s with cfg := if s.ph.fw.usedArea then { s.cfg with settings1 := c } else { s.cfg with settings := c } }

/-- The active area's settings migrated into the other area by firmware that begins its trial (R357). -/
def State.migrate (s : State) : State :=
  { s with cfg := if s.ph.fw.activeArea then { s.cfg with settings := s.cfg.settings1 } else { s.cfg with settings1 := s.cfg.settings } }

/-- The settings area in effect, and the other one set. -/
def Firmware.active_ (f : Firmware) : FwArea := if f.activeArea then f.area1 else f.area0
def Firmware.setSpare (f : Firmware) (a : FwArea) : Firmware := if f.activeArea then { f with area0 := a } else { f with area1 := a }

/-- Firmware that begins its trial migrates the settings of the active area into the other (R357), whose header is written uncommitted; the active
area is not written. Settings of another version are migrated in a form of which the spec says nothing (Config.migrated). -/
def Firmware.migrate (f : Firmware) : Firmware :=
  let a := f.active_
  f.setSpare { version := f.run.settings, generation := a.generation, committed := false, crcOk := true,
               content := if a.version = f.run.settings ∨ a.content = [] then a.content else Config.migrated a.version f.run.settings a.content }

/-- Firmware on trial commits (R359): the migrated area becomes active with the next generation, the counter advances to the package's step,
the previous slot is superseded. -/
def Firmware.commit (f : Firmware) : Firmware :=
  let spare := if f.activeArea then f.area0 else f.area1
  let f := { f.setSpare { spare with generation := f.active_.generation + 1, committed := true, crcOk := true } with
               otp := max f.otp f.run.step, resets := 0 }
  (f.setRun { f.run with mark := .committed }).setIdle { f.idle with mark := .superseded }

/-- The change-log entry of a commit of firmware. -/
def State.logCommit (s : State) (f : Firmware) : State :=
  s.pushLog (eventItem 0x21 (s.cycle % 2 ^ 32) (f.idle.digest.take 32) (f.run.digest.take 32))

/-- FIRMWARE_COMMIT (R359, R347): after 100 consecutive cycles every firmware on trial commits, with a change-log entry for that of the lanes and one for
that of the pumphouse. The marks of the slots stand in flash, the settings areas in the MRAM. -/
def execFirmwareCommit (s : State) : Out :=
  let onTrial := LaneId.list.filter (fun x => (s.lane x).ls.fw.onTrial)
  if 100 ≤ s.upd.trialRun && (!onTrial.isEmpty || s.ph.fw.onTrial) && s.ph.powered then
    let s := match onTrial with
      | x :: _ => s.logCommit (s.lane x).ls.fw
      | [] => s
    let s := if s.ph.fw.onTrial then s.logCommit s.ph.fw else s
    let s := s.areasWrite (fun _ l => if l.ls.fw.onTrial then { l.ls with fw := l.ls.fw.commit } else l.ls)
    .next { s with ph := { s.ph with fw := if s.ph.fw.onTrial then s.ph.fw.commit else s.ph.fw },
                   upd := { s.upd with activation := 3, trialRun := 0 } }
  else .next s

/-- ISSUE_FLOOR_ADVANCE (R353): after 100 consecutive committed cycles with the running image two lanes agree its issue as the new floor,
and the lanes write it where it is above theirs. -/
def execIssueFloorAdvance (s : State) : Out :=
  let ready := s.serviceLanes.filter (fun x => 100 ≤ (s.lane x).ls.floorRun && (s.lane x).ls.floor < (s.lane x).image.issue)
  if 2 ≤ ready.length then
    .next (s.areasWrite (fun _ l => if l.inService && l.ls.floor < l.image.issue then { l.ls with floor := l.image.issue } else l.ls))
  else .next s

/-! ## Reading records and dumps (R366, R371) -/

/-- The dump release of Table 15's request (R371): NO_DUMP where the region holds no complete dump. -/
def State.releaseCheck (s : State) (it : List Byte) : Option (Nat × Nat) :=
  let d := s.warden.dump (getByte it 0)
  if d.state = 2 ∧ d.headerOk then none else some (626, 0x0F01)

/-- DUMP_RELEASE (R371): the one item, with the dump index in its byte 0. -/
def execDumpRelease (mb : Fin 4) (s : State) : Out := .next (s.checkItem mb.val 0x32 (match s.req mb.val with
  | some r => getByte (itemBytes r.bytes 0) 0
  | none => 0) (fun _ it => s.releaseCheck it) (fun _ => none))

/-- A request that the pumphouse serves alone is malformed (R366, R371): length, item count, reserved fields. It does not check the
authenticator. -/
def badRead (b : List Byte) : Bool := b.length != 136 || reqCount b != 1 || !allZero (slice b 112 16)

/-- The records first to first + count − 1 of the log whose slot holds that number with a correct CRC, and how many failed theirs. -/
def Warden.read (w : Warden) (first count : Nat) : List Byte × Nat :=
  (List.range count).foldl (fun (p : List Byte × Nat) k =>
    let n := (first + k) % 2 ^ 32
    let r := Assoc.get [] w.slots (n % 131072)
    if r = [] ∨ getBE r 0 4 ≠ n then p
    else if getBE r 60 4 = ieeeCrc (r.take 60) then (p.1 ++ r, p.2) else (p.1, p.2 + 1)) ([], 0)

/-- LOG_READ (R366): the pumphouse serves the request alone, in every life-cycle state. -/
def execLogRead (mb : Fin 4) (s : State) : Out :=
  match s.req mb.val with
  | none => .next s
  | some r =>
    let b := r.bytes
    let n := getBE b 132 4
    if reqFormat b ≠ 0x30 then .next s
    else
      let s := s.setReq mb.val none
      if badRead b || n = 0 || 1024 < n then .next (s.ackOut mb.val 0x0504)
      else
        let (bs, bad) := s.warden.read (getBE b 128 4) n
        .next ({ s with warden := { s.warden with crcErr := satAdd s.warden.crcErr bad } }.returnData mb.val bs)

/-- DUMP_READ (R371): 65,536 bytes of a dump region from 65,536 times the segment, whatever the dump's state. -/
def execDumpRead (mb : Fin 4) (s : State) : Out :=
  match s.req mb.val with
  | none => .next s
  | some r =>
    let b := r.bytes
    if reqFormat b ≠ 0x31 then .next s
    else
      let s := s.setReq mb.val none
      if badRead b || 3 < getByte b 128 || 15 < getByte b 129 || getBE b 130 6 != 0 then .next (s.ackOut mb.val 0x0504)
      else .next (s.returnData mb.val (padTo 65536 ((s.warden.dump (getByte b 128)).bytes.drop (65536 * getByte b 129))))

end Sys2Proof.Machine
end

