-- ==== Sys2Proof/Machine/PortCore.lean ====
section
/-! DEFINITION. The ports of the pumphouse: the port settings with their defaults (Table 11-3), the receive area, address resolution, the
CAN queues (R285, R286), wire frames (R174), PTP (R291). -/

namespace Sys2Proof.Machine

/-! ## Port settings (Table 11-3) -/

/-- The own IPv4 address of a network: 0 by default for A and B, 192.168.254.UNIT_ID for the maintenance network. -/
def State.netIp (s : State) (n : NetId) : Nat :=
  (Assoc.get none s.settings.ip n.idx).getD (if n = .maint then 0xC0A8FE00 + s.unitId else 0)

/-- The priority marking of a network: PCP 5 and DSCP 46 by default on A and B. -/
def State.netQos (s : State) (n : NetId) : Nat :=
  (Assoc.get none s.settings.qos n.idx).getD (if n = .maint then 0 else 5 * 8192 + 46)

/-- The rate codes of CAN port `p`: nominal 0xF, data 0 by default. -/
def State.canCodes (s : State) (p : Nat) : Nat := (Assoc.get none s.settings.canRate p).getD 0xF0

/-- The termination of wire link `l`: on by default. -/
def State.wireTerm (s : State) (l : Nat) : Bool := (Assoc.get none s.settings.term l).getD true

/-- Whether the transmitter of port Pn is disabled (R384, PH_PORT_DISABLE): bit n − 9 for P9 to P26, bit 18 for P31, bit 19 for P32. -/
def State.portOff (s : State) (n : Nat) : Bool := bit s.ph.portDisable (if n < 27 then n - 9 else n - 13)

/-- A network. -/
def State.net (s : State) (n : NetId) : Net :=
  match n with
  | .a => s.nets.a
  | .b => s.nets.b
  | .maint => s.nets.c

/-- A network changed. -/
def State.modNet (s : State) (n : NetId) (f : Net → Net) : State :=
  match n with
  | .a => { s with nets := { s.nets with a := f s.nets.a } }
  | .b => { s with nets := { s.nets with b := f s.nets.b } }
  | .maint => { s with nets := { s.nets with c := f s.nets.c } }

/-- Whether a network sends: an own address, its bridge active (R280), and a port whose transmitter is not disabled. -/
def State.netSends (s : State) (n : NetId) : Bool :=
  let first := if n = .b then 15 else 9
  s.netIp n != 0 && (s.net n).forwarding && (n == .maint || (List.range 6).any (fun i => !s.portOff (first + i)))

/-- The ports of a network: six, or two of the maintenance network (Table 11-1). -/
def netPorts (n : NetId) : Nat := if n = .maint then 2 else 6

/-- Whether the transmitter of port `i` of a network, counted from its lowest, is disabled (R384). -/
def State.txOff (s : State) (n : NetId) (i : Nat) : Bool := n != .maint && s.portOff (netPort n i)

/-- The ports out of which the unit's own frame to a MAC address goes (R276, R384): the one on which the bridge has learned it, else all; a disabled
port sends nothing. MAC address 0 stands for a broadcast. -/
def State.outPorts (s : State) (n : NetId) (mac : Nat) : List Nat :=
  let all := (List.range (netPorts n)).filter (fun i => !s.txOff n i)
  match if mac = 0 then none else Assoc.get none (s.net n).macs mac with
  | some i => all.filter (· == i)
  | none => all

/-- A frame of the unit's own to a MAC address, out of the ports that send it. -/
def State.emitNet (s : State) (n : NetId) (mac : Nat) (frame : List Nat → Emit) : State :=
  if (s.outPorts n mac).isEmpty then s else s.emit (frame (s.outPorts n mac))

/-- An ARP request for an address. -/
def State.askFor (s : State) (n : NetId) (ip : Nat) : State := s.emitNet n 0 (fun ps => .arpRequest n ps ip)

/-- A gratuitous ARP of a network (R276). -/
def State.gratuitous (s : State) (n : NetId) : State := if s.netSends n then s.askFor n (s.netIp n) else s

/-! ## NET2 datagrams (R172, R184, R278) -/

/-- A telegram's copy for a network: COPY is set on network B (R184). -/
def copyFor (n : NetId) (b : List Byte) : List Byte :=
  if n = .b then b.take 1 ++ be 1 (getByte b 1 % 16 + 16 + 32 * (getByte b 1 / 32)) ++ b.drop 2 else b

/-- A datagram of a network with the marking of EN_QOS, under a VLAN tag where it has one (R280). -/
def State.datagram (s : State) (n : NetId) (dst sport dport vlan : Nat) (b : List Byte) : Datagram :=
  let q := s.netQos n
  { dst := dst, src := s.netIp n, sport := sport, dport := dport, tag := if vlan = 0 then none else some (vlan, bits q 13 3), dscp := bits q 0 6,
    payload := b }

/-- What waited for an address goes out to the MAC address its destination has in the cache: a datagram, or an echo reply. -/
def State.sendNow (s : State) (n : NetId) (w : NetWait) : State :=
  let mac := Assoc.get 0 (s.net n).arp w.d.dst
  if (s.outPorts n mac).isEmpty then s
  else if w.echo then (s.modNet n (fun t => { t with icmp := sat t.icmp })).emitNet n mac (fun ps => .icmp n ps mac w.d.dst)
  else (s.modNet n (fun t => { t with tx := sat t.tx })).emitNet n mac (fun ps => .datagram n ps mac w.d)

/-- A datagram sent to its destination, or held, and the address asked for, until it is resolved (R278). -/
def State.sendOut (s : State) (n : NetId) (w : NetWait) : State :=
  if w.d.dst = 0 then s
  else if s.netSends n && decide (Assoc.get 0 (s.net n).arp w.d.dst ≠ 0) then s.sendNow n w
  else
    let ask := s.netSends n && !(s.net n).asking.contains w.d.dst
    let s := s.modNet n (fun t => { t with waiting := t.waiting ++ [w], asking := if ask then t.asking ++ [w.d.dst] else t.asking })
    if ask then s.askFor n w.d.dst else s

/-- A datagram sent, `cycle` being that of the telegram it carries. -/
def State.sendTo (s : State) (n : NetId) (cycle : Option Nat) (d : Datagram) : State :=
  s.sendOut n { d := d, cycle := cycle, failed := false, echo := false }

/-- A telegram of cycle `c` of a NET2 session for one address of a network (R184, R280): the session's UDP port at both ends, its VLAN. -/
def State.sendTele (s : State) (e : SessEntry) (c : Nat) (n : NetId) (ip : Nat) (b : List Byte) : State :=
  s.sendTo n (some c) (s.datagram n ip e.udp e.udp e.vlan (copyFor n b))

/-- A NET2 telegram sent on both networks, to the peer and to the partner (R184). -/
def State.sendNet2 (s : State) (e : SessEntry) (c : Nat) (b : List Byte) : State :=
  (((s.sendTele e c .a e.addrA b).sendTele e c .a e.partnerA b).sendTele e c .b e.addrB b).sendTele e c .b e.partnerB b

/-- An address resolved: what waits for it goes out (R278). -/
def State.resolved (s : State) (n : NetId) (ip : Nat) : State :=
  let mine := fun (w : NetWait) => w.d.dst == ip && !w.failed
  let due := (s.net n).waiting.filter mine
  let s := s.modNet n (fun t => { t with waiting := t.waiting.filter (fun w => !mine w), asking := t.asking.filter (· != ip) })
  due.foldl (fun s w => s.sendNow n w) s

/-! ## The bridge (R276) -/

/-- The own MAC address of a network (R280). -/
def State.ownMac (s : State) (n : NetId) : Nat := 0x024B47000000 + (n.idx + 1) * 0x10000 + s.unitId

/-- Whether an address is a group address: the lowest bit of its first byte. -/
def groupMac (mac : Nat) : Bool := bit mac 40

/-- Whether the bridge sends out of a port: its link is up and its transmitter is not disabled. -/
def State.bridgePort (s : State) (n : NetId) (i : Nat) : Bool := bit (s.net n).links i && !s.txOff n i

/-- The ports to which a frame that came in on port `p` is passed (R276): the one on which its destination was learned, else all but `p`. -/
def State.bridgeTo (s : State) (n : NetId) (p mac : Nat) : List Nat :=
  let all := (List.range (netPorts n)).filter (fun i => i != p && s.bridgePort n i)
  if mac = s.ownMac n then []
  else match if groupMac mac then none else Assoc.get none (s.net n).macs mac with
    | some i => all.filter (· == i)
    | none => all

/-- The bridge learns the port of a source address (R276). -/
def State.learn (s : State) (n : NetId) (p mac : Nat) : State := s.modNet n (fun t => { t with macs := Assoc.put none t.macs mac (some p) })

/-! ## Wire frames (R174) -/

/-- A byte between the flags as it is sent: 0x7E and 0x7D as 0x7D and the byte XOR 0x20. -/
def escape (b : Byte) : List Byte := if b = 0x7E#8 ∨ b = 0x7D#8 then [0x7D#8, b ^^^ 0x20#8] else [b]

/-- The bytes that received characters stand for. -/
def unescape : List Byte → List Byte
  | [] => []
  | [b] => [b]
  | b :: c :: bs => if b = 0x7D#8 then (c ^^^ 0x20#8) :: unescape bs else b :: unescape (c :: bs)

/-- A wire frame to an address: flag, address, control 0x03, telegram, FCS least significant byte first, flag. -/
def wireFrame (addr : Nat) (b : List Byte) : List Byte :=
  let body := be 1 addr ++ be 1 3 ++ b
  let fcs := crc wireFcsParams body
  [0x7E#8] ++ (body ++ be 1 (fcs % 256) ++ be 1 (fcs / 256)).flatMap escape ++ [0x7E#8]

/-- The wire link of a number. -/
def State.link (s : State) (l : Nat) : Wire := Assoc.get Wire.reset s.wire l

/-- A wire link changed. -/
def State.modLink (s : State) (l : Nat) (f : Wire → Wire) : State := { s with wire := Assoc.upd Wire.reset s.wire l f }

/-- Whether the driver of a wire link is enabled: only while the unit is the watcher (R288). -/
def State.wireDrives (s : State) (l : Nat) : Bool := s.leads && s.phRuns && !s.portOff (31 + l)

/-! ## CAN (R173, R283 to R287) -/

/-- A CAN port. -/
def State.canPort (s : State) (p : Nat) : CanPort := Assoc.get CanPort.reset s.can p

/-- A CAN port changed. -/
def State.modCan (s : State) (p : Nat) (f : CanPort → CanPort) : State := { s with can := Assoc.upd CanPort.reset s.can p f }

/-- A port started at its rate codes: it detects its rate with nominal code 0xF, else it is error active (R283). -/
def CanPort.start (c : CanPort) (codes : Nat) : CanPort :=
  if bits codes 4 4 = 15 then { c with state := .detecting, rate := 0, good := 0 }
  else { c with state := .active, rate := bits codes 4 4, tec := 0, rxErr := 0, recovery := 0 }

/-- Error active or error passive, as the counters say (R282; the limits of ISO 11898-1 are PRESUMED, log entry 101). -/
def CanPort.judged (c : CanPort) : CanPort :=
  if c.state == .active || c.state == .passive then
    { c with state := if 128 ≤ c.tec || 128 ≤ c.rxErr then .passive else .active }
  else c

/-- A frame received without error: the receive error counter falls (PRESUMED, log entry 101). -/
def CanPort.gotFrame (c : CanPort) : CanPort := { c with rxErr := if 127 < c.rxErr then 127 else c.rxErr - 1 }.judged

/-- A frame received in error: the receive error counter rises (PRESUMED, log entry 101). -/
def CanPort.gotError (c : CanPort) : CanPort := { c with rxErr := min 255 (c.rxErr + 1) }.judged

/-- The data lengths of a CAN FD frame (ISO 11898-1). -/
def canLengths : List Nat := [0, 1, 2, 3, 4, 5, 6, 7, 8, 12, 16, 20, 24, 32, 48, 64]

/-- The segments of a telegram (R173). -/
def canSegments (b : List Byte) : List (List Byte) :=
  let n := ceilDiv b.length 63
  ((chunks 63 n b).zip (List.range n)).map (fun p =>
    let d := be 1 (flag (p.2 == 0) 7 + flag (p.2 + 1 == n) 6 + p.2 % 64) ++ p.1
    padTo ((canLengths.find? (fun k => d.length ≤ k)).getD 64) d)

/-- The order of identifiers at arbitration: the first 11 bits, a standard identifier before an extended one with the same, then the
rest. -/
def canKey (ident : Nat) : Nat :=
  if bit ident 31 then 2 * bits ident 0 29 + 1 else 2 * (bits ident 0 11 * 2 ^ 18)

/-- The entry of the lowest identifier, the oldest among equals (R285). -/
def lowestEntry (es : List CanEntry) : Option CanEntry :=
  es.foldl (fun (b : Option CanEntry) e =>
    match b with
    | none => some e
    | some f => if canKey e.ident < canKey f.ident then some e else some f) none

/-- The entry a queue offers, of those that `may` come into question: the pinned one, else the lowest identifier (R285, R286). One whose transmission
goes on past its deadline comes first (R275). -/
def CanPort.offers (c : CanPort) (may : CanEntry → Bool) : Option CanEntry :=
  match c.sending, c.pinned with
  | some e, _ => some e
  | none, some e => some e
  | none, none => lowestEntry (c.queue.filter may)

/-- The entry at the head of the queue. -/
def CanPort.head (c : CanPort) : Option CanEntry := c.offers (fun _ => true)

/-- The entry that the queue offered to a transmission that began at the tide `begun`: of those queued by then. -/
def CanPort.headAt (c : CanPort) (begun : Nat) : Option CanEntry := c.offers (fun e => decide (e.since ≤ begun))

/-- Entries put into a queue of 64; where they would overflow it the whole telegram is discarded and the refusal counted (R285). -/
def CanPort.enqueue (c : CanPort) (es : List CanEntry) : CanPort :=
  if 64 < c.queue.length + es.length then { c with qfull := sat c.qfull } else { c with queue := c.queue ++ es }

/-- The telegram an entry belongs to: session, TYPE, number and cycle; none for a reference message. -/
def CanEntry.tele (e : CanEntry) : Option (Nat × Nat × Nat × Nat) := e.sid.map (fun k => (k, e.kind, e.seg, e.cycle))

/-- The telegrams of the entries of a queue whose deadline has passed. -/
def CanPort.overdue (c : CanPort) (now : Nat) : List (Nat × Nat × Nat × Nat) :=
  ((c.queue.filter (fun e => decide (e.deadline ≤ now))).filterMap CanEntry.tele).eraseDups

/-- The entry in transmission when its deadline passes is completed, so it leaves the queue (R275): the one offered when the transmission began, at the
tide `begun`, before its deadline. -/
def CanPort.keepSending (c : CanPort) (begun : Option Nat) (now : Nat) : CanPort :=
  match if c.sending.isNone then begun else none with
  | none => c
  | some b =>
    match c.headAt b with
    | some e =>
      if e.deadline ≤ now ∧ b < e.deadline then { c with sending := some e, pinned := none, queue := c.queue.erase e } else c
    | none => c

/-- The entry whose transmission went on past its deadline and failed is not begun again (R275): at a transmission that begins at the tide `begun` it
stands in the queue once more, as overdue. -/
def CanPort.retryLate (c : CanPort) (begun : Nat) : CanPort :=
  match c.sending with
  | some e => if e.deadline ≤ begun then { c with sending := none, queue := e :: c.queue } else c
  | none => c

/-- The entries of a telegram taken out of a queue, each counted, with one CAN_EXPIRED record (R286). -/
def State.dropTelegram (s : State) (p : Nat) (t : Nat × Nat × Nat × Nat) : State :=
  let c := s.canPort p
  let mine := fun (e : CanEntry) => e.tele == some t
  let n := (c.queue.filter mine).length
  let pinned := match c.pinned with
    | some e => if mine e then none else some e
    | none => none
  (s.modCan p (fun c => { c with queue := c.queue.filter (fun e => !mine e), pinned := pinned, expired := satAdd c.expired n })).logPh
    0x0B01 2 [21 + p, t.1, n]

/-- Every telegram of a port whose deadline has passed is discarded (R275, R286). -/
def State.expireCan (s : State) (p now : Nat) : State := ((s.canPort p).overdue now).foldl (fun s t => s.dropTelegram p t) s

/-- A reference message that has missed its deadline is discarded and counted (R287); `force` where it could not be sent in time whatever the
tide shows. -/
def CanPort.missRefs (c : CanPort) (now : Nat) : CanPort :=
  let missed := c.queue.filter (fun e => e.sid.isNone && decide (e.deadline ≤ now))
  { c with queue := c.queue.filter (fun e => !(e.sid.isNone && decide (e.deadline ≤ now))), refMiss := satAdd c.refMiss missed.length,
           pinned := match c.pinned with
             | some e => if e.sid.isNone && decide (e.deadline ≤ now) then none else some e
             | none => none }

/-- The reference message of cycle n at a port that runs and has one enabled (R287), queued at the tide mark by the watcher. -/
def State.queueRef (s : State) (n p : Nat) : State :=
  let r := Assoc.get 0 s.settings.canRef p
  if bit r 31 && s.leads && s.phRuns && (s.canPort p).state != .off then
    let e : CanEntry := { ident := flag (bit r 30) 31 + bits r 0 29, data := be 1 (n % 64), sid := none, kind := 0, seg := 0, cycle := n,
                          deadline := n * s.image.period + 100000, since := s.tideNow }
    s.modCan p (fun c => c.enqueue [e])
  else s

/-- A CAN telegram queued as segments, valid to the next tide mark (R173, R285). -/
def State.queueTelegram (s : State) (e : SessEntry) (kind seg n : Nat) (b : List Byte) : State :=
  s.modCan (e.port - 21) (fun c => c.enqueue ((canSegments b).map (fun d =>
    { ident := e.canTx, data := d, sid := some e.sid, kind := kind, seg := seg, cycle := n, deadline := (n + 1) * s.image.period,
      since := s.tideNow })))

/-! ## PTP (R291, R292; the best master clock algorithm is PRESUMED, log entry 60) -/

/-- Whether master `a` ranks before `b`: priority 1, class, accuracy, variance, priority 2, identity. -/
def masterBefore (a b : PtpMaster) : Bool :=
  let key := fun (m : PtpMaster) => [m.prio1, m.cls, m.acc, m.var, m.prio2, m.ident.toNat, m.steps]
  decide (key a < key b)

/-- A Sync used: offset, UTC, the state locked (R291, R292). The second of its time stands from then on, and is counted on (log entry 66). -/
def Ptp.useSync (p : Ptp) (seconds : Nat) (t2t1 : Int) : Ptp :=
  let utc := match p.master with
    | some m => seconds - m.utcOffset
    | none => seconds
  { p with state := 3, present := true, t2t1 := t2t1, offset := t2t1 - p.delay, seconds := utc % 2 ^ 32, subMs := 0, pendingSync := false,
           syncCnt := sat p.syncCnt }

/-- One millisecond of a clock that shows UTC (R292). -/
def Ptp.tick (p : Ptp) : Ptp :=
  if !p.present then p
  else if p.subMs + 1 < 1000 then { p with subMs := p.subMs + 1 }
  else { p with subMs := 0, seconds := (p.seconds + 1) % 2 ^ 32 }

/-- The selected master given up (R291, R292): a locked clock holds over, another listens. -/
def Ptp.noMaster (p : Ptp) : Ptp :=
  { p with master := none, pendingSync := false, state := if p.state = 0 then 0 else if p.state = 3 ∨ p.state = 4 then 4 else 1 }

/-- PTP after a change of the maintenance address (R291, Table 11-12): without one it is disabled; with one that it had not it listens. -/
def Ptp.addressed (p : Ptp) (ip : Nat) : Ptp :=
  if ip = 0 then { p with state := 0, present := false, seconds := 0, master := none, pendingSync := false }
  else if p.state = 0 then { p with state := 1 } else p

/-- Whether PTP messages reach the unit: its ports run, and its maintenance network has an address. -/
def State.ptpRuns (s : State) : Bool := s.phRuns && s.netIp .maint != 0

/-- Whether a message is of the selected master in the unit's domain. -/
def State.fromMaster (s : State) (domain : Nat) (ident : BitVec 64) : Bool :=
  s.ptpRuns && domain == s.settings.domain && (match s.ptp.master with
    | some m => m.ident == ident
    | none => false)

end Sys2Proof.Machine
end

