-- ==== Sys2Proof/Machine/Apply.lean ====
section
/-! DEFINITION. The agreed requests at the boundary of their apply cycle: changes and forces, fault resets, settings, and the sleeper's
mirrored changes (R120, R246, R262, R281). -/

namespace Sys2Proof.Machine

/-- Whether lane `x` has still to apply a change at the boundary of its cycle (R89, R120). -/
def Lane.applies (l : Lane) (x : LaneId) (p : Pending) : Bool :=
  l.inService && !l.pe.freezeDone && p.format == 1 && decide (p.apply ≤ l.td.cycle) && p.accepted.get x && !p.appliedBy.get x

/-- A change applied in lane `x`, and marked so; the forces it releases are kept for their records (R120, R126). -/
def State.applyIn (s : State) (p : Pending) (x : LaneId) : State :=
  let l := s.lane x
  match s.unit.pend.find? (fun q => q.format == p.format && q.mailbox == p.mailbox && q.bytes == p.bytes) with
  | none => s
  | some q =>
    if l.applies x q then
      let freed := if Mask.count q.appliedBy = 0 then l.pe.released l.image q.bytes else q.freed
      let r := { q with appliedBy := q.appliedBy.set x true, freed := freed }
      { s with unit := { s.unit with pend := s.unit.pend.map (fun t => if t = q then r else t) } }.modLane x
        (fun l => l.applyRequest l.image p.bytes)
    else s

/-- CHANGE_APPLY (R120, R124): at the boundary of the apply cycle, before its freeze writes, every lane in service writes the agreed
constants and forces. -/
def execChangeApply (s : State) : Out :=
  .next (s.unit.pend.foldl (fun s p => LaneId.list.foldl (fun s x => s.applyIn p x) s) s)

/-- A mirrored change entered as pending for the commit of its cycle, which writes its change-log entry (R262). -/
def State.noteMirrored (s : State) (x : LaneId) (a : Nat) (b : List Byte) : State :=
  match s.unit.pend.find? (fun q => q.mailbox == 4 && q.bytes == b) with
  | some q =>
    let r := { q with appliedBy := q.appliedBy.set x true }
    { s with unit := { s.unit with pend := s.unit.pend.map (fun t => if t = q then r else t) } }
  | none =>
    let q : Pending := { mailbox := 4, format := 1, bytes := b, apply := a, accepted := PerLane.all true, logSeq := 0,
                         appliedBy := (PerLane.all false).set x true, commits := PerLane.all false, freed := [] }
    { s with unit := { s.unit with pend := s.unit.pend ++ [q] } }

/-- The change of the mirror frame applied in lane `x` of a sleeper (R262). -/
def State.applyMirrored (s : State) (x : LaneId) : State :=
  let l := s.lane x
  let m := l.image
  match l.mirrorChange m l.td.cycle with
  | some (a, b) =>
    if l.inService && !l.pe.freezeDone then
      (s.modLane x (fun l =>
        let l := l.applyRequest m b
        { l with mir := { l.mir with doneChange := some (a, b) } })).noteMirrored x a b
    else s
  | none => s

/-- SLEEPER_CHANGE_APPLY (R262): a sleeper's lanes apply the change that a complete mirror frame carries, at its apply cycle or the first
possible later one. -/
def execSleeperChangeApply (s : State) : Out :=
  if s.sleeps then .next (LaneId.list.foldl State.applyMirrored s) else .next s

/-- FAULT_RESET_APPLY (R246): at the tide mark of the apply cycle every lane clears the latched faults of the named groups, and drives them
again as R236 requires. -/
def execFaultResetApply (s : State) : Out :=
  match s.due 2 with
  | [] => .next s
  | p :: _ =>
    let mask := BitVec.ofNat 4 (getBE p.bytes 132 4)
    .next ((s.mapLanes (fun x l =>
      let l := { l with io := l.io.faultReset mask }
      if l.io.drives then l.drive x l.image s.sleeps l.io.watchOut else l)).applied p)

/-- One settings item written to the configuration region. -/
def Settings.set (c : Settings) (it : List Byte) : Settings :=
  let k := getByte it 1
  let v := getBE it 4 4
  match getByte it 0 with
  | 0x30 => { c with ip := Assoc.put none c.ip k (some v) }
  | 0x31 => { c with qos := Assoc.put none c.qos k (some v) }
  | 0x32 => { c with domain := v }
  | 0x33 => { c with canRate := Assoc.put none c.canRate (k - 21) (some v) }
  | 0x34 => { c with canRef := Assoc.put 0 c.canRef (k - 21) v }
  | _ => { c with term := Assoc.put none c.term (k - 31) (some (v == 1)) }

/-- The network of a number. -/
def netOf : Nat → NetId
  | 0 => .a
  | 1 => .b
  | _ => .maint

/-- One setting in effect (R281, R291): an address change clears the ARP cache and sends a gratuitous ARP, and with the maintenance address PTP stops or
starts; another PTP domain has another master; a CAN port that runs starts at a new nominal rate, and keeps the rate it has locked where only its data rate
changes (R283). -/
def State.applySetting (s : State) (it : List Byte) : State :=
  let k := getByte it 1
  let old := s.settings.domain
  let codes := s.canCodes (k - 21)
  let s := s.mramWrite .pumphouse .configuration (fun s => s.setSettings (s.settings.set it))
  match getByte it 0 with
  | 0x30 =>
    let s := (s.modNet (netOf k) (fun t =>
      { t with arp := [], asking := [], conflict := false, waiting := t.waiting.filter (·.cycle.isSome) })).gratuitous (netOf k)
    if netOf k = .maint && s.phRuns then { s with ptp := s.ptp.addressed (s.netIp .maint) } else s
  | 0x32 => if s.settings.domain = old then s else { s with ptp := s.ptp.noMaster }
  | 0x33 =>
    if s.phRuns && bits codes 4 4 != bits (s.canCodes (k - 21)) 4 4 then s.modCan (k - 21) (fun c => c.start (s.canCodes (k - 21))) else s
  | _ => s

/-- SETTINGS_APPLY (R281): an agreed settings request takes effect at the boundary of its apply cycle; a pumphouse without supply writes nothing (R313), and
the request waits. -/
def execSettingsApply (s : State) : Out :=
  match s.due 4 with
  | [] => .next s
  | p :: _ =>
    if !s.ph.powered then .next s
    else .next (((List.range (reqCount p.bytes)).foldl (fun s k => s.applySetting (itemBytes p.bytes k)) s).applied p)

end Sys2Proof.Machine
end

