-- ==== Sys2Proof/Machine/Lamps.lean ====
section
/-! DEFINITION. The front lamps as Table 17-6 states them: views of the state, held through a warm reset (R327). DESIGN CHOICE: a port lamp flashes
where something has passed the port since the last multiple of 500 ms of operating time, a period of the 2 Hz of R394; while PH_LAMP_TEST runs every lamp
is lit, in a colour that R394 does not give (`Lamp.lit`; log entry 45). -/

namespace Sys2Proof.Machine

/-- Whether a lane is out of reset as its lamp shows it. -/
def Lane.up (l : Lane) : Bool := l.rc.powered && l.rc.released.getLsbD 7

/-- The lamp of a lane. -/
def Lane.lamp (l : Lane) : Lamp :=
  match l.vt.state with
  | .inService => .green
  | .independent => .flashGreen
  | .stopped | .failed => if l.up then .red else .off
  | .withdrawn | .rotationTest => if l.rc.powered then .amber else .off
  | .reset => .off
  | _ => if l.up then .amber else .off

/-- The lamp UNIT. -/
def State.unitLamp (s : State) : Lamp :=
  if s.life = 5 || s.unit.role == .stopped then .red
  else match s.unit.role with
    | .watcher | .sleeper => if Mask.count s.serviceMask = 3 then .green else .flashGreen
    | _ => .amber

/-- The ports on which something goes out. -/
def Emit.ports : Emit → List Nat
  | .ring r .e _ => [2 * r + 1]
  | .ring r .w _ => [2 * r + 2]
  | .datagram n ps _ _ | .bridged n ps _ | .arpBridged n ps _ _ _ _ _ | .arpRequest n ps _ | .arpReply n ps _ _ | .icmp n ps _ _ => ps.map (netPort n)
  | .can p _ _ _ _ | .canAck p | .canError p _ => [21 + p]
  | .wire l _ => [31 + l]
  | .cross p _ => [p.index + 1]
  | .ptpDelay => [29, 30]
  | _ => []

/-- Whether something has passed the port Pn in the lamps' present period (R394). -/
def State.passing (s : State) (n : Nat) : Bool := bit s.ph.traffic (n - 1) || (s.sent.drop s.ph.sentMark).any (fun e => e.ports.contains n)

/-- The lamp of a port Pn whose link is up or not. -/
def State.linkLamp (s : State) (n : Nat) (up : Bool) : Lamp := if !up then .off else if s.passing n then .flashGreen else .green

/-- The lamp of a port Pn as it is driven (Table 17-6). -/
def State.drivenPort (s : State) (n : Nat) : Lamp :=
  if n ≤ 8 then
    let r := Assoc.get Ring.reset s.rings.ring ((n - 1) / 2)
    if bit s.ph.sfpRefused (n - 1) then .red
    else if r.state == .pass then .amber
    else s.linkLamp n (if n % 2 = 1 then r.linkE else r.linkW)
  else if n = 27 then (if bit s.ph.sfpRefused 26 then .red else s.linkLamp n s.xl.link27)
  else if n = 28 then (if bit s.ph.sfpRefused 27 then .red else s.linkLamp n s.xl.link28)
  else if n ≤ 26 ∧ 21 ≤ n then
    match (s.canPort (n - 21)).state with
    | .busOff | .recovering => .red
    | .detecting => .amber
    | .off => .off
    | _ => s.linkLamp n (!s.portOff n)
  else if n ≤ 20 then
    let t := if n ≤ 14 then s.nets.a else s.nets.b
    s.linkLamp n (!s.portOff n && bit t.links ((n - 9) % 6))
  else if n ≤ 30 then s.linkLamp n (bit s.nets.c.links (n - 29))
  else s.linkLamp n (!s.portOff n && (s.link (n - 31)).idle)

/-- The lamps as the firmware drives them. -/
def State.drivenLamps (s : State) : Lamps :=
  { unit := s.unitLamp
    role := if s.leads then .green else if s.sleeps then .amber else .off
    lanes := s.lanes.map Lane.lamp
    forced := if s.anyForce then .amber else .off
    life := match s.life with
      | 1 => .red
      | 2 => .amber
      | 3 => .green
      | 4 => .flashAmber
      | 5 => .flashRed
      | _ => .off
    ports := (List.range 32).map (fun i => s.drivenPort (i + 1)) }

/-- Every lamp lit by the lamp test (R394). -/
def Lamps.lit : Lamps := { unit := .lit, role := .lit, lanes := PerLane.all .lit, forced := .lit, life := .lit, ports := List.replicate 32 .lit }

/-- The front lamps: off without power, held through a warm reset until P3 is released, all lit during a lamp test, else as driven (R327, R394). -/
def State.lamps (s : State) : Lamps :=
  if !s.ph.powered then Lamps.off else if s.ph.lampsHeld then s.ph.heldLamps else if s.ph.lampTest then Lamps.lit else s.drivenLamps

/-- The lamp of a port Pn (R394). -/
def State.portLamp (s : State) (n : Nat) : Lamp := s.lamps.ports.getD (n - 1) .off

end Sys2Proof.Machine
end

