-- ==== Sys2Proof/Machine/RingCore.lean ====
section
/-! DEFINITION. The Dikeline rings as shared operations (chapter 8): a ring and its nodes, its ports' transmitters and what they hold, which states a ring takes when pass-through ends,
the clock correction of R205, leadership and following, the end of a cycle on a ring. Times and delays are in units of 2^−16 ns. -/

namespace Sys2Proof

/-- The nodes of a ring with an input slot. -/
def RingBlock.inputNodes (b : RingBlock) : List Nat := ((b.slots.filter (fun e => !e.out)).map (·.node)).eraseDups

/-- All nodes of a ring. -/
def RingBlock.allNodes (b : RingBlock) : List Nat := ((b.slots.map (·.node)).filter (· != 0)).eraseDups

/-- The index of the port of a ring's side among P1 to P8 (Table 8-1). -/
def Side.port (r : Nat) : Side → Nat
  | .e => 2 * r
  | .w => 2 * r + 1

end Sys2Proof

namespace Sys2Proof.Machine

/-! ## A ring and its nodes -/

/-- Ring `r`, 0 to 3. -/
def State.ring (s : State) (r : Nat) : Ring := Assoc.get Ring.reset s.rings.ring r

/-- Ring `r` changed. -/
def State.modRing (s : State) (r : Nat) (f : Ring → Ring) : State :=
  { s with rings := { s.rings with ring := Assoc.upd Ring.reset s.rings.ring r f } }

/-- A node of a ring. -/
def Ring.node (g : Ring) (a : Nat) : RingNode := Assoc.get RingNode.reset g.nodes a

/-- A node changed. -/
def Ring.modNode (g : Ring) (a : Nat) (f : RingNode → RingNode) : Ring := { g with nodes := Assoc.upd RingNode.reset g.nodes a f }

/-- The delay of the link at a port. -/
def Ring.delay (g : Ring) : Side → Option Int
  | .e => g.delayE
  | .w => g.delayW

/-- Whether the link at a port is up. -/
def Ring.link (g : Ring) : Side → Bool
  | .e => g.linkE
  | .w => g.linkW

/-- The ring states in which the module is a node of the ring, not a piece of fibre. -/
def RingState.live : RingState → Bool
  | .unused | .pass => false
  | _ => true

/-- The states in which the module leads a ring. -/
def RingState.leads : RingState → Bool
  | .lead | .vk2Master => true
  | _ => false

/-- Whether the pumphouse serves its rings: P5 released (Table 13-6). -/
def State.ringsRun (s : State) : Bool := s.ph.powered && s.ph.released.getLsbD 5

/-- Whether a ring takes and sends frames. -/
def State.ringLive (s : State) (r : Nat) : Bool := s.ringsRun && (s.ring r).state.live

/-- Whether an image is active in the unit (R199). -/
def State.imageActive (s : State) : Bool := LaneId.list.any (fun x => (s.lane x).evaluates && (s.lane x).image?.isSome)

/-- Whether PAIR_POS is closed (Table 8-7). -/
def State.preferred (s : State) : Bool := (s.lane s.voice).rc.opts.pairPos

/-- The rank of the module (R217). -/
def State.rank (s : State) : Nat := if s.unit.twoLane then 1 else 0

/-- Whether a ring is in VK2 mode. -/
def State.vk2 (s : State) (r : Nat) : Bool := (s.image.ring r).mode == .vk2

/-- A time of `ns` nanoseconds in units of 2^−16 ns. -/
def nanos (ns : Nat) : Int := ((ns * 65536 : Nat) : Int)

/-- T_cycle in units of 2^−16 ns. -/
def State.ringCycle (s : State) : Int := nanos (s.image.tCycle * 1000000)

/-! ## Sending (R191, R193, R197, R202) -/

/-- Until when a port's transmitter is busy, and the frames it holds. -/
def Ring.busy (g : Ring) : Side → Int
  | .e => g.busyE
  | .w => g.busyW
def Ring.held (g : Ring) : Side → List HeldFrame
  | .e => g.heldE
  | .w => g.heldW
def Ring.setBusy (g : Ring) (side : Side) (t : Int) : Ring :=
  match side with
  | .e => { g with busyE := t }
  | .w => { g with busyW := t }
def Ring.setHeld (g : Ring) (side : Side) (l : List HeldFrame) : Ring :=
  match side with
  | .e => { g with heldE := l }
  | .w => { g with heldW := l }

/-- Whether a port's transmitter works: its link is up, and its SFP matches the port (R393). -/
def State.portUp (s : State) (r : Nat) (side : Side) : Bool := (s.ring r).link side && !bit s.ph.sfpRefused (side.port r)

/-- Whether a port's link carries frames: a native link without a measured delay carries none but DELAY_REQ and DELAY_RESP (R202). -/
def State.linkReady (s : State) (r : Nat) (side : Side) : Bool := s.portUp r side && (s.vk2 r || ((s.ring r).delay side).isSome)

/-- A frame out of a port, whose transmitter it keeps busy from `at_` or from the end of what is under way; without an instant where the spec gives
it none. -/
def State.putFrame (s : State) (r : Nat) (side : Side) (at_ : Option Int) (f : List Byte) : State :=
  (s.modRing r (fun g => match at_ with
    | some t => g.setBusy side (max (g.busy side) t + frameTime (s.vk2 r) f.length)
    | none => g)).emit (.ring r side f)

/-- The header of a frame of the module's own out of a port (R191, R193): source address 0x00 with its unit identifier. -/
def State.ownHdr (s : State) (r : Nat) (side : Side) (ty dst : Nat) : RingHdr :=
  { ty := ty, dir := side == .w, ring := r + 1, srcAddr := 0, srcUnit := s.unitId % 256, dst := dst, hops := 0, cycle := s.cycle % 2 ^ 32, len := 0,
    corr := 0 }

/-- A frame of the module's own out of a port whose link carries frames. -/
def State.sendSide (s : State) (r : Nat) (side : Side) (ty dst : Nat) (body : List Byte) (at_ : Option Int) : State :=
  if s.linkReady r side then s.putFrame r side at_ (ringFrame (s.vk2 r) (s.ownHdr r side ty dst) body) else s

/-- A frame of the module's own on both ports (R203, R208, R218). -/
def State.sendBoth (s : State) (r ty dst : Nat) (body : List Byte) (at_ : Option Int) : State :=
  (s.sendSide r .e ty dst body at_).sendSide r .w ty dst body at_

/-- What comes of the frames that a port holds: those that go out in their order, how many are dropped for their residence, until when the transmitter
is busy, and those that stay. -/
structure Pumped where
  sent    : List (List Byte)
  dropped : Nat
  busy    : Int
  left    : List HeldFrame
  deriving DecidableEq, Repr

/-- The held frames of a port in order of arrival (R196, R197): a frame whose residence would exceed 100 µs is dropped; one whose transmission would
not end before the start `own` of the module's next slot stays, and those behind it. -/
def pump (vk2 : Bool) (own : List Int) (busy : Int) : List HeldFrame → Pumped
  | [] => { sent := [], dropped := 0, busy := busy, left := [] }
  | h :: rest =>
    let t := max h.ready busy
    let fin := t + frameTime vk2 h.frame.length
    let res := t - h.arrived
    if nanos 100000 < res then
      let p := pump vk2 own busy rest
      { p with dropped := p.dropped + 1 }
    else if own.any (fun a => decide (t ≤ a) && decide (a ≤ fin)) then { sent := [], dropped := 0, busy := busy, left := h :: rest }
    else
      let p := pump vk2 own fin rest
      { p with sent := forwarded vk2 h.frame (h.delay + res) :: p.sent }

/-- The starts of the output slots of a ring that the module leads: its own slots. -/
def State.ownSlots (s : State) (r : Nat) : List Int :=
  if (s.ring r).state.leads then (((s.image.ring r).slots.filter (fun e => e.out)).map (fun e => nanos e.start)) else []

/-- The frames that a port holds sent on as far as its own slots `own` let them. -/
def State.pumpPort (s : State) (r : Nat) (own : List Int) (side : Side) : State :=
  let g := s.ring r
  let p := pump (s.vk2 r) own (g.busy side) (g.held side)
  p.sent.foldl (fun s f => s.emit (.ring r side f))
    (s.modRing r (fun g => { (g.setHeld side p.left).setBusy side p.busy with dropCnt := satAdd g.dropCnt p.dropped }))

/-! ## Leadership -/

/-- An echo request of a VK2 master to a node, under an identifier it chooses: DIAG code 0x10 (R226). -/
def State.echoNode (s : State) (r a : Nat) : State :=
  let i := (Config.freeIdent s.fresh).toNat
  { (s.modRing r (fun g => g.modNode a (fun n => { n with echoId := some i }))).sendBoth r 7 a (diagRequest 0x10 (be 4 i ++ be 4 0)) none with
      fresh := s.fresh + 1 }

/-- The echoes at ring start, one for each node. -/
def State.echoNodes (s : State) (r : Nat) : State := ((s.image.ring r).allNodes).foldl (fun s a => s.echoNode r a) s

/-- The ring of index `r` taken into the state its leader has: LEAD, or VK2 master with its echoes (Table 8-8, Table 8-11). The admitted set of
the last SYNC stays, as its nodes hold it (R223, R264); the nodes without an input slot are admitted with the leadership (R214). The resync orders of the leader
before are not repeated (R211). DESIGN CHOICE: SCHED_DIFF, which a follower sets (R220), stays as it is; the spec does not say when it clears (log entry
117). -/
def State.leadRing (s : State) (r : Nat) : State :=
  if !(s.ring r).state.live then s
  else match (s.image.ring r).mode with
    | .native =>
      let b := s.image.ring r
      let free := b.allNodes.filter (fun a => !b.inputNodes.contains a)
      s.modRing r (fun g => free.foldl (fun g a => g.modNode a (fun n => { n with admitted := true }))
        { g with state := .lead, missRun := 0, lostSync := false, offset := 0,
                 nodes := Assoc.mapVal RingNode.reset (fun n => { n with ordered := false }) g.nodes })
    | .vk2 =>
      let fresh := (s.ring r).state != .vk2Master
      let s := s.modRing r (fun g => { g with state := .vk2Master })
      if fresh then s.echoNodes r else s
    | .unused => s

/-- Every ring led (R264). -/
def State.leadRings (s : State) : State :=
  let s := (List.range 4).foldl State.leadRing s
  { s with rings := { s.rings with leader := s.unitId, followCold := false, startOthers := false } }

/-- The ring of index `r` followed: FOLLOW, or a passive node of a VK2 ring (R253). -/
def State.followRing (s : State) (r : Nat) : State :=
  if !(s.ring r).state.live then s
  else match (s.image.ring r).mode with
    | .native => s.modRing r (fun g => { g with state := .follow, missRun := 0, lostSync := false })
    | .vk2 => s.modRing r (fun g => { g with state := .vk2Passive })
    | .unused => s

/-- Every ring followed. -/
def State.followRings (s : State) : State :=
  let s := (List.range 4).foldl State.followRing s
  { s with rings := { s.rings with followCold := false, startOthers := false } }

/-- The state of a ring when it leaves pass-through, which takes its links down (R199, R216, Table 8-8): LISTEN; led where the unit is the watcher (Table 10-1); a VK2
ring is passive, or led by the watcher. -/
def State.openRing (s : State) (r : Nat) : State :=
  match (s.image.ring r).mode with
  | .unused => s.modRing r (fun g => { g with state := .unused })
  | .native =>
    let s := s.modRing r (fun g => { g with state := .listen, linkE := false, linkW := false })
    if s.leads then s.leadRing r else s
  | .vk2 =>
    let s := s.modRing r (fun g => { g with state := .vk2Passive, linkE := false, linkW := false })
    if s.leads then s.leadRing r else s

/-- Whether an SFP's type matches its port (R393, R194, Table 8-11): the identifier of an SFP, and 1000BASE-SX or 1000BASE-LX among its
Ethernet compliance codes, on a VK2 ring 100BASE-FX (SFF-8472, PRESUMED, log entry 61). While no image is active, which would say the ring's mode, either is a ring port's
type. -/
def State.sfpMatches (s : State) (port : Nat) (ident : BitVec 8) (codes : BitVec 32) : Bool :=
  let gig := codes.getLsbD 0 || codes.getLsbD 1
  ident == 3#8 && (if 8 < port then gig else if !s.imageActive then codes.getLsbD 5 || gig else if s.vk2 ((port - 1) / 2) then codes.getLsbD 5 else gig)

/-- The SFPs read at P4 release judged (R393): one whose type does not match stays disabled, with an SFP_REFUSED record. They are judged again
once an image is active, which says which rings are in VK2 mode (R224). -/
def State.judgeSfps (s : State) : State :=
  s.ph.sfps.foldl (fun s p =>
    let off := bit s.ph.sfpRefused (p.1 - 1)
    if s.sfpMatches p.1 p.2.1 p.2.2 then
      { s with ph := { s.ph with sfpRefused := s.ph.sfpRefused - flag off (p.1 - 1) } }
    else if off then s
    else { s with ph := { s.ph with sfpRefused := s.ph.sfpRefused + 2 ^ (p.1 - 1) } }.logPh 0x0B02 2 [p.1, p.2.1.toNat, p.2.2.toNat]) s

/-- Where the pumphouse places the table of DIAG responses in region 9 (R215; log entry 3). -/
def diagTable : Nat := 0x1C000000

/-- The ring ports once P5 is released (R199, R216, R342): in pass-through while no image is active, in a unit that has failed safe and in one that is retired;
else out of it. -/
def State.openRings (s : State) : State :=
  if !s.ringsRun then s
  else if !s.imageActive || s.unit.role == .stopped || s.cfg.retired then
    { (List.range 4).foldl (fun s r => s.modRing r Ring.toPass) s with ph := { s.ph with pass := true } }
  else
    let s := s.judgeSfps
    let s := (List.range 4).foldl State.openRing s
    { s with ph := { s.ph with pass := false },
             rings := { s.rings with diagBase := diagTable, leader := if s.leads then s.unitId else s.rings.leader } }

/-! ## The clock correction (R204, R205) -/

/-- A quotient rounded to the nearest integer; a tie is rounded as Config.tieUp says. -/
def nearest (num : Int) (den : Nat) : Int :=
  let q := num / (den : Int)
  let rest := 2 * (num % (den : Int))
  if rest < (den : Int) then q
  else if (den : Int) < rest then q + 1
  else if Config.tieUp num then q + 1 else q

/-- The correction in units of 0.01 ppm from the sum of the offsets and the last offset: c = r − θ / (2T), r = −Σθ / (8T), held to
±500 ppm (R205). `t` is T in ns. -/
def correction (sum theta : Int) (t : Nat) : Int := clamp (-50000) 50000 (nearest (-(sum + 4 * theta) * 100000000) (8 * t * 65536))

/-- The time of the leader at receipt (R204): its tide mark of cycle n, sync segment start, launch error, correction and link delay; `t` is T_cycle. -/
def leaderTime (t : Int) (b : SyncBody) (corr delay : Int) : Int := (b.cycle : Int) * t + nanos b.start + b.launchErr + corr + delay

/-- A follower's update at a SYNC (R205): θ, the integral term and c. -/
def Ring.correct (g : Ring) (theta : Int) (t : Nat) : Ring :=
  let sum := g.rAcc + theta
  { g with offset := theta, rAcc := sum, rate := correction sum theta t }

/-! ## The end of a cycle on a ring -/

/-- A node at the end of a cycle: its run of timing errors (R211), whether it was heard, and its admission by a leader (R214). -/
def RingNode.endCycle (lead : Bool) (n : RingNode) : RingNode :=
  { n with errRun := if n.errNow then min 3 (n.errRun + 1) else 0, told := n.told && n.errNow, errNow := false, seenLast := n.seenNow, seenNow := false,
           admitted := n.admitted || (lead && n.ready), ready := n.ready && !lead && n.seenNow }

/-- The clock at a tide mark of a follower whose followed port brought no valid SYNC copy in the cycle (R198, R205): the copy of the other port gives
the correction, and its port is followed from then on. -/
def Ring.changePort (t : Nat) (g : Ring) : Ring :=
  if g.tookSync then g
  else match g.altSync with
    | some (side, theta) => { (g.correct theta t) with syncSide := some side }
    | none => { g with syncSide := none }

/-- A held frame, and the instant until which a transmitter is busy, counted from the tide mark that has come. -/
def HeldFrame.rebase (t : Int) (h : HeldFrame) : HeldFrame := { h with arrived := h.arrived - t, ready := h.ready - t }

/-- Whether a held frame's residence exceeds 100 µs at the end of the cycle (R197). -/
def HeldFrame.stale (t : Int) (h : HeldFrame) : Bool := decide (nanos 100000 < t - h.arrived)

/-- The local time of the ring hardware set (R201). -/
def Ring.setTime (g : Ring) (t : Int) : Ring := { g with time := t, frac := 0, timeSet := true }

/-- A ring at the tide mark of cycle n: slot frames that came on one port only, nodes heard, the SYNC that did not come, and the port followed
(R198). `t` is T_cycle in ms; the ring hardware of a leader is disciplined to the lanes' agreed tide, whose rate is `rate` (R27). -/
def Ring.endCycle (n t : Nat) (rate : Int) (g : Ring) : Ring :=
  let lead := g.state.leads
  let g := if lead then { g.setTime (nanos (n * t * 1000000)) with rate := rate } else g.changePort (t * 1000000)
  let cyc := nanos (t * 1000000)
  let single := (g.slotsGot.filter (fun p => p.2 != 3)).length
  let heard := (g.nodes.filter (fun p => p.2.seenNow)).length
  { g with singleCnt := satAdd g.singleCnt single, heardLast := heard, slotsGot := [], slotsBad := [],
           nodes := Assoc.mapVal RingNode.reset (RingNode.endCycle lead) g.nodes,
           lostSync := !g.gotSync && (g.state == .follow || g.state == .holdover || g.state == .vk2Passive),
           gotSync := false, tookSync := false, altSync := none, busyE := g.busyE - cyc, busyW := g.busyW - cyc,
           dropCnt := satAdd g.dropCnt ((g.heldE ++ g.heldW).filter (HeldFrame.stale cyc)).length,
           heldE := (g.heldE.filter (fun h => !h.stale cyc)).map (HeldFrame.rebase cyc),
           heldW := (g.heldW.filter (fun h => !h.stale cyc)).map (HeldFrame.rebase cyc) }

/-- One millisecond of a ring's local time, corrected by c (R201): 10^6 ns and c in units of 0.01 ppm of them; less than a unit is kept. -/
def Ring.tick (g : Ring) : Ring :=
  let f := g.frac + g.rate * 65536
  { g with time := g.time + 65536000000 + f / 100, frac := f % 100 }

end Sys2Proof.Machine
end

