-- ==== Sys2Proof/Machine/Ring.lean ====
section
/-! DEFINITION. The commands of the Dikeline rings (chapter 8). Times, delays and corrections that frames carry are in units of 2^−16 ns; a
receipt is counted from the tide mark of the cycle in progress on the module's own time. -/

namespace Sys2Proof.Machine

/-! ## Forwarding and link delay (R196, R197, R202) -/

/-- A frame other than DELAY_REQ and DELAY_RESP heard on the start ring (R218). -/
def State.hearAny (s : State) (r ty : Nat) : State :=
  if s.image.startRing = some r ∧ ty ≠ 5 ∧ ty ≠ 6 then { s with rings := { s.rings with heardAny := true } } else s

/-- Whether a frame is the module's own, come round the loop (R196); a VK2 header names no unit, and its source 0x00 is the master. -/
def State.ownFrame (s : State) (r : Nat) (h : RingHdr) : Bool :=
  h.srcAddr == 0 && (if s.vk2 r then (s.ring r).state == .vk2Master else h.srcUnit == s.unitId)

/-- RING_FRAME_FORWARD (R195 to R197): a frame that arrived at a port with a valid FCS goes out of the opposite one in order of arrival, its hop count
one greater, the link delay and its residence added to its correction, its FCS formed anew. One that fails its FCS, one beyond 127 hops and one
resident for more than 100 µs are counted. `receipt` is the instant of arrival, `latency` the module's own time until it can send the frame on. The
module forwards whole frames only, which R196 leaves to the node (log entry 92); a frame shorter than 64 or longer than 2,048 bytes counts with those
that fail their FCS (log entry 93). What is added for the incoming link before its delay has been measured is a free value (log entry 118). -/
def execRingFrameForward (r : Fin 4) (side : Side) (frame : List Byte) (receipt : Int) (latency : Nat) (s : State) : Out :=
  let g := s.ring r.val
  let out := side.opposite
  let h := RingHdr.ofBytes (s.vk2 r.val) frame
  if !s.ringLive r.val then .next s
  else
  let s := s.traffic (side.port r.val + 1)
  if !frameWhole frame then .next (s.modRing r.val (fun g => { g with fcsErr := sat g.fcsErr }))
  else
    let s := s.hearAny r.val h.ty
    if h.ty = 5 || h.ty = 6 || s.ownFrame r.val h || !s.linkReady r.val out then .next s
    else if 127 < h.hops + 1 then .next (s.modRing r.val (fun g => { g with dropCnt := sat g.dropCnt }))
    else
      let d : Int := if s.vk2 r.val then 0 else (g.delay side).getD (Config.measured s.fresh 9 : Nat)
      let f : HeldFrame := { arrived := receipt, ready := receipt + (latency : Int), delay := d, frame := frame }
      let s := { (s.modRing r.val (fun g => g.setHeld out (g.held out ++ [f]))).pumpPort r.val (s.ownSlots r.val) out with fresh := s.fresh + 1 }
      .next (if ((s.ring r.val).held out).isEmpty then s else s.modRing r.val (fun g => { g with gateCnt := sat g.gateCnt }))

/-- A link delay measurement begun at a port (R202); its DELAY_REQ goes to the neighbour, 0xFE. -/
def State.measure (s : State) (r : Nat) (at_ : Option Int) (side : Side) : State :=
  if s.ringLive r && s.portUp r side && (s.image.ring r).mode == .native then
    let i := (Config.freeIdent s.fresh).toNat % 65536
    { (s.modRing r (fun g => match side with
        | .e => { g with reqE := some i }
        | .w => { g with reqW := some i })).putFrame r side at_ (ringFrame false (s.ownHdr r side 5 0xFE) (delayReqBody i)) with fresh := s.fresh + 1 }
  else s

/-- RING_LINK_CHANGE (R202): a ring port's link comes up, and its delay is measured, or goes down. -/
def execRingLinkChange (r : Fin 4) (side : Side) (up : Bool) (s : State) : Out :=
  if !s.phRuns then .next s
  else
    let s := s.modRing r.val (fun g => match side with
      | .e => { g with linkE := up }
      | .w => { g with linkW := up })
    .next (if up then s.measure r.val none side else s)

/-- DELAY_MEASUREMENT_START (R202): in a cycle n with n mod 64 = 0 the delay of both links is measured, from the start of the diagnostic segment. -/
def execDelayMeasurementStart (r : Fin 4) (s : State) : Out :=
  let at_ := some (nanos (s.image.ring r.val).diagStart)
  if s.cyclesRun && s.cycle % 64 == 0 then .next ((s.measure r.val at_ .e).measure r.val at_ .w) else .next s

/-- The body of a DELAY frame of a type that a neighbour sent (R193, R202). -/
def readDelay (ty : Nat) (frame : List Byte) : Option (List Byte) :=
  match readFrame false frame with
  | some (h, body) => if h.ty = ty ∧ h.dst = 0xFE then some body else none
  | none => none

/-- DELAY_REQ (R202): answered within 10 µs with the turnaround, in units of 2^−16 ns. -/
def execDelayReq (r : Fin 4) (side : Side) (frame : List Byte) (turnaround : Nat) (s : State) : Out :=
  if s.ringLive r.val && s.portUp r.val side && (s.image.ring r.val).mode == .native && turnaround ≤ 10000 * 65536 then
    match readDelay 5 frame with
    | some body =>
      .next (s.putFrame r.val side none (ringFrame false (s.ownHdr r.val side 6 0xFE) (delayRespBody (getBE body 0 2) turnaround)))
    | none => .next s
  else .next s

/-- DELAY_RESP (R202): the answer to the measurement in progress gives d = ((t4 − t1) − (t3 − t2)) / 2. -/
def execDelayResp (r : Fin 4) (side : Side) (frame : List Byte) (roundTrip : Nat) (s : State) : Out :=
  let g := s.ring r.val
  match readDelay 6 frame with
  | none => .next s
  | some body =>
    let ident := some (getBE body 0 2)
    let d : Int := halve ((roundTrip : Int) - (getBE body 8 8 : Int))
    if !s.ringLive r.val then .next s
    else match side with
      | .e => if g.reqE = ident then .next (s.modRing r.val (fun g => { g with delayE := some d, reqE := none })) else .next s
      | .w => if g.reqW = ident then .next (s.modRing r.val (fun g => { g with delayW := some d, reqW := none })) else .next s

/-- DELAY_RESP_TIMEOUT (R202): without an answer within 50 µs the previous value stays. -/
def execDelayRespTimeout (r : Fin 4) (side : Side) (s : State) : Out :=
  .next (s.modRing r.val (fun g => match side with
    | .e => { g with reqE := none }
    | .w => { g with reqW := none }))

/-! ## SYNC (R203 to R206, R211, R220, R221) -/

/-- The admitted nodes of a ring's next SYNC (R214). -/
def State.admittedNodes (s : State) (r : Nat) : List Nat := (s.image.ring r).allNodes.filter (fun a => ((s.ring r).node a).admitted)

/-- The SYNC of a ring in cycle n (Table 8-5); the SYNC of a VK2 ring has only some of its fields (R225). -/
def State.syncBody (s : State) (r n : Nat) (launchErr : Int) : SyncBody :=
  let m := s.image
  let b := m.ring r
  { cycle := n, tCycle := m.tCycle, rank := s.rank, start := b.syncStart, launchErr := launchErr, epoch := s.unit.epoch, unit := s.unitId % 256,
    digest := b.digest, admitted := s.admittedNodes r, resync := b.allNodes.filter (fun a => ((s.ring r).node a).ordered) }

/-- The epoch of the RING sessions of ring `r` (R252). -/
def State.setRingEpoch (s : State) (r epoch : Nat) : State :=
  { s with unit := { s.unit with ringEpoch := Assoc.put 0 s.unit.ringEpoch r epoch } }

/-- SYNC_LAUNCH (R193, R203, R211, R252): at the sync segment start of a ring the leader launches its SYNC on both ports to every node; the admitted set
is from then on the last SYNC's, a resync order stands in that one SYNC only, and the ring's RING sessions take the unit's epoch. -/
def execSyncLaunch (r : Fin 4) (launchErr : Int) (s : State) : Out :=
  if s.leads && s.cyclesRun && s.ringLive r.val && (s.ring r.val).state.leads then
    let b := s.syncBody r.val s.cycle launchErr
    let s := s.modRing r.val (fun g =>
      { g with admitted := b.admitted, offset := 0, nodes := Assoc.mapVal RingNode.reset (fun n => { n with ordered := false }) g.nodes })
    let s := s.sendBoth r.val 1 0xFF (b.bytes (s.vk2 r.val)) (some (nanos b.start + launchErr))
    .next { s.setRingEpoch r.val s.unit.epoch with rings := { s.rings with epoch := s.unit.epoch, leader := s.unitId } }
  else .next s

/-- A COLDSTART or SYNC with a different cycle time ends contention (R219): the module listens, and one record is written for it. -/
def State.otherCycleTime (s : State) (r t : Nat) : State :=
  if s.unit.role != .deciding then s
  else
    let s := if s.rings.otherTime then s else s.logPh 0x0803 3 [r + 1, t]
    let s := match s.image.startRing with
      | some k => s.modRing k (fun g => if g.state.live then { g with state := .listen } else g)
      | none => s
    { s with rings := { s.rings with outcome := 6, otherTime := true, heardAny := true, heardStart := true, followCold := false, clear := 0,
                                     sentRound := false } }

/-- The tide of every lane set once to the leader's (R220): `time` is the leader's in units of 2^−16 ns. -/
def State.setTide (s : State) (time : Int) : State :=
  let t := (time / 655360).toNat
  { s.mapLanes (fun _ l => if l.inService then { l with td := { l.td with tide := t } } else l) with unit := { s.unit with tideSet := true } }

/-- What the SYNC of a leader brings to the unit that follows it on ring `r` (R216, R220, R223, R252, R253): a unit that decides becomes the sleeper and
follows on every native ring; the sleeper takes the leader's epoch. A node follows the leader whose SYNC it takes from then on. -/
def State.followSync (s : State) (r : Nat) (b : SyncBody) : State :=
  let s := { s with rings := { s.rings with leader := b.unit, epoch := b.epoch, followCold := false, clear := 0, sentRound := false, otherTime := false,
                                            outcome := if s.sleeps then s.rings.outcome else 5 } }
  let s := if s.image.startRing.isSome then s.swapFollowed b.cycle else s
  match s.unit.role with
  | .deciding => ((s.becomeSleeper b.epoch 0).followRings).setRingEpoch r b.epoch
  | .sleeper => { s.configWrite (fun c => { c with epoch := b.epoch }) with unit := { s.unit with epoch := b.epoch } }.setRingEpoch r b.epoch
  | _ => s

/-- What a SYNC's first valid copy of a cycle brings to a native ring (R198, R214, R220): its admitted set and its resync orders are noted in the nodes,
and the tide is set by the first one of all. -/
def State.takeSync (s : State) (r : Nat) (side : Side) (b : SyncBody) (leaderAt : Int) : State :=
  let blk := s.image.ring r
  let s := s.modRing r (fun g =>
    let g := { g with state := .follow, missRun := 0, gotSync := true, lostSync := false, schedDiff := b.digest != blk.digest, admitted := b.admitted,
                      syncSide := g.syncSide.orElse (fun _ => some side) }
    blk.allNodes.foldl (fun g a => g.modNode a (fun n =>
      { n with admitted := b.admitted.contains a, ordered := b.resync.contains a, ready := n.ready && !b.admitted.contains a })) g)
  let s := s.followSync r b
  if s.sleeps && !s.unit.tideSet then s.setTide leaderAt else s

/-- The clock correction from a copy that arrived at `side` (R198, R201, R204, R205): that of the followed port corrects the clock; that of the other is
kept in case the followed port brings none. The SYNC at which a tide is set leaves no offset; ring hardware whose time is not set yet, on another ring or after
a pumphouse reset, takes the module's own time first. -/
def State.takeTimeOf (s : State) (r : Nat) (side : Side) (theta leaderAt : Int) (first : Bool) : State :=
  s.modRing r (fun g =>
    if g.tookSync then g
    else if g.syncSide ≠ some side then { g with altSync := some (side, theta) }
    else if first then { g.setTime leaderAt with tookSync := true, offset := 0, rAcc := 0, rate := 0 }
    else { (if g.timeSet then g else g.setTime (leaderAt + theta)).correct theta (s.image.tCycle * 1000000) with tookSync := true })

/-- Whether a follower passes over a SYNC (R223): one of an epoch below the followed one, or of the same epoch and a higher unit. -/
def State.passesOver (s : State) (b : SyncBody) : Bool :=
  s.sleeps && (decide (b.epoch < s.unit.epoch) || (decide (b.epoch = s.unit.epoch) && s.rings.leader != s.unitId && s.rings.leader != 0 &&
    decide (s.rings.leader < b.unit)))

/-- The cycle number that the low 32 bits in a VK2 SYNC stand for, by a module in cycle `near` (R225). -/
def fullCycle (near low : Nat) : Nat :=
  let n := near / 2 ^ 32 * 2 ^ 32 + low % 2 ^ 32
  if near + 2 ^ 31 < n ∧ 2 ^ 32 ≤ n then n - 2 ^ 32 else if n + 2 ^ 31 < near then n + 2 ^ 32 else n

/-- The SYNC of a VK2 master at a passive node (R216, R224): the ring follows it. Without a native ring the tide is set to it. -/
def State.takeVk2Sync (s : State) (r : Nat) (side : Side) (b : SyncBody) (leaderAt : Int) : State :=
  let s := (s.modRing r (fun g => { g with gotSync := true, missRun := 0, lostSync := false, syncSide := g.syncSide.orElse (fun _ => some side) })).followSync r b
  if s.sleeps && !s.unit.tideSet && s.image.startRing.isNone then s.setTide leaderAt else s

/-- A SYNC that passes its checks (R193, R203, R225): its header and its body. -/
def readSync (vk2 : Bool) (frame : List Byte) : Option (RingHdr × SyncBody) :=
  match readFrame vk2 frame with
  | some (h, body) => if h.ty = 1 ∧ h.forModules ∧ body.length = (if vk2 then 12 else 72) then some (h, SyncBody.ofBytes vk2 body) else none
  | none => none

/-- SYNC_RECEIVE (R198, R204, R205, R216, R218 to R221, R223, R225, R263, R267): a module takes a SYNC copy of another module that arrived at a port at
`receipt`, on its own time after its tide mark. A leader only looks whether it is outranked. On a VK2 ring the leader's time is its arrival less the sync
segment start (Table 8-11); the module's own path delay, which no master measures, counts as 0 (log entry 95). -/
def execSyncReceive (r : Fin 4) (side : Side) (frame : List Byte) (receipt : Int) (s : State) : Out :=
  let g := s.ring r.val
  match readSync (s.vk2 r.val) frame with
  | none => .next s
  | some (h, b) =>
    if !s.ringLive r.val || b.unit = s.unitId then .next s
    else
      let s := s.hearAny r.val 1
      let s := { s with unit := { s.unit with syncNow := s.unit.syncNow || b.unit == companion s.unitId } }
      if s.leads then
        .next (if s.outranked b.epoch b.unit then
            { s with unit := { s.unit with giveWay := true, giveEpoch := max s.unit.giveEpoch b.epoch } }
          else s)
      else if b.tCycle ≠ s.image.tCycle then .next (s.otherCycleTime r.val b.tCycle)
      else
        let s := { s with rings := { s.rings with heardStart := true } }
        if s.passesOver b then .next s
        else if s.vk2 r.val then
          let b := { b with cycle := fullCycle s.cycle b.cycle, start := (s.image.ring r.val).syncStart }
          let first := !s.unit.tideSet && s.image.startRing.isNone
          let at_ := leaderTime s.ringCycle b 0 0
          let theta := (s.cycle : Int) * s.ringCycle + receipt - at_
          let s := if g.gotSync then s else s.takeVk2Sync r.val side b at_
          .next (if s.sleeps then s.takeTimeOf r.val side theta at_ first else s)
        else match g.delay side with
          | none => .next s
          | some d =>
            let first := !s.unit.tideSet
            let at_ := leaderTime s.ringCycle b h.corr d
            let theta := (s.cycle : Int) * s.ringCycle + receipt - at_
            let s := if g.gotSync && g.state == .follow && !first then s else s.takeSync r.val side b at_
            .next (s.takeTimeOf r.val side theta at_ first)

/-- HOLDOVER (R206): after a cycle without a valid SYNC a follower keeps the integral term as its correction; so does the passive module of a VK2 ring,
whose state shows passive still (R224). -/
def execHoldover (r : Fin 4) (s : State) : Out :=
  let g := s.ring r.val
  if g.lostSync && s.ringLive r.val then
    .next (s.modRing r.val (fun g => { g with state := if g.state == .vk2Passive then .vk2Passive else .holdover, missRun := g.missRun + 1, syncMiss := sat g.syncMiss, lostSync := false,
                                              rate := correction g.rAcc 0 (s.image.tCycle * 1000000) }))
  else .next s

/-- HOLDOVER_END (R206, Table 8-8): after 4 cycles without a valid SYNC the ring listens again. -/
def execHoldoverEnd (r : Fin 4) (s : State) : Out :=
  let g := s.ring r.val
  if (g.state == .holdover || g.state == .vk2Passive) && 4 ≤ g.missRun then
    .next (s.modRing r.val (fun g => { g with state := if g.state == .vk2Passive then .vk2Passive else .listen, missRun := 0, syncSide := none }))
  else .next s

/-! ## Slots, admission and diagnostics (R209 to R211, R214, R215) -/

/-- A slot frame as it goes out from `t` on (R209): whole, or where it would not be done by the end `limit` of the slot's occupancy, ended there with the
complement of the correct FCS. -/
def slotFrame (vk2 : Bool) (t limit : Int) (f : List Byte) : List Byte :=
  let byteTime := nanos (if vk2 then 80 else 8)
  if t + ((f.length + 8 : Nat) : Int) * byteTime ≤ limit then f
  else
    let room := ((limit - t) / byteTime).toNat - 12
    f.take room ++ spoiltFcs (f.take room)

/-- The module's own slot frame on one port (R209): from the slot start or, within the launch window of 0.5 µs, once the port's transmitter is free. -/
def State.launchSlot (s : State) (r : Nat) (e : SlotEntry) (body : List Byte) (side : Side) : State × Bool :=
  let start := nanos e.start
  let t := max start ((s.ring r).busy side)
  if !s.linkReady r side || start + nanos 500 < t then (s, false)
  else
    let f := ringFrame (s.vk2 r) (s.ownHdr r side 2 e.node) body
    (s.putFrame r side (some t) (slotFrame (s.vk2 r) t (start + nanos (occupancy (s.image.ring r).mode e.len)) f), true)

/-- What a port holds goes out after the module's own frame, or after the launch window of a slot that stayed empty (R197). -/
def State.releaseHeld (s : State) (r : Nat) (e : SlotEntry) (side : Side) : State :=
  let s := s.modRing r (fun g => g.setBusy side (max (g.busy side) (nanos (e.start + 500))))
  s.pumpPort r ((s.ownSlots r).filter (fun a => decide (nanos e.start < a))) side

/-- RING_OUTPUT_SLOT (R99, R172, R197, R209): at an output slot's start the pumphouse of a leading unit sends the session's telegram of the cycle to its
node on both ports if it assembled it at least 20 µs before; else the slot stays empty. Then the ports send what they held. -/
def execRingOutputSlot (r : Fin 4) (slot : Nat) (s : State) : Out :=
  match (s.image.ring r.val).slots[slot]? with
  | none => .next s
  | some e =>
    if !e.out || !s.leads || !s.phRuns || !s.ringLive r.val || !(s.ring r.val).state.leads then .next s
    else
      let s := match s.out.assembled.find? (fun a => a.kind == 1 && a.sid == e.sid && a.cycle == s.cycle && !a.sent &&
          decide (a.offset * 10 + 20000 ≤ e.start)) with
        | none => s
        | some a =>
          let p := s.launchSlot r.val e a.bytes .e
          let q := p.1.launchSlot r.val e a.bytes .w
          if p.2 || q.2 then
            { q.1 with out := { q.1.out with assembled := q.1.out.assembled.map (fun b => if b = a then { b with sent := true } else b) } }
          else q.1
      .next ((s.releaseHeld r.val e .e).releaseHeld r.val e .w)

/-- Whether the timing condition of R210 holds: the launch instant strictly within ±1.5 µs of the slot start; on a VK2 ring the first byte
within ±5 µs of it plus the node's path delay (Table 8-11). -/
def slotTiming (vk2 : Bool) (launch start : Int) : Bool :=
  let off := launch - start * 65536
  if vk2 then decide (off.natAbs ≤ 5000 * 65536) else decide (off.natAbs < 1500 * 65536)

/-- A 16-bit signed field held to ±32,767 (Table 8-16). -/
def launchErrOf (off : Int) : Int := clamp (-32767) 32767 (off / 65536)

/-- A timing error of a node's slot frame (R210): its two copies are one frame. -/
def Ring.timingError (g : Ring) (slot a : Nat) : Ring :=
  if g.slotsBad.contains (slot, a) then g
  else { g with slotsBad := (slot, a) :: g.slotsBad }.modNode a (fun n => { n with errNow := true, errCnt := sat n.errCnt })

/-- The slot frame of a node accepted at a port (R198): the first copy, or the second that only says which port it came on. DESIGN CHOICE: LAUNCH_ERR and
SEEN, which Table 8-16 calls those of the node's last slot frame, follow accepted frames alone (log entry 116). -/
def Ring.acceptSlot (g : Ring) (slot a : Nat) (side : Side) (off transit : Int) : Ring :=
  let bitOf := match side with
    | .e => 1
    | .w => 2
  let got := Assoc.get 0 g.slotsGot slot
  let second := got != 0
  let g := { g with slotsGot := Assoc.put 0 g.slotsGot slot (got ||| bitOf), transit := max g.transit (transit / 65536).toNat }
  if a = 0 then g
  else g.modNode a (fun n => { n with seenE := (second && n.seenE) || side == .e, seenW := (second && n.seenW) || side == .w, seenNow := true,
                                      launchErr := if second then n.launchErr else launchErrOf off })

/-- A node that sends DATA is not ready for admission any more (R214). -/
def Ring.leaveReady (g : Ring) (a : Nat) (data : Bool) : Ring :=
  if a ≠ 0 ∧ data then g.modNode a (fun n => { n with ready := false }) else g

/-- The path delay that a slot frame's acceptance counts with (R210, Table 8-11): the delay of the link it arrived on; on a VK2 ring the node's, 0 where
none has been written to it. -/
def Ring.slotDelay (g : Ring) (vk2 : Bool) (side : Side) (a : Nat) : Option Int :=
  if vk2 then some (nanos ((g.node a).pathDelay.getD 0)) else g.delay side

/-- SLOT_FRAME_RECEIVE (R198, R209, R210): a slot frame is accepted by its launch instant, source, length and type; the first copy's telegram
is placed in the receive area. -/
def execSlotFrameReceive (r : Fin 4) (side : Side) (slot : Nat) (frame : List Byte) (receipt : Int) (at_ : Placing) (s : State) : Out :=
  let g := s.ring r.val
  let blk := s.image.ring r.val
  let vk2 := s.vk2 r.val
  match blk.slots[slot]?, readFrame vk2 frame with
  | none, _ => .next s
  | _, none => .next s
  | some e, some (h, body) =>
    if !s.ringLive r.val || !s.cyclesRun || s.ownFrame r.val h then .next s
    else
      let s := s.hearAny r.val 2
      let path := g.slotDelay vk2 side e.node
      match path with
      | none => .next s
      | some d =>
        let transit := (if vk2 then 0 else h.corr) + d
        let launch := receipt - transit
        let source := if e.out then h.srcAddr == 0 && (vk2 || h.srcUnit == s.rings.leader) else h.srcAddr == e.node
        let type := h.ty == 2 || (h.ty == 4 && !e.out && !vk2)
        if !slotTiming vk2 launch (e.start : Int) || !source then
          .next (if h.srcAddr = 0 then s else s.modRing r.val (fun g => g.timingError slot h.srcAddr))
        else if frame.length ≠ e.len || !type then .next s
        else
          let first := Assoc.get 0 g.slotsGot slot = 0
          let a := if e.out then 0 else e.node
          let joins := vk2 && g.state == .vk2Master && a != 0 && !(g.node a).seenLast && !(g.node a).seenNow
          let s := s.modRing r.val (fun g => (g.acceptSlot slot a side (launch - nanos e.start) transit).leaveReady a (h.ty == 2))
          let s := if first && h.ty == 2 then s.place at_ (.ring r a) body else s
          .next (if joins then s.echoNode r.val a else s)

/-- NODE_RESYNC (R211, R224): the third consecutive cycle with a timing error takes a node's admitted bit and orders its resync, with a record. The order
is given once in a run of such cycles, and again to a node that has come to be admitted or ready in it. A VK2 SYNC carries no order. -/
def execNodeResync (r : Fin 4) (node : Fin 128) (s : State) : Out :=
  let g := s.ring r.val
  let n := g.node node.val
  if g.state.leads && s.ringLive r.val && 3 ≤ n.errRun + b2n n.errNow && (!n.told || n.admitted || n.ready) then
    .next ((s.modRing r.val (fun g => g.modNode node.val (fun n => { n with admitted := false, ready := false, ordered := true, told := true }))).logPh 0x0801 2
      [r.val + 1, node.val])
  else .next s

/-- Whether a slot frame of a node has been accepted in the cycle in progress (R210). -/
def State.slotHeard (s : State) (r a : Nat) : Bool :=
  (s.image.ring r).slots.zipIdx.any (fun p => !p.1.out && p.1.node == a && Assoc.get 0 (s.ring r).slotsGot p.2 != 0)

/-- INTEGRATE (R214): a node whose INTEGRATE, accepted in its input slot, carries the module's schedule digest is ready and is admitted by the leader in
the SYNC of the next cycle; another is recorded as a schedule mismatch. -/
def execIntegrate (r : Fin 4) (frame : List Byte) (s : State) : Out :=
  let g := s.ring r.val
  let blk := s.image.ring r.val
  match readFrame false frame with
  | none => .next s
  | some (h, body) =>
    let a := h.srcAddr
    if !s.ringLive r.val || blk.mode != .native || h.ty ≠ 4 || body.length < 32 || !s.slotHeard r.val a then .next s
    else if (IntegrateBody.ofBytes body).digest = blk.digest then
      .next (s.modRing r.val (fun g => g.modNode a (fun n => { n with ready := !n.admitted, mismatch := false })))
    else if g.state == .lead then
      .next ((s.modRing r.val (fun g => g.modNode a (fun n => { n with ready := false, mismatch := true }))).logPh 0x0802 2 [r.val + 1, a])
    else .next s

/-- The node a leader polls next: the next admitted one in ascending address order, wrapping round (R215). -/
def nextPolled (admitted : List Nat) (last : Nat) : Option Nat :=
  let low := fun (l : List Nat) => l.foldl (fun (b : Option Nat) a => match b with
    | none => some a
    | some c => some (min a c)) none
  (low (admitted.filter (fun a => decide (last < a)))).orElse (fun _ => low admitted)

/-- The nodes a leader polls (R215): those admitted by its last SYNC; on a VK2 ring, whose SYNC admits none, every node of the schedule (log entry
94). -/
def State.polledNodes (s : State) (r : Nat) : List Nat := if s.vk2 r then (s.image.ring r).allNodes else (s.ring r).admitted

/-- DIAG_REQUEST (R215): 50 µs after the diagnostic segment start the leader polls the next admitted node. -/
def execDiagRequest (r : Fin 4) (identity : Bool) (s : State) : Out :=
  let g := s.ring r.val
  if s.ringLive r.val && g.state.leads && s.cyclesRun then
    match nextPolled (s.polledNodes r.val) g.polled with
    | some a =>
      .next ((s.modRing r.val (fun g => { g with polled := a })).sendBoth r.val 7 a (diagRequest (if identity then 2 else 1) [])
        (some (nanos ((s.image.ring r.val).diagStart + 50000))))
    | none => .next s
  else .next s

/-- A DIAG response of kind 0x01 with one of the codes (R193, R215, R226): the node it comes from and its body. -/
def readDiag (vk2 : Bool) (codes : List Nat) (frame : List Byte) : Option (Nat × List Byte) :=
  match readFrame vk2 frame with
  | some (h, body) =>
    if h.ty = 7 ∧ h.forModules ∧ h.srcAddr ≠ 0 ∧ 4 ≤ body.length ∧ getByte body 1 = 1 ∧ codes.contains (getByte body 0) then some (h.srcAddr, body) else none
  | none => none

/-- DIAG_RESPONSE (R215): the last response of a node to STATUS or IDENTITY stands in its record of 64 bytes in the basin. A VK2 node that answers
and has no path delay written to it has joined, whether an echo has gone unanswered before or not, and is measured (R226; log entry 94). -/
def execDiagResponse (r : Fin 4) (frame : List Byte) (s : State) : Out :=
  match readDiag (s.vk2 r.val) [1, 2] frame with
  | none => .next s
  | some (a, body) =>
    if s.ringLive r.val && s.rings.diagBase != 0 && a < 128 then
      let n := (s.ring r.val).node a
      let s := s.basinWrite corePh (s.rings.diagBase + r.val * 8192 + 64 * a) (padTo 64 body)
      .next (if (s.ring r.val).state == .vk2Master && n.pathDelay.isNone then s.echoNode r.val a else s)
    else .next s

/-- VK2_ECHO (R226): the answer to an echo gives the node's path delay, half the round trip less the turnaround, which is written to the
node with DIAG code 0x11. Both times are in ns. -/
def execVk2Echo (r : Fin 4) (frame : List Byte) (roundTrip : Nat) (s : State) : Out :=
  match readDiag true [0x10] frame with
  | none => .next s
  | some (a, body) =>
    let g := s.ring r.val
    if s.ringLive r.val && g.state == .vk2Master && (g.node a).echoId = some (getBE body 4 4) then
      let d := (halve ((roundTrip : Int) - (getBE body 8 4 : Int))).toNat
      .next ((s.modRing r.val (fun g => g.modNode a (fun n => { n with pathDelay := some d, echoed := false, echoId := none }))).sendBoth r.val 7 a
        (diagRequest 0x11 (be 4 d ++ be 4 0)) none)
    else .next s

/-- VK2_PATH_DELAY (R226): the node has stored the path delay that its answer echoes. The master knows it written; a passive module, past which the answer
goes, takes the node's path delay from it (log entry 95). -/
def execVk2PathDelay (r : Fin 4) (frame : List Byte) (s : State) : Out :=
  match readDiag true [0x11] frame with
  | none => .next s
  | some (a, body) =>
    let g := s.ring r.val
    let d := getBE body 4 4
    if s.ringLive r.val && ((g.state == .vk2Master && (g.node a).pathDelay = some d) || g.state == .vk2Passive) then
      .next (s.modRing r.val (fun g => g.modNode a (fun n => { n with pathDelay := some d, echoed := true })))
    else .next s

/-! ## Native start-up (R216 to R219) -/

/-- Whether a COLDSTART of a unit outranks the module (R217). -/
def State.outranks (s : State) (unit : Nat) (b : ColdBody) : Bool :=
  decide (b.rank < s.rank) || (b.rank == s.rank && decide (unit < s.unitId))

/-- A COLDSTART of a unit taken on the start ring `k` by a module whose unit decides (R218, R219). -/
def State.takeCold (s : State) (k unit : Nat) (b : ColdBody) : State :=
  let st := (s.ring k).state
  if s.unit.role != .deciding then s
  else if s.outranks unit b then
    if st == .listen || st == .contend then
      let s := s.modRing k (fun g => { g with state := .follow })
      { s with rings := { s.rings with followCold := true, outcome := 2, clear := 0, sentRound := false, leader := unit } }
    else s
  else if st == .listen && !s.rings.otherTime && s.rings.outcome != 4 then
    let s := s.modRing k (fun g => { g with state := .contend })
    { s with rings := { s.rings with round := 0, clear := 0, sentRound := false } }
  else s

/-- COLDSTART (R217 to R219): a module that is outranked follows; a listening one that is not begins to contend; a different cycle time ends
contention. -/
def execColdstart (frame : List Byte) (s : State) : Out :=
  match s.image.startRing, readFrame false frame with
  | none, _ => .next s
  | _, none => .next s
  | some k, some (h, body) =>
    let b := ColdBody.ofBytes body
    if !s.ringLive k || h.ty ≠ 3 || !h.forModules || body.length ≠ 24 || h.srcUnit = s.unitId then .next s
    else
      let s := { s with rings := { s.rings with heardAny := true, heardStart := true, heardCold := max s.rings.heardCold b.epoch } }
      if b.tCycle ≠ s.image.tCycle then .next (s.otherCycleTime k b.tCycle) else .next (s.takeCold k h.srcUnit b)

/-- The listen period begun anew. -/
def Rings.listenAgain (g : Rings) : Rings := { g with heardAny := false, heardStart := false }

/-- Contention begun or resumed: the round number continues (R219). -/
def State.contend (s : State) (k : Nat) : State :=
  let s := s.modRing k (fun g => { g with state := .contend })
  { s with rings := { s.rings.listenAgain with followCold := false, otherTime := false, clear := 0, sentRound := false } }

/-- LISTEN_PERIOD_EXPIRY (R218, R219): a module that heard no frame for its listen period contends; so does one that follows on a COLDSTART
and has heard neither SYNC nor COLDSTART. -/
def execListenPeriodExpiry (s : State) : Out :=
  match s.image.startRing with
  | none => .next s
  | some k =>
    let st := (s.ring k).state
    if s.unit.role != .deciding || !s.ringLive k then .next s
    else if st == .listen then
      if s.rings.heardAny || s.rings.outcome = 4 then
        .next { s with rings := { s.rings.listenAgain with otherTime := s.rings.otherTime && s.rings.heardStart } }
      else .next (s.contend k)
    else if st == .follow && s.rings.followCold then
      (if s.rings.heardStart then .next { s with rings := s.rings.listenAgain } else .next (s.contend k))
    else .next s

/-- The module leads (R218, R219): it becomes the watcher with an epoch one more than its own last and every one it has heard; the other
rings start at its next tide mark. -/
def State.takeLead (s : State) (k outcome : Nat) : State :=
  let s := s.becomeWatcher (max s.cfg.epoch s.rings.heardCold + 1) 0
  let s := s.modRing k (fun g => { g with state := .lead, missRun := 0 })
  { s with rings := { s.rings with outcome := outcome, leader := s.unitId, epoch := s.unit.epoch, clear := 0, sentRound := false, startOthers := true } }

/-- CONTENTION_ROUND (R218, R219): at a round's start a contending module leads after two rounds in which it sent COLDSTART and was not
outranked; after round 16 PAIR_POS decides; else it sends COLDSTART. A round in which neither port's link carries frames (R202) is none in which it
sent. -/
def execContentionRound (s : State) : Out :=
  match s.image.startRing with
  | none => .next s
  | some k =>
    if (s.ring k).state != .contend || !s.ringLive k || s.unit.role != .deciding then .next s
    else
      let clear := if s.rings.sentRound then s.rings.clear + 1 else 0
      if 2 ≤ clear then .next (s.takeLead k 1)
      else if 16 ≤ s.rings.round then
        (if s.preferred then .next (s.takeLead k 3)
        else
          let s := s.modRing k (fun g => { g with state := .listen })
          .next { s with rings := { s.rings with outcome := 4, clear := 0, sentRound := false } })
      else
        let round := s.rings.round + 1
        let body : ColdBody := { rank := s.rank, preferred := s.preferred, round := round, epoch := s.cfg.epoch,
                                 tCycle := s.image.tCycle, digest := (s.image.ring k).digest }
        .next ({ s with rings := { s.rings with round := round, clear := clear,
                                                 sentRound := s.linkReady k .e || s.linkReady k .w } }.sendBoth k 3 0 body.bytes none)

end Sys2Proof.Machine
end

