-- ==== Sys2Proof/Machine/Pair.lean ====
section
/-! DEFINITION. The commands of the pair (chapter 10): the decision of the role, fail-over, two watchers, partner reports, the planned swap and
the cross-links. -/

namespace Sys2Proof.Machine

/-- XL_STATUS (Table 10-7). -/
def State.xlStatus (s : State) : Nat :=
  let partner := match s.unit.partner with
    | some r => r.unit
    | none => 0
  fld s.unit.role.code 28 4 + fld s.notReady 24 4 + flag s.xl.link27 23 + flag s.xl.link28 22 + flag s.unit.heard27 21 + flag s.unit.heard28 20 +
    fld (min 2 s.unit.silentRun) 18 2 + flag s.unit.syncSeen 17 + flag s.mapped 16 + fld partner 8 8 +
    flag (LaneId.list.any (fun x => (s.lane x).io.watchIn)) 7 + flag s.watchDriven 6 + flag s.unit.held 5

/-- The drive of the lanes that drive in this cycle set anew after a change of role at its tide mark (R236, R264, R267, R271). -/
def State.redrive (s : State) (share : Bool) : State :=
  s.mapLanes (fun x l => if l.io.drives then l.drive x l.image s.sleeps share else l)

/-- The reference messages of a new watcher's first tide mark (R287). -/
def State.queueRefs (s : State) : State := (List.range 6).foldl (fun s p => s.queueRef s.cycle p) s

/-! ## The role (R250, R251) -/

/-- DECIDING_ENTRY (R251, R302): a unit whose lanes have verified the image and whose pumphouse has released P6 decides its role. -/
def execDecidingEntry (s : State) : Out :=
  if s.unit.role == .starting && 2 ≤ s.serviceLanes.length && s.ph.released.getLsbD 6 then
    .next ({ s with unit := { s.unit with role := .deciding }, rings := s.rings.listenAgain }.notice 1 [Role.deciding.code, s.unit.epoch])
  else .next s

/-- Whether WATCH_IN has read dark at every regular sample of the last T_cycle (R251). -/
def State.watchDark (s : State) : Bool := s.serviceLanes.all (fun x => decide (s.image.tCycle ≤ (s.lane x).io.darkRun))

/-- DECIDING_TIMEOUT (R251, R252): without a native ring a unit that has heard no watcher becomes the watcher while its WATCH_IN is dark. -/
def execDecidingTimeout (s : State) : Out :=
  if s.unit.role == .deciding && s.image.startRing.isNone && s.watchDark then
    .next (s.becomeWatcher (max s.cfg.epoch s.unit.heardEpoch + 1) 0).leadRings
  else .next s

/-- FAIL_OVER (R252, R264): at the tide mark after two silent cycles a sleeper whose WATCH_IN was dark throughout the second becomes the
watcher; while it was lit the takeover is held, with one record for the run. -/
def execFailOver (s : State) : Out :=
  if !s.sleeps || s.serviceLanes.length < 2 || s.unit.silentRun < 2 then .next s
  else if s.serviceLanes.any (fun x => (s.lane x).io.litLast) then
    let s' := { s with unit := { s.unit with held := true, heldRec := true } }
    .next (if s.unit.heldRec then s' else s'.logUnit 0x0A02 2 [s.unit.silentRun, s'.xlStatus])
  else
    let s := (s.becomeWatcher (s.unit.epoch + 1) 1).leadRings
    .next ({ s with xl := { s.xl with failovers := sat s.xl.failovers } }.queueRefs.redrive true)

/-- WATCHER_GIVES_WAY (R221, R267): at its next tide mark an outranked watcher becomes the sleeper of the other. A swap requested of it can no
longer take place, and returns SWAP_ABORTED (DESIGN CHOICE, log entry 125). -/
def execWatcherGivesWay (s : State) : Out :=
  if s.leads && s.unit.giveWay then
    let s := { s with unit := { s.unit with swap := { s.unit.swap with state := if s.unit.swap.state = 0 then 0 else 4 } } }.answerSwap 0x0514
    .next ((s.becomeSleeper s.unit.giveEpoch 3).followRings.redrive false)
  else .next s

/-! ## Partner reports and the cross-links (R256, R261, R263) -/

/-- What a report says of the swap under way in the watcher (R271). -/
def Swap.hear (w : Swap) (r : PartnerReport) : Swap :=
  { w with readyA := w.readyA || (decide (r.cycle + 4 = w.cycle) && r.swap == 1),
           readyB := w.readyB || (decide (r.cycle + 3 = w.cycle) && r.swap == 1),
           partnerCommitted := w.partnerCommitted || (decide (r.cycle + 1 = w.cycle) && r.swap == 2) }

/-- A partner report taken (R251, R252, R261, R267): the first copy of its cycle. -/
def State.takeReport (s : State) (report : PartnerReport) : State :=
  if s.unit.partner.map (·.cycle) = some report.cycle then s
  else
    let s := { s with unit := { s.unit with partner := some report, partnerCycle := s.cycle, heardEpoch := max s.unit.heardEpoch report.epoch,
                                            swap := s.unit.swap.hear report } }
    if report.role = 2 then s.heardWatcher report.epoch report.unit else s

/-- PARTNER_REPORT_RECEIVE (R251, R252, R256, R261, R263, R267): the first valid copy of a report of the partner. -/
def execPartnerReportReceive (port : XPort) (frame : List Byte) (s : State) : Out :=
  let r := s.crossIn port frame
  match r.2 with
  | some (2, content) => .next (r.1.takeReport (PartnerReport.ofBytes (content.take 32)))
  | _ => .next r.1

/-- CROSS_LINK_CHANGE (Table 10-7): the physical link state of P27 or P28. -/
def execCrossLinkChange (port : XPort) (up : Bool) (s : State) : Out :=
  if !s.phRuns then .next s
  else .next { s with xl := match port with
    | .p27 => { s.xl with link27 := up }
    | .p28 => { s.xl with link28 := up } }

/-! ## The planned swap (R270, R271) -/

/-- SWAP_COMMIT (R271): in cycle s − 2 the watcher commits if the reports of cycles s − 4 and s − 3 said ready, else it cancels and the
request returns PARTNER_NOT_READY. -/
def execSwapCommit (s : State) : Out :=
  let w := s.unit.swap
  if !s.leads || w.state ≠ 1 || s.cycle + 2 ≠ w.cycle then .next s
  else if w.readyA && w.readyB then .next { s with unit := { s.unit with swap := { w with state := 2, sentCommit := true } } }
  else .next ({ s with unit := { s.unit with swap := { w with state := 4 } } }.answerSwap 0x0513)

/-- SWAP_EXECUTE (R252, R271): at the tide mark of cycle s the committed sleeper becomes the watcher and the former watcher, which has its
report, the sleeper; a watcher without the report goes on and the request returns SWAP_ABORTED. -/
def execSwapExecute (s : State) : Out :=
  let w := s.unit.swap
  if w.cycle = 0 || s.cycle ≠ w.cycle then .next s
  else if s.sleeps && w.state ≠ 3 then
    if w.gotCommit && 2 ≤ s.serviceLanes.length then
      let s := (s.becomeWatcher (s.unit.epoch + 1) 2).leadRings
      .next ({ s with unit := { s.unit with swap := { w with state := 3 } }, xl := { s.xl with swaps := sat s.xl.swaps } }.queueRefs.redrive true)
    else .next (if w.state = 0 then s else { s with unit := { s.unit with swap := { w with state := 4 } } }.answerSwap 0x0514)
  else if s.leads && w.sentCommit && w.state = 2 then
    if w.partnerCommitted then
      let s := (s.becomeSleeper (s.unit.epoch + 1) 2).followRings
      .next ({ s with unit := { s.unit with swap := { w with state := 3 } }, xl := { s.xl with swaps := sat s.xl.swaps } }.redrive false)
    else .next ({ s with unit := { s.unit with swap := { w with state := 4 } } }.answerSwap 0x0514)
  else .next s

end Sys2Proof.Machine
end

