-- ==== Sys2Proof/Machine/Locks.lean ====
section
/-! DEFINITION. The lock registers (R303 to R307). Master numbers are 1 to 8; the commands name master m as m − 1. -/

namespace Sys2Proof.Machine

/-- A lock. -/
def Locks.at (k : Locks) (n : Nat) : Lock := Assoc.get Lock.reset k.lock n

/-- A lock set. -/
def Locks.set (k : Locks) (n : Nat) (v : Lock) : Locks := { k with lock := Assoc.put Lock.reset k.lock n v }

/-- The first of the waiting masters after master `m` in the rotating order 1, 2, …, 8, 1 (R305). -/
def nextMaster (waiting : List Nat) (m : Nat) : Option Nat :=
  ((List.range 8).map (fun i => (m + i) % 8 + 1)).find? (fun k => waiting.contains k)

/-- A lock that its owner gives up passes to the next waiting master, reserved for it, or becomes free (R305). -/
def Lock.handOver (l : Lock) (now : Nat) : Lock :=
  match nextMaster l.waiting l.owner with
  | some m => { owner := m, reserved := true, last := m, waiting := l.waiting.filter (· != m), since := now }
  | none => { l with owner := 0, reserved := false }

/-- The hold of a lock that ends, counted in µs of operating time (LK_HOLD_MAX, LK_OVER_CNT). -/
def Locks.endHold (k : Locks) (n now : Nat) : Locks :=
  let us := min (now - (k.at n).since) (2 ^ 26 - 1)
  let k := if k.holdMax < us then { k with holdMax := us, holdIdx := n } else k
  if 1000 < us then { k with overCnt := sat k.overCnt } else k

/-- The operating time in µs: whole ms, and the µs `us` since the last of them. -/
def State.opMicros (s : State) (us : Nat) : Nat := s.cfg.opTime * 1000 + us

/-- A lock released by its owner. -/
def Locks.release (k : Locks) (n now : Nat) : Locks := (k.endHold n now).set n ((k.at n).handOver now)

/-- The locks and waiting entries of masters in reset (R306). -/
def Locks.dropMasters (k : Locks) (ms : List Nat) (now : Nat) : Locks :=
  (List.range 64).foldl (fun k n =>
    let l := k.at n
    let k := k.set n { l with waiting := l.waiting.filter (fun m => !ms.contains m) }
    if ms.contains l.owner then k.release n now else k) k

/-- Whether the host may access a lock (R307). -/
def hostMay (n m : Nat) : Bool := m != 8 || 56 ≤ n

/-- What a read of lock `n` by master `m` returns (R303): 0 where that read acquires it, else the owner's number. -/
def Locks.readValue (k : Locks) (n m : Nat) : Nat :=
  let l := k.at n
  if l.owner = 0 || (l.owner = m && l.reserved) then 0 else l.owner

/-- An access to a lock refused (R303, R307): a bus error, counted, and shown in PH_EVENT where the host made it. -/
def State.lockError (s : State) (m : Nat) : State :=
  { s.busError m with locks := { s.locks with err := sat s.locks.err }, ph := if m = 8 then { s.ph with event := s.ph.event ||| 8 } else s.ph }

/-- A read of a lock at `now` (R303 to R305, R307): a free lock is acquired; a reserved one is taken by its owner; another reader enters the waiting set; a
host read of locks 0 to 55 is refused. -/
def State.readLock (s : State) (n m now : Nat) : State :=
  let l := s.locks.at n
  if !hostMay n m then s.lockError m
  else if l.owner = 0 then
    { s with locks := s.locks.set n { owner := m, reserved := false, last := m, waiting := l.waiting.filter (· != m), since := now } }
  else if l.owner = m then { s with locks := s.locks.set n { l with reserved := false } }
  else { s with locks := s.locks.set n { l with waiting := if l.waiting.contains m then l.waiting else l.waiting ++ [m] } }

/-- The masters of a set in the rotating order 1, 2, …, 8, 1 after the last acquirer (R304). -/
def readOrder (last : Nat) (readers : BitVec 8) : List Nat :=
  ((List.range 8).map (fun i => (last + i) % 8 + 1)).filter (fun m => readers.getLsbD (m - 1))

/-- A lock read by a master, which gets the value read. -/
def State.lockRead (n now : Nat) (s : State) (m : Nat) : State :=
  (s.readLock n m now).emit (.lockValue n m (if hostMay n m then some (s.locks.readValue n m) else none))

/-- LK_LOCK_READ (R303 to R305, R307): LK_LOCK[n] is read by the masters of a set, bit m − 1 for master m, in one basin clock cycle, `us` µs after
the last whole ms of operating time. A free lock goes to the first of them after its last acquirer; each of the others reads the winner's number and
waits. -/
def execLkLockRead (n : Fin 64) (readers : BitVec 8) (us : Fin 1000) (s : State) : Out :=
  .next ((readOrder (s.locks.at n.val).last readers).foldl (State.lockRead n.val (s.opMicros us.val)) s)

/-- A write at `now` of a lock (R303, R305, R307): the owner's write of its own number releases the lock; every other write is refused. -/
def State.writeLock (s : State) (n m value now : Nat) : State :=
  let l := s.locks.at n
  if hostMay n m && l.owner = m && value = m then { s with locks := s.locks.release n now } else s.lockError m

/-- LK_LOCK_RELEASE (R303, R305, R307): a write of LK_LOCK[n] by a master. -/
def execLkLockRelease (n : Fin 64) (master : Fin 8) (value : BitVec 32) (us : Fin 1000) (s : State) : Out :=
  .next (s.writeLock n.val (master.val + 1) value.toNat (s.opMicros us.val))

/-- LOCK_LAPSE (R305): a waiting entry, or a reservation, whose master has not read for 10 µs lapses. -/
def execLockLapse (n : Fin 64) (master : Fin 8) (us : Fin 1000) (s : State) : Out :=
  let m := master.val + 1
  let l := s.locks.at n.val
  if l.waiting.contains m then
    .next { s with locks := { s.locks.set n.val { l with waiting := l.waiting.filter (· != m) } with lapse := sat s.locks.lapse } }
  else if l.owner = m && l.reserved then
    .next { s with locks := { s.locks.set n.val (l.handOver (s.opMicros us.val)) with lapse := sat s.locks.lapse } }
  else .next s

end Sys2Proof.Machine
end

