-- ==== Sys2Proof/Machine/ResetCore.lean ====
section
/-! DEFINITION. Resets as shared operations (R318 to R322): what a reset of a lane, of the pumphouse and of the unit clears and keeps
(Table 13-4), and requests withdrawn by a unit start (R121). -/

namespace Sys2Proof.Machine

/-! ## One lane -/

/-- Whether a reset source is one of a unit start, a lane power-on included. -/
def startSource (source : Nat) : Bool := source == 1 || source == 2 || source == 5 || source == 6

/-- Whether a reset calls for logic and memory BIST (Table 13-3): a lane power-on, MAINT_RESET_N, a software cold reset, and the reset of a
lane rotation. -/
def needsBist (source : Nat) (rotation : Bool) : Bool := source == 1 || source == 2 || source == 6 || (source == 4 && rotation)

/-- Whether a reset source is itself a unit start (R321); a lane power-on is part of one only together with those of the other lanes. -/
def unitSource (source : Nat) : Bool := source == 2 || source == 5 || source == 6

/-- The vote after a reset: a lane power-on clears its registers, another reset keeps what Table 13-4 names; FAILED and STOPPED last until the next
unit start, also through a power-on of the lane alone (R136, R153), and a leaving lane stays in its rotation test (R156). -/
def Vote.resetBy (v : Vote) (source : Nat) : Vote :=
  let state : LaneState := match v.state with
    | .rotationTest => if source = 4 then .rotationTest else .reset
    | .failed => if unitSource source then .reset else .failed
    | .stopped => if unitSource source then .reset else .stopped
    | _ => .reset
  if source = 1 then { Vote.reset with state := state }
  else
    { Vote.reset with
        state := state, minCause := v.minCause, minCycle := v.minCycle, minCnt := v.minCnt, stopCause := v.stopCause, stopCycle := v.stopCycle,
        rotLast := v.rotLast, rotCycle := v.rotCycle, attempt := v.attempt, abort := v.abort, abortRun := v.abortRun, startMs := v.startMs,
        afterUnit := v.afterUnit, resyncCnt := v.resyncCnt, resyncTime := v.resyncTime }

/-- The reset unit after a reset: D0 stays released but at a power-on, and keeps the latched mode (R322, Table 13-4); every other domain is in reset and its
gate closed; each queue the lane writes begins a new generation (R317, R319, R320), and what it reads is learned anew. -/
def ResetUnit.resetBy (r : ResetUnit) (source cycle : Nat) (rotation : Bool) : ResetUnit :=
  { ResetUnit.reset with
      powered := r.powered, released := if source = 1 then 0 else r.released &&& 1, source := source, causeCycle := cyc28 cycle,
      bist := needsBist source rotation, gen := (r.gen + 1) % 4, startPh := r.startPh, startLane := r.startLane,
      opts := if source = 1 then Options.reset else { Options.reset with voting := r.opts.voting } }

/-- The self-test after a reset: the repair map lasts until the next memory BIST (R330, Table 13-4). -/
def SelfTest.resetBy (b : SelfTest) (bist : Bool) : SelfTest :=
  if bist then SelfTest.reset
  else { SelfTest.reset with factory := b.factory, soft := b.soft, bermMacro := b.bermMacro, bermFree := b.bermFree }

/-- The slices begin anew (R333): a lane in a resync runs them all in its loading phase. -/
def SelfTest.newSlices (b : SelfTest) : SelfTest := { b with slices := 0, passed := 0, failed := 0, notTested := 0, sliceFail := 0, done := [] }

/-- A lane's reset from a source of Table 13-3. Mailbox states, the record queue, flash, MRAM and the retention clock stay. -/
def Lane.resetBy (l : Lane) (source : Nat) : Lane :=
  let rotation := l.vt.state == .rotationTest
  let power := source == 1
  let rc := l.rc.resetBy source l.td.cycle rotation
  { Lane.reset with
      pe := if power then Engine.reset else { Engine.reset with faultCode := l.pe.faultCode, faultPos := l.pe.faultPos }
      td := if power then TideUnit.reset
            else { TideUnit.reset with lateCnt := l.td.lateCnt, lateCause := l.td.lateCause, lateCycle := l.td.lateCycle }
      vt := l.vt.resetBy source
      rc := rc
      bi := l.bi.resetBy rc.bist
      ls := { l.ls with running := false, floorRun := 0,
                        fw := if l.ls.fw.onTrial then { l.ls.fw with resets := l.ls.fw.resets + 1 } else l.ls.fw }
      mb := if power then { l.mb with busErr := 0, restarts := 0 } else l.mb }

/-- A queue read side whose write side has been reset: words of the old generation are discarded until the re-handshake (R317, R319). -/
def QueueRx.stale (q : QueueRx) : QueueRx := { q with live := false, part := [] }

/-- The read sides of the queues that lane `x` writes, after its reset. -/
def State.forgetLane (s : State) (x : LaneId) : State :=
  { s.mapLanes (fun y l => if y = x then l else { l with rc := { l.rc with rxLane := l.rc.rxLane.modify x QueueRx.stale } }) with
      ph := { s.ph with rxLane := s.ph.rxLane.modify x QueueRx.stale } }

/-- A lane reset from a source of Table 13-3, counted in its protected area (R321); its locks and waiting entries go (R306). -/
def State.resetOne (s : State) (x : LaneId) (source : Nat) : State :=
  let s := { s.modLane x (·.resetBy source) with locks := s.locks.dropMasters [x.num] (s.opMicros 0) }.forgetLane x
  s.areaWrite x (fun q => { q with resetCnt := Assoc.upd 0 q.resetCnt source sat })

/-- The reset of one lane (R319, R321): a lane that was in service leaves it. -/
def State.resetLane (s : State) (x : LaneId) (source : Nat) : State :=
  let old := s.serviceMask
  let l := s.lane x
  let s := s.resetOne x source
  if l.inService then (s.maskNotice old (some x)).settleService else s

/-- A reset that a lane has requested begins (R135, R153, R368). -/
def State.pendingReset (s : State) (x : LaneId) : State :=
  match (s.lane x).rc.resetReq with
  | some source => s.resetLane x source
  | none => s

/-! ## The pumphouse -/

/-- Whether a pumphouse reset is a warm reset of Table 13-8: MAINT_RESET_N, software warm reset, watchdog. -/
def warmSource (source : Nat) : Bool := source == 2 || source == 3 || source == 5

/-- The pumphouse block after a reset (R322, R327): the port setting in flash, the counts in MRAM and the firmware stay; through a warm reset
the UNIT_OK relay, the lamps and the transmit enables of the SFPs hold; every queue it writes begins a new generation (R317). P0 is the clocks' and stays
released but at a power-on (R319). A power-on reset is counted once its rail has started again (R313). -/
def Pumphouse.resetBy (p : Pumphouse) (source : Nat) (lamps : Lamps) : Pumphouse :=
  let warm := warmSource source
  { Pumphouse.reset with
      powered := p.powered, released := if source = 1 then 0 else p.released &&& 1, portDisable := p.portDisable, brownOuts := p.brownOuts, source := source,
      resetCnt := if source = 1 then p.resetCnt else Assoc.upd 0 p.resetCnt source sat, pass := warm, gen := (p.gen + 1) % 4, unitOk := p.unitOk && warm,
      heldLamps := if warm then lamps else Lamps.off, lampsHeld := true, startLane := p.startLane,
      sentMark := p.sentMark, sfps := if warm then p.sfps else [], sfpRefused := if warm then p.sfpRefused else 0,
      fw := if p.fw.onTrial then { p.fw with resets := p.fw.resets + 1 } else p.fw }

/-- The rings after a pumphouse reset: with a warm reset the used ones are switched to pass-through, which takes their links down, or stay in it
(R199, R327). -/
def Rings.resetBy (g : Rings) (source : Nat) : Rings :=
  if warmSource source then
    { Rings.reset with ring := g.ring.map (fun p =>
        (p.1, { Ring.reset with state := if p.2.state == .unused then .unused else .pass,
                                linkE := p.2.linkE && p.2.state == .pass, linkW := p.2.linkW && p.2.state == .pass })) }
  else Rings.reset

/-- The host mailboxes after a pumphouse reset (R300, R302): a power-on empties them; another reset keeps them, and the notices still
queued are lost and counted. -/
def HostMail.resetBy (m : HostMail) (source : Nat) : HostMail :=
  if source = 1 then HostMail.reset
  else { m with notices := [], lostCnt := satAdd m.lostCnt m.notices.length, lostSince := m.lostSince + m.notices.length }

/-- A network after a pumphouse reset: its links stay up through a warm reset (R280, R327). -/
def Net.resetBy (t : Net) (source : Nat) : Net := if warmSource source then { Net.reset with links := t.links, gig := t.gig } else Net.reset

/-- The Warden log after a pumphouse reset: its slots, head word and dumps stand in MRAM; its counters are cleared at a power-on. Its own records that
were not yet written are lost, but for those of breach dumps, which follow in every case (R368). DESIGN CHOICE: a unit record that one lane has delivered
is still known after the reset, so that the second delivery writes it (R364; log entry 130). -/
def Warden.resetBy (w : Warden) (source : Nat) : Warden :=
  let w := { w with ready := false, own := w.own.filter (fun r => r.code == 0x0F02) }
  if source = 1 then { w with lostCnt := 0, crcErr := 0, skipCnt := 0 } else w

/-- The update session after a pumphouse reset (R354, Table 14-12): the lock released, the registers at their reset values; what is on trial or
fell back stays, with the count of fallbacks. -/
def Update.resetBy (u : Update) : Update :=
  { Update.reset with staged := u.staged, staging := u.staging, activation := u.activation, fallbacks := u.fallbacks, fellBack := u.fellBack, trialRun := u.trialRun }

/-- The requests that a pumphouse reset takes from the pumphouse: those still under check. Agreed ones go on, under keys past those of the mailboxes,
without an acknowledge of their own (R120, R300). -/
def UnitState.dropRequests (u : UnitState) : UnitState :=
  { u with reqs := (u.reqs.filter (fun q => (q.2.map (·.settled)).getD false)).map (fun q => (q.1 + 8, q.2)),
           pend := u.pend.map (fun p => if p.mailbox < 4 then { p with mailbox := 5 } else p), swap := { u.swap with mailbox := none } }

/-- The change-log entries that wait, with the keys of the requests they belong to after a pumphouse reset. -/
def Config.rekey (c : Config) : Config := { c with logQueue := c.logQueue.map (fun i => { i with mailbox := i.mailbox.map (· + 8) }) }

/-- A lane after a pumphouse reset: a power-on empties its mailboxes (R300); the queue from the pumphouse is learned anew at its re-handshake
(R317). -/
def Lane.phReset (l : Lane) (power : Bool) : Lane :=
  { l with mb := if power then { l.mb with l2p := [], p2l := [] } else l.mb, rc := { l.rc with rxPh := l.rc.rxPh.stale } }

/-- The reset of the pumphouse from a source of Table 13-3, its front lamps before it given. The basin keeps its content but at a power-on (Table 13-6); the
lanes go on. -/
def State.resetPhFrom (s : State) (source : Nat) (lamps : Lamps) : State :=
  let power := source == 1
  { s with
      ph := s.ph.resetBy source lamps
      lanes := s.lanes.map (·.phReset power)
      basin := if power then [] else s.basin
      recv := if power then [] else s.recv
      bs := if power then BasinUnit.reset else s.bs
      locks := if power then Locks.reset else s.locks.dropMasters [4, 5, 6, 7] (s.opMicros 0)
      mail := s.mail.resetBy source
      rings := s.rings.resetBy source
      out := ⟨[], []⟩
      nets := s.nets.map (·.resetBy source)
      can := []
      wire := []
      xl := if warmSource source then { Cross.reset with link27 := s.xl.link27, link28 := s.xl.link28 } else Cross.reset
      ptp := Ptp.reset
      warden := s.warden.resetBy source
      upd := s.upd.resetBy
      unit := s.unit.dropRequests
      cfg := s.cfg.rekey }

/-- The reset of the pumphouse. -/
def State.resetPh (s : State) (source : Nat) : State := s.resetPhFrom source s.lamps

/-! ## The unit -/

/-- The acknowledge WITHDRAWN of a request whose message still waits (Table 5-5). -/
def State.ackWithdrawn (s : State) (mb : Nat) : State := if mb < 4 && (s.outBox mb).state == .full then s.ackOut mb 0x050F else s

/-- The requests still pending at a unit start (R121): discarded, each with a change-log entry WITHDRAWN, and acknowledged where its message
still waits. A swap and a software reset are among them. What was agreed and not yet entered in the change log is entered as WITHDRAWN, and what was still under
check is acknowledged so too. -/
def State.withdrawPending (s : State) : State :=
  let s := s.unit.pend.foldl (fun s p => (s.pushPlain 0x23 (reqOperator p.bytes) p.apply 0x050F none).ackWithdrawn p.mailbox) s
  let s := s.unit.reqs.foldl (fun s q => s.ackWithdrawn q.1) s
  let queue := s.cfg.logQueue.map (fun i =>
    if i.mailbox.isSome && i.code = 0 then { i with kind := 0x23, code := 0x050F, after := i.before, mailbox := none } else { i with mailbox := none })
  { s with unit := { s.unit with pend := [], reqs := [] }, cfg := { s.cfg with logQueue := queue } }

/-- A lane that a unit start finds STOPPED or FAILED is neither any more (R136, R153). -/
def Lane.startsAnew (l : Lane) : Lane :=
  if l.vt.state == .stopped || l.vt.state == .failed then { l with vt := { l.vt with state := .reset } } else l

/-- What a unit start leaves of what the lanes hold together; the lanes derive a new challenge (R341), an activation
that waited for the start waits no more (R356), and the run towards a commit of firmware begins anew (R359). -/
def State.freshUnit (s : State) (source : Nat) (started : Mask) : State :=
  let s := (s.withdrawPending.mapLanes (fun _ l => l.startsAnew)).newChallenge
  let was := s.unit.role
  let s := { s with unit := { UnitState.reset with startKind := source, started := started },
                    upd := { s.upd with activation := if s.upd.activation = 1 then 0 else s.upd.activation, trialRun := 0 } }
  if was == .starting then s else s.notice 1 [Role.starting.code, 0]

/-- A unit start from MAINT_RESET_N or a software reset (R321): every lane that has supply and the pumphouse are reset. -/
def State.unitStart (s : State) (source : Nat) : State :=
  let lamps := s.lamps
  let s := s.withdrawPending
  let s := LaneId.list.foldl (fun s x => if (s.lane x).rc.powered then s.resetOne x source else s) s
  (if s.ph.powered then s.resetPhFrom source lamps else s).freshUnit source (PerLane.all false)

end Sys2Proof.Machine
end

