-- ==== Sys2Proof/Machine/Reset.lean ====
section
/-! DEFINITION. The commands of power, clocks, reset and self-test (chapter 13). -/

namespace Sys2Proof.Machine

/-! ## Reset sources (R312, R313, R321, R326, R339, R356) -/

/-- LANE_BROWN_OUT (R312, R313): a lane power-on reset; the pumphouse counts and records it while its own rail is up. -/
def execLaneBrownOut (x : LaneId) (s : State) : Out :=
  if !(s.lane x).rc.powered then .next s
  else
    let s := (s.resetLane x 1).modLane x (fun l => { l with rc := { l.rc with powered := false } })
    .next (if s.ph.powered then
        { s with ph := { s.ph with brownOuts := s.ph.brownOuts.modify x sat } }.logPh 0x0D01 3 [x.idx]
      else s)

/-- PUMPHOUSE_BROWN_OUT (R312): a pumphouse power-on reset; the lanes are not affected (R326). -/
def execPumphouseBrownOut (s : State) : Out :=
  if !s.ph.powered then .next s
  else
    let s := s.resetPh 1
    .next { s with ph := { s.ph with powered := false } }

/-- The mailboxes of a pumphouse that has been without supply are empty at its power-on (R300). -/
def State.emptyMail (s : State) : State :=
  { s.mapLanes (fun _ l => { l with mb := { l.mb with l2p := [], p2l := [] } }) with mail := HostMail.reset }

/-- SUPPLY_START (R312, R313): a converter, or the diode-OR rail, starts; the pumphouse counts a power cycle, and its power-on reset. -/
def execSupplyStart (p : Part) (s : State) : Out :=
  match p with
  | .lane x => .next (s.modLane x (fun l => { l with rc := { l.rc with powered := true } }))
  | .pumphouse =>
    if s.ph.powered then .next s
    else .next { s.emptyMail with ph := { s.ph with powered := true, resetCnt := Assoc.upd 0 s.ph.resetCnt 1 sat },
                                  cfg := { s.cfg with powerCycles := sat s.cfg.powerCycles } }

/-- MAINT_RESET (R321): MAINT_RESET_N held low for at least 10 ms. -/
def execMaintReset (s : State) : Out := .next (s.unitStart 2)

/-- LANE_WATCHDOG (R326): the watchdog, running from the release of D3, expires and resets the lane. -/
def execLaneWatchdog (x : LaneId) (s : State) : Out :=
  if (s.lane x).rc.powered && (s.lane x).rc.released.getLsbD 3 then .next (s.resetLane x 3) else .next s

/-- PUMPHOUSE_WATCHDOG (R326, R359): a core has not serviced the watchdog for 200 ms; the count towards a commit begins anew. -/
def execPumphouseWatchdog (core : Fin 4) (s : State) : Out :=
  if s.ph.powered && bit s.ph.cores core.val then
    let s := s.resetPh 3
    .next { s with upd := { s.upd with trialRun := 0 } }
  else .next s

/-- SOFTWARE_RESET_EXECUTE (R339): the unit restarts at the boundary of the apply cycle, or 100 ms after the acknowledge while no cycle
runs; the request is carried out with it, and withdrawn no more (R121). -/
def execSoftwareResetExecute (s : State) : Out :=
  match s.unit.resetAt with
  | some (kind, apply) =>
    if apply ≤ s.cycle || !s.cyclesRun then
      .next ({ s with unit := { s.unit with resetAt := none, pend := s.unit.pend.filter (fun p => p.format != 0x13) } }.unitStart (if kind = 2 then 6 else 5))
    else .next s
  | none => .next s

/-- ACTIVATION_RESTART (R356): a software warm reset 100 ms after the acknowledge of an activation. -/
def execActivationRestart (s : State) : Out := .next (if s.unit.activateAt.isSome then s.unitStart 5 else s)

/-! ## Clocks and self-test (R320, R329 to R334) -/

/-- A lane's clock monitor has judged the clock of domain `k` (R320): its gate opens where the clock meets the conditions; where it does not, the domain
stays in reset and RC_STATUS.FAIL reads 0x1, until the clock of every domain found so has been judged good (log entry 108). -/
def ResetUnit.clockJudged (r : ResetUnit) (k : Nat) (met : Bool) : ResetUnit :=
  if met then
    let bad := putBit r.clkBad k false
    { r with pll := true, gates := putBit r.gates k true, clkBad := bad, fail := if r.fail = 1 && bad == 0 then 0 else r.fail }
  else if r.gates.getLsbD k then r
  else { r with clkBad := putBit r.clkBad k true, fail := if r.fail = 0 then 1 else r.fail }

/-- CLOCK_GATE_OPEN (R320): the PLL has locked and 4,096 cycles of a domain's clock lay within tolerance (`met`), or its clock is found never to meet
this. -/
def execClockGateOpen (p : Part) (domain : Fin 8) (met : Bool) (s : State) : Out :=
  match p with
  | .lane x =>
    let s := s.pendingReset x
    if !(s.lane x).rc.powered then .next s
    else .next (s.modLane x (fun l => { l with rc := l.rc.clockJudged domain.val met }))
  | .pumphouse => .next (if s.ph.powered && met then { s with ph := { s.ph with gates := putBit s.ph.gates domain.val true } } else s)

/-- BI_STATUS (Table 13-14) in a life-cycle state. -/
def SelfTest.statusReg (b : SelfTest) (life : Nat) : Nat :=
  fld b.logic 30 2 + fld b.memory 28 2 + fld b.slices 26 2 + flag b.exhausted 25 + flag b.vcoreOk 24 + flag b.clkOk 23 +
    flag (decide (life ≤ 1)) 22

/-- A failed or not tested BIST, or a failed slice, at a unit start or a power-on: RC_STATUS.FAIL 0x7 and a BIST_FAILED record (R332). -/
def Lane.bistFailed (l : Lane) (x : LaneId) : Lane :=
  { l with rc := { l.rc with fail := 7 } }.log x 0x0D02 3 [l.bi.statusReg l.ls.life, l.bi.sliceFail]

/-- The limits of R331: 0.8075 V to 0.8925 V and 99 MHz to 101 MHz. -/
def bistVoltageOk (mv : Nat) : Bool := decide (808 ≤ mv) && decide (mv ≤ 892)
def bistClockOk (khz : Nat) : Bool := decide (99000 ≤ khz) && decide (khz ≤ 101000)

/-- BI_LAST's occasion (Table 13-13) of a lane's tests. -/
def Lane.occasion (l : Lane) : Nat := if l.vt.state == .rotationTest then 7 else if l.vt.state == .loading then 8 else l.rc.source

/-- What a BIST measured throughout its run entered into the self-test (R331); BI_CLK shows the lowest clock (log entry 108). -/
def SelfTest.measured (b : SelfTest) (r : BistReading) (occasion cycle : Nat) : SelfTest :=
  { b with vcore := r.mvLow.toNat, clk := r.khzLow.toNat, vcoreOk := bistVoltageOk r.mvLow.toNat && bistVoltageOk r.mvHigh.toNat,
           clkOk := bistClockOk r.khzLow.toNat && bistClockOk r.khzHigh.toNat, occasion := occasion, lastCycle := cycle }

/-- A lane's outcome after a BIST: a leaving lane judges it at the end of its tests (R157). -/
def Lane.judged (l : Lane) (x : LaneId) (result : Nat) : Lane :=
  if result = 1 || l.vt.state == .rotationTest then l else l.bistFailed x

/-- LOGIC_BIST (R329, R331, R332): the signature is compared with the value in the lane's OTP; outside the limits the result is not tested. -/
def execLogicBist (x : LaneId) (signature : BitVec 64) (reading : BistReading) (s : State) : Out :=
  let s := s.pendingReset x
  let l := s.lane x
  if !l.rc.powered || !l.rc.bist || !l.rc.released.getLsbD 0 || l.bi.logic ≠ 0 then .next s
  else
    let b := l.bi.measured reading l.occasion l.rc.causeCycle
    let result := if !(b.vcoreOk && b.clkOk) then 3 else if signature = l.ls.otpSig then 1 else 2
    .next (s.modLane x (fun l => { l with bi := { b with logic := result } }.judged x result))

/-- The rows that the factory repair and those found failing besides take of each macro's berm rows, and the macro left with the fewest (R330). -/
def SelfTest.repaired (b : SelfTest) (factory failing : List (Nat × Nat)) : SelfTest :=
  let fixed := factory.eraseDups
  let found := failing.eraseDups.filter (fun p => !fixed.contains p)
  let rows := fun (k : Nat) => ((fixed ++ found).filter (fun p => p.1 == k)).length
  let worst := (List.range 96).foldl (fun w k => if rows w < rows k then k else w) 0
  { b with exhausted := decide (20 < rows worst), factory := fixed.length, soft := found.length, bermMacro := worst, bermFree := 20 - rows worst }

/-- MEMORY_BIST (R330 to R332): the factory repair is applied again, and every further row found failing is repaired with a berm row of its macro;
more of them than berm rows exhaust the repair. Outside the limits no test runs, and no map is made. -/
def execMemoryBist (x : LaneId) (failing : List (Nat × Nat)) (reading : BistReading) (s : State) : Out :=
  let s := s.pendingReset x
  let l := s.lane x
  if !l.rc.powered || !l.rc.bist || !l.rc.released.getLsbD 1 || l.bi.memory ≠ 0 then .next s
  else
    let b := l.bi.measured reading l.occasion l.rc.causeCycle
    let ran := b.vcoreOk && b.clkOk
    let b := if ran then b.repaired l.ls.otpRows failing else b
    let result := if !ran then 3 else if b.exhausted then 2 else 1
    .next (s.modLane x (fun l => { l with bi := { b with memory := result } }.judged x result))

/-- Whether every item of Table 13-9 has had its slice: 175 of them. -/
def SelfTest.allRun (b : SelfTest) : Bool :=
  [SliceClass.link, .input, .readback, .element, .groupElement].all (fun c => (List.range c.items).all (fun i => b.done.contains (c.code, i)))

/-- One slice's result entered (Table 13-9, R333, R334): `closing` where the slice was to test the closing of a switch element and may not. -/
def SelfTest.slice (b : SelfTest) (cls item : Nat) (passed closing : Bool) : SelfTest :=
  let b := { b with done := (cls, item) :: b.done }
  let b := if passed then (if closing then { b with notTested := b.notTested + 1 } else { b with passed := b.passed + 1 })
    else { b with failed := b.failed + 1, sliceFail := if b.failed = 0 then fld cls 28 4 + fld item 0 8 else b.sliceFail }
  { b with slices := if b.failed ≠ 0 then 2 else if b.allRun then 1 else b.slices }

/-- Whether lane `x` may close a switch element in a slice (R334): only at its unit start, an output's element while every group switch is held open by
all lanes, a group's element while every output network of the group is open. -/
def State.mayClose (s : State) (x : LaneId) (cls : SliceClass) (item : Nat) : Bool :=
  (s.lane x).vt.state == .reset && s.unit.started.get x && !s.unit.restarted &&
    (match cls with
    | .groupElement => LaneId.list.all (fun y => (List.range 32).all (fun k => groupOf k != item / 2 || !onBit (s.lane y).io.toggle k))
    | _ => LaneId.list.all (fun y => (s.lane y).io.groupDrive == 0))

/-- Whether a lane runs slices now (R333): between its D7 release and its first cycle, in its loading phase, or after the BIST of its rotation. -/
def Lane.runsSlices (l : Lane) : Bool :=
  l.rc.released.getLsbD 7 &&
    (match l.vt.state with
    | .reset | .stopped | .failed | .loading => true
    | .rotationTest => l.bi.logic != 0 && l.bi.memory != 0
    | _ => false)

/-- TEST_SLICE (R333, R334): the slice of an item that a lane has not run yet. A failed one has the effect of a failed BIST at a unit start, and puts the
lane into FAILED in a resync. -/
def execTestSlice (x : LaneId) (cls : SliceClass) (item : BitVec 8) (passed : Bool) (s : State) : Out :=
  let s := s.pendingReset x
  let l := s.lane x
  let st := l.vt.state
  if !l.runsSlices || cls.items ≤ item.toNat || l.bi.done.contains (cls.code, item.toNat) then .next s
  else
    let closing := (cls == .element || cls == .groupElement) && !s.mayClose x cls item.toNat
    let b := l.bi.slice cls.code item.toNat passed closing
    let b := if st == .loading then { b with occasion := 8, lastCycle := cyc28 s.cycle } else b
    let first := !passed && l.bi.failed = 0
    let s := s.modLane x (fun l => { l with bi := b })
    if !first then .next s
    else match st with
      | .reset | .stopped | .failed => .next (s.modLane x (·.bistFailed x))
      | .loading =>
        .next ((s.modLane x (fun l => { l with vt := { l.vt.clearAttempt with state := .failed, rotLast := if s.unit.rot.leaving = some x then 5
          else l.vt.rotLast } }.log x 0x0604 3 [l.vt.abort])).endRotation x)
      | _ => .next s

/-! ## Options (R324, R325, R158) -/

/-- Whether a copy of the option record can be used by block `block` of a part with or without the grade fuse: its CRC is correct, and its format, grade and
block are what Table 13-7 says they must be. DESIGN CHOICE: a copy that disagrees with the fuse or the lane code is taken as a bad one; the spec does
not say (log entry 114). -/
def recordOk (block : Nat) (gradeL : Bool) (c : List Byte) : Bool :=
  decide (c.length = 256) && decide (ieeeCrc (c.take 252) = getBE c 252 4) && decide (getBE c 0 2 = 1) && decide (getByte c 3 = block) &&
    (if gradeL then getByte c 2 == 0x4C else getByte c 2 == 0x54 || getByte c 2 == 0x45)

/-- The 16 strap readings agree (R324). -/
def strapsStable (r : List StrapReading) : Bool := decide (r.length = 16) && r.all (fun a => r.head? == some a)

/-- The options of a lane from its straps and an option record; the mode is read anew at a unit start or power-on, else kept (R158, Table
13-4). -/
def Lane.newOptions (l : Lane) (t : StrapReading) (rec : List Byte) (copyB : Bool) : Options :=
  let permitted := l.ls.life == 2 || l.ls.life == 4
  { unitId := t.unitId.toNat, pairPos := t.pairPos, optSplit := t.optSplit,
    voting := if startSource l.rc.source then !(t.optSplit && permitted) else l.rc.opts.voting,
    grade := getByte rec 2, copyB := copyB, serial := slice rec 4 16 }

/-- The option loader of a lane (R324): unequal straps restart it; straps still unequal after 64 restarts, a UNIT_ID of 0 or 255 and two bad copies keep
D3 from its release. -/
def Lane.loadOptions (l : Lane) (x : LaneId) (gradeL : Bool) (straps : List StrapReading) (copyA copyB : List Byte) : Lane :=
  if !strapsStable straps then
    if 64 ≤ l.rc.optRestarts then { l with rc := { l.rc with fail := 3, optPhase := false } }
    else { l with rc := { l.rc with optRestarts := l.rc.optRestarts + 1 } }
  else match straps with
    | [] => l
    | t :: _ =>
      let a := recordOk x.num gradeL copyA
      let fail := if t.unitId = 0#8 ∨ t.unitId = 255#8 then 4 else if !a && !recordOk x.num gradeL copyB then 2 else 0
      let o := l.newOptions t (if a then copyA else copyB) (!a)
      let l := if startSource l.rc.source && t.optSplit && o.voting then l.log x 0x0605 2 [l.ls.life] else l
      if fail ≠ 0 then { l with rc := { l.rc with fail := fail, optPhase := false } }
      else { l with rc := { l.rc with opts := o, optPhase := false, optDone := true } }

/-- What the pumphouse latches (R324): the straps, and of its record the grade and the serial number, none of them where it takes its factory defaults, of
which the spec gives no value. -/
def phOptions (t : StrapReading) (rec : List Byte) (copyB : Bool) : Options :=
  { Options.reset with unitId := t.unitId.toNat, pairPos := t.pairPos, optSplit := t.optSplit, grade := getByte rec 2, copyB := copyB,
                       serial := slice rec 4 16 }

/-- OPTION_LOADING (R324): the option loader of a lane or of the pumphouse runs after the release of its domain 2; the pumphouse takes its
factory defaults where both copies are bad. -/
def execOptionLoading (p : Part) (straps : List StrapReading) (copyA copyB : List Byte) (s : State) : Out :=
  match p with
  | .lane x =>
    let s := s.pendingReset x
    let l := s.lane x
    if !l.rc.powered || !l.rc.released.getLsbD 2 || l.rc.optDone || l.rc.fail = 3 then .next s
    else .next (s.modLane x (fun l => l.loadOptions x s.cfg.gradeL straps copyA copyB))
  | .pumphouse =>
    match strapsStable straps, straps with
    | true, t :: _ =>
      if !s.ph.powered || !s.ph.released.getLsbD 2 || s.ph.optDone then .next s
      else
        let a := recordOk 4 s.cfg.gradeL copyA
        let b := recordOk 4 s.cfg.gradeL copyB
        let o := phOptions t (if a then copyA else if b then copyB else []) (!a && b)
        .next { s with ph := { s.ph with optDone := true, optDefault := !a && !b, opts := o } }
    | _, _ => .next s

/-- What the lanes compare of their options (R325). -/
def Options.shared (o : Options) : Nat × Bool × Bool × Bool × Nat := (o.unitId, o.pairPos, o.optSplit, o.voting, o.grade)

/-- Whether a lane's links have started and its options are known. -/
def Lane.linked (l : Lane) : Bool := l.rc.powered && l.rc.released.getLsbD 6 && l.rc.optDone

/-- Whether lane `x` differs from both other lanes in its latched options, or in its life-cycle state (R325, R336). -/
def State.oddLane (s : State) (x : LaneId) : Bool :=
  x.peers.all (fun y => (s.lane y).linked) &&
    (x.peers.all (fun y => decide ((s.lane y).rc.opts.shared ≠ (s.lane x).rc.opts.shared)) ||
      x.peers.all (fun y => decide ((s.lane y).ls.life ≠ (s.lane x).ls.life)))

/-- RC_STATUS.FAIL after an exchange of options: 0x5 as long as it finds the lane to differ from both others. -/
def ResetUnit.exchanged (r : ResetUnit) (odd : Bool) : ResetUnit :=
  { r with fail := if odd && r.fail = 0 then 5 else if !odd && r.fail = 5 then 0 else r.fail }

/-- OPTION_EXCHANGE (R325, R336, R139): a lane whose links have started has the delays of the links and its peers' options, and they have its own; each of
them whose options or life-cycle state differ from those of both others does not join. -/
def execOptionExchange (x : LaneId) (delays : PerLane (BitVec 32)) (s : State) : Out :=
  if !(s.lane x).linked then .next s
  else
    let peers := x.peers.filter (fun y => (s.lane y).linked)
    let s := s.modLane x (fun l =>
      { l with td := peers.foldl (fun t y => { t with linkDelay := t.linkDelay.set y (some (delays.get y).toNat) }) l.td })
    let s := s.mapLanes (fun y l => if l.linked then { l with rc := l.rc.exchanged (s.oddLane y) } else l)
    .next { s with unit := { s.unit with options := s.unit.options.set x (some (s.lane x).rc.opts) } }

/-! ## Release (R323, R300, R319) -/

/-- The firmware marked for the next start becomes the running one, on trial (R356). -/
def Firmware.startNext (f : Firmware) : Firmware :=
  match f.marked with
  | none => f
  | some b =>
    let f := { f with active := b, marked := none, resets := 0 }
    if f.run.mark == .verified then f.setRun { f.run with mark := .trial } else f

/-- Whether the firmware of the active slot may run (R352, R358, R359): committed or on trial, not below the OTP counter, read and checked. -/
def Firmware.mayRun (f : Firmware) (ok : Bool) : Bool := ok && (f.run.mark == .committed || f.run.mark == .trial) && decide (f.otp ≤ f.run.step)

/-- A newly activated firmware is on trial (R357, UP_STATUS). -/
def Update.newTrial (u : Update) (old new : Firmware) : Update := if new.onTrial && old.marked.isSome then { u with activation := 2, trialRun := 0 } else u

/-- A mailbox that its receiver, restarted, acknowledges without acting on it (R300); `read` where the sender reads the acknowledge at once. -/
def Mailbox.restarted (read : Bool) (b : Mailbox) : Mailbox :=
  if b.state == .full then { b with state := if read then .empty else .acked, code := 0x0C05 } else b

/-- A mailbox whose sender, restarted, reads an acknowledge that waits (R300). -/
def Mailbox.readAck (b : Mailbox) : Mailbox := if b.state == .acked then { b with state := .empty } else b

/-- The mailboxes of a lane after its release (R300). -/
def LaneMail.restart (m : LaneMail) (phUp : Bool) : LaneMail :=
  let full := (m.p2l.filter (fun p => p.2.state == .full)).length
  { m with p2l := Assoc.mapVal Mailbox.reset (Mailbox.restarted phUp) m.p2l, l2p := Assoc.mapVal Mailbox.reset Mailbox.readAck m.l2p,
           restarts := satAdd m.restarts full }

/-- A lane whose D7 is released while two others are in service joins through resync from its loading phase (R321); the limit of R153 counts
from here unless its reset began with a withdrawal. -/
def Lane.beginResync (l : Lane) (ms : Nat) : Lane :=
  if l.vt.state ≠ .reset || l.rc.fail ≠ 0 then l
  else
    let v := { l.vt.clearAttempt with state := .loading }
    { l with bi := l.bi.newSlices, vt := if l.rc.source = 4 then v else { v with attempt := 1, abortRun := 0, startMs := ms, afterUnit := false } }

/-- Whether the domain before one of a lane has reported ready (Table 13-5). -/
def Lane.domainReady (l : Lane) (k : Nat) : Bool :=
  (k == 0 || l.rc.released.getLsbD (k - 1)) &&
    (match k with
    | 1 => !l.rc.bist || l.bi.logic != 0
    | 2 => !l.rc.bist || l.bi.memory != 0
    | 3 => l.rc.optDone
    | 4 => l.rc.fwOk
    | _ => true)

/-- Whether the three lanes make a unit start of their power-on resets (R110, R321): each has left one, and the release of its D6 came within 5 s of
the first. -/
def State.poweredTogether (s : State) : Bool :=
  let at_ := fun (y : LaneId) => (s.lane y).rc.linksAt
  LaneId.list.all (fun y =>
    let l := s.lane y
    l.linksUp && l.rc.source == 1 && !l.evaluates && !(l.vt.state == .loading || l.vt.state == .joining || l.keepsArrivals)) &&
    LaneId.list.all (fun y => LaneId.list.all (fun z => decide (at_ y ≤ at_ z + 5000)))

/-- The slot marked for the next start becomes the active one (R356). -/
def Lane.startSlot (l : Lane) : Lane := { l with ls := { l.ls with active := l.ls.marked.getD l.ls.active, marked := none } }

/-- What the release of a domain of a lane brings with it. At D3 the sequencer's firmware is read from the active slot and checked, `ok`; firmware that is
not accepted never reports ready (R323, R352). One that begins its trial migrates the lane's settings (R357), and a start takes the image slot marked for it
(R356). A blown RETIRED fuse keeps the lane in RETIRED (R342). -/
def State.laneRelease (s : State) (x : LaneId) (k : Nat) (ok : Bool) : State :=
  let l := s.lane x
  let s := s.modLane x (fun l => { l with rc := { l.rc with released := putBit l.rc.released k true } })
  match k with
  | 2 => s.modLane x (fun l => { l with rc := { l.rc with optPhase := true } })
  | 3 =>
    let fw := l.ls.fw.startNext
    let runs := fw.mayRun ok
    let s := s.modLane x (fun l =>
      let l := { l with ls := { l.ls with fw := fw }, rc := { l.rc with wdogTimeout := 1000, wdogLeft := 1000, fwOk := runs, fail := if runs then l.rc.fail else 6 } }
      if startSource l.rc.source then l.startSlot else l)
    let s := s.areaWrite x (fun q => { q with fw := if runs && l.ls.fw.marked.isSome && fw.onTrial then q.fw.migrate else q.fw,
                                              life := if s.cfg.retired then 5 else q.life })
    { s with upd := s.upd.newTrial l.ls.fw fw }
  | 4 => s.modLane x (fun l => { l with cv := l.cv.load none (!l.rc.opts.voting) })
  | 6 =>
    if !startSource l.rc.source then s
    else
      let s := s.modLane x (fun l => { l with rc := { l.rc with linksAt := s.cfg.opTime } })
      if s.poweredTogether then
        let t := s.freshUnit 1 (PerLane.all true)
        { t with unit := { t.unit with options := s.unit.options } }
      else if !unitSource l.rc.source then s
      else { s with unit := { s.unit with started := s.unit.started.set x true } }
  | 7 =>
    let phUp := s.coresRun
    let time := Config.measured s.fresh 6 % 2 ^ 32
    let s := { s.modLane x (fun l => { l with rc := { l.rc with sluice := .handshake, releaseTime := time }, mb := l.mb.restart phUp }) with
                 fresh := s.fresh + 1 }
    if (s.donors x).isSome then s.modLane x (fun l => l.beginResync s.tideMs) else s
  | _ => s

/-- The Warden log as a pumphouse start finds it (R362): the head word, advanced over a record that stands complete beyond it, and a
LOG_RESUMED record. -/
def State.resumeLog (s : State) : State :=
  let w := s.warden
  let next := match w.headWord with
    | some h => (h + 1) % 2 ^ 32
    | none => 0
  let slot := Assoc.get [] w.slots (next % 131072)
  let whole := decide (slot.length = 64) && decide (getBE slot 0 4 = next) && decide (ieeeCrc (slot.take 60) = getBE slot 60 4)
  let head := if whole then some next else w.headWord
  let found := w.headWord.getD max32
  { s with warden := { w with headWord := head, head := head, ready := true } }.logPh 0x0F03 0 [found, b2n whole]

/-- The pumphouse's part of R300 after its release: FULL messages to it are acknowledged with RECEIVER_RESTARTED, acknowledges that wait for it
are read. -/
def State.restartMail (s : State) : State :=
  let s := s.mapLanes (fun _ l =>
    { l with mb := { l.mb with l2p := Assoc.mapVal Mailbox.reset (Mailbox.restarted (l.rc.released.getLsbD 7)) l.mb.l2p,
                               p2l := Assoc.mapVal Mailbox.reset Mailbox.readAck l.mb.p2l } })
  { s with mail := { s.mail with out := Assoc.mapVal Mailbox.reset (Mailbox.restarted false) s.mail.out,
                                 inn := Assoc.mapVal Mailbox.reset Mailbox.readAck s.mail.inn } }

/-- The SFPs read at P4 release (R393). -/
def State.readSfps (s : State) (sfps : List (Nat × BitVec 8 × BitVec 32)) : State := { s with ph := { s.ph with sfps := sfps } }.judgeSfps

/-- UNIT_OK once the firmware of the pumphouse runs: closed in a unit that is watcher or sleeper with two lanes in service (R137, R390). -/
def State.settleContact (s : State) : State :=
  if (s.leads || s.sleeps) && 2 ≤ s.serviceLanes.length then { s with ph := s.ph.closeContact } else s

/-- The ports configured at P4: the bridges forward (R280), the CAN ports start at their rates (R283), a wire link's receiver reads an idle or open
line as mark (R288), the PTP port listens where the maintenance network has an address (R291). DESIGN CHOICE: Table 11-2 gives a gratuitous ARP at link-up
and after an address change; a pumphouse start sends one on each network too, its links being up or not (log entry 128). -/
def State.startPorts (s : State) : State :=
  let s := [NetId.a, NetId.b, NetId.maint].foldl (fun s n => (s.modNet n (fun t => { t with forwarding := true })).gratuitous n) s
  let s := (List.range 6).foldl (fun s p => s.modCan p (fun c => c.start (s.canCodes p))) s
  let s := (List.range 2).foldl (fun s l => s.modLink l (fun w => { w with idle := true })) s
  { s with ptp := { s.ptp with state := if s.netIp .maint = 0 then 0 else 1 } }

/-- Whether the domain before one of the pumphouse has reported ready (Table 13-6). -/
def State.phDomainReady (s : State) (k : Nat) : Bool :=
  decide (k < 7) && (k == 0 || s.ph.released.getLsbD (k - 1)) && (k != 3 || s.ph.optDone) && (k != 4 || s.ph.fwOk)

/-- What the release of a domain of the pumphouse brings with it. At P3 the firmware is read from the active slot and checked, `ok`; what is not accepted
never reports ready (R323, R352). -/
def State.phRelease (s : State) (k : Nat) (sfps : List (Nat × BitVec 8 × BitVec 32)) (ok : Bool) : State :=
  let fw := s.ph.fw
  let s := { s with ph := { s.ph with released := putBit s.ph.released k true } }
  match k with
  | 1 => { s with bs := { s.bs with initDone := true, scrub := true } }
  | 3 =>
    let next := fw.startNext
    let runs := next.mayRun ok
    let trial := runs && fw.marked.isSome && next.onTrial
    let s := { s with ph := { s.ph with fw := if trial then next.migrate else next, cores := 15, wdogTimeout := 200, wdogCores := 15, fwOk := runs,
                                        lampsHeld := s.ph.lampsHeld && !runs },
                      upd := s.upd.newTrial fw next }
    if runs then (if trial then s.migrate else s).restartMail.settleRest.resumeLog.settleContact else s
  | 4 => (s.startPorts).readSfps sfps
  | 5 => s.openRings
  | 6 => { s with ph := { s.ph with sluice := .handshake } }
  | _ => s

/-- DOMAIN_RELEASE (R319, R321, R323, R300, R352): the next domain of a lane or of the pumphouse is released once the one before it is ready and
its clock gate is open. -/
def execDomainRelease (p : Part) (domain : Fin 8) (sfps : List (Nat × BitVec 8 × BitVec 32)) (firmwareOk : Bool) (s : State) : Out :=
  let k := domain.val
  match p with
  | .lane x =>
    let s := s.pendingReset x
    let l := s.lane x
    if !l.rc.powered || l.rc.released.getLsbD k || !l.rc.gates.getLsbD k || !l.domainReady k then .next s
    else .next (s.laneRelease x k firmwareOk)
  | .pumphouse =>
    if !s.ph.powered || s.ph.released.getLsbD k || !s.ph.gates.getLsbD k || !s.phDomainReady k then .next s
    else .next (s.phRelease k sfps firmwareOk)

/-! ## Queues and sluices (R317, R319) -/

/-- The generation of the queue that a lane writes to the pumphouse, to a peer, and of the one the pumphouse writes to a lane. -/
def ResetUnit.genPh (r : ResetUnit) : Nat := (r.gen + r.startPh) % 4
def ResetUnit.genLane (r : ResetUnit) (y : LaneId) : Nat := (r.gen + r.startLane.get y) % 4
def Pumphouse.genLane (p : Pumphouse) (x : LaneId) : Nat := (p.gen + p.startLane.get x) % 4

/-- What a read side knows of a queue from a start word, whose TAG is 0, and of one that begins anew with its next word (R317, R319). -/
def QueueRx.started (gen : Nat) : QueueRx := { live := true, gen := gen, tag := some 0, part := [] }
def QueueRx.learned (gen : Nat) : QueueRx := { live := true, gen := gen, tag := none, part := [] }

/-- The sluice of lane `x` opens fully once the pumphouse and every peer whose endpoints are up have acknowledged (R319; log entry 53): each has written its
start word. -/
def State.settleSluice (s : State) (x : LaneId) : State :=
  let r := (s.lane x).rc
  let all := r.rxPh.live && x.peers.all (fun y => !(s.lane y).linksUp || (r.rxLane.get y).live)
  if r.sluice == .handshake && all then s.modLane x (fun l => { l with rc := { l.rc with sluice := .opened } }) else s

/-- A neighbour's start word towards a lane that has raised READY, and its ACK (R319, step 5). -/
def State.reopenLane (s : State) (x : LaneId) (neighbour : Part) : State :=
  match neighbour with
  | .pumphouse =>
    if (s.lane x).rc.sluice != .handshake || !s.ph.released.getLsbD 6 then s
    else
      let ph := { s.ph with startLane := s.ph.startLane.modify x (· + 1) }
      let s := s.modLane x (fun l => { l with rc := { l.rc with rxPh := QueueRx.started (ph.genLane x) } })
      { s with ph := { ph with rxLane := ph.rxLane.set x (QueueRx.learned (s.lane x).rc.genPh) } }.settleSluice x
  | .lane y =>
    if x = y || !(s.lane x).rc.released.getLsbD 6 || !(s.lane y).rc.released.getLsbD 6 then s
    else
      let mine := (s.lane x).rc.genLane y
      let s := s.modLane y (fun l => { l with rc := { l.rc with startLane := l.rc.startLane.modify x (· + 1), rxLane := l.rc.rxLane.set x (QueueRx.learned mine) } })
      (s.modLane x (fun l => { l with rc := { l.rc with rxLane := l.rc.rxLane.set y (QueueRx.started ((s.lane y).rc.genLane x)) } })).settleSluice x

/-- A lane's start word towards the pumphouse, and its ACK; with the last lane's the pumphouse's sluice opens. -/
def State.reopenPh (s : State) (x : LaneId) : State :=
  if s.ph.sluice == .closed || !(s.lane x).rc.released.getLsbD 7 then s
  else
    let s := s.modLane x (fun l => { l with rc := { l.rc with startPh := l.rc.startPh + 1, rxPh := QueueRx.learned (s.ph.genLane x) } })
    let rx := s.ph.rxLane.set x (QueueRx.started (s.lane x).rc.genPh)
    let all := LaneId.list.all (fun y => !(s.lane y).rc.released.getLsbD 7 || (rx.get y).live)
    { s with ph := { s.ph with rxLane := rx, sluice := if all then .opened else s.ph.sluice } }

/-- SLUICE_REOPEN (R319): a neighbour that sees READY writes a start word of a new generation and raises ACK. -/
def execSluiceReopen (p : Part) (neighbour : Part) (s : State) : Out :=
  match p, neighbour with
  | .lane x, n => .next (s.reopenLane x n)
  | .pumphouse, .lane x => .next (s.reopenPh x)
  | .pumphouse, .pumphouse => .next s

/-- Whether a read side accepts a word (R317). -/
def QueueRx.accepts (q : QueueRx) (w : QueueWord) : Bool :=
  let next := match q.tag with
    | some t => (t + 1) % 16
    | none => 0
  q.live && w.parityOk && decide (w.gen.val = q.gen) && decide (w.tag.val = next)

/-- A read side after a word it accepts: the word goes to the transfer in progress, which its last word ends. -/
def QueueRx.take (q : QueueRx) (w : QueueWord) : QueueRx := { q with tag := some w.tag.val, part := if w.last then [] else q.part ++ w.data }

/-- A transfer delivered with its last word. -/
def State.delivered (s : State) (writer reader : Part) (q : QueueRx) (w : QueueWord) : State :=
  if w.last then s.emit (.queue writer reader (q.part ++ w.data)) else s

/-- A lane's side of a queue word: its reset controller and whether it accepts it. While a sluice of its is closed the word is answered with
SLUICE_CLOSED and counted (R318). -/
def ResetUnit.word (r : ResetUnit) (opened : Bool) (q : QueueRx) (w : QueueWord) (keep : QueueRx → ResetUnit) : ResetUnit :=
  if !opened then { r with sluiceErr := sat r.sluiceErr }
  else if q.accepts w then keep (q.take w)
  else { keep q.drop with discards := sat r.discards }

/-- A queue word at the pumphouse. -/
def Pumphouse.word (p : Pumphouse) (x : LaneId) (w : QueueWord) : Pumphouse :=
  let q := p.rxLane.get x
  if p.sluice == .closed then { p with sluiceErr := sat p.sluiceErr }
  else if q.accepts w then { p with rxLane := p.rxLane.set x (q.take w) }
  else { p with rxLane := p.rxLane.set x q.drop, discards := sat p.discards }

/-- QUEUE_WORD_RECEIVE (R317, R318): the read side of a queue accepts a word of its generation with the next TAG and correct parity; every other word
is discarded and counted, and ends a transfer in progress; a word at a closed sluice is answered with SLUICE_CLOSED. -/
def execQueueWordReceive (writer reader : Part) (w : QueueWord) (s : State) : Out :=
  match writer, reader with
  | .lane x, .pumphouse =>
    let q := s.ph.rxLane.get x
    let t := { s with ph := s.ph.word x w }
    .next (if s.ph.sluice != .closed && q.accepts w then t.delivered writer reader q w else t)
  | .pumphouse, .lane x =>
    let r := (s.lane x).rc
    let up := r.sluice == .handshake || r.sluice == .opened
    let t := s.modLane x (fun l => { l with rc := l.rc.word up r.rxPh w (fun q => { l.rc with rxPh := q }) })
    .next (if up && r.rxPh.accepts w then t.delivered writer reader r.rxPh w else t)
  | .lane x, .lane y =>
    let r := (s.lane y).rc
    let q := r.rxLane.get x
    let up := r.released.getLsbD 6 && r.resetReq.isNone
    if x = y then .next s
    else
      let t := s.modLane y (fun l => { l with rc := l.rc.word up q w (fun q => { l.rc with rxLane := l.rc.rxLane.set x q }) })
      .next (if up && q.accepts w then t.delivered writer reader q w else t)
  | .pumphouse, .pumphouse => .next s

end Sys2Proof.Machine
end

