-- ==== Sys2Proof/Machine/WardenCore.lean ====
section
/-! DEFINITION. The Warden log as shared operations (R361 to R364): the bytes of a record, its slot, and breach dumps (R368 to R370). -/

namespace Sys2Proof.Machine

/-- The 64 bytes of a record (Table 15-1). -/
def recordBytes (seq opTime power utc : Nat) (r : Record) : List Byte :=
  let b := be 4 seq ++ be 2 r.code ++ be 1 r.source ++ be 1 r.severity ++ be 6 opTime ++ be 2 0 ++ be 4 power ++ be 4 r.cycle ++ be 4 utc ++
    padTo 32 (r.params.flatMap (be 4))
  b ++ be 4 (ieeeCrc b)

/-- The sequence number of the next record (R361): 0 for the first, then the next value modulo 2^32. -/
def Warden.nextSeq (w : Warden) : Nat :=
  match w.headWord with
  | none => 0
  | some h => (h + 1) % 2 ^ 32

/-- A record written into its slot with its CRC, then the head word, then WD_HEAD (R361, R362). -/
def State.writeRecord (s : State) (r : Record) : State :=
  let w := s.warden
  let n := w.nextSeq
  let bs := recordBytes n s.cfg.opTime s.cfg.powerCycles s.utc r
  s.mramWrite .pumphouse .wardenLog (fun s =>
    { s with warden := { w with slots := Assoc.put [] w.slots (n % 131072) bs, headWord := some n, head := some n,
                                severe := if 3 ≤ r.severity then n else w.severe,
                                lostCnt := if r.code = 0x0F01 then satAdd w.lostCnt (r.params.headD 0) else w.lostCnt } })

/-! ## Breach dumps -/

/-- The header of a dump (Table 15-3). -/
def dumpHeader (source state length power cycle cause version : Nat) (digest content : List Byte) : List Byte :=
  let h := be 4 0x42524348 ++ be 2 1 ++ be 1 source ++ be 1 state ++ be 4 length ++ be 4 power ++ be 8 cycle ++ be 2 cause ++ be 2 0 ++ be 4 version ++
    padTo 32 digest ++ be 4 (ieeeCrc content) ++ padTo 184 []
  h ++ be 4 (ieeeCrc h)

/-- The length of the dump of a lane and of the pumphouse (R370). -/
def dumpLength : Part → Nat
  | .lane _ => 819200
  | .pumphouse => 39424

/-- The index of a part's dump region (R371), and its source number (Table 15-1). -/
def dumpIndex : Part → Nat
  | .lane x => x.idx
  | .pumphouse => 3

end Sys2Proof.Machine
end

