-- ==== Sys2Proof/Machine/Warden.lean ====
section
/-! DEFINITION. The commands of the Warden log (chapter 15). -/

namespace Sys2Proof.Machine

/-! ## The Warden log (R361 to R364) -/

/-- The record by which a lane reports what it dropped (R364). -/
def lostRecord (x : LaneId) (l : Lane) : Record :=
  { code := 0x0F01, source := x.num, severity := 2, cycle := l.td.cycle % 2 ^ 32, params := [l.mb.dropped] }

/-- The lanes whose copy of a unit record is still to come are none: what is written is forgotten. -/
def Warden.pruneHalves (w : Warden) (service : Mask) : Warden :=
  { w with halves := w.halves.filter (fun h =>
      Mask.count h.2 < 2 || LaneId.list.any (fun x => service.get x && !h.2.get x)) }

/-- A unit record delivered by lane `x`: written when the second lane delivers it; any further copy is discarded (R364). -/
def State.unitRecord (s : State) (x : LaneId) (r : Record) : State :=
  let w := s.warden
  match w.halves.find? (fun h => h.1 == r && !h.2.get x) with
  | none => { s with warden := { w with halves := w.halves ++ [(r, (PerLane.all false).set x true)] } }
  | some h =>
    let m : Mask := h.2.set x true
    let halves := w.halves.map (fun k => if k == h then (r, m) else k)
    let s := { s with warden := ({ w with halves := halves } : Warden).pruneHalves s.serviceMask }
    if Mask.count m = 2 then s.writeRecord r else s

/-- Where lane `x` places a record for the pumphouse: the start of its own part of region 4. -/
def handAddr (x : LaneId) : Nat := 0x0A000000 + x.idx * 0x800000

/-- A record as a lane hands it over. DESIGN CHOICE: the spec lays out the written record only (Table 15-1), and leaves the use of the mailboxes to the
firmware; mailbox 0 carries records, with a tag that counts them (log entry 129). -/
def Record.handed (r : Record) : List Byte :=
  padTo 64 (be 2 r.code ++ be 1 r.source ++ be 1 r.severity ++ be 4 r.cycle ++ padTo 32 (r.params.flatMap (be 4)))

/-- What lane `x` delivers next (R364): RECORDS_LOST where it has dropped records, else the head of its queue. -/
def Lane.nextRecord (l : Lane) (x : LaneId) : Option Record := if 0 < l.mb.dropped then some (lostRecord x l) else l.mb.queue.head?

/-- Lane `x` rings mailbox 0 with a record in its part of region 4 (R296). -/
def State.handOver (s : State) (x : LaneId) (r : Record) : State :=
  (s.basinWrite x.num (handAddr x) r.handed).modLane x (fun l => { l with mb := { l.mb with
    l2p := Assoc.upd Mailbox.reset l.mb.l2p 0 (fun b =>
      { state := .full, addr := handAddr x, len := 64, tag := (b.tag + 1) % 65536, code := 0 }) } })

/-- The pumphouse accepts the record of lane `x`: it acknowledges the message, the lane reads the acknowledge, and the record leaves the lane (R297,
R364). -/
def LaneMail.accepted (m : LaneMail) : LaneMail :=
  { m with l2p := Assoc.upd Mailbox.reset m.l2p 0 (fun b => { b with state := .empty }),
           queue := if 0 < m.dropped then m.queue else m.queue.drop 1, dropped := 0 }

/-- Lane `x` delivers what is next in its queue (R364). A mailbox that still holds a message refuses the lane's write (R298); a pumphouse that does not
run leaves the message in the mailbox, and the lane holds the record. -/
def State.deliverLane (s : State) (x : LaneId) : State :=
  match (s.lane x).nextRecord x with
  | none => s
  | some r =>
    if !s.ph.powered then s
    else if (Assoc.get Mailbox.reset (s.lane x).mb.l2p 0).state ≠ .empty then
      (s.busError x.num).modLane x (fun l => { l with mb := { l.mb with busErr := sat l.mb.busErr } })
    else
      let s := s.handOver x r
      if !s.coresRun then s
      else
        let s := s.modLane x (fun l => { l with mb := l.mb.accepted })
        if r.source = 5 then s.unitRecord x r else s.writeRecord r

/-- The pumphouse writes the first of its own records. -/
def State.deliverPh (s : State) : State :=
  match s.warden.own with
  | [] => s
  | r :: rest => { s with warden := { s.warden with own := rest } }.writeRecord r

/-- WARDEN_RECORD_WRITE (R362, R364): the next record of a lane or of the pumphouse is written. A lane hands records over while its D7 is
released, the pumphouse writes while its P3 is. -/
def execWardenRecordWrite (src : Part) (s : State) : Out :=
  match src with
  | .lane x => if (s.lane x).rc.powered && (s.lane x).rc.released.getLsbD 7 then .next (s.deliverLane x) else .next s
  | .pumphouse => if s.coresRun then .next s.deliverPh else .next s

end Sys2Proof.Machine
end

