-- ==== Sys2Proof/Machine/RegsLane.lean ====
section
/-! DEFINITION. The registers of a lane's blocks as they are read (Tables 3-4, 4-5, 6-10, 7-12, 7-14, 12-10, 13-11, 13-13, 16-6, 16-7): views of
the state, by register offset. A reserved offset reads 0 (R373). -/

namespace Sys2Proof.Machine

/-- Entry `i` of a register array of `n` words from `base`, where the offset lies in it. -/
def arrayAt (base n off : Nat) : Option Nat := if base ≤ off ∧ off < base + 4 * n then some ((off - base) / 4) else none

/-- Word `i` of a digest or another byte string (bytes 4i to 4i + 3). -/
def wordOf (bs : List Byte) (i : Nat) : Nat := getBE bs (4 * i) 4

/-- The lane of index `i` of a register array by lane. -/
def laneOf (i : Nat) : LaneId := LaneId.ofIdx i

/-- The code of a mailbox state (Table 12-9). -/
def MbState.code : MbState → Nat
  | .empty => 0
  | .full => 1
  | .acked => 2

/-- The state register of a mailbox: tag and state. -/
def Mailbox.stateReg (b : Mailbox) : Nat := fld b.tag 16 16 + b.state.code

/-! ## LS_ (Table 16-6) -/

/-- Whether the sequencer of a lane runs: its D3 is released. -/
def Lane.seqRuns (l : Lane) : Bool := l.rc.released.getLsbD 3 && l.rc.fwOk

/-- LS_STATUS.STATE: not started, loading the image, running, fault. The check of the firmware ends with the release of D3. -/
def Lane.lsState (l : Lane) : Nat :=
  if !l.seqRuns then (if l.rc.released.getLsbD 2 && l.rc.optDone then 1 else 0)
  else if l.pe.state == .fault then 15
  else if l.ls.running then 3 else 2

/-- Bits 31:28 of LS_SLOT[s]: a slot marked empty that holds a refusal code shows refused (R53, Table 16-6; log entry 86). -/
def ImageSlot.stateCode (v : ImageSlot) : Nat :=
  match v.mark with
  | .empty => if v.code = 0 then 0 else 3
  | .verified => 1
  | .active => 2

/-- LS_SLOT[s]. -/
def ImageSlot.reg (v : ImageSlot) : Nat := fld v.stateCode 28 4 + fld v.code 0 16

/-- The issue of the image file in a slot. -/
def ImageSlot.issue (v : ImageSlot) : Nat := if v.mark = .empty then 0 else getBE v.file 20 4

/-- The LS_ block. -/
def Lane.regsLs (l : Lane) (off : Nat) : Nat :=
  if off = 0 then 0x0A000001
  else if !l.seqRuns then (if off = 4 then fld l.lsState 28 4 else 0)
  else match off with
    | 0x04 => fld l.lsState 28 4 + flag l.ls.fw.active 8 + flag l.ls.active 0
    | 0x08 => l.ls.fw.run.version
    | 0x0C => if l.image?.isSome then l.image.issue else 0
    | 0x50 => l.ls.slot0.reg
    | 0x54 => l.ls.slot1.reg
    | 0x58 => fld l.ls.slot1.issue 16 16 + fld l.ls.slot0.issue 0 16
    | _ => match arrayAt 0x10 16 off with
      | some n => if l.image?.isSome then wordOf l.image.digest n else 0
      | none => 0

/-! ## PE_ (Tables 3-4 to 3-7) -/

/-- PE_STATUS.STATE (Table 3-6). -/
def EngState.code : EngState → Nat
  | .idle => 0
  | .waiting => 1
  | .sweeping => 2
  | .barrier => 3
  | .complete => 4
  | .copying => 5
  | .fault => 15

/-- The PE_ block of a lane; `sleeper` where its unit is the sleeper. -/
def Lane.regsPe (l : Lane) (sleeper : Bool) (off : Nat) : Nat :=
  let e := l.pe
  let m := l.image
  let active := l.image?.isSome
  match off with
  | 0x00 => 0x03100001
  | 0x04 => (if l.indep then 16 else if sleeper && active then 32 else 0) + flag (l.ls.running && l.ls.active) 1 + flag e.sweepEn 0
  | 0x08 => flag e.sweepLate 10 + flag (e.timerCnt != 0) 9 + flag (e.rangeCnt != 0) 8 + e.state.code
  | 0x0C => fld m.levelCount 16 13 + fld e.level 0 12
  | 0x10 => if active then m.estimate else 0
  | 0x14 => if active then m.nominal else 0
  | 0x18 => l.td.shown.sweep
  | 0x1C => e.sweepMax
  | 0x20 => l.td.shown.stall
  | 0x24 => l.td.shown.cycle
  | 0x28 => e.rangeCnt
  | 0x2C => e.rangeTerm
  | 0x30 => e.timerCnt
  | 0x34 => e.eccCorr
  | 0x38 => e.faultReg
  | 0x3C => fld e.physPrev 4 2 + fld e.physCur 2 2 + fld e.physNext 0 2
  | _ => match arrayAt 0x40 16 off with
    | some n => Assoc.get 0 l.td.shown.busy n
    | none => 0

/-! ## CV_ (Tables 7-14, 7-15) -/

/-- CV_SLOT_CFG of slot `s` of lane `x`. -/
def CheckUnit.slotCfg (c : CheckUnit) (x : LaneId) (s : Nat) : Nat :=
  match Assoc.get none c.slots s with
  | none => fld 3 12 2
  | some p => flag (s == x.idx) 16 + flag true 15 + fld (if s < 3 then 0 else if s < 5 then 1 else 2) 12 2 + flag p.refOut 9 + flag p.refIn 8 +
      fld p.width 0 7

/-- The parameter words of a slot: polynomial, initial value, final XOR, each high and low. -/
def CheckUnit.slotWord (c : CheckUnit) (s w : Nat) : Nat :=
  match Assoc.get none c.slots s with
  | none => 0
  | some p => match w with
    | 1 => bits p.poly 32 32
    | 2 => bits p.poly 0 32
    | 3 => bits p.init 32 32
    | 4 => bits p.init 0 32
    | 5 => bits p.xorOut 32 32
    | 6 => bits p.xorOut 0 32
    | _ => 0

/-- The CV_ block of lane `x`. -/
def Lane.regsCv (l : Lane) (x : LaneId) (off : Nat) : Nat :=
  let c := l.cv
  match off with
  | 0x00 => 0x02000001
  | 0x04 => fld c.cls 30 2 + x.idx
  | 0x08 => c.sealCnt
  | 0x0C => c.verifyCnt
  | 0x10 => c.scanCnt
  | 0x14 => c.waitMax
  | 0x18 => c.scanAddr
  | 0x1C => c.scanLen
  | 0x20 => flag (!c.scans.isEmpty) 31 + c.scanCtrl
  | 0x24 => bits c.resA.toNat 32 32
  | 0x28 => bits c.resA.toNat 0 32
  | 0x2C => bits c.resB.toNat 32 32
  | 0x30 => bits c.resB.toNat 0 32
  | _ => match arrayAt 0x100 64 off with
    | some i => if i % 8 = 0 then c.slotCfg x (i / 8) else c.slotWord (i / 8) (i % 8)
    | none => 0

/-! ## VT_ (Tables 6-10 to 6-15) -/

/-- VT_STATUS (Table 6-11). -/
def Vote.statusReg (v : Vote) : Nat :=
  fld v.state.code 28 4 + flag (Mask.count v.mask == 2) 23 + fld (Mask.bits v.mask) 20 3 + fld (Mask.bits v.heard) 16 3 + fld v.decision 12 4

/-- VT_RATE[l] (R141): the average deviation, 0x8000_0000 where none is measured. -/
def TideUnit.rateReg (t : TideUnit) (y : LaneId) : Nat :=
  let d := t.devs.get y
  if d.isEmpty then 0x80000000 else twos 32 (d.sum / (d.length : Int))

/-- VT_TEST (Table 6-13). -/
def Vote.testReg (v : Vote) : Nat :=
  fld v.testBit 25 7 + flag v.testSent 24 + fld v.testSelf 22 2 + fld v.testEcho.c 20 2 + fld v.testEcho.b 18 2 + fld v.testEcho.a 16 2

/-- The base blocks that a lane has accepted: those that both donors' copies hold. -/
def Vote.baseBlocks (v : Vote) : Nat :=
  let keys := [v.blocks.a, v.blocks.b, v.blocks.c].map (fun b => b.map (·.1))
  ((List.range 258).filter (fun k => 2 ≤ (keys.filter (fun l => l.contains k)).length)).length

/-- VT_RESYNC (Table 6-14). -/
def Vote.resyncReg (v : Vote) : Nat :=
  let phase := match v.state with
    | .inService | .stopped | .independent => 6
    | st => st.code
  fld phase 28 4 + fld v.attempt 26 2 + fld v.abort 16 8 + fld (min (v.baseBlocks / 2) 0x81) 0 8

/-- VT_ROTATION (Table 6-15) of a unit at a time in ms, with the rotation interval in hours. -/
def Rotation.reg (r : Rotation) (now hours : Nat) : Nat :=
  let due := r.since + hours * 3600000
  let left := if r.state = 0 ∧ hours ≠ 0 then min (ceilDiv (due - now) 60000) 0xFFFF else 0
  fld r.state 28 4 + fld r.next.idx 26 2 + fld (if r.state = 1 then r.defer else 0) 16 8 + fld left 0 16

/-- The VT_ block of lane `x`. -/
def State.regsVt (s : State) (x : LaneId) (off : Nat) : Nat :=
  let l := s.lane x
  let v := l.vt
  match off with
  | 0x00 => 0x03000001
  | 0x04 => v.statusReg
  | 0x08 => v.causeReg
  | 0x0C => v.minCnt
  | 0x10 => v.gaugeCycle
  | 0x5C => v.testReg
  | 0x60 => v.testCnt
  | 0x64 => v.resyncReg
  | 0x68 => v.resyncCnt
  | 0x6C => v.resyncTime
  | 0x70 => if l.image?.isSome then s.unit.rot.reg s.tideMs l.image.rotation else 0
  | 0x74 => v.rotReg
  | 0x84 => v.stopReg
  | _ => match arrayAt 0x20 12 off, arrayAt 0x50 3 off, arrayAt 0x78 3 off with
    | some i, _, _ => bits (v.gauges.get (laneOf (i / 4))).toNat (96 - 32 * (i % 4)) 32
    | _, some i, _ => l.td.rateReg (laneOf i)
    | _, _, some i => v.linkErr.get (laneOf i)
    | _, _, _ => 0

/-! ## TS_ (Tables 7-12, 7-13) -/

/-- The code of TS_SESSION.TRANSPORT. -/
def transportCode : Transport → Nat
  | .ring => 0
  | .net2 => 1
  | .wire => 2
  | .can => 3

/-- TS_SESSION[s] (Table 7-13). -/
def Lane.sessionReg (l : Lane) (sid : Nat) : Nat :=
  match l.image.session sid with
  | none => 0
  | some e =>
    let c := l.ts.at sid
    fld c.state.code 28 4 + fld (transportCode e.transport) 26 2 + flag (e.transport == .ring || c.ref.isSome) 25 + flag c.current 24 +
      flag c.staleRef 23 + fld c.timeout 8 8 + fld c.lastCode 4 4

/-- The TS_ block. -/
def Lane.regsTs (l : Lane) (off : Nat) : Nat :=
  let t := l.ts
  match off with
  | 0x00 => 0x04000001
  | 0x04 => fld t.validLast 16 11 + fld l.image.sessions.length 0 11
  | 0x08 => t.acceptCnt
  | 0x0C => t.sentCnt
  | 0x3C => t.copyMissing
  | 0x40 => t.copyLate
  | 0x44 => t.pairFault
  | 0x48 => fld t.lastCode 24 8 + fld t.lastSid 0 10
  | _ => match arrayAt 0x10 11 off, arrayAt 0x1000 1024 off with
    | some i, _ => Assoc.get 0 t.refuseCnt (i + 1)
    | _, some i => l.sessionReg i
    | _, _ => 0

/-! ## MB_ of a lane (Table 12-10) -/

/-- The mailboxes of a set that are FULL, bit n for mailbox n. -/
def fullBits (b : Assoc Mailbox) (n : Nat) : Nat :=
  ((List.range n).map (fun i => flag ((Assoc.get Mailbox.reset b i).state == .full) i)).sum

/-- The mailboxes of a set that are ACKED. -/
def ackedBits (b : Assoc Mailbox) (n : Nat) : Nat :=
  ((List.range n).map (fun i => flag ((Assoc.get Mailbox.reset b i).state == .acked) i)).sum

/-- The MB_ block of a lane. -/
def Lane.regsMb (l : Lane) (off : Nat) : Nat :=
  let b := l.mb
  match off with
  | 0x00 => 0x05000001
  | 0x04 => fld (fullBits b.p2l 8) 16 8 + fld (fullBits b.l2p 8) 0 8
  | 0x08 => b.busErr
  | 0x0C => b.restarts
  | _ => match arrayAt 0x100 8 off, arrayAt 0x200 8 off with
    | some i, _ => (Assoc.get Mailbox.reset b.l2p i).stateReg
    | _, some i => (Assoc.get Mailbox.reset b.p2l i).stateReg
    | _, _ => 0

/-! ## RC_ (Tables 13-11, 13-12) -/

/-- The code of RC_STATUS.SLUICE. -/
def Sluice.code : Sluice → Nat
  | .closed => 0
  | .closing => 1
  | .handshake => 2
  | .opened => 3

/-- The lowest domain of a lane whose clock gate is closed while the one before it is released (RC_STATUS.STUCK). -/
def ResetUnit.stuck (r : ResetUnit) : Nat :=
  ((List.range 8).find? (fun k => !r.released.getLsbD k && !r.gates.getLsbD k)).getD 0

/-- RC_STATUS (Table 13-12). -/
def ResetUnit.statusReg (r : ResetUnit) : Nat :=
  fld r.released.toNat 24 8 + fld r.sluice.code 22 2 + flag r.pll 21 + flag r.optPhase 20 + fld (min r.optRestarts 15) 16 4 + fld r.fail 12 4 +
    fld r.stuck 8 4

/-- RC_OPTIONS of lane `x`. -/
def ResetUnit.optionsReg (r : ResetUnit) (x : LaneId) : Nat :=
  if !r.optDone then 0
  else fld r.opts.unitId 24 8 + flag r.opts.pairPos 23 + flag r.opts.optSplit 22 + flag r.opts.voting 21 + fld x.idx 18 2 + fld r.opts.grade 8 8 +
    flag r.opts.copyB 0

/-- The RC_ block of lane `x`. -/
def Lane.regsRc (l : Lane) (x : LaneId) (off : Nat) : Nat :=
  let r := l.rc
  match off with
  | 0x00 => 0x06000001
  | 0x04 => r.statusReg
  | 0x08 => fld r.source 28 4 + cyc28 r.causeCycle
  | 0x24 => r.clk
  | 0x28 => r.supply
  | 0x2C => r.optionsReg x
  | 0x30 => r.releaseTime
  | 0x34 => fld r.gen 0 2
  | 0x38 => r.discards
  | 0x3C => r.sluiceErr
  | 0x40 => fld r.wdogTimeout 16 16 + fld r.wdogLeft 0 16
  | _ => match arrayAt 0x0C 6 off with
    | some i => Assoc.get 0 l.ls.resetCnt (i + 1)
    | none => 0

/-! ## BI_ (Tables 13-13, 13-14) -/

/-- Whether the life-cycle state permits external access to the BIST controller (R335). -/
def extPermitted (life : Nat) : Bool := decide (life ≤ 1)

/-- The BI_ block; the registers of R335 read 0 where the life-cycle state does not permit access. -/
def Lane.regsBi (l : Lane) (off : Nat) : Nat :=
  let b := l.bi
  let ext := fun (v : Nat) => if extPermitted l.ls.life then v else 0
  match off with
  | 0x00 => 0x07000001
  | 0x04 => b.statusReg (if l.seqRuns then l.ls.life else 2)
  | 0x08 => b.vcore
  | 0x0C => b.clk
  | 0x10 => fld b.factory 16 16 + fld b.soft 0 16
  | 0x14 => fld b.bermMacro 24 8 + fld b.bermFree 0 8
  | 0x18 => fld (min b.passed 255) 24 8 + fld (min b.failed 255) 16 8 + fld (min b.notTested 255) 8 8
  | 0x1C => b.sliceFail
  | 0x20 => fld b.occasion 28 4 + cyc28 b.lastCycle
  | 0x100 => ext b.extCtrl
  | 0x104 => ext b.extSeed
  | 0x108 => ext b.extPatterns
  | 0x10C => ext (bits b.misr.toNat 32 32)
  | 0x110 => ext (bits b.misr.toNat 0 32)
  | _ => 0

/-! ## IO_ (Table 16-7) -/

/-- The IO_ block. -/
def Lane.regsIo (l : Lane) (off : Nat) : Nat :=
  match off with
  | 0x00 => 0x08000001
  | 0x04 => flag l.gateOpen 31 + flag l.io.drives 30 + l.io.groupDrive.toNat
  | 0x08 => l.io.toggle.toNat
  | 0x0C => l.io.quench.toNat
  | 0x10 => l.io.toggleFreq
  | 0x14 => l.io.sampleCnt
  | _ => 0

/-! ## TD_ (Tables 4-5 to 4-7) -/

/-- TD_STATUS.PHASE (Table 4-6). -/
def Phase.code : Phase → Nat
  | .input => 0
  | .freeze => 1
  | .sweep => 2
  | .vote => 3
  | .committed => 4
  | .handed => 5
  | .late => 6
  | .none => 7

/-- TD_STATUS.LEADER_REF (R27): the lanes of a sleeper steer their tide towards the leader of a native ring that the module follows. -/
def State.leaderRef (s : State) (x : LaneId) : Bool :=
  (s.lane x).evaluates && s.leaderRing.isSome

/-- The TD_ block of lane `x`. -/
def State.regsTd (s : State) (x : LaneId) (off : Nat) : Nat :=
  let l := s.lane x
  let t := l.td
  let m := l.image
  match off with
  | 0x00 => 0x09000001
  | 0x04 => flag t.shown.defer 6 + flag (s.leaderRef x) 5 + flag t.agreed 4 + flag l.indep 3 + t.phase.code
  | 0x08 => bits t.tide 0 32
  | 0x0C => t.tideHi
  | 0x10 => bits t.cycle 0 32
  | 0x14 => bits t.cycle 32 32
  | 0x18 => fld m.tCycle 0 16
  | 0x1C => m.freezeTicks
  | 0x20 => m.deadlineTicks
  | 0x24 => twos 32 t.rate
  | 0x28 => twos 32 t.spread
  | 0x2C => t.shown.tFreeze
  | 0x30 => t.shown.tSweep
  | 0x34 => t.shown.tScan
  | 0x38 => t.shown.tVote
  | 0x3C => t.shown.tHandover
  | 0x40 => t.marginMin
  | 0x44 => t.lateCnt
  | 0x48 => t.lateReg
  | 0x4C => t.deferCnt
  | 0x50 => t.sealLateCnt
  | _ => 0

/-! ## A lane's blocks -/

/-- The register at an offset of block `i` of lane `x`, in the order of Table 16-1. -/
def State.regsLane (s : State) (x : LaneId) (i off : Nat) : Nat :=
  let l := s.lane x
  match i with
  | 0 => l.regsLs off
  | 1 => l.regsPe s.sleeps off
  | 2 => l.regsCv x off
  | 3 => s.regsVt x off
  | 4 => l.regsTs off
  | 5 => l.regsMb off
  | 6 => l.regsRc x off
  | 7 => l.regsBi off
  | 8 => l.regsIo off
  | _ => s.regsTd x off

end Sys2Proof.Machine
end

