-- ==== Sys2Proof/Machine/RegsUnit.lean ====
section
/-! DEFINITION. The registers of the module identity, of the vital inputs and outputs, and of the pumphouse as they are read (Tables 14-10, 9-7,
9-9, 8-13, 10-6, 11-7 to 11-11, 12-7, 12-9, 13-15, 14-12, 15-5, 16-8), by register offset. -/

namespace Sys2Proof.Machine

/-! ## MOD_ (Tables 14-10, 14-11) -/

/-- The entries that the change log holds. -/
def Config.logCount (c : Config) : Nat := c.log.length

/-- The MOD_ block: the values of the lanes in service, or of lane A (R249, Table 14-10). -/
def State.regsMod (s : State) (off : Nat) : Nat :=
  let l := s.lane s.voice
  let c := s.cfg
  match off with
  | 0x00 => 0x00000001
  | 0x04 => fld l.ls.life 28 4 + flag c.pwInitial 27 + flag (c.lockout != 0) 26 + flag c.gradeL 25 + flag c.retired 24
  | 0x08 => fld l.rc.opts.grade 16 8 + flag l.rc.opts.pairPos 8 + fld l.rc.opts.unitId 0 8
  | 0x1C => bits c.challenge.toNat 32 32
  | 0x20 => bits c.challenge.toNat 0 32
  | 0x24 => c.station
  | 0x28 => c.enrolNo
  | 0x2C => wordOf c.fingerprint 0
  | 0x30 => wordOf c.fingerprint 1
  | 0x44 => fld c.failures 28 4 + fld (ceilDiv c.lockout 1000) 0 16
  | 0x54 => l.ls.logSeq
  | 0x58 => wordOf l.ls.logChain 0
  | 0x5C => wordOf l.ls.logChain 1
  | 0x60 => c.logCount
  | 0x64 => c.transitions
  | _ => match arrayAt 0x0C 4 off, arrayAt 0x34 4 off, arrayAt 0x48 3 off with
    | some i, _, _ => wordOf (padTo 16 l.rc.opts.serial) i
    | _, some i, _ => wordOf c.salt i
    | _, _, some i => (s.lane (laneOf i)).ls.floor
    | _, _, _ => 0

/-! ## VI_ and VO_ (Tables 9-7 to 9-12) -/

/-- The lane whose view a register not arrayed by lane shows (R249). -/
def State.viewLane (s : State) : LaneId := s.serviceLanes.headD .a

/-- The low and the high word of 64 channels. -/
def chanWord (v : BitVec 64) (h : Nat) : Nat := bits v.toNat (32 * h) 32

/-- VI_CHAN[c] (Table 9-8). -/
def Lane.viChan (l : Lane) (c : Nat) : Nat :=
  let e := l.image.input c
  flag e.used 31 + flag e.pulsed 30 + fld (if e.pulsed then e.source else 0) 24 5 + fld e.depth 16 8 + fld (Assoc.get 0 l.io.count c) 8 8 +
    flag (onBit l.io.xcirc c) 2 + flag (onBit l.io.frozen c) 1 + flag (onBit l.io.filt c) 0

/-- The VI_ block. -/
def State.regsVi (s : State) (off : Nat) : Nat :=
  let io := (s.lane s.viewLane).io
  let d := io.disagree
  let byLane := fun (f : LaneIO → BitVec 64) (i : Nat) => chanWord (f (s.lane (laneOf (i / 2))).io) (i % 2)
  match off with
  | 0x00 => 0x30000001
  | 0x04 => flag (d != 0#64) 9 + flag (io.xcirc != 0#64) 8 + (LaneId.list.map (fun x => flag (s.lane x).io.sampled x.idx)).sum
  | 0x70 => chanWord io.xcirc 0
  | 0x74 => chanWord io.xcirc 1
  | 0x78 => chanWord d 0
  | 0x7C => chanWord d 1
  | 0x80 => io.xcircCnt
  | _ => match arrayAt 0x10 6 off, arrayAt 0x30 6 off, arrayAt 0x50 6 off, arrayAt 0x100 64 off with
    | some i, _, _, _ => byLane LaneIO.raw i
    | _, some i, _, _ => byLane LaneIO.filt i
    | _, _, some i, _ => byLane LaneIO.frozen i
    | _, _, _, some c => (s.lane s.viewLane).viChan c
    | _, _, _, _ => 0

/-- A register of flags by channel. -/
def flagsOf (n : Nat) (f : Nat → Bool) : Nat := ((List.range n).map (fun k => flag (f k) k)).sum

/-- VO_GROUP[g] (Table 9-11). -/
def State.voGroup (s : State) (g : Nat) : Nat :=
  let io := (s.lane s.viewLane).io
  let latch := (LaneId.list.map (fun x => flag (onBit (s.lane x).io.latched g) x.idx)).sum
  flag (onBit io.groupsRead g) 31 + fld latch 28 3 + fld (Assoc.get 0 io.groupCause g) 26 2 + flag (onBit io.groupExt g) 25 +
    fld (Assoc.get 0 io.groupChan g) 16 5

/-- VO_CHAN[k] (Table 9-12). -/
def Lane.voChan (l : Lane) (k : Nat) : Nat :=
  let o := l.image.output k
  let io := l.io
  let pair := Assoc.get none io.xpair k
  flag o.used 31 + flag o.pulse 30 + flag o.sensitive 29 + flag o.shared 28 + fld (io.faultCode k) 24 4 + fld (min (Assoc.get 0 io.retry k) 3) 22 2 +
    fld (Assoc.get 0 io.test k) 20 2 + flag (onBit io.overdue k) 19 + flag (onBit io.cmd k) 18 + flag (onBit io.readback k) 17 +
    fld (min (Assoc.get 0 io.intervals k) 255) 8 8 + flag pair.isSome 5 + fld (pair.getD 0) 0 5

/-- The VO_ block. -/
def State.regsVo (s : State) (off : Nat) : Nat :=
  let l := s.lane s.viewLane
  let io := l.io
  match off with
  | 0x00 => 0x31000001
  | 0x04 => (LaneId.list.map (fun x => flag (s.lane x).gateOpen (29 + x.idx))).sum + flag io.fs2Ok 27 + flag io.fs1Ok 26 + flag s.sleeps 25 +
      fld io.groupsRead.toNat 16 4 + fld io.latched.toNat 8 4
  | 0x08 => io.cmd.toNat
  | 0x0C => flagsOf 32 (fun k => io.faultCode k != 0)
  | 0x1C => if s.sleeps then io.partnerCmd.toNat else 0
  | 0x20 => io.partnerDiff.toNat
  | 0x24 => io.overdue.toNat
  | 0x28 => fld io.fs1 16 16 + fld io.fs2 0 16
  | 0x40 => io.testCnt
  | 0x44 => io.abortCnt
  | 0x48 => io.ocCnt
  | 0x4C => io.resetCnt
  | _ => match arrayAt 0x10 3 off, arrayAt 0x30 4 off, arrayAt 0x100 32 off with
    | some i, _, _ => (s.lane (laneOf i)).io.readback.toNat
    | _, some g, _ => s.voGroup g
    | _, _, some k => l.voChan k
    | _, _, _ => 0

/-! ## PH_ (Table 16-8) -/

/-- The PH_ block. -/
def State.regsPh (s : State) (off : Nat) : Nat :=
  match off with
  | 0x00 => 0x20000001
  | 0x04 => flag s.cfg.rwlFuse 31 + fld s.ph.cores 0 4
  | 0x08 => s.ph.event
  | 0x0C => flag s.ph.lampTest 0
  | 0x10 => s.ph.portDisable
  | 0x14 => s.ph.kmpCnt
  | 0x18 => s.ph.kmpErr
  | 0x1C => s.ph.kmpLast
  | _ => 0

/-! ## BS_, LK_ and MB_ (Tables 12-7 to 12-9) -/

/-- LK_OWNER[n] (Table 12-8). -/
def Lock.ownerReg (l : Lock) : Nat :=
  ((List.range 8).map (fun i => flag (l.waiting.contains (i + 1)) (24 + i))).sum + fld l.last 16 4 + flag l.reserved 4 + fld l.owner 0 4

/-- The BS_ and LK_ block but LK_LOCK, whose read acquires. -/
def State.regsBs (s : State) (off : Nat) : Nat :=
  let b := s.bs
  match off with
  | 0x00 => 0x21000001
  | 0x04 => flag b.initDone 31 + flag b.scrub 30 + fld b.load 0 8
  | 0x08 => b.eccCorr
  | 0x0C => b.eccUncorr
  | 0x10 => b.eccAddr
  | 0x14 => b.violCnt
  | 0x18 => b.violInfo
  | 0x1C => b.violAddr
  | 0x20 => b.scrubAddr
  | 0x1200 => fld s.locks.holdIdx 26 6 + fld s.locks.holdMax 0 26
  | 0x1204 => s.locks.overCnt
  | 0x1208 => s.locks.err
  | 0x120C => s.locks.lapse
  | _ => match arrayAt 0x1100 64 off with
    | some n => (s.locks.at n).ownerReg
    | none => 0

/-- The pumphouse's MB_ block. -/
def State.regsMbPh (s : State) (off : Nat) : Nat :=
  let o := s.mail.out
  let i := s.mail.inn
  match off with
  | 0x00 => 0x22000001
  | 0x04 => fld (ackedBits i 4) 24 4 + fld (fullBits i 4) 16 4 + fld (ackedBits o 4) 8 4 + fullBits o 4
  | 0x08 => s.mail.busErr
  | 0x0C => s.mail.lostCnt
  | _ => match arrayAt 0x100 32 off, arrayAt 0x200 32 off with
    | some k, _ =>
      let b := s.outBox (k / 8)
      match k % 8 with
      | 0 => b.addr
      | 1 => b.len
      | 3 => b.ackReg
      | 4 => b.stateReg
      | _ => 0
    | _, some k =>
      let b := s.inBox (k / 8)
      match k % 8 with
      | 0 => b.addr
      | 1 => b.len
      | 2 => b.stateReg
      | _ => 0
    | _, _ => 0

/-! ## DL_ (Tables 8-13 to 8-16) -/

/-- The ring that shows the module's role: the start ring, or the lowest one in use. -/
def State.roleRing (s : State) : Option Nat :=
  s.image.startRing.orElse (fun _ => (List.range 4).find? (fun r => (s.image.ring r).mode != .unused))

/-- DL_ROLE.ROLE. -/
def State.ringRole (s : State) : Nat :=
  match s.roleRing with
  | none => 0
  | some r => match (s.ring r).state with
    | .unused => 0
    | .listen => 1
    | .contend => 2
    | .lead | .vk2Master => 3
    | .follow | .holdover | .vk2Passive => 4
    | .pass => 5

/-- DL_ROLE (Table 8-14). -/
def State.dlRole (s : State) : Nat :=
  fld s.ringRole 28 4 + fld s.rings.outcome 24 4 + fld s.rings.leader 16 8 + fld s.rings.round 8 8 + flag s.preferred 4 + fld s.rank 0 4

/-- The code of a ring's mode (Table 2-9). -/
def ringModeCode : RingMode → Nat
  | .unused => 0
  | .native => 1
  | .vk2 => 2

/-- DL_NODE[r][a] (Table 8-16). -/
def State.dlNode (s : State) (r a : Nat) : Nat :=
  let n := (s.ring r).node a
  if a = 0 || !(s.image.ring r).allNodes.contains a then 0
  else
    let st := if n.mismatch then 5 else if n.ordered then 4 else if n.admitted then 3 else if n.ready then 2 else 1
    fld st 28 4 + fld n.errRun 26 2 + flag n.seenE 25 + flag n.seenW 24 + twos 16 n.launchErr

/-- A link delay in units of 2^-8 ns. -/
def delayReg : Option Int → Nat
  | none => max32
  | some d => twos 32 (d / 256)

/-- The registers of ring index `r`. -/
def State.regsRing (s : State) (r off : Nat) : Nat :=
  let g := s.ring r
  match off with
  | 0x00 => fld g.state.code 28 4 + fld (ringModeCode (s.image.ring r).mode) 26 2 + flag g.linkE 25 + flag g.linkW 24 + flag g.schedDiff 23 +
      fld g.admitted.length 8 8 + fld g.heardLast 0 8
  | 0x04 => twos 32 (g.offset / 256)
  | 0x08 => twos 32 g.rate
  | 0x0C => delayReg g.delayE
  | 0x10 => delayReg g.delayW
  | 0x14 => g.transit
  | 0x18 => g.fcsErr
  | 0x1C => g.syncMiss
  | 0x20 => g.gateCnt
  | 0x24 => g.dropCnt
  | 0x28 => g.singleCnt
  | _ => match arrayAt 0x400 128 off, arrayAt 0x600 128 off with
    | some a, _ => s.dlNode r a
    | _, some a => (g.node a).errCnt
    | _, _ => 0

/-- The DL_ block. -/
def State.regsDl (s : State) (off : Nat) : Nat :=
  match off with
  | 0x00 => 0x23000001
  | 0x04 => s.dlRole
  | 0x08 => s.rings.epoch
  | 0x0C => s.rings.diagBase
  | _ => if 0x1000 ≤ off ∧ off < 0x5000 then s.regsRing (off / 0x1000 - 1) (off % 0x1000) else 0

/-! ## EN_, CN_, WL_ and PT_ (Tables 11-7 to 11-12) -/

/-- The network of an index. -/
def netAt : Nat → NetId
  | 0 => .a
  | 1 => .b
  | _ => .maint

/-- Six bits of ports, the network's lowest port first, in bits from `hi` downwards. -/
def portBits (v hi : Nat) : Nat := ((List.range 6).map (fun i => flag (bit v i) (hi - i))).sum

/-- The registers of a network. -/
def State.regsNet (s : State) (n : NetId) (off : Nat) : Nat :=
  let t := s.net n
  match off with
  | 0x00 => portBits t.links 31 + portBits t.gig 25 + flag t.conflict 8 + flag t.forwarding 7
  | 0x04 => if s.phRuns then s.netIp n else 0
  | 0x08 => if s.phRuns then s.netQos n else 0
  | 0x0C => if s.phRuns then 0x47000000 + (n.idx + 1) * 65536 + s.unitId % 256 else 0
  | 0x10 => t.rx
  | 0x14 => t.tx
  | 0x18 => t.filter
  | 0x1C => t.arpFail
  | 0x20 => t.icmp
  | 0x24 => t.lateCnt
  | _ => 0

/-- The EN_ block. -/
def State.regsEn (s : State) (off : Nat) : Nat :=
  if off = 0 then 0x24000001
  else if 0x1000 ≤ off ∧ off < 0x4000 then s.regsNet (netAt (off / 0x1000 - 1)) (off % 0x1000) else 0

/-- The code of CN_STATUS.STATE. -/
def CanState.code : CanState → Nat
  | .off => 0
  | .detecting => 1
  | .active => 2
  | .passive => 3
  | .busOff => 4
  | .recovering => 5

/-- CN_QUEUE of a port. -/
def CanPort.queueReg (c : CanPort) : Nat :=
  let head := match c.head with
    | some e => e.sid.getD 0
    | none => 0
  flag c.pinned.isSome 31 + fld c.queue.length 16 7 + fld head 0 10

/-- The registers of CAN port `p`. -/
def State.regsCan (s : State) (p off : Nat) : Nat :=
  let c := s.canPort p
  match off with
  | 0x00 => fld (s.canCodes p) 0 8
  | 0x04 => fld c.state.code 28 4 + fld c.rate 24 4 + fld (min c.tec 255) 16 8 + fld (min c.rxErr 255) 8 8 + fld c.recovery 0 8
  | 0x08 => Assoc.get 0 s.settings.canRef p
  | 0x0C => c.tdc
  | 0x10 => c.queueReg
  | 0x14 => c.rx
  | 0x18 => c.tx
  | 0x1C => c.busOffCnt
  | 0x20 => c.expired
  | 0x24 => c.qfull
  | 0x28 => c.refMiss
  | 0x2C => c.remote
  | 0x30 => c.filter
  | _ => 0

/-- The CN_ block. -/
def State.regsCn (s : State) (off : Nat) : Nat :=
  if off = 0 then 0x25000001
  else if 0x1000 ≤ off ∧ off < 0x7000 then s.regsCan (off / 0x1000 - 1) (off % 0x1000) else 0

/-- The registers of wire link `l`. -/
def State.regsWire (s : State) (l off : Nat) : Nat :=
  let w := s.link l
  match off with
  | 0x00 => flag (s.wireDrives l) 31 + flag (s.wireTerm l) 30 + flag w.idle 29
  | 0x04 => w.rx
  | 0x08 => w.tx
  | 0x0C => w.fcsErr
  | 0x10 => w.addrCnt
  | 0x14 => w.charErr
  | 0x18 => w.abort
  | 0x1C => w.long
  | 0x20 => w.lateCnt
  | _ => 0

/-- The WL_ block. -/
def State.regsWl (s : State) (off : Nat) : Nat :=
  if off = 0 then 0x26000001
  else if 0x1000 ≤ off ∧ off < 0x3000 then s.regsWire (off / 0x1000 - 1) (off % 0x1000) else 0

/-- The PT_ block. -/
def State.regsPt (s : State) (off : Nat) : Nat :=
  let p := s.ptp
  let master := p.master
  let ident := match master with
    | some m => m.ident.toNat
    | none => 0
  match off with
  | 0x00 => 0x2A000001
  | 0x04 => fld p.state 28 4 + flag p.present 27 + flag p.twoStep 26 + fld (match master with
      | some m => m.cls
      | none => 0) 0 8
  | 0x08 => fld s.settings.domain 0 8
  | 0x0C => twos 32 (clamp (-(2 ^ 31)) (2 ^ 31 - 1) p.offset)
  | 0x10 => twos 32 p.delay
  | 0x14 => s.utc
  | 0x18 => match master with
      | some m => m.utcOffset
      | none => 0
  | 0x1C => bits ident 32 32
  | 0x20 => bits ident 0 32
  | 0x24 => p.syncCnt
  | 0x28 => p.timeoutCnt
  | _ => 0

/-! ## XL_ (Tables 10-6 to 10-8) -/

/-- XL_PARTNER. -/
def PartnerReport.reg (r : PartnerReport) : Nat :=
  fld r.unit 24 8 + fld r.role 20 4 + fld (Mask.bits r.mask) 16 3 + fld r.rotation 12 4 + fld r.ready 8 4 + fld r.swap 0 8

/-- The XL_ block. -/
def State.regsXl (s : State) (off : Nat) : Nat :=
  let x := s.xl
  let volume := if s.image?.isSome then s.image.mirrorVolume else 0
  match off with
  | 0x00 => 0x27000001
  | 0x04 => s.xlStatus
  | 0x08 => s.unit.epoch
  | 0x0C => match s.unit.partner with
      | some r => PartnerReport.reg r
      | none => 0
  | 0x10 => x.mirrorCycle
  | 0x14 => volume
  | 0x18 => ceilDiv volume 1016
  | 0x1C => x.arrive
  | 0x20 => x.missCnt
  | 0x24 => x.segErr
  | 0x28 => fld s.unit.swap.state 28 4 + cyc28 s.unit.swap.cycle
  | 0x2C => x.failovers
  | 0x30 => x.swaps
  | 0x34 => x.lastTakeover
  | 0x38 => x.err27
  | 0x3C => x.err28
  | _ => 0

/-! ## WD_ (Tables 15-5, 15-6) -/

/-- WD_DUMP[d] (Table 15-6). -/
def Dump.reg (d : Dump) : Nat := fld (if d.headerOk then d.state else 3) 28 4 + fld d.cause 8 16 + fld d.cycle 0 8

/-- The WD_ block. -/
def State.regsWd (s : State) (off : Nat) : Nat :=
  let w := s.warden
  match off with
  | 0x00 => 0x28000001
  | 0x04 => flag w.ready 31 + flag (decide (131072 ≤ w.slots.length)) 30 + (LaneId.list.map (fun x => flag (!(s.lane x).mb.queue.isEmpty) x.idx)).sum
  | 0x08 => w.head.getD 0
  | 0x0C => fld w.slots.length 0 18
  | 0x10 => bits s.cfg.opTime 0 32
  | 0x14 => fld s.cfg.opHi 0 16
  | 0x18 => w.severe
  | 0x1C => w.lostCnt
  | 0x20 => w.crcErr
  | 0x24 => w.skipCnt
  | _ => match arrayAt 0x30 4 off with
    | some d => (w.dump d).reg
    | none => 0

/-! ## UP_ (Tables 14-12, 14-13) -/

/-- The settings area that a firmware uses (R357). -/
def Firmware.area (f : Firmware) : FwArea := if f.activeArea then f.area1 else f.area0

/-- The UP_ block. -/
def State.regsUp (s : State) (off : Nat) : Nat :=
  let u := s.upd
  let who := u.holder.getD ⟨0#32, 0#16⟩
  let fw := s.ph.fw
  let trial := LaneId.list.any (fun x => (s.lane x).ls.fw.onTrial) || s.ph.fw.onTrial
  match off with
  | 0x00 => 0x29000001
  | 0x04 => flag u.holder.isSome 31 + fld (ceilDiv u.remaining 1000) 0 16
  | 0x08 => who.ip.toNat
  | 0x0C => who.port.toNat
  | 0x10 => fld u.stage 28 4 + fld u.kind 24 4 + fld u.activation 20 4 + fld s.swapBlock 16 4
  | 0x14 => wordOf u.staged 0
  | 0x18 => wordOf u.staged 1
  | 0x1C => fld u.lastCode 0 16
  | 0x2C => s.ph.fw.run.version
  | 0x3C => fld s.ph.fw.otp 0 8
  | 0x40 => fld (min u.trialRun 100) 16 16 + (if trial then 1 else if u.fellBack then 2 else 0)
  | 0x44 => fld fw.area.version 16 16 + fld fw.area.generation 8 8 + flag fw.activeArea 0
  | 0x48 => u.busyCnt
  | 0x4C => u.fallbacks
  | _ => match arrayAt 0x20 3 off, arrayAt 0x30 3 off with
    | some i, _ => (s.lane (laneOf i)).ls.fw.run.version
    | _, some i => fld (s.lane (laneOf i)).ls.fw.otp 0 8
    | _, _ => 0

/-! ## RS_ (Table 13-15) -/

/-- The RS_ block. -/
def State.regsRs (s : State) (off : Nat) : Nat :=
  let p := s.ph
  match off with
  | 0x00 => 0x2B000001
  | 0x04 => fld p.released.toNat 25 7 + flag p.pass 23 + flag p.optDefault 22 +
      (if p.released.getLsbD 0 then flag p.powered 21 + (LaneId.list.map (fun x => flag (s.lane x).rc.powered x.idx)).sum else 0)
  | 0x08 => fld p.source 28 4
  | 0x30 => p.power
  | 0x34 => p.powerMax
  | 0x44 => p.holdUps
  | 0x48 => s.cfg.powerCycles
  | 0x4C => fld p.wdogTimeout 16 16 + fld p.wdogCores 0 4
  | 0x50 => p.discards
  | 0x54 => p.sluiceErr
  | _ => match arrayAt 0x0C 6 off, arrayAt 0x24 3 off, arrayAt 0x38 3 off with
    | some i, _, _ => if i = 3 then 0 else Assoc.get 0 p.resetCnt (i + 1)
    | _, some i, _ => p.inputs.get (laneOf i)
    | _, _, some i => p.brownOuts.get (laneOf i)
    | _, _, _ => 0

/-- The register at an offset of block `i` of the pumphouse, in the order of Table 16-1. -/
def State.regsPump (s : State) (i off : Nat) : Nat :=
  match i with
  | 0 => s.regsPh off
  | 1 => s.regsBs off
  | 2 => s.regsMbPh off
  | 3 => s.regsDl off
  | 4 => s.regsEn off
  | 5 => s.regsCn off
  | 6 => s.regsWl off
  | 7 => s.regsXl off
  | 8 => s.regsWd off
  | 9 => s.regsUp off
  | 10 => s.regsPt off
  | _ => s.regsRs off

end Sys2Proof.Machine
end

