-- ==== Sys2Proof/Machine/Breach.lean ====
section
/-! DEFINITION. The commands of the breach dumps (chapter 15): what a dump holds, its writing, and the reset that follows. -/

namespace Sys2Proof.Machine

/-! ## Breach dumps (R368 to R370) -/

/-- A BREACH_DUMP record of lane `x`: 0 written, 1 skipped, 2 MRAM unreachable. -/
def Lane.dumpRecord (l : Lane) (x : LaneId) (cause result : Nat) : Lane := l.log x 0x0F02 3 [cause, result]

/-- A timeline in a dump: 64 bytes (Table 15-4). -/
def Timeline.image (t : Timeline) : List Byte :=
  be 8 t.cycle ++ be 4 t.tFreeze ++ be 4 t.tSweep ++ be 4 t.tScan ++ be 4 t.tVote ++ be 4 t.tHandover ++ be 4 t.sweep ++ be 4 t.stall ++
    be 4 t.vtStatus ++ be 4 t.tdStatus ++ padTo 20 []

/-- A gauge in a dump: 32 bytes (Table 15-4). -/
def GaugeNote.image (g : GaugeNote) : List Byte :=
  be 8 g.cycle ++ be 16 g.gauge.toNat ++ be 1 (Mask.bits g.heard) ++ be 1 g.decision ++ padTo 6 []

/-- The first 512 bytes of a block, read as its registers (R370). -/
def blockImage (read : Nat → Nat) : List Byte := (List.range 128).flatMap (fun i => be 4 (read (4 * i)))

/-- A job of the check-value unit in a dump: 16 bytes. -/
def CvJob.image (j : CvJob) : List Byte :=
  padTo 16 (match j with
    | .seal pre text => be 1 1 ++ be 3 0 ++ be 4 pre.length ++ be 4 text.length
    | .verify addr len a b => be 1 2 ++ be 1 a ++ be 1 b ++ be 1 0 ++ be 4 addr ++ be 4 len
    | .scan addr len a b basin => be 1 3 ++ be 1 a ++ be 1 ((b.map (· + 1)).getD 0) ++ be 1 (b2n basin) ++ be 4 addr ++ be 4 len)

/-- The fault record of a lane dump: 256 bytes (Table 15-4). DESIGN CHOICE: the table names its fields and no layout; they stand in its order, 4 bytes
each. The faulting sequencer address and the ECC syndrome and address are the first 12 bytes of what comes from outside (log entry 68). -/
def Lane.dumpFault (l : Lane) (cause tdStatus : Nat) (content : List Byte) : List Byte :=
  padTo 256 (be 4 cause ++ be 4 l.pe.faultReg ++ padTo 12 content ++ be 4 l.vt.statusReg ++ be 4 tdStatus)

/-- The sequencer's context in a lane dump: 7,680 bytes (Table 15-4). Its registers and stack come from outside; the job queues of the check-value unit
stand in its last 1,024 bytes (log entry 68). -/
def Lane.context (l : Lane) (content : List Byte) : List Byte :=
  padTo 6656 (content.drop 12) ++ padTo 1024 ((l.cv.seals ++ l.cv.verifies ++ l.cv.scans).flatMap CvJob.image)

/-- The content of a lane dump from offset 256 on (Table 15-4). -/
def State.laneContent (s : State) (x : LaneId) (cause : Nat) (content : List Byte) : List Byte :=
  let l := s.lane x
  let m := l.image
  l.dumpFault cause (s.regsTd x 0x04) content ++ l.context content ++ (List.range 10).flatMap (fun i => blockImage (s.regsLane x i)) ++ padTo 3072 [] ++
    padTo 4096 (l.trace.timelines.flatMap Timeline.image) ++ padTo 512 (l.trace.gauges.flatMap GaugeNote.image) ++ padTo 11776 [] ++
    (List.range 262144).flatMap (fun i => be 2 (Table.read l.pe.cur i).toNat) ++
    (List.range 1024).flatMap (fun k => (l.ts.at k).image (ringOwn m s.unit.ringEpoch k))

/-- The content of a pumphouse dump from offset 256 on (R370): its fault record begins with the cause; the rest of it and the contexts of the cores
come from outside (log entry 68). -/
def State.phContent (s : State) (cause : Nat) (content : List Byte) : List Byte :=
  padTo 33024 (be 4 cause ++ content) ++ (List.range 12).flatMap (fun i => blockImage (s.regsPump i))

/-- A dump in writing: its header with state 0x01 and the content. -/
def State.newDump (s : State) (p : Part) (cause : DumpCause) (content : List Byte) : Dump :=
  let (source, cycle, version, digest, body) := match p with
    | .lane x =>
      let l := s.lane x
      (x.num, l.td.cycle, l.ls.fw.run.version, if l.image?.isSome then l.image.digest.take 32 else [], s.laneContent x cause.code content)
    | .pumphouse => (4, s.cycle, s.ph.fw.run.version, [], s.phContent cause.code content)
  { state := 1, cause := cause.code, cycle := cycle, headerOk := true,
    bytes := dumpHeader source 1 (dumpLength p) s.cfg.powerCycles cycle cause.code version digest body ++ body }

/-- A fatal error of the sequencer is treated as R91 states: the lane's sweep stops, and it leaves service with cause 0x6. -/
def State.fatalLane (s : State) (x : LaneId) : State :=
  let evaluates := (s.lane x).evaluates
  let s := s.modLane x (fun l => { l with pe := { l.pe with state := .fault }, rc := { l.rc with resetReq := none } })
  if evaluates then s.leaveFaulty x else s

/-- The dump of a lane (R368): skipped where its region holds a complete dump, not written where the MRAM cannot be reached; then the lane asks
for its reset. -/
def State.laneDump (s : State) (x : LaneId) (cause : DumpCause) (reachable : Bool) (content : List Byte) : State :=
  let i := dumpIndex (.lane x)
  let giveUp := fun (s : State) (result : Nat) =>
    s.modLane x (fun l => { l.dumpRecord x cause.code result with rc := l.rc.request 4 })
  if !reachable || !s.ph.powered then giveUp s 2
  else if (s.warden.dump i).state = 2 && (s.warden.dump i).headerOk then
    giveUp { s with warden := { s.warden with skipCnt := sat s.warden.skipCnt } } 1
  else s.mramWrite (.lane x) (.dump (.lane x)) (fun s => { s with warden := s.warden.setDump i (s.newDump (.lane x) cause content) })

/-- The reset of the pumphouse after a fatal error of its own, and the record that follows (R368). -/
def State.phFatalReset (s : State) (cause result : Nat) : State := (s.resetPh 3).logPh 0x0F02 3 [cause, result]

/-- BREACH_DUMP (R368, R369): a fatal error of a lane or of the pumphouse. What the dump holds that the model does not is
`content` (log entry 68). -/
def execBreachDump (p : Part) (cause : DumpCause) (reachable : Bool) (content : List Byte) (s : State) : Out :=
  match p, cause with
  | .lane x, .engine =>
    if (s.lane x).pe.state == .fault && (s.lane x).rc.resetReq.isNone then .next (s.laneDump x .engine reachable content) else .next s
  | .lane x, .seqMemory | .lane x, .seqException =>
    if (s.lane x).rc.powered && (s.lane x).rc.released.getLsbD 3 then .next ((s.fatalLane x).laneDump x cause reachable content) else .next s
  | .pumphouse, .coreException | .pumphouse, .phSram =>
    if !s.ph.powered then .next s
    else if s.warden.dumpP.state = 2 && s.warden.dumpP.headerOk then
      .next ({ s with warden := { s.warden with skipCnt := sat s.warden.skipCnt } }.phFatalReset cause.code 1)
    else
      .next (s.mramWrite .pumphouse (.dump .pumphouse) (fun s =>
        { s with warden := { s.warden with dumpP := s.newDump .pumphouse cause content }, ph := { s.ph with dumping := true } }))
  | _, _ => .next s

/-- A dump completed: its header written again with state 0x02 (R369). -/
def Dump.complete (d : Dump) : Dump := { d with state := 2, bytes := dumpState d.bytes 2 }

/-- BREACH_DUMP_COMPLETE (R368): the header is written with state 0x02, the record follows, and the part resets; a lane's withdrawn phase
counts from here. A lane from which the MRAM is gone meanwhile resets without a dump; a pumphouse whose dump a brown-out or a reset has cut off
completes none. -/
def execBreachDumpComplete (p : Part) (s : State) : Out :=
  let d := s.warden.dump (dumpIndex p)
  let done := s.mramWrite p (.dump p) (fun s => { s with warden := s.warden.setDump (dumpIndex p) d.complete })
  if d.state ≠ 1 then .next s
  else match p with
    | .lane x =>
      if (s.lane x).pe.state != .fault then .next s
      else if !s.ph.powered then
        .next (s.modLane x (fun l => { l.dumpRecord x d.cause 2 with vt := { l.vt with startMs := s.tideMs }, rc := l.rc.request 4 }))
      else
        .next (done.modLane x (fun l =>
          { l.dumpRecord x d.cause 0 with vt := { l.vt with startMs := s.tideMs }, rc := l.rc.request 4 }))
    | .pumphouse => if s.ph.powered && s.ph.dumping then .next (done.phFatalReset d.cause 0) else .next s

end Sys2Proof.Machine
end

