-- ==== Sys2Proof/Machine/Ports.lean ====
section
/-! DEFINITION. The commands of the ports: assembly and sending of telegrams, Ethernet, CAN, wire links and PTP (chapters 7 and 11). -/

namespace Sys2Proof

/-- Whether a wire link is that of a session. -/
def SessEntry.onLink (e : SessEntry) (l : Nat) : Bool := e.transport == .wire && decide (e.port = 31 + l)

/-- Whether a frame is in error (R282): seen so on the bus, or a CAN FD frame with a recessive res bit, which is a form error. -/
def CanFrame.bad (f : CanFrame) : Bool := !f.sound || (f.fd && f.res)

end Sys2Proof

namespace Sys2Proof.Machine

/-! ## Assembly and sending (R99, R168, R172, R275) -/

/-- The first two lanes' handed telegrams with identical header and payload, in the order they came (R168). -/
def firstPair : List Handed → Option (Handed × Handed)
  | [] => none
  | h :: hs =>
    match hs.find? (fun g => g.lane != h.lane && g.header == h.header && g.payload == h.payload && g.cycle == h.cycle && g.seg == h.seg) with
    | some g => some (h, g)
    | none => firstPair hs

/-- The telegram of two lanes: SEAL_PAIR in byte 1, the seals in the cyclic order A, B, C, A (R168). -/
def assemble (h g : Handed) : List Byte :=
  let (pair, x, _) := pairOf h.lane g.lane
  let first := if h.lane = x then h else g
  let second := if h.lane = x then g else h
  h.header.take 1 ++ be 1 (getByte h.header 1 + 64 * pair) ++ h.header.drop 2 ++ h.payload ++ first.sealVal ++ second.sealVal

/-- An assembled telegram goes out on its session's transport (R172): a ring telegram waits for its slot. -/
def State.transmit (s : State) (e : SessEntry) (a : Assembled) : State × Bool :=
  match e.transport with
  | .ring | .wire => (s, false)
  | .net2 => (s.sendNet2 e a.cycle a.bytes, true)
  | .can => (s.queueTelegram e a.kind a.seg a.cycle a.bytes, true)

/-- Whether an assembled telegram is the telegram of a handed one. -/
def Assembled.of (a : Assembled) (h : Handed) : Bool := a.kind == h.kind && a.sid == h.sid && a.seg == h.seg && a.cycle == h.cycle

/-- The handed telegrams that are not assembled yet. -/
def Outbound.open_ (o : Outbound) : List Handed := o.handed.filter (fun h => !o.assembled.any (·.of h))

/-- The session of wire link `l` that a telegram belongs to. -/
def State.linkSession (s : State) (l sid kind : Nat) : Option SessEntry :=
  if kind = 8 then none else (s.image.session sid).filter (·.onLink l)

/-- Whether a telegram of cycle `n` on wire link `l` must wait: one of a lower session of the link can still be assembled (R174). -/
def State.mustWait (s : State) (l n sid : Nat) : Bool :=
  s.out.open_.any (fun h => h.cycle == n && decide (h.sid < sid) && (s.linkSession l h.sid h.kind).isSome &&
    (firstPair (s.out.open_.filter (fun g => g.kind == h.kind && g.sid == h.sid))).isSome)

/-- The next telegram of cycle `n` that wire link `l` sends: of the lowest session, none that must wait (R174). -/
def State.nextWire (s : State) (l n : Nat) : Option (Assembled × SessEntry) :=
  (s.image.sessions.filter (·.onLink l)).findSome? (fun e =>
    match s.out.assembled.find? (fun a => a.sid == e.sid && a.kind != 8 && a.cycle == n && !a.sent) with
    | some a => if s.mustWait l n e.sid then none else some (a, e)
    | none => none)

/-- The frames of a wire link in ascending session identifier, up to `k` of them (R174). -/
def State.flushWire (s : State) (l n : Nat) : Nat → State
  | 0 => s
  | k + 1 =>
    match if s.wireDrives l then s.nextWire l n else none with
    | none => s
    | some (a, e) =>
      let s := (s.modLink l (fun w => { w with tx := sat w.tx })).emit (.wire l (wireFrame (peerIds e).1 a.bytes))
      { s with out := { s.out with assembled := s.out.assembled.map (fun b => if b == a then { b with sent := true } else b) } }.flushWire l n k

/-- The wire links send what an assembly lets them (R174). -/
def State.flushWires (s : State) (n : Nat) : State :=
  (List.range 2).foldl (fun s l => s.flushWire l n s.out.assembled.length) s

/-- TELEGRAM_ASSEMBLY (R99, R168, R172, R174, R184, R259): the pumphouse assembles the next telegram of a session and TYPE, or with TYPE 8 the mirror
segment of that number, from the first two lanes with identical headers and payloads, and sends it on its transport. A telegram of the cycle is
assembled at an offset before D; a mirror telegram until the next freeze point discards it. -/
def execTelegramAssembly (sid : Fin 1024) (kind : BitVec 4) (offset : BitVec 32) (s : State) : Out :=
  let k := kind.toNat
  let key := fun (h : Handed) => h.kind == k && (if k = 8 then h.seg == sid.val else h.sid == sid.val && h.cycle == s.cycle)
  match firstPair (s.out.open_.filter key) with
  | none => .next s
  | some (h, g) =>
    if !s.leads || !s.phRuns || (k ≠ 8 && s.image.deadlineTicks ≤ offset.toNat) then .next s
    else
      let a : Assembled :=
        { sid := h.sid, kind := k, seg := h.seg, cycle := h.cycle, offset := offset.toNat, bytes := assemble h g, sent := false }
      let (s, sent) := if k = 8 then (s.sendCross 1 a.bytes, true)
        else match s.image.session h.sid with
          | some e => s.transmit e a
          | none => (s, false)
      .next ({ s with out := { s.out with assembled := s.out.assembled ++ [{ a with sent := sent }] } }.flushWires h.cycle)

/-- The telegrams of cycles before `n` that wait for an address at the deadline, discarded and counted on their network (R275, R278). -/
def State.lateNet (s : State) (k : Nat) (n : NetId) : State :=
  let late := fun (w : NetWait) => (w.cycle.map (fun c => decide (c < k))).getD false
  s.modNet n (fun t => { t with lateCnt := satAdd t.lateCnt (t.waiting.filter late).length, waiting := t.waiting.filter (fun w => !late w) })

/-- A CAN port at its deadlines (R275, R286): a frame in transmission, begun at the tide `begun`, goes on, every telegram past its deadline is
discarded. -/
def State.canDeadline (s : State) (p : Nat) (begun : Option Nat) : State :=
  (s.modCan p (fun c => c.keepSending begun s.tideNow)).expireCan p s.tideNow

/-- SENDING_DEADLINE (R275): at the tide mark of cycle n + 1 every telegram of cycle n on NET2, CAN or WIRE whose transmission has not begun
is discarded and counted, with all its CAN segments; `sending` names the CAN ports that have a frame on the bus, with the tide at which its
transmission began. -/
def execSendingDeadline (sending : List (Fin 6 × BitVec 64)) (s : State) : Out :=
  let n := s.cycle
  let s := (s.lateNet n .a).lateNet n .b
  let s := (List.range 2).foldl (fun s l =>
    let late := s.out.assembled.filter (fun a => decide (a.cycle < n) && !a.sent && a.kind != 8 &&
      (match s.image.session a.sid with
      | some e => e.transport == .wire && decide (e.port = 31 + l)
      | none => false))
    s.modLink l (fun w => { w with lateCnt := satAdd w.lateCnt late.length })) s
  let s := (List.range 6).foldl (fun s p => s.canDeadline p ((sending.find? (fun b => b.1.val == p)).map (·.2.toNat))) s
  .next { s with out := { handed := s.out.handed.filter (fun h => h.kind == 8 || decide (n ≤ h.cycle)),
                          assembled := s.out.assembled.filter (fun a => a.kind == 8 || decide (n ≤ a.cycle)) } }

/-! ## Ethernet (R276, R278, R279) -/

/-- Whether the filter of R279 delivers a frame of a safety network. -/
def State.passes (s : State) (n : NetId) (f : EthFrame) : Bool :=
  let net2 := s.image.sessions.filter (fun e => e.transport == .net2)
  let from_ := fun (e : SessEntry) =>
    f.src.toNat == (if n = .a then e.addrA else e.addrB) || f.src.toNat == (if n = .a then e.partnerA else e.partnerB)
  (match f.vlan with
    | none => true
    | some v => v == 0#12 || net2.any (fun e => e.vlan == v.toNat)) &&
    s.netIp n != 0 && f.dst.toNat == s.netIp n && f.whole && f.src != 0#32 &&
    net2.any (fun e => e.udp == f.dport.toNat && from_ e) && decide (26 ≤ f.payload.length) && decide (f.payload.length ≤ 1064)

/-- Whether a frame's tag is one that the network knows (R276, R279): none, that of VLAN 0, or on a safety network that of a NET2 session. -/
def State.tagKnown (s : State) (n : NetId) (f : EthFrame) : Bool :=
  match f.vlan with
  | none => true
  | some v => v == 0#12 || (n != .maint && s.image.sessions.any (fun e => e.transport == .net2 && e.vlan == v.toNat))

/-- The bridge passes a frame on, and learns its source (R276). -/
def State.bridge (s : State) (n : NetId) (f : EthFrame) : State :=
  let ports := s.bridgeTo n f.port.val f.macDst.toNat
  let s := s.learn n f.port.val f.macSrc.toNat
  if ports.isEmpty then s else s.emit (.bridged n ports f)

/-- ICMP_ECHO_REQUEST (R276, R278): answered, at most 16 times per second and network, once the requester's address is known. -/
def execIcmpEchoRequest (net : NetId) (src : BitVec 32) (second : BitVec 32) (s : State) : Out :=
  let t := s.net net
  let run := if t.icmpSec = second.toNat then t.icmpRun else 0
  if s.netSends net && decide (run < 16) then
    .next ((s.modNet net (fun t => { t with icmpSec := second.toNat, icmpRun := run + 1 })).sendOut net
      { d := s.datagram net src.toNat 0 0 0 [], cycle := none, failed := false, echo := true })
  else .next s

/-- A link of a network at port index `i`, counted from its lowest port. -/
def Net.setLink (t : Net) (i : Nat) (up gigabit : Bool) : Net :=
  let clear := fun (v : Nat) => if bit v i then v - 2 ^ i else v
  { t with links := clear t.links + flag up i, gig := clear t.gig + flag (up && gigabit) i }

/-- ETHERNET_LINK_UP (R276): the link is up, and a gratuitous ARP is sent. -/
def execEthernetLinkUp (net : NetId) (port : Fin 6) (gigabit : Bool) (s : State) : Out :=
  if port.val < netPorts net then .next ((s.modNet net (fun t => t.setLink port.val true gigabit)).gratuitous net) else .next s

/-- ETHERNET_LINK_DOWN (Table 11-7). -/
def execEthernetLinkDown (net : NetId) (port : Fin 6) (s : State) : Out :=
  if port.val < netPorts net then .next (s.modNet net (fun t => t.setLink port.val false false)) else .next s

/-! ## CAN (R173, R283 to R287) -/

/-- The receive identifiers of the sessions on a CAN port. -/
def State.canIds (s : State) (p : Nat) : List Nat :=
  (s.image.sessions.filter (fun e => e.transport == .can && e.port == 21 + p)).map (·.canRx)

/-- A telegram as it was before its last segment was padded (R173): its header gives its length, and with zeros after it the segments are those that came;
bytes of which that is not so are left as they are. -/
def unpadded (m : Image) (b : List Byte) : List Byte :=
  let t := b.take (24 + getBE b 10 2 + 2 * sealWidth (m.legacyFor b))
  if ((canSegments t).map (·.drop 1)).flatten = b then t else b

/-- A segment taken (R173): a frame with FIRST begins a telegram; one out of order, or a repeated index, discards what was received; LAST
completes it. -/
def CanPort.segment (c : CanPort) (key : Nat) (d : List Byte) : CanPort × Option (List Byte) :=
  let h := getByte d 0
  let i := bits h 0 6
  let old := Assoc.get [] c.partials key
  let drop := { c with partials := Assoc.put [] c.partials key [], nextSeg := Assoc.put 0 c.nextSeg key 0 }
  if bit h 7 || (i ≠ 0 && i = Assoc.get 0 c.nextSeg key && old ≠ []) then
    if bit h 7 && i ≠ 0 then (drop, none)
    else
      let all := (if bit h 7 then [] else old) ++ d.drop 1
      if bit h 6 then (drop, some all)
      else ({ c with partials := Assoc.put [] c.partials key all, nextSeg := Assoc.put 0 c.nextSeg key (i + 1) }, none)
  else (drop, none)

/-- What the port puts on the bus for a frame it receives (R284): the acknowledge, or an error frame, as its error state says. -/
def State.canAnswer (s : State) (p : Nat) (bad : Bool) : State :=
  let c := s.canPort p
  let s := s.modCan p (if bad then CanPort.gotError else CanPort.gotFrame)
  if s.portOff (21 + p) then s else s.emit (if bad then .canError p (c.state == .active) else .canAck p)

/-- CAN_FRAME_RECEIVE (R173, R282, R284): a port in normal operation acknowledges a good frame and answers a bad one with an error frame. It
delivers the frames of its sessions' receive identifiers and reassembles their telegrams; it counts classical remote frames and other identifiers;
a CAN FD remote frame is not supported. A classical frame carries no segment. -/
def execCanFrameReceive (p : Fin 6) (f : CanFrame) (at_ : Placing) (s : State) : Out :=
  let c := s.canPort p.val
  let key := flag f.ext 31 + (if f.ext then f.ident.toNat else f.ident.toNat % 2048)
  if !(c.state == .active || c.state == .passive) then .next s
  else
  let s := (s.traffic (21 + p.val)).canAnswer p.val f.bad
  let c := s.canPort p.val
  if f.bad || (f.fd && f.remote) then .next s
  else if f.remote then .next (s.modCan p.val (fun c => { c with remote := sat c.remote }))
  else if !(s.canIds p.val).contains key then .next (s.modCan p.val (fun c => { c with filter := sat c.filter }))
  else
    let c := { c with rx := sat c.rx }
    let (c, whole) := if f.fd then c.segment key f.data else (c, none)
    let s := s.modCan p.val (fun _ => c)
    match whole with
    | some b => .next (s.place at_ (.can p) (unpadded s.image b))
    | none => .next s

/-- CAN_RATE_DETECTION (R283): a port that detects its rate locks at the second good frame; an error or 100 ms without a frame moves it to
the next candidate. -/
def execCanRateDetection (p : Fin 6) (seen : CanSeen) (s : State) : Out :=
  if (s.canPort p.val).state = .detecting then
    .next (s.modCan p.val (fun c =>
      match seen with
      | .goodFrame => if c.good = 1 then { c with state := .active, good := 2, tec := 0, rxErr := 0 } else { c with good := c.good + 1 }
      | _ => { c with rate := (c.rate + 1) % 9, good := 0 }))
  else .next s

/-- A port whose transmit error counter has passed 255 (R286): bus-off, with the entry at the head of its queue pinned. -/
def CanPort.goBusOff (c : CanPort) : CanPort :=
  { c with state := .busOff, pinned := c.head, queue := (match c.sending with
             | some e => e :: c.queue
             | none => c.queue), sending := none, tec := 255, recovery := 0, busOffCnt := sat c.busOffCnt }

/-- A frame of the queue sent after `errors` attempts that failed: the transmit error counter rises by 8 for each and falls by 1 for the one that
went through (PRESUMED, log entry 101); the transmitter delay is measured where bits were sent at the data rate (R282; log entry 12). -/
def CanPort.frameSent (c : CanPort) (e : CanEntry) (errors : Nat) (brs : Bool) (delay : Nat) : CanPort :=
  { c with queue := c.queue.erase e, pinned := none, sending := none, tx := sat c.tx, tdc := if brs then delay else c.tdc,
           tec := c.tec + 8 * errors - 1 }.judged

/-- The error frames of `n` attempts of a port that failed (R284): each is an active one until the counter that the attempts raise by 8 reaches 128
(PRESUMED, log entry 101). -/
def State.canFailed (s : State) (p n : Nat) : State :=
  if s.portOff (21 + p) then s
  else
    let c := s.canPort p
    (List.range n).foldl (fun s i => s.emit (.canError p (decide (c.tec + 8 * i < 128) && decide (c.rxErr < 128)))) s

/-- CAN_FRAME_SENT (R275, R282, R284 to R287): the entry the queue offered when the transmission began, at the tide `begun`, wins arbitration and its
transmission completes, after `errors` attempts that failed, each with its error frame; entries past their deadline were discarded before they were
offered; only the watcher sends. Segments travel as CAN FD frames, reference messages as classical ones. Where the attempts take the error counter past
255 the port goes bus-off instead. -/
def execCanFrameSent (p : Fin 6) (begun : BitVec 64) (errors : BitVec 8) (s : State) : Out :=
  let s := s.modCan p.val (fun c => c.retryLate begun.toNat)
  let s := (s.expireCan p.val begun.toNat).modCan p.val (fun c => c.missRefs begun.toNat)
  let c := s.canPort p.val
  match c.headAt begun.toNat with
  | none => .next s
  | some e =>
    if (c.state == .active || c.state == .passive) && s.leads && s.phRuns && !s.portOff (21 + p.val) then
      if 255 < c.tec + 8 * errors.toNat then .next ((s.canFailed p.val (ceilDiv (256 - c.tec) 8)).modCan p.val CanPort.goBusOff)
      else
        let fd := e.sid.isSome
        let brs := fd && decide (bits (s.canCodes p.val) 0 4 ≠ 0)
        let s := s.canFailed p.val errors.toNat
        .next ({ s.modCan p.val (fun c => c.frameSent e errors.toNat brs (Config.measured s.fresh 1 % 2 ^ 32)) with
          fresh := s.fresh + 1 }.emit (.can p.val fd brs e.ident e.data))
    else .next s

/-- BUS_OFF (R284, R286): an attempt fails, with its error frame, and the port enters bus-off and pins the entry at the head of its queue. -/
def execBusOff (p : Fin 6) (s : State) : Out :=
  let c := s.canPort p.val
  if c.state == .active || c.state == .passive then .next ((s.canFailed p.val 1).modCan p.val CanPort.goBusOff) else .next s

/-- BUS_OFF_RECOVERY (R286, Table 11-9): the port in bus-off observes further sequences of 11 recessive bits. Once it has seen 128 it is error active
again; entries past their deadline are discarded, the pinned entry is offered first. -/
def execBusOffRecovery (p : Fin 6) (sequences : BitVec 8) (s : State) : Out :=
  let c := s.canPort p.val
  let n := c.recovery + sequences.toNat
  if c.state == .busOff || c.state == .recovering then
    if n < 128 then .next (s.modCan p.val (fun c => { c with state := .recovering, tec := 0, rxErr := 0, recovery := n }))
    else .next ((s.modCan p.val (fun c => { c with state := .active, tec := 0, rxErr := 0, recovery := 0 })).expireCan p.val s.tideNow)
  else .next s

/-- CAN_EXPIRED (R275, R286): every queued frame whose deadline has passed is discarded with the other segments of its telegram, but for one in
transmission since the tide `sending`. -/
def execCanExpired (p : Fin 6) (sending : Option (BitVec 64)) (s : State) : Out := .next (s.canDeadline p.val (sending.map (·.toNat)))

/-- REFERENCE_MESSAGE_MISS (R287): a reference message not sent within 1 ms of its tide mark is discarded and counted. -/
def execReferenceMessageMiss (p : Fin 6) (s : State) : Out :=
  .next (s.modCan p.val (fun c => c.missRefs (s.cycle * s.image.period + 100000)))

/-! ## Wire links (R174, R289) -/

/-- WIRE_FRAME_RECEIVE (R174, R289): the characters between two flags are checked for stop bits, an abort, their number, the FCS and the
address; the telegram is delivered to the basin. A pumphouse whose ports are in reset receives none. -/
def execWireFrameReceive (l : Fin 2) (chars : List Byte) (stopError : Bool) (at_ : Placing) (s : State) : Out :=
  let body := unescape chars
  let n := body.length
  let fcs := getByte body (n - 2) + 256 * getByte body (n - 1)
  let t := s.traffic (31 + l.val)
  let count := fun (f : Wire → Wire) => Host.Outcome.next (t.modLink l.val (fun w => f { w with idle := true }))
  if !s.phRuns then .next s
  else if stopError then count (fun w => { w with charErr := sat w.charErr })
  else if chars.getLast? = some 0x7D#8 then count (fun w => { w with abort := sat w.abort })
  else if 2136 < chars.length then count (fun w => { w with long := sat w.long })
  else if n < 4 || fcs ≠ crc wireFcsParams (body.take (n - 2)) then count (fun w => { w with fcsErr := sat w.fcsErr })
  else if getByte body 0 ≠ (ownIds s.unitId).1 then count (fun w => { w with addrCnt := sat w.addrCnt })
  else if getByte body 1 ≠ 3 then count (fun w => w)
  else .next ((t.place at_ (.wire l) (slice body 2 (n - 4))).modLink l.val (fun w => { w with idle := true, rx := sat w.rx }))

/-! ## PTP (R291, R292) -/

/-- PTP_MESSAGE_RECEIVE (R291, R292): an Announce of the unit's domain selects the best master; until a Sync of a new one locks the clock, it is
uncalibrated and UTC not present. A Sync or Follow_Up of the selected master gives the offset and UTC; a Delay_Resp the mean path delay. -/
def execPtpMessageReceive (msg : PtpMsg) (s : State) : Out :=
  let p := s.ptp
  match msg with
  | .announce d m =>
    if d ≠ s.settings.domain || !s.ptpRuns then .next s
    else
      let take : Bool := match p.master with
        | none => true
        | some old => old.ident == m.ident || masterBefore m old
      let same := p.master.map (·.ident) = some m.ident
      if take && same then .next { s with ptp := { p with master := some m } }
      else if take then .next { s with ptp := { p with master := some m, state := 2, pendingSync := false, present := false, seconds := 0 } }
      else .next s
  | .sync d ident two sec t =>
    if !s.fromMaster d ident then .next s
    else if two then .next { s with ptp := { p with twoStep := true, pendingSync := true } }
    else .next { s with ptp := { p with twoStep := false }.useSync sec t }
  | .followUp d ident sec t =>
    if s.fromMaster d ident && p.pendingSync then .next { s with ptp := p.useSync sec t } else .next s
  | .delayResp d ident t =>
    if s.fromMaster d ident then
      let delay := halve (p.t2t1 + t)
      .next { s with ptp := { p with delay := delay, offset := p.t2t1 - delay } }
    else .next s

/-- ANNOUNCE_RECEIPT_TIMEOUT (R291, R292): the selected master is given up; a locked clock holds over. -/
def execAnnounceReceiptTimeout (s : State) : Out :=
  let p := s.ptp
  if p.master.isSome then
    .next { s with ptp := { p.noMaster with timeoutCnt := sat p.timeoutCnt } }
  else .next s

/-- UTC_HOLDOVER_END (R292): 60 s after the last Sync UTC is no longer present. -/
def execUtcHoldoverEnd (s : State) : Out :=
  if s.ptp.state = 4 then .next { s with ptp := { s.ptp with state := 1, present := false, seconds := 0 } } else .next s

/-- The Delay_Req of the delay mechanism (R291): sent while a master is selected. -/
def execPtpDelayRequest (s : State) : Out :=
  if s.ptp.master.isSome && s.netIp .maint != 0 && (s.net .maint).forwarding then .next (s.emit .ptpDelay) else .next s

end Sys2Proof.Machine
end

