-- ==== Sys2Proof/Machine/Vote.lean ====
section
/-! DEFINITION. The commands of the vote and of the tide exchange: the gauge, the comparison window, the decision, the commit, the output
deadline, test gauges, TIDE messages (chapters 1, 4 and 6). -/

namespace Sys2Proof.Machine

/-- The GAUGE message of lane `x` in the cycle in progress (Table 6-4). -/
def Lane.gaugeMsg (l : Lane) (x : LaneId) (g : BitVec 128) (test : Bool) : GaugeMsg :=
  { sender := x, test := test, candidate := l.vt.state == .candidate, leaving := l.vt.leaving, mask := l.vt.mask,
    cycle := l.td.cycle, gauge := g, echo := BitVec.ofNat 8 l.vt.echoOut }

/-- The scan's results in the lane (R128, Table 7-14). -/
def Lane.scanned (l : Lane) (x : LaneId) (offset waited : Nat) : Lane :=
  let p := l.gaugeParts
  let g := gaugeOf p
  { l with
      cv := { l.cv.serveScan with waitMax := max l.cv.waitMax waited, resA := p.1, resB := p.2 }
      td := { l.td with phase := .vote, tScan := offset }
      vt := { l.vt with own := some g, gaugeCycle := l.td.cycle % 2 ^ 32, gauges := l.vt.gauges.set x g } }

/-- A lane's comparator on a test gauge (R144, R145): `equal` where it reports equal. -/
def Vote.comparator (v : Vote) (m : GaugeMsg) (stuckEqual : Bool) : Bool := stuckEqual || v.own == some m.gauge

/-- The outcome of a test gauge in the receiver (R145): flagged as different, or not flagged, when the lane withdraws. -/
def State.testResult (s : State) (x : LaneId) (m : GaugeMsg) (stuckEqual : Bool) : State :=
  let equal := (s.lane x).vt.comparator m stuckEqual
  let s := s.modLane x (fun l =>
    { l with vt := { l.vt with testSelf := if equal then 2 else 1, echoOut := if equal then 2 else 1, testSent := false,
                               testBit := testBitOf m.cycle, heldTest := none,
                               testCnt := if equal then l.vt.testCnt else sat l.vt.testCnt } })
  if equal then s.withdraw x 5 false else s

/-- GAUGE_SCAN_COMPLETE (R128, R129, R131, R132, R144, R152, R159): before D the gauge stands in slots 3 and 4. A lane in service sends
it and opens its window, and in its test cycle sends the test gauge after it; a candidate sends it and commits its sweep into its own
buffers; a lane in independent-lane mode commits. `waited` are the clocks the scan waited (CV_SCAN_WAIT_MAX). -/
def execGaugeScanComplete (x : LaneId) (offset waited : BitVec 32) (s : State) : Out :=
  let l := s.lane x
  let m := l.image
  let n := l.td.cycle
  if l.evaluates && l.pe.state == .complete && l.vt.own.isNone && decide (offset.toNat < m.deadlineTicks) then
    let l1 := l.scanned x offset.toNat waited.toNat
    let g := gaugeOf l.gaugeParts
    let s1 := s.modLane x (fun _ => l1)
    match l.vt.state with
    | .independent =>
      let s2 := s1.modLane x (fun l => l.commit n offset.toNat)
      .next (s2.mramWrite (.lane x) (.retained x) (fun s => s.modLane x (fun l => l.writeSnapshot m n s.cfg.powerCycles)))
    | .candidate =>
      let s2 := (s1.emit (.gauge x (l1.gaugeMsg x g false).frame)).modLane x (fun l => l.commit n offset.toNat)
      let s3 := s2.modLane x (fun l => { l with vt := { l.vt with echoOut := 0 } })
      .next (s3.modLane x (fun l => if s.leads then l.spendCycle m n else { l with ts := l.ts.dropAnswers m n }))
    | _ =>
      let s2 := s1.emit (.gauge x (l1.gaugeMsg x g false).frame)
      let s3 := s2.modLane x (fun l => { l with vt := { l.vt with echoOut := 0, windowOpen := true } })
      let s4 := if testCycle n && testLane n = x then
          (s3.emit (.gauge x { l1.gaugeMsg x (flipBit g (testBitOf n)) true with echo := 0 }.frame)).modLane x (fun l =>
            { l with vt := { l.vt with testSent := true, testBit := testBitOf n, testEcho := PerLane.all 0 } })
        else s3
      .next (match l.vt.heldTest with
        | some (t, stuck) => s4.testResult x t stuck
        | none => s4)
  else .next s

/-- The GAUGE message that a frame from lane `link` carries, if it is one of that lane (Table 6-4). What comes back on the loopback endpoint
serves the interconnect test alone (R130). -/
def gaugeFrom (x link : LaneId) (frame : List Byte) : Option GaugeMsg :=
  match GaugeMsg.ofFrame frame with
  | some m => if m.sender = link ∧ link ≠ x then some m else none
  | none => none

/-- A gauge of the cycle in progress held for the window (R132, R152); an echo of the test gauge just sent is noted (R145); and a mask of a peer in
the lane's own mask that excludes the lane withdraws it with cause 9 (R138). -/
def State.takeGauge (s : State) (x : LaneId) (m : GaugeMsg) : State :=
  let l := s.lane x
  let s1 := s.modLane x (fun l =>
    let v := if m.candidate then { l.vt with cand := l.vt.cand.set m.sender (some m) }
      else { l.vt with got := l.vt.got.set m.sender (some m) }
    { l with vt := if m.echo ≠ 0 && l.vt.testSent then { v with testEcho := v.testEcho.set m.sender m.echo.toNat } else v })
  if l.inService && !m.candidate && l.vt.mask.get m.sender && !m.mask.get x then s1.withdraw x 9 false else s1

/-- GAUGE_RECEIVE (R130, R131, R138, R145): the bytes of a frame as they arrive at lane `x` from lane `link`. A frame that fails its CRC is counted;
a genuine or candidate gauge of the cycle in progress is held for the window. -/
def execGaugeReceive (x link : LaneId) (frame : List Byte) (s : State) : Out :=
  let l := s.lane x
  if !linkFrameOk frame then .next (s.linkError x link)
  else match gaugeFrom x link frame with
    | some m =>
      if (l.inService || l.vt.state == .candidate) && !m.test && decide (m.cycle = l.td.cycle) then .next (s.takeGauge x m) else .next s
    | none => .next s

/-- TEST_GAUGE_RECEIVE (R144, R145): the receiver compares the test gauge with its own gauge of the cycle through its comparator, which
must find them different; one that reports equal withdraws its lane with cause 5. A gauge that comes before the lane's own is held
until then. It never enters the vote. A lane that is not in service is no receiver of a test gauge: DEDUCED from R145, whose only consequence
for a receiver is its withdrawal from service (log entry 79). -/
def execTestGaugeReceive (x link : LaneId) (frame : List Byte) (stuckEqual : Bool) (s : State) : Out :=
  let l := s.lane x
  if !linkFrameOk frame then .next (s.linkError x link)
  else match gaugeFrom x link frame with
    | some m =>
      if !(l.inService && m.test && decide (m.cycle = l.td.cycle)) then .next s
      else if l.vt.own.isSome then .next (s.testResult x m stuckEqual)
      else .next (s.modLane x (fun l => { l with vt := { l.vt with heldTest := some (m, stuckEqual) } }))
    | none => .next s

/-- A gauge kept for the dump: the last 16 stay (Table 15-4). -/
def Trace.keepGauge (t : Trace) (g : GaugeNote) : Trace :=
  let gs := t.gauges ++ [g]
  { t with gauges := gs.drop (gs.length - 16) }

/-- The window's close as the lane shows it: the gauges heard, the decision, the instant; and the gauge kept for the dump. -/
def Lane.closeWindow (l : Lane) (x : LaneId) (decision : Nat) : Lane :=
  let v := l.vt
  let heard := x.peers.foldl (fun (h : Mask) y => h.set y (v.got.get y).isSome) (PerLane.all false)
  let gauges := x.peers.foldl (fun (g : PerLane (BitVec 128)) y => g.set y ((v.got.get y).map (·.gauge) |>.getD 0)) v.gauges
  { l with vt := { v with windowOpen := false, heard := heard, gauges := gauges, decision := decision },
           trace := l.trace.keepGauge { cycle := l.td.cycle, gauge := v.own.getD 0, heard := heard, decision := decision } }

/-- A lane continues (R135): it commits the cycle, compares a candidate's gauge with its own, and updates its service mask. -/
def State.continueLane (s : State) (x : LaneId) (removed : Option LaneId) (own : BitVec 128) (offset : Nat) : State :=
  let old := (s.lane x).vt.lastState
  let n := (s.lane x).td.cycle
  let s := s.modLane x (fun l =>
    let l := (l.closeWindow x (if removed.isSome then 2 else 1)).commit n offset
    { l with vt := { l.vt with mask := l.vt.maskAfter x removed }.countCandidates x own })
  s.afterCommit x n old

/-- COMPARISON_WINDOW_CLOSE (R132 to R138, R97): before D, once every expected gauge is in or 2 ms have passed since the opening, the
lane decides by Table 6-5 or R134: it continues and commits, withdraws as minority with cause 1, or stops. -/
def execComparisonWindowClose (x : LaneId) (offset : BitVec 32) (s : State) : Out :=
  let l := s.lane x
  match l.vt.own with
  | none => .next s
  | some own =>
    if l.inService && l.vt.windowOpen && decide (offset.toNat < l.image.deadlineTicks) &&
        (l.vt.allIn x || decide (l.td.tScan + 200000 ≤ offset.toNat)) then
      match l.vt.decide3 x own with
      | .continue_ removed => .next (s.continueLane x removed own offset.toNat)
      | .minority => .next ((s.modLane x (fun l => l.closeWindow x 3)).withdraw x 1 false)
      | .stop cause => .next ((s.modLane x (fun l => l.closeWindow x 4)).stopLane x cause)
    else .next s

/-- The cause of a late cycle (Table 4-7): sweep not complete, scan not complete, vote not decided. -/
def Lane.lateReason (l : Lane) : Nat :=
  if l.vt.own.isSome then 3 else if l.pe.state == .complete then 2 else 1

/-- Steps 1, 2 and 4 of R101 in a lane: the cycle abandoned, SWEEP_LATE for an unfinished sweep, the cause, the count and the record. DESIGN CHOICE: the
buffers of a lane that goes on after this in independent-lane mode stay as the abandoned sweep left them, and the next sweep begins from them with no new
copy; the spec says nothing of current and next then (R65, log entry 115). -/
def Lane.late (l : Lane) (x : LaneId) : Lane :=
  let why := l.lateReason
  let pe := { l.pe with sweepLate := l.pe.sweepLate || why == 1, state := .idle }
  let td := { l.td with phase := .late, lateCnt := sat l.td.lateCnt, lateCause := why, lateCycle := l.td.cycle }
  { l with pe := pe, td := td, vt := { l.vt with windowOpen := false, own := none } }.log x 0x0401 3 [td.lateReg]

/-- How many lanes in service have committed cycle n. -/
def State.committedCount (s : State) (n : Nat) : Nat :=
  (s.serviceLanes.filter (fun y => decide ((s.lane y).vt.committed = some n))).length

/-- Whether lane `y` has committed cycle n or can still do so: it is in service and has not been late in it. -/
def State.mayCommit (s : State) (y : LaneId) (n : Nat) : Bool :=
  (s.lane y).inService && (decide ((s.lane y).vt.committed = some n) || (s.lane y).td.phase != .late)

/-- The lanes that were late in cycle n and withdrew stop when it turns out that fewer than two lanes commit it (R102). -/
def State.stopLate (s : State) (n : Nat) : State :=
  LaneId.list.foldl (fun s y =>
    let l := s.lane y
    if (l.vt.state == .withdrawn || l.vt.state == .reset) && decide (l.vt.minCause = 2) && decide (l.vt.minCycle = n) then
      s.stopLane y (stopCauseOfMask l.vt.mask true)
    else s) s

/-- OUTPUT_DEADLINE (R98, R101, R102, R152): at D a lane that has not committed abandons the cycle, stops its drive, records the cause and
withdraws for a resync. Where two lanes neither have committed nor can still do so, it stops, as every late lane does. A candidate's attempt aborts; a
lane in independent-lane mode goes on. From D on nothing is sealed for the cycle: a seal that a committed lane of the watcher has not handed over
never is, and is counted. -/
def execOutputDeadline (x : LaneId) (s : State) : Out :=
  let l := s.lane x
  let m := l.image
  let n := l.td.cycle
  if !l.evaluates || l.td.phase = .none || l.td.phase = .late || l.td.pastD then .next s
  else
    let s := s.modLane x (fun l => { l with td := { l.td with pastD := true } })
    if l.vt.committed = some n then
      if l.inService && s.leads && l.td.phase == .committed then
        let lost := (l.handed m s.unit x n s.serviceMask).length
        .next (s.modLane x (fun l =>
          { l with td := { l.td with sealLateCnt := satAdd l.td.sealLateCnt lost }, ts := l.ts.spent m n }))
      else .next s
    else
      let s1 := s.modLane x (fun l => l.late x)
      match l.vt.state with
      | .independent => .next s1
      | .candidate => .next (s1.abortResync x 4)
      | _ =>
        if 2 ≤ (x.peers.filter (fun y => s.mayCommit y n)).length then .next (s1.withdraw x 2 false)
        else .next ((s1.stopLane x (stopCauseOfMask l.vt.mask true)).stopLate n)

/-- A lane's own reaction to an agreement (R141, R142): with three lanes in its mask a lane that disagrees itself withdraws. -/
def State.tideReaction (s : State) (x : LaneId) : State :=
  let l := s.lane x
  if l.inService && decide (Mask.count l.vt.mask = 3) && l.vt.disagree.get x ≠ 0 then s.withdraw x (l.vt.disagree.get x) false else s

/-- The lanes that a lane in service measures without counting them in its agreement: one that has joined (R148) whose value is in. -/
def State.measuredBy (s : State) (x : LaneId) : List LaneId :=
  let l := s.lane x
  if l.inService then
    x.peers.filter (fun y => !l.vt.mask.get y && (s.lane y).vt.joinCycle.isSome && (l.td.rx.get y).isSome)
  else []

/-- A lane that has joined and deviates by more than 300 ppm in a donor's measure aborts its attempt with code 7 (R148). -/
def State.judgeJoiners (s : State) (x : LaneId) (ys : List LaneId) : State :=
  ys.foldl (fun s y => if exceedsRate ((s.lane x).td.devs.get y) then s.abortResync y 7 else s) s

/-- A donor measures a lane that has joined against the agreement that it has formed in this cycle (R148). -/
def State.measureJoiner (s : State) (x y : LaneId) : State :=
  let l := s.lane x
  match l.td.rx.get y with
  | none => s
  | some (off, rate) =>
    let td := { l.td.note y (off + l.td.spread) rate l.image.period with rx := l.td.rx.set y none }
    (s.modLane x (fun l => { l with td := td })).judgeJoiners x [y]

/-- TIDE_RECEIVE (R25, R140 to R142, R148): a TIDE message of `sender` with its count and the correction it applies, received where the lane's own
tide reads `own`. The link delay is subtracted; once the values of every lane concerned are in, the lane forms the agreed tide, measures
deviations and offsets, and corrects its rate. The count is compared with the lane's own tide at receipt, and a delay not yet measured counts as
0: DEDUCED, the spec names neither (log entry 80). -/
def execTideReceive (x sender : LaneId) (count : BitVec 64) (rate : Int) (own : BitVec 64) (crcOk : Bool) (s : State) : Out :=
  let l := s.lane x
  if !crcOk then .next (s.linkError x sender)
  else if sender = x then .next s
  else
    let value : Int := (count.toNat : Int) - ((l.td.linkDelay.get sender).getD 0 : Nat)
    let s1 := s.modLane x (fun l => { l with td := { l.td with rx := l.td.rx.set sender (some (value - (own.toNat : Int), rate)) } })
    let peers := s1.tidePeers x
    if l.inService && !l.vt.mask.get sender then
      (if (s.lane sender).vt.joinCycle.isSome && decide (l.td.agreeCycle = some l.td.cycle) then .next (s1.measureJoiner x sender) else .next s1)
    else if peers.isEmpty || !peers.all (fun y => ((s1.lane x).td.rx.get y).isSome) then .next s1
    else
      let joined := s1.measuredBy x
      let a : Agreement := { peers := peers, own := l.inService || l.indep, measured := joined, ahead := s.leaderAhead }
      let s2 := s1.modLane x (fun l => l.agree x a l.image.period s.fresh)
      .next (({ s2 with fresh := s.fresh + 1 }.judgeJoiners x joined).tideReaction x)

end Sys2Proof.Machine
end

