-- ==== Sys2Proof/Machine/Cycle.lean ====
section
/-! DEFINITION. The two instants that every lane shares: the tide mark (R28, R105, R140, R152, R156, R263, R287) and the freeze point (R94,
R122, R149, R151, R152, R255, R261). -/

namespace Sys2Proof.Machine

/-! ## The tide mark: what the cycle just ended decides -/

/-- Whether cycles begin: the unit votes and knows its role (R110, R250), or its lanes run on their own (R159). -/
def State.cycles (s : State) : Bool :=
  ((s.leads || s.sleeps) && !s.serviceLanes.isEmpty) || LaneId.list.any (fun x => (s.lane x).indep)

/-- A lane for which a cycle begins: one that evaluates, or one that follows the donors' cycles in its resync (R151). -/
def Lane.begins (l : Lane) : Bool := l.evaluates || l.keepsArrivals

/-- The cycle that begins: the next one, or for the first that of the tide's count (R26, R220). -/
def State.nextCycle (s : State) : Nat := if s.cycle = 0 then s.tideNow / s.image.period + 1 else s.cycle + 1

/-- What a donor forgets of a lane that its mask takes in (R145, R152). -/
def Vote.takeIn (v : Vote) (x : LaneId) : Vote :=
  { v with mask := v.mask.set x true, candRun := v.candRun.set x 0, disagree := v.disagree.set x 0, testEcho := v.testEcho.set x 0 }

/-- RESYNC_ADMISSION (R152): the candidate enters every service mask for the cycle that begins; its resync and a rotation of it are done. A change of
the mirror frames that its donors have applied stands in the base it took (R262). -/
def State.admitLane (s : State) (x y z : LaneId) : State :=
  let old := s.serviceMask
  let mask := (s.lane y).vt.mask.set x true
  let done := (s.lane y).mir.doneChange
  let s := s.modLane x (fun l => { l.takeIn x mask s.tideMs with mir := { l.mir with doneChange := done } })
  let s := (s.modLane y (fun l => { l with vt := l.vt.takeIn x })).modLane z (fun l => { l with vt := l.vt.takeIn x })
  (s.endRotation x).maskNotice old none

/-- A lane in resync at a tide mark: without its donors its attempt aborts with code 3 (R150); a candidate whose gauge differed or was
missing in the cycle ended aborts with code 4, and one with three equal gauges is admitted once each donor has measured it at four
agreements (R148, R152). -/
def State.judgeResync (s : State) (x : LaneId) : State :=
  let st := (s.lane x).vt.state
  if !(st == .loading || st == .joining || st == .base || st == .catchUp || st == .candidate) then s
  else match s.donors x with
    | none => s.abortResync x 3
    | some (y, z) =>
      let run := fun (d : LaneId) => (s.lane d).vt.candRun.get x
      let seen := fun (d : LaneId) => ((s.lane d).td.devs.get x).length
      if st ≠ .candidate then s
      else if run y = 0 || run z = 0 then s.abortResync x 4
      else if 3 ≤ run y && 3 ≤ run z && 4 ≤ seen y && 4 ≤ seen z then s.admitLane x y z
      else s

/-- The leaving lane of a rotation that has committed its last cycle withdraws with cause 7 and tests itself (R156). -/
def State.rotateOut (s : State) (x : LaneId) (old : Nat) : State :=
  let l := s.lane x
  if l.inService && l.vt.leaving && l.vt.committed == some old then
    let s := (s.withdraw x 7 false).modLane x (fun l =>
      { l with vt := { l.vt with state := .rotationTest, rotLast := 0, rotCycle := l.td.cycle } })
    { s with unit := { s.unit with rot := { s.unit.rot with state := 3 } } }
  else s

/-- The runs of committed cycles that the issue floor and firmware on trial wait for (R353, R359). -/
def State.countRuns (s : State) (old : Nat) : State :=
  let done := decide (2 ≤ s.committedCount old)
  let plain := s.leads || (s.sleeps && !s.mapped)
  let all := LaneId.list.all (fun x => !s.unit.started.get x || (s.lane x).inService)
  let trial := LaneId.list.any (fun x => (s.lane x).ls.fw.onTrial) || s.ph.fw.onTrial
  let s := s.mapLanes (fun _ l =>
    if !l.inService then l
    else
      let ok := done && plain && (s.leads || decide (l.mir.run ≠ 0))
      { l with ls := { l.ls with floorRun := if ok then l.ls.floorRun + 1 else 0 } })
  { s with upd := { s.upd with trialRun := if done && all && trial then s.upd.trialRun + 1 else 0 } }

/-- The cycle just ended as a sleeper judges its partner's silence (R263), and what was heard in it. -/
def UnitState.endCycle (u : UnitState) (sleeper : Bool) : UnitState :=
  let heard := u.heard27Now || u.heard28Now || u.syncNow || u.swapNotice
  let run := if sleeper && !heard then u.silentRun + 1 else 0
  { u with heard27 := u.heard27Now, heard28 := u.heard28Now, syncSeen := u.syncNow, heard27Now := false, heard28Now := false,
           syncNow := false, swapNotice := false, silentRun := run, held := u.held && run != 0, heldRec := u.heldRec && run != 0 }

/-! ## The tide mark: the cycle that begins -/

/-- LOCAL_OUTPUT_SWITCH (R105, R135, R236, R237): a lane in service that committed the cycle just ended, and whose drive gate is open (R160), drives
its outputs; any other drives nothing. A test window that the new demand aborts is one interval missed (R242, R243). -/
def Lane.switchOutputs (l : Lane) (x : LaneId) (n : Nat) (sleeper share : Bool) : Lane :=
  if l.inService && l.gateOpen && l.vt.committed == some (n - 1) then l.drive x l.image sleeper share
  else { l with io := l.io.stopDrive }

/-- The number of the cycle that begins in lane `x`: that of the unit, or in independent-lane mode its own next. -/
def State.cycleOf (s : State) (x : LaneId) (n : Nat) : Nat :=
  let l := s.lane x
  if l.indep then (if l.td.cycle = 0 then l.td.tide / l.image.period + 1 else l.td.cycle + 1) else n

/-- The tide stands at the tide mark of the cycle that begins (R26). -/
def Lane.advance (l : Lane) (n : Nat) : Lane := { l with td := { l.td.reach (n * l.image.period) with cycle := n } }

/-- The tide at which the next cycle of lane `x` in independent-lane mode begins. -/
def State.nextMark (s : State) (x : LaneId) : Nat := s.cycleOf x 0 * (s.lane x).image.period

/-- Whether an instant `t` is the earliest of the independent lanes' instants `at_`, each lane's on its own image (R159). -/
def State.earliest (s : State) (at_ : LaneId → Nat) (t : Nat) (among : Lane → Bool) : Bool :=
  LaneId.list.all (fun y => !((s.lane y).indep && among (s.lane y)) || decide (t ≤ at_ y))

/-- Whether the tide mark that comes is one of lane `x`: in voting mode the lanes share their marks; in independent-lane mode each lane has those of
its own image, and the next is the earliest (R159). -/
def State.markDue (s : State) (x : LaneId) : Bool :=
  (s.lane x).begins && (!(s.lane x).indep || s.earliest s.nextMark (s.nextMark x) (fun _ => true))

/-- What a sleeper lane compares its shared outputs with from the tide mark of cycle `n` (R248): the commands of the frame of cycle n − 1, which the
watcher now drives; without that frame its samples wait for it, and what was held for a frame that did not come is gone. -/
def Lane.comparePartner (l : Lane) (n : Nat) (sleeper : Bool) : LaneIO :=
  match if sleeper then l.frameFor l.image n else none with
  | some (data, _) => l.io.partner (BitVec.ofNat 32 (getBE data 144 4)) (n * l.image.tCycle)
  | none => { l.io with partnerLive := false, partnerHeld := [] }

/-- The cycle that has begun in a lane (R28, R92): the comparison window's data are new, and the engine of a lane that evaluates waits for the
freeze point (R89). -/
def Lane.beginCycle (l : Lane) (x : LaneId) (sleeper share : Bool) : Lane :=
  let run := l.evaluates
  let td := { l.td with deferLast := l.td.deferNow, deferNow := false, pastD := false, phase := if run then .input else .none }
  let vt := { l.vt with own := none, windowOpen := false, got := PerLane.all none, cand := PerLane.all none, heldTest := none }
  let io := { l.comparePartner l.td.cycle sleeper with litLast := l.io.litInCycle, litInCycle := false }
  let pe := { l.pe with freezeDone := false, sweepEn := run, state := if run && l.pe.copyDone then .waiting else l.pe.state }
  { l with td := td, vt := vt, io := io, pe := pe }.switchOutputs x l.td.cycle sleeper share

/-- The tide mark in one lane: the cycle begins, and the lane sends its TIDE message (R140). -/
def State.beginLane (s : State) (share : Bool) (due : Mask) (x : LaneId) : State :=
  if due.get x then
    let s := s.modLane x (fun l => l.beginCycle x s.sleeps share)
    s.emit (.tide x (s.lane x).td.tide (s.lane x).td.rate)
  else s

/-- How many mirror telegrams a mirror frame has (R258). -/
def mirrorCount (m : Image) : Nat := ceilDiv m.mirrorVolume 1016

/-- The cycle just ended is kept in a lane that evaluated it, as its registers show it; the last 64 stay (Table 15-4). -/
def State.keepTimeline (s : State) (x : LaneId) (l : Lane) : Lane :=
  let td := fun off => s.regsTd x off
  let line : Timeline :=
    { cycle := l.td.cycle, tFreeze := td 0x2C, tSweep := td 0x30, tScan := td 0x34, tVote := td 0x38, tHandover := td 0x3C,
      sweep := l.td.shown.sweep, stall := l.td.shown.stall, vtStatus := l.vt.statusReg, tdStatus := td 0x04 }
  let ls := l.trace.timelines ++ [line]
  if l.evaluates && decide (l.td.cycle ≠ 0) then { l with trace := { l.trace with timelines := ls.drop (ls.length - 64) } } else l

/-- TIDE_MARK (R28): the cycle just ended is judged, a new one begins in every lane that runs cycles and whose mark it is, and the local outputs switch to the
committed state. A watcher's lane drives its shared outputs only where the pumphouse reported the mirror frame of the cycle ended to it before D (R265);
its rings that waited start (R218), and its reference messages are queued (R287). -/
def execTideMark (s : State) : Out :=
  if !s.cycles then .next s
  else
    let old := s.cycle
    let n := s.nextCycle
    let s := if old = 0 then s else s.countRuns old
    let due : Mask := PerLane.mapId (fun x _ => s.markDue x) s.lanes
    let s := s.mapLanes (fun x l => if due.get x then s.keepTimeline x l else l)
    let s := s.mapLanes (fun x l => if due.get x then l.advance (s.cycleOf x n) else l)
    let s := LaneId.list.foldl State.judgeResync s
    let s := LaneId.list.foldl (fun s x => s.rotateOut x old) s
    let share := fun x => s.leads && decide ((s.lane x).io.mirrorSent = some old) && decide (old ≠ 0)
    let seq := if s.leads && decide (0 < s.committedCount old) then seqPlus s.unit.mirrorSeq (mirrorCount s.image) else s.unit.mirrorSeq
    let s := LaneId.list.foldl (fun s x => s.beginLane (share x) due x) s
    let s := { s with
      unit := { s.unit.endCycle (s.sleeps && decide (old ≠ 0)) with mirrorSeq := seq },
      rings := { s.rings with ring := Assoc.mapVal Ring.reset (Ring.endCycle n s.image.tCycle (s.lane s.voice).td.rate) s.rings.ring },
      bs := { s.bs with load := Config.measured s.fresh 0 % 101 },
      fresh := s.fresh + 1 }
    let s := if s.rings.startOthers && s.leads then s.leadRings else s
    .next ((List.range 6).foldl (fun s p => s.queueRef n p) s)

/-! ## The freeze point: catch-up -/

/-- What a lane that becomes a candidate of cycle n has kept and not yet replayed, taken as in service (R151): its arrivals stamped before the freeze
point of n; those that belong to a later cycle wait for it (R96); and its samples. -/
def Lane.replayRest (x : LaneId) (m : Image) (u n : Nat) (mem : Memory) (l : Lane) : Lane :=
  let due := byStamp (·.arr.stamp) (l.vt.arrivals.filter (fun a => decide (a.arr.stamp < m.freezeAt n)))
  let rest := l.vt.arrivals.filter (fun a => !decide (a.arr.stamp < m.freezeAt n))
  let l := { l with vt := { l.vt with arrivals := [] } }
  let l := due.foldl (Lane.replayArrival x m u mem) l
  let l := rest.foldl (fun l a => l.holdEarly m { arr := a.arr, kind := bits (getByte (Memory.readN mem a.arr.addr 1) 0) 0 4, own := l.td.tide }) l
  let io := l.vt.kept.foldl (fun io p => (List.range 64).foldl (LaneIO.sampleInput m p.2) io) l.io
  { l with io := io, vt := { l.vt with kept := [] } }

/-- A lane that follows the donors' cycles in its resync notes the unit's role at the freeze point of cycle n (R151). -/
def Lane.noteRole (n : Nat) (sleeper : Bool) (l : Lane) : Lane :=
  if l.keepsArrivals then { l with vt := { l.vt with roles := l.vt.roles ++ [(n, sleeper)] } } else l

/-- Catch-up at the freeze point of cycle n (R151, R152): at most 16 deltas and the replay they allow; a lane that holds the delta of cycle
n − 1 becomes a candidate of this cycle. -/
def State.catchUp (n : Nat) (s : State) (x : LaneId) : State :=
  if (s.lane x).vt.state ≠ .catchUp then s
  else match s.donors x with
    | none => s.abortResync x 3
    | some (y, z) =>
      let mask := (s.lane y).vt.mask
      let u := (s.lane x).rc.opts.unitId
      s.modLane x (fun l =>
        let m := l.image
        let l := (l.applyDeltas m y z 16).replay x m u s.sleeps s.basin 16
        if l.vt.applied = some (n - 1) && decide (l.vt.ctxCycle + 1 = n) then
          let l := if l.vt.roleIn (n - 1) s.sleeps then l.mirrorSeqs m else l.spendCycle m (n - 1)
          let l := l.replayRest x m u n s.basin
          { l with vt := { l.vt with state := .candidate, mask := mask, candRun := PerLane.all 0 },
                   pe := { l.pe with sweepEn := true, state := .waiting }, td := { l.td with phase := .input } }
        else l)

/-- Whether the donors of lane `x` take its base at the freeze point of cycle n (R149): both have committed the cycle before, the first that
both commit since the lane joined. -/
def State.baseDue (s : State) (x y z : LaneId) (n : Nat) : Bool :=
  let took := fun (d : LaneId) => (s.lane d).vt.baseTaken.isSome
  (s.lane x).vt.state == .base && (s.lane y).vt.committed == some (n - 1) && (s.lane z).vt.committed == some (n - 1) && !took y && !took z &&
    (match (s.lane x).vt.joinCycle with
    | some c => decide (c + 1 ≤ n)
    | none => false)

/-- BASE_STREAM_START (R149), before the freeze writes: both donors take what stands at the commit of cycle n − 1. -/
def State.takeBase (n : Nat) (s : State) (x : LaneId) : State :=
  match s.donors x with
  | some (y, z) =>
    if s.baseDue x y z n then
      let s := s.modLane x (fun l => { l with vt := { l.vt with baseCycle := some (n - 1) } })
      ((s.modLane y (·.takeBase (n - 1))).modLane z (·.takeBase (n - 1)))
    else s
  | none => s

/-- The rest of a base taken at this freeze point, and the start of its stream (R149). -/
def State.sendBase (n : Nat) (s : State) (x : LaneId) : State :=
  match (s.lane x).vt.baseTaken with
  | some b =>
    if b.cycle + 1 = n && (s.lane x).inService then (s.modLane x (·.takeBaseRest s.unit.ringEpoch)).emit (.base x b.cycle) else s
  | none => s

/-! ## The freeze point: the writes (R94) -/

/-- An IN or PAR variable written at the freeze point: a forced IN variable takes its forced value (R122). -/
def Lane.freezeVar (i : Nat) (v : W16) (l : Lane) : Lane := { l with pe := l.pe.writeBoth i ((l.pe.forceOf i).getD v) }

/-- The fields of a session written from its current telegram, or with their safe values (R182). -/
def Lane.writeFields (l : Lane) (e : SessEntry) (payload : Option (List Byte)) : Lane :=
  e.rxMap.foldl (fun l f =>
    Lane.freezeVar f.var (match payload with
      | some p => BitVec.ofNat 16 (payloadField p f.off f.width)
      | none => f.safe) l) l

/-- The sessions' part of the freeze point of cycle n (R178, R181 to R183, R47): the state of every session advances; the receive fields of those
that receive are written. -/
def Lane.freezeSessions (l : Lane) (m : Image) (n : Nat) (sleeper : Bool) : Lane :=
  m.sessions.foldl (fun l e =>
    let r := l.freezeSession m e n sleeper
    r.1.writeFields e r.2) l

/-- The local inputs' part (R94, R230): the filter output stands frozen for the cycle. -/
def Lane.freezeInputs (l : Lane) (m : Image) : Lane :=
  let l := { l with io := { l.io with frozen := l.io.filt } }
  (List.range 64).foldl (fun l c =>
    let e := m.input c
    if e.used then Lane.freezeVar e.var (BitVec.ofNat 16 (b2n (onBit l.io.frozen c))) l else l) l

/-- The PAR variables' part (R94): bits 15:0 of their constants. -/
def Lane.freezeParams (l : Lane) (m : Image) : Lane :=
  (List.range m.vars.length).foldl (fun l i =>
    let v := m.var i
    if v.cls == .par then { l with pe := l.pe.writeBoth i ((Table.read l.pe.consts v.constIdx).setWidth 16) } else l) l

/-- The freeze point of cycle n in a lane that evaluates (R94, R122, R181, R255, R128): the freeze writes, a sleeper's mirror frame after them,
and the session summary as it stands then. -/
def Lane.freeze (l : Lane) (n offset : Nat) (sleeper : Bool) : Lane :=
  let m := l.image
  let l := ((l.freezeSessions m n sleeper).freezeInputs m).freezeParams m
  let l := if sleeper then l.mirrorApply m n else l
  let valid := (m.sessions.filter (fun e => (l.ts.at e.sid).state == .valid)).length
  { l with
      ts := { l.ts with validLast := valid },
      vt := { l.vt with summary := l.ts.summaries },
      td := { l.td.reach (m.freezeAt n) with phase := .freeze, tFreeze := offset },
      pe := { l.pe with freezeDone := true, rangeSeen := false } }

/-- A lane whose freeze point is still to come in its cycle. -/
def Lane.freezes (l : Lane) : Bool := l.evaluates && l.td.phase == .input && !l.pe.freezeDone

/-- The tide at which the freeze point of a lane's cycle lies (R93). -/
def State.freezeOf (s : State) (x : LaneId) : Nat := (s.lane x).image.freezeAt (s.lane x).td.cycle

/-- Whether the freeze point that comes is one of lane `x`: in independent-lane mode the earliest of those of the lanes' images (R159). -/
def State.freezeDue (s : State) (x : LaneId) : Bool :=
  (s.lane x).freezes && (!(s.lane x).indep || s.earliest s.freezeOf (s.freezeOf x) Lane.freezes)

/-! ## The freeze point: the unit -/

/-- The input channels that the lanes of this freeze point froze differently (R249, Table 9-7). -/
def State.frozenDiff (s : State) (at_ : LaneId → Bool) : BitVec 64 :=
  match (LaneId.list.filter at_).map (fun x => (s.lane x).io.frozen) with
  | [] => 0#64
  | v :: rest => rest.foldl (fun d w => d ||| (v ^^^ w)) 0#64

/-- What the control block of an applied mirror frame says of a swap (Table 10-3, R271). -/
def State.takeSwap (s : State) (data : List Byte) : State :=
  let w := s.unit.swap
  let cycle := getBE data 152 8
  match getByte data 149 with
  | 1 => { s with unit := { s.unit with swapNotice := true, swap := { w with state := 1, cycle := cycle } } }
  | 2 => { s with unit := { s.unit with swap := { w with state := 2, cycle := cycle, gotCommit := true } } }
  | 3 => { s with unit := { s.unit with swap := { w with state := 4, cycle := cycle, gotCommit := false } } }
  | _ => s

/-- The mirror frame of cycle n − 1 as the sleeper unit shows it (R255, R271, Table 10-6): applied, or missed. -/
def State.noteMirror (s : State) (n : Nat) (frame : Option (List Byte × Nat)) (m : Image) : State :=
  match frame with
  | none => { s with xl := { s.xl with missCnt := sat s.xl.missCnt }, unit := { s.unit with mirrorRun := 0 } }
  | some (data, stamp) =>
    let s := { s with unit := { s.unit with mirrored := true, mirrorRun := s.unit.mirrorRun + 1 }, xl := { s.xl with mirrorCycle := (n - 1) % 2 ^ 32, arrive := stamp - (n - 1) * m.period } }
    let s := s.takeSwap data
    if m.startRing.isNone then s.swapFollowed (n - 1) else s

/-- The telegrams of a mirror frame not sent by the freeze point of the next cycle are discarded (R259). -/
def State.discardMirror (s : State) (n : Nat) : State :=
  { s with out := { handed := s.out.handed.filter (fun h => h.kind != 8 || decide (n ≤ h.cycle)),
                    assembled := s.out.assembled.filter (fun a => a.kind != 8 || decide (n ≤ a.cycle)) } }

/-- FREEZE_POINT (R94): every lane whose freeze point it is writes its IN and PAR variables, `done` ticks after the tide mark complete. Donors take a
base due and start its stream, a lane in catch-up replays, a sleeper applies its mirror frame, and the unit sends its partner report. A unit in which
no cycles run sends its report too, as STARTING, DECIDING or STOPPED (R261). DESIGN CHOICE: the spec does not say when its freeze point lies; this command
is it, and the cycle number is the tide's (log entry 126). -/
def execFreezePoint (done : PerLane (BitVec 32)) (s : State) : Out :=
  let n := s.cycle
  if !s.cycles then .next (s.sendCross 2 (s.partnerReport (s.tideNow / s.image.period)).bytes)
  else if !LaneId.list.any (fun x => (s.lane x).freezes) then .next s
  else
    let first := s.voice
    let m := (s.lane first).image
    let frame := (s.lane first).frameFor m n
    let s := LaneId.list.foldl (fun s x => s.modLane x (·.noteRole n s.sleeps)) s
    let s := LaneId.list.foldl (State.catchUp n) s
    let s := LaneId.list.foldl (State.takeBase n) s
    let due := s.freezeDue
    let s := s.mapLanes (fun x l => if due x then l.freeze l.td.cycle (done.get x).toNat s.sleeps else l)
    let s := if s.sleeps then s.mapLanes (fun x l => if due x then l.compareHeld l.image x else l) else s
    let s := LaneId.list.foldl (fun s x => if due x then s.takeEarly x else s) s
    let diff := s.frozenDiff due
    let s := s.mapLanes (fun x l => if due x then { l with io := { l.io with disagree := diff } } else l)
    let s := LaneId.list.foldl (State.sendBase n) s
    let s := if s.sleeps then s.noteMirror n frame m else s
    let s := s.discardMirror n
    .next (if due first then s.sendCross 2 (s.partnerReport n).bytes else s)

end Sys2Proof.Machine
end

