-- ==== Sys2Proof/Machine/Engine.lean ====
section
/-! DEFINITION. The commands of the Polder engine: the sweep's start, the LEVEL word, every opcode of Table 3-3, the chain link, the
fault, and the copy of R65 (chapter 3). -/

namespace Sys2Proof.Machine

/-- Whether a change in service is due at the cycle in progress and lane `x`, in service and not refusing it, has not applied it
(R89, R120, R262). -/
def State.changeDue (s : State) (x : LaneId) : Bool :=
  let l := s.lane x
  l.inService &&
    (s.unit.pend.any (fun p => decide (p.format = 1) && decide (p.apply ≤ l.td.cycle) && p.accepted.get x && !p.appliedBy.get x) ||
      (s.sleeps && (l.mirrorChange l.image l.td.cycle).isSome))

/-- SWEEP_START (R89): the copy of R65, the freeze writes and every change due are complete; the engine's cells stand at the
start of their runs. The sweep begins with its fixed 2,048 clocks (R59). -/
def execSweepStart (x : LaneId) (s : State) : Out :=
  let l := s.lane x
  if l.pe.sweepEn && l.evaluates && (l.pe.state == .waiting) && l.pe.freezeDone && l.pe.copyDone && !s.changeDue x then
    .next (s.modLane x (fun l =>
      { l with
          pe := { l.pe with state := .sweeping, level := 0, started := false, pos := [], skip := [], acc := [], clocks := 2048,
                            stalls := 0 }
          td := { l.td with phase := .sweep } }))
  else .next s

/-- LEVEL (R58, R37, R91): the dispatcher consumes the next level's LEVEL word and hands the cells their runs; a word that is no
LEVEL word or carries another number is an engine fault. `stalls` are the cells' stall clocks in the level and `length` what
they add to its longest run (R61); a cell still running 64 clocks after that is a fault of its own command (ENGINE_FAULT). -/
def execLevel (x : LaneId) (stalls length : BitVec 32) (s : State) : Out :=
  let l := s.lane x
  match l.image? with
  | none => .next s
  | some m =>
    if (l.pe.state == .sweeping && !l.pe.started) || l.pe.state == .barrier then
      let lv := if l.pe.state == .barrier then l.pe.level + 1 else 0
      let word := m.terms[m.levelIndex lv]?
      let ok : Bool := match word.bind Term.decode with
        | some t => t.op == .level && t.levelNo == lv
        | none => false
      if ok then
        .next (s.modLane x (fun l =>
          { l with pe := { l.pe with state := .sweeping, started := true, level := lv, pos := [], skip := [], acc := [],
                                     clocks := l.pe.clocks + (m.level lv).foldl max 0 + 8 + length.toNat,
                                     stalls := l.pe.stalls + stalls.toNat } }.settleLevel m))
      else
        .next (s.engineFault x (match word.map Term.decode with
          | some none => 2
          | _ => 3) (m.levelIndex lv))
    else .next s

/-- NOP (Table 3-3): no effect; the cell moves on. -/
def execNop (x : LaneId) (cell : Fin 16) (s : State) : Out := .next (s.opStep x cell .nop (fun _ _ _ _ l => l))

/-- GUARD (R77): where a is 0 the next k terms of the run are skipped. -/
def execGuard (x : LaneId) (cell : Fin 16) (s : State) : Out :=
  .next (s.termStep x cell (fun t => t.op == .guard && !t.chain) (fun m _ t _ l =>
    if operandA m l.pe t = 0 then { l with pe := { l.pe with skip := Assoc.put 0 l.pe.skip cell t.constIdx } } else l))

/-- MOV (Table 3-3): dst = a. -/
def execMov (x : LaneId) (cell : Fin 16) (s : State) : Out :=
  .next (s.valueStep x cell .mov (fun m e t _ => linkResult m e t))

/-- AND (R75): dst = a AND b, under the accumulator where it closes a chain. -/
def execAnd (x : LaneId) (cell : Fin 16) (s : State) : Out := .next (s.valueStep x cell .and closing)

/-- OR (R75): dst = a OR b, under the accumulator where it closes a chain. -/
def execOr (x : LaneId) (cell : Fin 16) (s : State) : Out := .next (s.valueStep x cell .or closing)

/-- XOR (R75): dst = a XOR b, under the accumulator where it closes a chain. -/
def execXor (x : LaneId) (cell : Fin 16) (s : State) : Out := .next (s.valueStep x cell .xor closing)

/-- EQ (Table 3-3): dst = 1 if a = b. -/
def execEq (x : LaneId) (cell : Fin 16) (s : State) : Out :=
  .next (s.valueStep x cell .eq (fun m e t _ => b2n (decide (operandA m e t = operandB m e t))))

/-- NE (Table 3-3): dst = 1 if a ≠ b. -/
def execNe (x : LaneId) (cell : Fin 16) (s : State) : Out :=
  .next (s.valueStep x cell .ne (fun m e t _ => b2n (decide (operandA m e t ≠ operandB m e t))))

/-- LT (Table 3-3): dst = 1 if a < b, unsigned. -/
def execLt (x : LaneId) (cell : Fin 16) (s : State) : Out :=
  .next (s.valueStep x cell .lt (fun m e t _ => b2n (decide (operandA m e t < operandB m e t))))

/-- LE (Table 3-3): dst = 1 if a ≤ b, unsigned. -/
def execLe (x : LaneId) (cell : Fin 16) (s : State) : Out :=
  .next (s.valueStep x cell .le (fun m e t _ => b2n (decide (operandA m e t ≤ operandB m e t))))

/-- ADDS (R75): dst = min(a + b, 65,535), under the accumulator where it closes a chain. -/
def execAdds (x : LaneId) (cell : Fin 16) (s : State) : Out := .next (s.valueStep x cell .adds closing)

/-- SUBS (Table 3-3): dst = max(a − b, 0). -/
def execSubs (x : LaneId) (cell : Fin 16) (s : State) : Out :=
  .next (s.valueStep x cell .subs (fun m e t _ => operandA m e t - operandB m e t))

/-- SEL (R78): a when c = 1, else b (log entry 14: the test is c = 1). -/
def execSel (x : LaneId) (cell : Fin 16) (s : State) : Out :=
  .next (s.valueStep x cell .sel (fun m e t acc => if condition acc = 1 then operandA m e t else operandB m e t))

/-- LUT (R79): the header at k gives the last index and the default; a within it and within the constant count selects an
entry. -/
def execLut (x : LaneId) (cell : Fin 16) (s : State) : Out :=
  .next (s.valueStep x cell .lut (fun m e t _ =>
    let k := t.constIdx
    let head := (Table.read e.consts k).toNat
    let a := operandA m e t
    if a ≤ bits head 16 16 ∧ k + 1 + a < m.nConst then (Table.read e.consts (k + 1 + a)).toNat % 65536
    else bits head 0 16))

/-- SR (R80): q := a OR (q AND NOT b), q read from the current buffer. -/
def execSr (x : LaneId) (cell : Fin 16) (s : State) : Out :=
  .next (s.valueStep x cell .sr (fun m e t _ =>
    let q := (Table.read e.cur t.dst.toNat).toNat
    b2n (decide (operandA m e t = 1) || (decide (q = 1) && decide (operandB m e t = 0)))))

/-- RS (R80): q := NOT b AND (a OR q), q read from the current buffer. -/
def execRs (x : LaneId) (cell : Fin 16) (s : State) : Out :=
  .next (s.valueStep x cell .rs (fun m e t _ =>
    let q := (Table.read e.cur t.dst.toNat).toNat
    b2n (decide (operandB m e t = 0) && (decide (operandA m e t = 1) || decide (q = 1)))))

/-- RISE (R81): dst = 1 if a is 1 in current and 0 in previous. -/
def execRise (x : LaneId) (cell : Fin 16) (s : State) : Out :=
  .next (s.valueStep x cell .rise (fun _ e t _ =>
    b2n (decide (Table.read e.cur t.srcA.toNat = 1#16) && decide (Table.read e.prev t.srcA.toNat = 0#16))))

/-- FALL (R81): dst = 1 if a is 0 in current and 1 in previous. -/
def execFall (x : LaneId) (cell : Fin 16) (s : State) : Out :=
  .next (s.valueStep x cell .fall (fun _ e t _ =>
    b2n (decide (Table.read e.cur t.srcA.toNat = 0#16) && decide (Table.read e.prev t.srcA.toNat = 1#16))))

/-- The on-delay (R84): the new count and q. -/
def tonCount (count e c : Nat) : Nat × Bool :=
  if c = 0 then (0, false) else (min (count + 1) (e + 1), decide (min (count + 1) (e + 1) = e + 1))

/-- The off-delay (R85). -/
def tofCount (count e c : Nat) : Nat × Bool :=
  if c = 1 then (1, true)
  else if count = 0 then (0, false)
  else if e + 2 ≤ count + 1 then (0, false)
  else (count + 1, true)

/-- The pulse (R86). -/
def tpCount (count e c : Nat) : Nat × Bool :=
  let n := if count = 0 then (if c = 1 then 1 else 0)
    else if count ≤ e then count + 1
    else if c = 0 then 0 else count
  (n, decide (1 ≤ n) && decide (n ≤ e))

/-- TON (R84). -/
def execTon (x : LaneId) (cell : Fin 16) (s : State) : Out := .next (s.timerStep x cell .ton tonCount)

/-- TOF (R85). -/
def execTof (x : LaneId) (cell : Fin 16) (s : State) : Out := .next (s.timerStep x cell .tof tofCount)

/-- TP (R86). -/
def execTp (x : LaneId) (cell : Fin 16) (s : State) : Out := .next (s.timerStep x cell .tp tpCount)

/-- CTU (R88): c clears, else a counts up to b. -/
def execCtu (x : LaneId) (cell : Fin 16) (s : State) : Out :=
  .next (s.valueStep x cell .ctu (fun m e t acc =>
    let q := (Table.read e.cur t.dst.toNat).toNat
    if condition acc = 1 then 0
    else if operandA m e t = 1 then min (q + 1) (operandB m e t)
    else q))

/-- CTD (R88): c loads b, else a counts down to 0. -/
def execCtd (x : LaneId) (cell : Fin 16) (s : State) : Out :=
  .next (s.valueStep x cell .ctd (fun m e t acc =>
    let q := (Table.read e.cur t.dst.toNat).toNat
    if condition acc = 1 then operandB m e t
    else if operandA m e t = 1 then q - 1
    else q))

/-- CHAIN_LINK (R74): a term with CHAIN set. The accumulator takes r where it is empty or the link is a MOV, else the operator's
result from it and r; DST is not written. -/
def execChainLink (x : LaneId) (cell : Fin 16) (s : State) : Out :=
  .next (s.termStep x cell (fun t => t.chain) (fun m _ t acc l =>
    let v := match acc with
      | none => linkResult m l.pe t
      | some a => if t.op == .mov then linkResult m l.pe t else chainOp t.op a.toNat (linkResult m l.pe t)
    { l with pe := l.pe.setAcc cell (some (BitVec.ofNat 16 v)) }))

/-- ENGINE_FAULT (R91): one of the engine's faults during a sweep; with no cause a correctable ECC error, which is corrected and counted. -/
def execEngineFault (x : LaneId) (cause : Option EngineCause) (position : BitVec 21) (s : State) : Out :=
  let e := (s.lane x).pe
  if !(e.state == .sweeping || e.state == .barrier) then .next s
  else match cause with
    | some c => .next (s.engineFault x c.code position.toNat)
    | none => .next (s.modLane x (fun l => { l with pe := { l.pe with eccCorr := sat l.pe.eccCorr } }))

/-- COPY_COMPLETE (R65): the new next buffer holds what the new current buffer holds; the engine waits for the freeze point. -/
def execCopyComplete (x : LaneId) (s : State) : Out :=
  if (s.lane x).pe.copyDone then .next s
  else .next (s.modLane x (fun l =>
    { l with pe := { l.pe with next := l.pe.cur, copyDone := true,
                               state := if l.pe.state == .copying then .waiting else l.pe.state } }))

end Sys2Proof.Machine
end

