-- ==== Sys2Proof/Machine/Regs.lean ====
section
/-! DEFINITION. The address space and access types (chapter 16), and the commands that are writes of the pumphouse's registers. -/

namespace Sys2Proof.Machine

/-! ## Blocks (R372, R373, Table 16-1) -/

/-- A block of the address space: the module identity, block `i` of a lane or of the pumphouse in the order of Table 16-1, or block `i` of
the vital I/O region. -/
inductive Block where
  | module
  | lane (x : LaneId) (i : Nat)
  | pump (i : Nat)
  | vital (i : Nat)
  deriving DecidableEq, Repr

/-- The block of an address; none where it is unmapped (R373). -/
def blockOf (addr : Nat) : Option Block :=
  let i := addr % 0x1000000 / 0x10000
  match addr / 0x1000000 with
  | 0x00 => if i = 0 then some .module else none
  | 0x10 => if i < 10 then some (.lane .a i) else none
  | 0x11 => if i < 10 then some (.lane .b i) else none
  | 0x12 => if i < 10 then some (.lane .c i) else none
  | 0x20 => if i < 12 then some (.pump i) else none
  | 0x30 => if i < 2 then some (.vital i) else none
  | _ => none

/-- The offset of an address in its block. -/
def offsetOf (addr : Nat) : Nat := addr % 0x10000

/-- The value that a register shows, whatever a read of it does beside. -/
def State.regValue (s : State) (addr : Nat) : Nat :=
  let off := offsetOf addr
  match blockOf addr with
  | none => 0
  | some .module => s.regsMod off
  | some (.lane x i) => s.regsLane x i off
  | some (.pump i) => s.regsPump i off
  | some (.vital 0) => s.regsVi off
  | some (.vital _) => s.regsVo off

/-- Whether a lane's D7 sluice is open (R318, R380). -/
def State.sluiceOpen (s : State) (x : LaneId) : Bool := (s.lane x).rc.sluice == .opened

/-- Whether a block is answered (R380): a lane's but RC_ over its open sluice; MOD_, VI_ and VO_ over any. -/
def State.answers (s : State) : Block → Bool
  | .pump _ => true
  | .lane x i => i == 6 || s.sluiceOpen x
  | .module | .vital _ => LaneId.list.any s.sluiceOpen

/-- A request for a lane's block that its closed sluice answers with SLUICE_CLOSED, counted in RC_SLUICE_ERR_CNT (R318). -/
def State.sluiceClosed (s : State) : Block → State
  | .lane x _ => s.modLane x (fun l => { l with rc := { l.rc with sluiceErr := sat l.rc.sluiceErr } })
  | _ => s

/-! ## Status codes (Table 16-5) -/

/-- KMP status codes (Table 16-5). -/
inductive KmpStatus where
  | ok | badRequest | unmapped | misaligned | readOnly | locked | busError | laneUnavailable
  deriving DecidableEq, Repr

/-- The code of a status. -/
def KmpStatus.code : KmpStatus → Nat
  | .ok => 0
  | .badRequest => 0x0D01
  | .unmapped => 0x0D02
  | .misaligned => 0x0D03
  | .readOnly => 0x0D04
  | .locked => 0x0D05
  | .busError => 0x0D06
  | .laneUnavailable => 0x0D07

/-! ## Reads with an effect (R303, R375, R379) -/

/-- A read of TD_TIDE_LO latches the upper bits of the tide (R379, Table 4-5). -/
def State.latchTide (s : State) (x : LaneId) : State := s.modLane x (fun l => { l with td := { l.td with tideHi := bits l.td.tide 32 32 } })

/-- A read of WD_OPTIME_LO latches bits 47:32 of the operating time (R379, Table 15-5). -/
def State.latchOpTime (s : State) : State := { s with cfg := { s.cfg with opHi := bits s.cfg.opTime 32 16 } }

/-- TD_TIDE_LO (R379): the register of lane `x` is read, while its sluice is open (R380). -/
def execTdTideLo (x : LaneId) (s : State) : Out := .next (if s.sluiceOpen x then s.latchTide x else s)

/-- WD_OPTIME_LO (R379): the register is read. -/
def execWdOptimeLo (s : State) : Out := .next s.latchOpTime

/-- A read of one register by the host: the state after it, the status and the value (R375, R379, R380, R307). -/
def State.hostRead (s : State) (addr : Nat) : State × KmpStatus × Nat :=
  let off := offsetOf addr
  match blockOf addr with
  | none => (s, .unmapped, 0)
  | some b =>
    if !s.answers b then (s.sluiceClosed b, .laneUnavailable, 0)
    else
      let v := s.regValue addr
      match b with
      | .lane x 9 => if off = 8 then (s.latchTide x, .ok, v) else (s, .ok, v)
      | .pump 8 => if off = 0x10 then (s.latchOpTime, .ok, v) else (s, .ok, v)
      | .pump 2 => match arrayAt 0x100 32 off with
          | some k => if k % 8 = 3 then (s.takeAck (k / 8), .ok, v) else (s, .ok, v)
          | none => (s, .ok, v)
      | .pump 1 => match arrayAt 0x1000 64 off with
          | some n =>
            let t := s.readLock n 8 (s.opMicros 0)
            if hostMay n 8 then (t, .ok, s.locks.readValue n 8) else (t, .busError, 0)
          | none => (s, .ok, v)
      | _ => (s, .ok, v)

/-! ## Counters cleared -/

/-- DL_CNT_CLR of ring index `r`: every counter of the ring. -/
def Ring.clearCounters (g : Ring) : Ring :=
  { g with transit := 0, fcsErr := 0, syncMiss := 0, gateCnt := 0, dropCnt := 0, singleCnt := 0,
           nodes := Assoc.mapVal RingNode.reset (fun n => { n with errCnt := 0 }) g.nodes }

/-- DL_CNT_CLR (Table 8-13): bit r − 1 clears every counter of ring r. -/
def State.clearDl (s : State) (v : Nat) : State :=
  (List.range 4).foldl (fun s r => if bit v r then s.modRing r Ring.clearCounters else s) s

/-- XL_CNT_CLR (Table 10-6): bit 0 clears every XL_ counter. -/
def State.clearXl (s : State) (v : Nat) : State :=
  if bit v 0 then { s with xl := { s.xl with missCnt := 0, segErr := 0, failovers := 0, swaps := 0, err27 := 0, err28 := 0 } } else s

/-- EN_CNT_CLR (Table 11-7): bit n clears every counter of network n. -/
def State.clearEn (s : State) (v : Nat) : State :=
  (List.range 3).foldl (fun s n =>
    if bit v n then s.modNet (netAt n) (fun t => { t with rx := 0, tx := 0, filter := 0, arpFail := 0, icmp := 0, lateCnt := 0 }) else s) s

/-- CN_CNT_CLR (Table 11-8): bit p clears every counter of CAN port p. -/
def State.clearCn (s : State) (v : Nat) : State :=
  (List.range 6).foldl (fun s p =>
    if bit v p then
      s.modCan p (fun c => { c with rx := 0, tx := 0, busOffCnt := 0, expired := 0, qfull := 0, refMiss := 0, remote := 0, filter := 0 })
    else s) s

/-- WL_CNT_CLR (Table 11-10): bit l clears every counter of wire link l. -/
def State.clearWl (s : State) (v : Nat) : State :=
  (List.range 2).foldl (fun s l =>
    if bit v l then
      s.modLink l (fun w => { w with rx := 0, tx := 0, fcsErr := 0, addrCnt := 0, charErr := 0, abort := 0, long := 0, lateCnt := 0 })
    else s) s

/-- PT_CNT_CLR (Table 11-11): bit 0 clears both counters. -/
def State.clearPt (s : State) (v : Nat) : State := if bit v 0 then { s with ptp := { s.ptp with syncCnt := 0, timeoutCnt := 0 } } else s

/-- MB_CNT_CLR (Table 12-9): bit 0 clears both counters. -/
def State.clearMb (s : State) (v : Nat) : State := if bit v 0 then { s with mail := { s.mail with busErr := 0, lostCnt := 0 } } else s

/-- Bit 0 of BS_CNT_CLR clears the BS_ counters (Table 12-7). -/
def State.clearBs (s : State) (v : Nat) : State :=
  if bit v 0 then { s with bs := { s.bs with eccCorr := 0, eccUncorr := 0, violCnt := 0 } } else s

/-- Bit 1 of BS_CNT_CLR clears the LK_ counters and LK_HOLD_MAX (Table 12-7). -/
def State.clearLk (s : State) (v : Nat) : State :=
  if bit v 1 then { s with locks := { s.locks with holdMax := 0, holdIdx := 0, overCnt := 0, err := 0, lapse := 0 } } else s

/-- WD_CNT_CLR (Table 15-5): bit 0 clears the WD_ counters. -/
def State.clearWd (s : State) (v : Nat) : State :=
  if bit v 0 then { s with warden := { s.warden with lostCnt := 0, crcErr := 0, skipCnt := 0 } } else s

/-- A write of a pumphouse register takes effect while the pumphouse serves its maintenance ports (Table 13-6). -/
def State.whileServed (s : State) (f : State → State) : Out := .next (if s.phRuns then f s else s)

/-- DL_CNT_CLR (R375). -/
def execDlCntClr (v : BitVec 32) (s : State) : Out := s.whileServed (fun s => s.clearDl v.toNat)
/-- XL_CNT_CLR (R375). -/
def execXlCntClr (v : BitVec 32) (s : State) : Out := s.whileServed (fun s => s.clearXl v.toNat)
/-- EN_CNT_CLR (R375). -/
def execEnCntClr (v : BitVec 32) (s : State) : Out := s.whileServed (fun s => s.clearEn v.toNat)
/-- CN_CNT_CLR (R375). -/
def execCnCntClr (v : BitVec 32) (s : State) : Out := s.whileServed (fun s => s.clearCn v.toNat)
/-- WL_CNT_CLR (R375). -/
def execWlCntClr (v : BitVec 32) (s : State) : Out := s.whileServed (fun s => s.clearWl v.toNat)
/-- PT_CNT_CLR (R375). -/
def execPtCntClr (v : BitVec 32) (s : State) : Out := s.whileServed (fun s => s.clearPt v.toNat)
/-- MB_CNT_CLR (R375). -/
def execMbCntClr (v : BitVec 32) (s : State) : Out := s.whileServed (fun s => s.clearMb v.toNat)
/-- BS_CNT_CLR bit 0 (R375). -/
def execBsCounterClear (v : BitVec 32) (s : State) : Out := s.whileServed (fun s => s.clearBs v.toNat)
/-- BS_CNT_CLR bit 1 (R375). -/
def execLkCounterClear (v : BitVec 32) (s : State) : Out := s.whileServed (fun s => s.clearLk v.toNat)
/-- WD_CNT_CLR (R375). -/
def execWdCntClr (v : BitVec 32) (s : State) : Out := s.whileServed (fun s => s.clearWd v.toNat)

/-! ## PH_ (Table 16-8) -/

/-- PH_EVENT (R375): each bit written as 1 is cleared. -/
def State.clearEvent (s : State) (v : Nat) : State := { s with ph := { s.ph with event := s.ph.event - (s.ph.event &&& v) } }

/-- PH_LAMP_TEST: 1 in bit 0 starts the test. -/
def State.startLampTest (s : State) (v : Nat) : State := if bit v 0 then { s with ph := { s.ph with lampTest := true } } else s

/-- PH_PORT_DISABLE (R384): bits 19:0 set, kept in the pumphouse's flash. -/
def State.setPortDisable (s : State) (v : Nat) : State := { s with ph := { s.ph with portDisable := bits v 0 20 } }

/-- PH_EVENT (R375). -/
def execPhEvent (v : BitVec 32) (s : State) : Out := s.whileServed (fun s => s.clearEvent v.toNat)

/-- PH_LAMP_TEST (R376, R394): refused once the RWL registers are locked. -/
def execPhLampTest (v : BitVec 32) (s : State) : Out := s.whileServed (fun s => if s.cfg.rwlFuse then s else s.startLampTest v.toNat)

/-- LAMP_TEST_END (R394): after 10 s. -/
def execLampTestEnd (s : State) : Out := .next { s with ph := { s.ph with lampTest := false } }

/-- PH_PORT_DISABLE (R376, R384): refused once the RWL registers are locked. -/
def execPhPortDisable (v : BitVec 32) (s : State) : Out := s.whileServed (fun s => if s.cfg.rwlFuse then s else s.setPortDisable v.toNat)

/-! ## External BIST (R335) -/

/-- A write of BI_EXT_CTRL: a START begins a run, DONE cleared. -/
def SelfTest.writeExt (b : SelfTest) (v : Nat) : SelfTest :=
  { b with extCtrl := flag (bit v 0) 0 + (if bit v 0 then 0 else flag (bit b.extCtrl 1) 1) + flag (bit v 2) 2 }

/-- BI_EXT_CTRL_START (R335): accepted in BLANK and FACTORY_TEST, over the lane's open sluice. -/
def execBiExtCtrlStart (x : LaneId) (v : BitVec 32) (s : State) : Out :=
  if s.phRuns && s.sluiceOpen x && extPermitted (s.lane x).ls.life then
    .next (s.modLane x (fun l => { l with bi := l.bi.writeExt v.toNat }))
  else .next s

/-- EXTERNAL_BIST_DONE (R335): the run that was started ends: DONE, and the raw signature, a free value of the seed and the patterns. -/
def execExternalBistDone (x : LaneId) (s : State) : Out :=
  let b := (s.lane x).bi
  if bit b.extCtrl 0 then
    let useSeed := bit b.extCtrl 2
    .next (s.modLane x (fun l =>
      { l with bi := { l.bi with extCtrl := 2 + flag useSeed 2, misr := Config.misr b.extSeed b.extPatterns useSeed } }))
  else .next s

/-! ## Writes (R335, R373, R375 to R377, R298, R303, R307) -/

/-- A write of the address or the length of a host outbound mailbox (R297, R298): only while it is EMPTY. -/
def State.writeOut (s : State) (mb : Nat) (f : Mailbox → Mailbox) : State × KmpStatus :=
  let b := s.outBox mb
  if b.state ≠ .empty then (s.mailboxError, .busError)
  else ({ s with mail := { s.mail with out := Assoc.put Mailbox.reset s.mail.out mb (f b) } }, .ok)

/-- A write of a register of the MB_ block by a requester. -/
def State.writeMb (s : State) (off v : Nat) (who : Option Requester) : State × KmpStatus :=
  if off = 0x10 then (s.clearMb v, .ok)
  else match arrayAt 0x100 32 off, arrayAt 0x200 32 off with
    | some k, _ =>
      let n := k / 8
      match k % 8 with
      | 0 => s.writeOut n (fun b => { b with addr := v / 64 * 64 })
      | 1 => s.writeOut n (fun b => { b with len := bits v 0 17 })
      | 2 => match who with
        | some w => (s.doorbell n v w 0x0B800000 false (PerLane.all false), if (s.outBox n).state = .empty then .ok else .busError)
        | none => (s, .ok)
      | _ => (s, .readOnly)
    | _, some k =>
      if k % 8 = 3 then (s.ackIn (k / 8) (bits v 0 16), if (s.inBox (k / 8)).state = .full then .ok else .busError) else (s, .readOnly)
    | _, _ => (s, .readOnly)

/-- A write of a register that the module's RWL fuse may have locked (R376). -/
def State.writeRwl (s : State) (f : State → State) : State × KmpStatus := if s.cfg.rwlFuse then (s, .locked) else (f s, .ok)

/-- A write of a register of block BI_ of lane `x` (R335). -/
def State.writeBi (s : State) (x : LaneId) (off v : Nat) : State × KmpStatus :=
  let put := fun (f : SelfTest → SelfTest) =>
    if !extPermitted (s.lane x).ls.life then (s, KmpStatus.readOnly)
    else if !s.sluiceOpen x then (s.sluiceClosed (.lane x 7), .laneUnavailable)
    else (s.modLane x (fun l => { l with bi := f l.bi }), .ok)
  match off with
  | 0x100 => put (fun b => b.writeExt v)
  | 0x104 => put (fun b => { b with extSeed := bits v 0 32 })
  | 0x108 => put (fun b => { b with extPatterns := bits v 0 17 })
  | _ => (s, .readOnly)

/-- A write of one register by the host: the state after it and the status. -/
def State.hostWrite (s : State) (addr v : Nat) (who : Option Requester) : State × KmpStatus :=
  let off := offsetOf addr
  match blockOf addr with
  | none => (s, .unmapped)
  | some (.lane x 7) => s.writeBi x off v
  | some (.pump 0) =>
    match off with
    | 0x08 => (s.clearEvent v, .ok)
    | 0x0C => s.writeRwl (fun s => s.startLampTest v)
    | 0x10 => s.writeRwl (fun s => s.setPortDisable v)
    | _ => (s, .readOnly)
  | some (.pump 1) =>
    if off = 0x24 then ((s.clearBs v).clearLk v, .ok)
    else match arrayAt 0x1000 64 off with
      | some n =>
        let l := s.locks.at n
        (s.writeLock n 8 v (s.opMicros 0), if hostMay n 8 && l.owner = 8 && v = 8 then .ok else .busError)
      | none => (s, .readOnly)
  | some (.pump 2) => s.writeMb off v who
  | some (.pump 3) => if off = 0x10 then (s.clearDl v, .ok) else (s, .readOnly)
  | some (.pump 4) => if off = 4 then (s.clearEn v, .ok) else (s, .readOnly)
  | some (.pump 5) => if off = 4 then (s.clearCn v, .ok) else (s, .readOnly)
  | some (.pump 6) => if off = 4 then (s.clearWl v, .ok) else (s, .readOnly)
  | some (.pump 7) => if off = 0x40 then (s.clearXl v, .ok) else (s, .readOnly)
  | some (.pump 8) => if off = 0x28 then (s.clearWd v, .ok) else (s, .readOnly)
  | some (.pump 10) => if off = 0x2C then (s.clearPt v, .ok) else (s, .readOnly)
  | some _ => (s, .readOnly)

/-- REGISTER_WRITE (R375 to R377): a write that no command of its own stands for. A doorbell, which needs its requester, is
MAILBOX_DOORBELL's. -/
def execRegisterWrite (addr v : BitVec 32) (s : State) : Out :=
  if s.phRuns && addr.toNat % 4 == 0 then .next (s.hostWrite addr.toNat v.toNat none).1 else .next s

/-! ## The basin (R293 to R295) -/

/-- BASIN_SCRUB (R295): the scrubber reads a word of the basin, corrects it or finds it uncorrectable, and goes on. -/
def execBasinScrub (addr : BitVec 29) (corrected uncorrectable : Bool) (s : State) : Out :=
  if !s.bs.scrub then .next s
  else .next { s with bs := { s.bs with
    scrubAddr := addr.toNat
    eccCorr := if corrected && !uncorrectable then sat s.bs.eccCorr else s.bs.eccCorr
    eccUncorr := if uncorrectable then sat s.bs.eccUncorr else s.bs.eccUncorr
    eccAddr := if uncorrectable then addr.toNat else s.bs.eccAddr } }

end Sys2Proof.Machine
end

