-- ==== Sys2Proof/Machine/Kmp.lean ====
section
/-! DEFINITION. KMP (chapter 16), and the frames and ARP messages that reach the unit itself on its networks (chapter 11). -/

namespace Sys2Proof

/-- How many bytes an Ethernet frame with a UDP datagram has, from its destination address to its FCS (IEEE 802.3). -/
def EthFrame.size (f : EthFrame) : Nat := 46 + f.payload.length + (if f.vlan.isSome then 4 else 0)

end Sys2Proof

namespace Sys2Proof.Machine

/-! ## KMP (R381 to R383) -/

/-- The response to a request (Table 16-3): operation with bit 7 set, tag and address echoed, the registers or bytes accessed, status, data. -/
def kmpResponse (q : KmpReq) (op count : Nat) (st : KmpStatus) (data : List Byte) : List Byte :=
  be 1 1 ++ be 1 (op % 128 + 128) ++ be 2 q.tag.toNat ++ be 4 q.address.toNat ++ be 2 count ++ be 2 st.code ++ data

/-- Whether KMP requests reach the pumphouse: its ports run, and the maintenance network has an address and forwards (R281, R290). -/
def State.kmpRuns (s : State) : Bool := s.phRuns && s.netSends .maint

/-- The response datagram of a request: from KMP's port and the own address to the requester's (R281, R290). -/
def State.kmpDatagram (s : State) (who : Requester) (response : List Byte) : Datagram :=
  s.datagram .maint who.ip.toNat 47810 who.port.toNat 0 response

/-- A response sent, once the requester's address is known (R278), and the request counted (R382, Table 16-8). -/
def State.respond (s : State) (q : KmpReq) (op count : Nat) (st : KmpStatus) (data : List Byte) : State :=
  let p := { s.ph with kmpCnt := sat s.ph.kmpCnt }
  let p := if st = .ok then p
    else { p with kmpErr := sat p.kmpErr, kmpLast := fld st.code 16 16 + fld op 8 8, event := p.event ||| 1 }
  { s with ph := p }.sendTo .maint none (s.kmpDatagram q.requester (kmpResponse q op count st data))

/-- The checks of a register request before anything is accessed (R382): version, count and length; one block; mapped; aligned. -/
def checkRegs (q : KmpReq) (len : Nat) : KmpStatus :=
  let a := q.address.toNat
  let n := q.count.toNat
  if q.version ≠ 1#8 || n = 0 || 256 < n || q.data.length ≠ len then .badRequest
  else if (blockOf a).isNone then .unmapped
  else if blockOf (a + 4 * n - 1) ≠ blockOf a then .badRequest
  else if a % 4 ≠ 0 then .misaligned
  else .ok

/-- `n` registers read in ascending order, up to the first that fails (R382). -/
def State.readRegs (s : State) (addr : Nat) : Nat → State × KmpStatus × List Byte
  | 0 => (s, .ok, [])
  | n + 1 =>
    match s.hostRead addr with
    | (s, .ok, v) =>
      let r := s.readRegs (addr + 4) n
      (r.1, r.2.1, be 4 v ++ r.2.2)
    | (s, st, _) => (s, st, [])

/-- Registers written in ascending order, up to the first that fails, and how many were (R382). -/
def State.writeRegs (s : State) (addr : Nat) (who : Requester) : List Nat → State × KmpStatus × Nat
  | [] => (s, .ok, 0)
  | v :: vs =>
    match s.hostWrite addr v (some who) with
    | (s, .ok) =>
      let r := s.writeRegs (addr + 4) who vs
      (r.1, r.2.1, r.2.2 + 1)
    | (s, st) => (s, st, 0)

/-- The checks of a basin request (R382): version, count and length; within the basin; one region; aligned. -/
def checkBasin (q : KmpReq) (len : Nat) : KmpStatus :=
  let a := q.address.toNat
  let n := q.count.toNat
  if q.version ≠ 1#8 || n < 4 || 1024 < n || q.data.length ≠ len then .badRequest
  else if 0x20000000 < a + n then .unmapped
  else if basinRegion (a + n - 1) ≠ basinRegion a then .badRequest
  else if a % 4 ≠ 0 || n % 4 ≠ 0 then .misaligned
  else .ok

/-- A READ of registers (R381, R382). -/
def State.kmpRead (s : State) (req : KmpReq) : State :=
  match checkRegs req 0 with
  | .ok =>
    let r := s.readRegs req.address.toNat req.count.toNat
    r.1.respond req 1 (r.2.2.length / 4) r.2.1 r.2.2
  | st => s.respond req 1 0 st []

/-- A WRITE of registers (R381, R382). -/
def State.kmpWrite (s : State) (req : KmpReq) : State :=
  match checkRegs req (4 * req.count.toNat) with
  | .ok =>
    let r := s.writeRegs req.address.toNat req.requester ((pieces 4 req.count.toNat req.data).map ofBE)
    r.1.respond req 2 r.2.2 r.2.1 []
  | st => s.respond req 2 0 st []

/-- A BASIN_READ of a region that the host may read (R294, R381, R382). -/
def State.kmpBasinRead (s : State) (req : KmpReq) : State :=
  let a := req.address.toNat
  match checkBasin req 0 with
  | .ok =>
    if basinMay false 8 a then s.respond req 3 req.count.toNat .ok (Memory.readN s.basin a req.count.toNat)
    else (s.violation 8 a false).respond req 3 0 .busError []
  | st => s.respond req 3 0 st []

/-- A BASIN_WRITE into region 6 (R294, R381, R382). -/
def State.kmpBasinWrite (s : State) (req : KmpReq) : State :=
  let a := req.address.toNat
  match checkBasin req req.count.toNat with
  | .ok =>
    if basinMay true 8 a then (s.basinWrite 8 a req.data).respond req 4 req.count.toNat .ok []
    else (s.violation 8 a true).respond req 4 0 .busError []
  | st => s.respond req 4 0 st []

/-- A request served by its operation (Table 16-4); one of no operation is a BAD_REQUEST (Table 16-5). -/
def State.kmpServe (s : State) (op : Nat) (req : KmpReq) : State :=
  match op with
  | 1 => s.kmpRead req
  | 2 => s.kmpWrite req
  | 3 => s.kmpBasinRead req
  | 4 => s.kmpBasinWrite req
  | _ => s.respond req op 0 .badRequest []

/-- Whether the response to the last request still waits for its requester's address (R278): the next is not started before it is sent (R383). -/
def State.kmpHeld (s : State) : Bool := (s.net .maint).waiting.any (fun w => w.cycle.isNone && !w.echo)

/-- The requests that wait, served in their order while no response is held up (R383), at most `k` of them. -/
def State.kmpDrain (s : State) : Nat → State
  | 0 => s
  | k + 1 =>
    match s.ph.kmpQueue with
    | [] => s
    | q :: qs => if s.kmpHeld then s else ({ s with ph := { s.ph with kmpQueue := qs } }.kmpServe q.1 q.2).kmpDrain k

/-- A request that arrives at the pumphouse (R290, R383): served at once, or after those before it. -/
def State.kmpTake (s : State) (op : Nat) (req : KmpReq) : State :=
  if !s.kmpRuns then s
  else if s.ph.kmpQueue.isEmpty && !s.kmpHeld then s.kmpServe op req
  else { s with ph := { s.ph with kmpQueue := s.ph.kmpQueue ++ [(op, req)] } }.kmpDrain (s.ph.kmpQueue.length + 1)

/-- KMP_READ (R381 to R383). -/
def execKmpRead (req : KmpReq) (s : State) : Out := .next (s.kmpTake 1 req)

/-- KMP_WRITE (R381 to R383). -/
def execKmpWrite (req : KmpReq) (s : State) : Out := .next (s.kmpTake 2 req)

/-- BASIN_READ (R294, R381 to R383). -/
def execBasinRead (req : KmpReq) (s : State) : Out := .next (s.kmpTake 3 req)

/-- BASIN_WRITE (R294, R381 to R383). -/
def execBasinWrite (req : KmpReq) (s : State) : Out := .next (s.kmpTake 4 req)

/-! ## Frames for the unit itself (R276, R278, R279, R290) -/

/-- The request in a KMP datagram (Table 16-3): its operation and its fields. A datagram shorter than the header has no version, so it is a BAD_REQUEST as
one of a wrong length is (Table 16-5). -/
def kmpOf (f : EthFrame) : Nat × KmpReq :=
  let b := f.payload
  (getByte b 1, { version := if b.length < 12 then 0#8 else BitVec.ofNat 8 (getByte b 0), tag := BitVec.ofNat 16 (getBE b 2 2), address := BitVec.ofNat 32 (getBE b 4 4),
                  count := BitVec.ofNat 16 (getBE b 8 2), data := b.drop 12, requester := { ip := f.src, port := f.sport } })

/-- Whether a frame carries a KMP datagram for the unit: UDP to port 47,810 of its maintenance address, of at most 1,472 bytes (R290). -/
def State.kmpFrame (s : State) (f : EthFrame) : Bool :=
  f.whole && s.netIp .maint != 0 && f.dst.toNat == s.netIp .maint && f.src != 0#32 && f.dport == 47810#16 && decide (f.payload.length ≤ 1472)

/-- ETHERNET_FRAME_RECEIVE (R23, R276, R279, R290): the bridge of the network passes the frame on; of what is for the unit itself, a qualifying
datagram of a safety network is delivered to the basin with its arrival stamp and the number of its network, a KMP datagram of the maintenance network
is taken as the request it carries, and every other frame is discarded and counted. A frame of more than 1,522 bytes goes nowhere. -/
def execEthernetFrameReceive (net : NetId) (f : EthFrame) (at_ : Placing) (s : State) : Out :=
  if !(s.net net).forwarding || netPorts net ≤ f.port.val then .next s
  else
  let s := s.traffic (netPort net f.port.val)
  if !s.tagKnown net f || 1522 < f.size then .next (s.modNet net (fun t => { t with filter := sat t.filter }))
  else
    let s := s.bridge net f
    if f.macDst.toNat ≠ s.ownMac net && !groupMac f.macDst.toNat then .next s
    else if net != .maint && s.passes net f then
      .next ((s.place at_ (.net2 (net == .b)) f.payload).modNet net (fun t => { t with rx := sat t.rx }))
    else if net == .maint && s.kmpFrame f then .next (s.kmpTake (kmpOf f).1 (kmpOf f).2)
    else .next (s.modNet net (fun t => { t with filter := sat t.filter }))

/-- ARP_MESSAGE (R276, R278): the bridge passes the message on; the sender enters the cache of 256 where it is held already or the message is for
the unit; a request for the own address is answered; another station with the own address is a conflict; what waited for the sender goes out, and the
KMP requests after a response that waited are served (R383). DESIGN CHOICE: the spec gives a full cache of 256 no replacement; an address that answers
then is not entered, and its telegram stays unsent (log entry 127). -/
def execArpMessage (net : NetId) (port : Fin 6) (request : Bool) (senderIp targetIp : BitVec 32) (senderMac macDst : BitVec 48) (s : State) : Out :=
  let ip := s.netIp net
  let t := s.net net
  let from_ := senderIp.toNat
  if !t.forwarding || netPorts net ≤ port.val then .next s
  else
    let ports := s.bridgeTo net port.val macDst.toNat
    let s := (s.traffic (netPort net port.val)).learn net port.val senderMac.toNat
    let s := if ports.isEmpty then s
      else s.emit (.arpBridged net ports request senderIp.toNat targetIp.toNat senderMac.toNat macDst.toNat)
    let mine := decide (targetIp.toNat = ip) && ip != 0
    let held := Assoc.get 0 t.arp from_ ≠ 0
    let enter := from_ ≠ 0 && from_ ≠ ip && (held || ((mine || t.asking.contains from_) && decide (t.arp.length < 256)))
    let s := s.modNet net (fun t =>
      { t with arp := if enter then Assoc.put 0 t.arp from_ senderMac.toNat else t.arp,
               conflict := t.conflict || (decide (from_ = ip) && ip != 0) })
    let s := if request && mine && from_ ≠ ip && s.netSends net then s.emitNet net senderMac.toNat (fun ps => .arpReply net ps from_ senderMac.toNat)
      else s
    let s := if enter then s.resolved net from_ else s
    .next (if net = .maint then s.kmpDrain s.ph.kmpQueue.length else s)

/-- What waits after a failed resolution (R278): a telegram stays unsent, another datagram is given up. -/
def NetWait.failedFor (ip : Nat) (w : NetWait) : Option NetWait :=
  if w.d.dst != ip then some w else if w.cycle.isNone then none else some { w with failed := true }

/-- ARP_RESOLUTION_FAILURE (R278): after 100 ms without an answer the telegram stays unsent and the failure is counted; the next telegram
tries again. A KMP response is given up, and the requests after it are served (R383). -/
def execArpResolutionFailure (net : NetId) (ip : BitVec 32) (s : State) : Out :=
  if (s.net net).asking.contains ip.toNat then
    let s := s.modNet net (fun t => { t with waiting := t.waiting.filterMap (NetWait.failedFor ip.toNat),
                                             asking := t.asking.filter (· != ip.toNat), arpFail := sat t.arpFail })
    .next (if net = .maint then s.kmpDrain s.ph.kmpQueue.length else s)
  else .next s

end Sys2Proof.Machine
end

