-- ==== Sys2Proof/Machine/Restart.lean ====
section
/-! DEFINITION. The restart decision (R110 to R115, R121, R332, R399), the retention clock, and the fallback of firmware (R358). -/

namespace Sys2Proof.Machine

/-! ## Which lanes start -/

/-- Whether a lane is ready for the restart decision: in a life-cycle state that permits cycles (R337, Table 14-2), released, its options known, its tests passed (R332, R333). -/
def State.mayStart (s : State) (x : LaneId) : Bool :=
  let l := s.lane x
  (l.ls.life == 2 || l.ls.life == 3 || l.ls.life == 4) && l.rc.powered && l.rc.released.getLsbD 7 && l.rc.fail == 0 && l.vt.state == .reset && s.unit.started.get x && (s.unit.options.get x).isSome &&
    (!l.rc.bist || (l.bi.logic == 1 && l.bi.memory == 1)) && l.bi.slices == 1

/-- The constant table at a unit start (R121): the image's constants, with the overlay made under its digest. -/
def Config.startConsts (c : Config) (m : Image) : Table 32 :=
  if c.overlayImg = m.digest then c.overlay.foldl (fun t p => Table.write t p.1 (p.2.getD 0#32)) m.consts else m.consts

/-- Whether the constant overlay fits (R121): without entries of this image there is nothing to compare. -/
def Config.overlayOk (c : Config) (m : Image) : Bool :=
  c.overlayImg != m.digest || plainDigest (c.startConsts m) == c.overlayDig

/-- The image a lane that may start verifies (Table 2-12), none where it is refused; independent-lane mode takes it too. -/
def State.startImage (s : State) (x : LaneId) : Option Image :=
  match loadImage (s.loadEnv x) (s.lane x).activeSlot.file with
  | .ok m => some m
  | .error _ => none

/-- The records of a lane that does not start: its image refused (R52), or its overlay differs (R121). -/
def State.noteStart (s : State) (x : LaneId) : State :=
  match loadImage (s.loadEnv x) (s.lane x).activeSlot.file with
  | .error (code, idx) =>
    s.modLane x (fun l =>
      let slot := { l.activeSlot with mark := .empty, code := code }
      let ls := if l.ls.active then { l.ls with slot1 := slot } else { l.ls with slot0 := slot }
      { l with ls := ls }.imageRefused x code idx l.activeSlot.file)
  | .ok m =>
    if !s.cfg.overlayOk m then s.modLane x (fun l => l.log x 0x0502 3 [s.cfg.overlaySeq]) else s

/-- The lanes that start with their images: ready, image verified, overlay as recorded. -/
def State.starters (s : State) : List (LaneId × Image) :=
  (LaneId.list.filter s.mayStart).filterMap (fun x =>
    match s.startImage x with
    | some m => if s.cfg.overlayOk m then some (x, m) else none
    | none => none)

/-! ## The decision (R114, R399) -/

/-- A lane's complete snapshots, that of the half written last first. Cycle numbers begin anew at a unit start, so they do not tell the older half
(log entry 87). -/
def Sequencer.snaps (q : Sequencer) : List Snapshot :=
  ((if q.newer1 then [q.snap1, q.snap0] else [q.snap0, q.snap1]).filterMap id).filter (fun p => p.complete)

/-- What a lane finds: its complete snapshots, newest first, and its retention clock. -/
def Lane.findings (l : Lane) : Findings :=
  { snaps := l.ls.snaps.map (fun p => (p.cycle, p.valDigest, p.issue, p.digest)), clock := l.ls.retention.getD 0, invalid := l.ls.retention.isNone }

/-- The snapshot of a cycle among a lane's findings: value digest, issue and image digest. -/
def Findings.at (f : Findings) (c : Nat) : Option (List Byte × Nat × List Byte) := (f.snaps.find? (fun p => p.1 == c)).map (·.2)

/-- The newest cycle complete in every lane (R114). -/
def newestCommon (fs : List Findings) : Option Nat :=
  match fs with
  | [] => none
  | f :: rest => (f.snaps.map (·.1)).find? (fun c => rest.all (fun g => (Findings.at g c).isSome))

/-- The age of a lane's snapshot of cycle `c` (R113): its clock, plus T_cycle for each cycle since; after a snapshot of a run before, the cycles
that its newest counts from the start of its own run (log entry 87). -/
def Findings.age (f : Findings) (c tCycle : Nat) : Nat :=
  match f.snaps with
  | (n, _) :: _ => f.clock + tCycle * (if c ≤ n then n - c else n)
  | [] => f.clock

/-- The kind of restart: cold with a reason of Table 5-2, or warm from a cycle with the largest age. -/
inductive Restart where
  | cold (reason : Nat)
  | warm (cycle age : Nat)
  deriving DecidableEq, Repr

/-- The restart decision (R114) on the findings of the lanes started. -/
def decideRestart (m : Image) (startKind : Nat) (fs : List Findings) : Restart :=
  if startKind = 6 then .cold 1
  else if fs.length < 3 then .cold 2
  else if 131008 < m.retained.length then .cold 3
  else match newestCommon fs with
    | none => .cold 3
    | some c =>
      let found := fs.filterMap (fun f => Findings.at f c)
      let age := (fs.map (fun f => Findings.age f c m.tCycle)).foldl max 0
      if !found.all (fun p => found.head?.map (·.1) == some p.1) then .cold 4
      else if fs.any (fun f => f.invalid) then .cold 7
      else if m.retainAge * 1000 ≤ age then .cold 5
      else if !found.all (fun p => p.2.1 == m.issue && p.2.2 == m.digest) then .cold 6
      else .warm c age

/-- The state buffer a lane starts from (R66, R111): cold values, with the RETAIN variables restored from its snapshot of a cycle. -/
def Lane.startState (l : Lane) (m : Image) (r : Restart) : Table 16 :=
  let cold := m.coldState
  match r with
  | .cold _ => cold
  | .warm c _ =>
    match l.ls.snaps.find? (fun p => p.cycle == c) with
    | some p => (m.retained.zip p.values).foldl (fun t q => Table.write t q.1 q.2) cold
    | none => cold

/-- The records of a unit start's change of state of every session of the image, to 0x01 (R183). -/
def Lane.sessionRecords (l : Lane) (m : Image) : Lane := m.sessions.foldl (fun l e => l.stateRecord e.sid (l.ts.at e.sid).state .notEst) l

/-- A lane starts (R111, R112): its buffers, constants, sessions, filters and forces as a restart leaves them. -/
def Lane.start (l : Lane) (m : Image) (consts : Table 32) (r : Restart) (state : LaneState) (mask : Mask) : Lane :=
  let t := l.startState m r
  let l := (l.activate m).sessionRecords m
  { l with
      pe := { l.pe with prev := t, cur := t, next := t, consts := consts, forces := [], state := .idle, sweepEn := false, copyDone := true }
      ts := Sessions.started m
      io := LaneIO.reset
      mir := MirrorRx.reset
      vt := { l.vt with state := state, mask := mask, disagree := PerLane.all 0, committed := none, attempt := 0, abortRun := 0, afterUnit := true } }

/-- The record and the notice of a unit start (R115, Table 12-5). R115 calls the reason the first parameter and Table
15-2 puts the kind of restart before it: the record has the places of Table 15-2 (log entry 88). -/
def State.noteRestart (s : State) (xs : List LaneId) (r : Restart) : State :=
  let (p, n) := match r with
    | .cold reason => ([0, reason, 0, 0], [0, reason])
    | .warm c age => ([1, 0, c % 2 ^ 32, age], [1, 0])
  let s := xs.foldl (fun s x => s.modLane x (fun l => l.logUnit 0x0501 1 p)) s
  s.notice 4 n

/-- The lanes released and sound that did not start join through resync once two others are in service (R121, R321). -/
def State.joinOthers (s : State) : State :=
  LaneId.list.foldl (fun s x =>
    let l := s.lane x
    if (s.donors x).isSome && l.rc.released.getLsbD 7 then s.modLane x (fun l => l.beginResync s.tideMs) else s) s

/-- The start of the lanes of a unit, with the notice of the new service mask (R302). -/
def State.startLanes (s : State) (xs : List (LaneId × Image)) (r : Restart) (state : LaneState) : State :=
  let mask : Mask := xs.foldl (fun (k : Mask) p => k.set p.1 true) (PerLane.all false)
  (xs.foldl (fun s p => s.modLane p.1 (fun l => l.start p.2 (s.cfg.startConsts p.2) r state (if state == .inService then mask else PerLane.all false)))
    s).maskNotice s.serviceMask none

/-- Whether lane `x` does not join at this unit start (R332): it has no supply or has failed, its tests among them, or it was ready and its image or its
overlay kept it out; or its reset is no part of this start (R321). -/
def State.keptOut (s : State) (x : LaneId) (starters : List LaneId) : Bool :=
  let l := s.lane x
  !l.rc.powered || l.rc.fail != 0 || (s.mayStart x && !starters.contains x) || (l.rc.released.getLsbD 7 && !s.unit.started.get x)

/-- RESTART_DECISION (R110 to R115, R121, R159, R332): the lanes that have passed their tests and verified their image decide between a warm and
a cold restart and start; on two lanes only with ALLOW_2OO2_START, and once the third is known to stay out. Every unit start in independent-lane mode is cold. -/
def execRestartDecision (s : State) : Out :=
  if s.unit.restarted || s.unit.role != .starting || s.cyclesRun then .next s
  else
    let ready := LaneId.list.filter s.mayStart
    let s := ready.foldl (fun s x => s.modLane x Lane.startSlot) s
    let xs := s.starters
    let out := fun (y : LaneId) => s.keptOut y (xs.map (·.1))
    let s := (ready.filter (fun x => !(xs.map (·.1)).contains x)).foldl (fun s x => s.noteStart x) s
    match xs with
    | [] => .next s
    | (x, m) :: _ =>
      let names := xs.map (·.1)
      if !(s.lane x).rc.opts.voting then
        let r := Restart.cold Config.independentReason
        let s := (s.startLanes xs r .independent).noteRestart names r
        .next { s with unit := { s.unit with restarted := true } }.openRings
      else if xs.length < 2 || (xs.length = 2 && !(m.allow2oo2 && LaneId.list.all (fun y => names.contains y || out y))) then .next s
      else
        let s := names.foldl (fun s y => s.emit (.verdict y (.findings (s.lane y).findings))) s
        let fs := names.map (fun y => (s.unit.findings.get y).getD (s.lane y).findings)
        let r := decideRestart m s.unit.startKind fs
        let s := (s.startLanes xs r .inService).noteRestart names r
        let s := { s with unit := { s.unit with restarted := true, twoLane := decide (xs.length = 2), rot := { Rotation.reset with since := s.tideMs } } }
        .next s.joinOthers.openRings

/-- RETENTION_CLOCK_INVALID (R399): an exhausted storage capacitor makes a lane's retention clock read as invalid. Its lane has then been
without supply for 4,000 s or longer: a shorter outage never invalidates one. -/
def execRetentionClockInvalid (x : LaneId) (s : State) : Out :=
  if (s.lane x).rc.powered || decide ((s.lane x).ls.outage < 4000000) then .next s
  else .next (s.modLane x (fun l => { l with ls := { l.ls with retention := none } }))

/-! ## Fallback (R357, R358) -/

/-- Whether neither settings area of a firmware has a correct CRC (R357). -/
def Firmware.areasLost (f : Firmware) : Bool := !f.area0.crcOk && !f.area1.crcOk

/-- Whether firmware on trial falls back: it cannot read its settings, because both CRCs fail or it does not know their version, or its part has
reset twice before commit. -/
def Firmware.mustFallBack (f : Firmware) (cannotRead : Bool) : Bool := f.onTrial && (cannotRead || f.areasLost || decide (2 ≤ f.resets))

/-- Firmware that falls back: its own slot rejected, the previous one active. -/
def Firmware.fallBack (f : Firmware) : Firmware :=
  if f.onTrial then { f.setRun { f.run with mark := .rejected } with active := !f.active, marked := none, resets := 0 } else f

/-- FALLBACK (R357, R358): firmware on trial marks its slot rejected, in every part of its kind, writes a change-log entry and a Warden record,
and the unit makes a software warm reset into the previous slot. -/
def execFallback (cannotRead : Bool) (s : State) : Out :=
  let bad := LaneId.list.filter (fun x => (s.lane x).ls.fw.mustFallBack cannotRead)
  let done := fun (s : State) (f : Firmware) =>
    let s := s.pushLog (eventItem 0x22 (s.cycle % 2 ^ 32) (f.run.digest.take 32) (f.idle.digest.take 32))
    { s with upd := { s.upd with fallbacks := sat s.upd.fallbacks, fellBack := true, activation := 4, trialRun := 0 } }.unitStart 5
  match bad with
  | x :: _ =>
    let f := (s.lane x).ls.fw
    let s := s.modLane x (fun l => l.log x 0x0E02 3 [1, f.run.version])
    .next (done (s.mapLanes (fun _ l => { l with ls := { l.ls with fw := l.ls.fw.fallBack } })) f)
  | [] =>
    if s.ph.fw.mustFallBack cannotRead then
      let f := s.ph.fw
      let s := s.writeRecord { code := 0x0E02, source := 4, severity := 3, cycle := s.cycle % 2 ^ 32, params := [2, f.run.version] }
      .next (done { s with ph := { s.ph with fw := f.fallBack } } f)
    else .next s

/-! ## The end of a lane's rotation tests (R156, R157) -/

/-- The result of a lane's rotation tests in their order (R156, Table 6-10): 2 logic BIST, 3 memory BIST or repair, 4 interconnect or pin test, 1
passed; none while one of them has not run. A BIST that is not tested counts as failed (R331). -/
def SelfTest.rotation (b : SelfTest) : Option Nat :=
  if b.logic = 2 ∨ b.logic = 3 then some 2
  else if b.logic = 0 then none
  else if b.memory = 2 ∨ b.memory = 3 ∨ b.exhausted then some 3
  else if b.memory = 0 then none
  else if b.slices = 2 then some 4
  else if b.slices = 0 then none
  else some 1

/-- ROTATION_TESTS_COMPLETE (R156, R157): the lane resyncs from the loading phase where every test has passed; else it enters FAILED, with a
LANE_FAILED record, and the rotation is complete. The reset that the withdrawal asked for comes first, and with it the tests begin anew (R321). -/
def execRotationTestsComplete (x : LaneId) (s : State) : Out :=
  let s := s.pendingReset x
  let l := s.lane x
  if l.vt.state ≠ .rotationTest then .next s
  else match l.bi.rotation with
    | none => .next s
    | some 1 =>
      .next ({ s with unit := { s.unit with rot := { s.unit.rot with state := 4 } } }.modLane x (fun l =>
        { l with bi := l.bi.newSlices,
                 vt := { l.vt.clearAttempt with state := .loading, rotLast := 1, attempt := 1, abortRun := 0, startMs := s.tideMs } }))
    | some r =>
      .next ((s.modLane x (fun l =>
        let v := { l.vt with state := .failed, rotLast := r }
        { l with vt := v }.log x 0x0604 3 [v.rotReg])).endRotation x)

end Sys2Proof.Machine
end

