-- ==== Sys2Proof/Machine/Vital.lean ====
section
/-! DEFINITION. The commands of the vital inputs and outputs (chapter 9). -/

namespace Sys2Proof.Machine

/-- INPUT_SAMPLE (R95, R229, R230, R240, R244, R248): at a whole millisecond `ms` of its tide a lane whose sequencer runs
samples every input, readback and WATCH_IN coupler, and the field supplies in units of 0.1 V. A lane in resync keeps its
samples (R151). -/
def execInputSample (x : LaneId) (ms : BitVec 40) (raw : BitVec 64) (readback : BitVec 32) (groups : BitVec 4) (watchIn : Bool)
    (fs1 fs2 : BitVec 16) (s : State) : Out :=
  if !onBit (s.lane x).rc.released 3 then .next s
  else
    .next (s.modLane x (fun l =>
      let m := l.image
      let replay := l.vt.state == .joining || l.vt.state == .base || l.vt.state == .catchUp
      let l := { l with td := l.td.reach (ms.toNat * 100000),
                        vt := if replay then { l.vt with kept := l.vt.kept ++ [(ms.toNat, raw)] } else l.vt }
      let io := if replay then { l.io with raw := raw }
        else (List.range 64).foldl (LaneIO.sampleInput m raw) { l.io with raw := raw }
      let f1 := supplyStep fs1.toNat io.fs1Low io.fs1Ok
      let f2 := supplyStep fs2.toNat io.fs2Low io.fs2Ok
      let io := { io with readback := readback, groupsRead := groups, watchIn := watchIn,
                          litInCycle := io.litInCycle || watchIn, darkRun := if watchIn then 0 else io.darkRun + 1, sampled := true, sampleCnt := (io.sampleCnt + 1) % 2 ^ 32,
                          lastMs := ms.toNat, fs1 := fs1.toNat, fs2 := fs2.toNat, fs1Low := f1.1, fs1Ok := f1.2,
                          fs2Low := f2.1, fs2Ok := f2.2 }
      { l with io := io }.judgeOutputs m x s.sleeps))

/-- PULSE_DARK_WINDOW (R231, R236): every lane in service asserts the quench of pulse source 24 + j and delivers it no pattern. -/
def execPulseDarkWindow (j : Fin 8) (s : State) : Out :=
  let k := 24 + j.val
  .next (s.mapLanes (fun _ l =>
    if l.inService && (l.image.output k).pulse then
      { l with io := { l.io with quench := putBit l.io.quench k true, toggle := putBit l.io.toggle k false, dark := putBit l.io.dark j.val true } }
    else l))

/-- DARK_WINDOW_END (R231): the lanes release the source's quench again, unless a fault reaction holds it, and deliver the pattern again where R236
lets them. -/
def execDarkWindowEnd (j : Fin 8) (s : State) : Out :=
  let k := 24 + j.val
  .next (s.mapLanes (fun _ l =>
    if onBit l.io.dark j.val then
      let io := { l.io with dark := putBit l.io.dark j.val false, driveEnd := Assoc.put 0 l.io.driveEnd k l.ms }
      { l with io := { io with quench := putBit io.quench k (io.held k),
                               toggle := putBit io.toggle k (io.drives && io.mayDrive l.image io.cmd s.sleeps io.watchOut k) } }
    else l))

/-- One input at a test sample of source 24 + j (R232): a 1 sets the cross-circuit and holds the filter at 0; the third 0 in a
row clears it. -/
def Lane.testInput (m : Image) (x : LaneId) (j : Nat) (raw : BitVec 64) (l : Lane) (c : Nat) : Lane :=
  let e := m.input c
  if !(e.used && e.pulsed && e.source == 24 + j) then l
  else if onBit raw c then
    let io := { l.io with count := Assoc.put 0 l.io.count c 0, filt := putBit l.io.filt c false,
                          xzeros := Assoc.put 0 l.io.xzeros c 0 }
    if onBit l.io.xcirc c then { l with io := io }
    else { l with io := { io with xcirc := putBit io.xcirc c true, xcircCnt := sat io.xcircCnt } }.log x 0x0901 2 [c, 1]
  else if onBit l.io.xcirc c then
    let n := Assoc.get 0 l.io.xzeros c + 1
    if 3 ≤ n then
      { l with io := { l.io with xcirc := putBit l.io.xcirc c false, xzeros := Assoc.put 0 l.io.xzeros c 0 } }.log x 0x0901 2
        [c, 0]
    else { l with io := { l.io with xzeros := Assoc.put 0 l.io.xzeros c n } }
  else l

/-- TEST_SAMPLE (R232): lane `x` test-samples the inputs of pulse source 24 + j. -/
def execTestSample (x : LaneId) (j : Fin 8) (raw : BitVec 64) (s : State) : Out :=
  .next (s.modLane x (fun l => (List.range 64).foldl (Lane.testInput l.image x j.val raw) l))

/-- Whether channel `k` is tested in its slot (R241): used, no pulse source, not faulty, group not latched, not the sleeper's
shared output nor one that R265 keeps the watcher from, the lane driving (R236 gives no pattern to any other), and no on-pulse on a pulse-sensitive output (Table 9-3). -/
def LaneIO.testable (io : LaneIO) (m : Image) (sleeper : Bool) (k : Nat) : Bool :=
  let o := m.output k
  o.used && !o.pulse && io.drives && decide (Assoc.get 0 io.fault k = 0) && io.permits m sleeper io.watchOut k &&
    (onBit io.toggle k || !o.sensitive)

/-- TEST_PULSE_START (R241, Table 9-3): an energised output's quench is asserted; a de-energised output's pattern starts with the
quench held. A channel that is not tested in this interval counts as skipped (R243). DESIGN CHOICE: the rule does not say what tells that an output is
energised at S_k; each lane takes its own pattern for it, not the readback (log entry 122). -/
def execTestPulseStart (k : Fin 32) (s : State) : Out :=
  .next (s.mapLanes (fun x l =>
    let m := l.image
    let o := m.output k.val
    if !l.inService || !(o.used && !o.pulse) then l
    else
      let io := { l.io with intervals := Assoc.upd 0 l.io.intervals k.val (fun n => min (n + 1) 255) }
      if io.testable m s.sleeps k.val then
        let on := onBit io.toggle k.val
        { l with io := { io with quench := putBit io.quench k.val true, toggle := putBit io.toggle k.val true,
                                 window := some { channel := k.val, onPulse := !on, begun := on, ended := false, pass := false,
                                                  high := false, others := 0 } } }
      else { l with io := { io with missed := Assoc.upd 0 io.missed k.val (· + 1) } }.overdueCheck x k.val))

/-- TEST_PULSE_BEGIN (R241): at S_k + 2.0 ms every lane releases the quench of an on-pulse channel. -/
def execTestPulseBegin (k : Fin 32) (s : State) : Out :=
  .next (s.mapLanes (fun _ l =>
    match l.io.window with
    | some w =>
      if w.channel = k.val ∧ w.onPulse ∧ !w.begun then
        { l with io := { l.io with quench := putBit l.io.quench k.val false, window := some { w with begun := true } } }
      else l
    | none => l))

/-- TEST_PULSE_END (R241, Table 9-3): an off-pulse's quench is released; an on-pulse's quench is asserted and its pattern
stopped. -/
def execTestPulseEnd (k : Fin 32) (s : State) : Out :=
  .next (s.mapLanes (fun _ l =>
    match l.io.window with
    | some w =>
      if w.channel = k.val ∧ w.begun ∧ !w.ended then
        if w.onPulse then
          { l with io := { l.io with quench := putBit l.io.quench k.val true, toggle := putBit l.io.toggle k.val false,
                                     driveEnd := Assoc.put 0 l.io.driveEnd k.val l.ms, window := some { w with ended := true } } }
        else { l with io := { l.io with quench := putBit l.io.quench k.val false, window := some { w with ended := true } } }
      else l
    | none => l))

/-- Whether a lane's drive of channel `c` has stood long enough for the output to be energised: 3 ms, as Table 9-4 allows a network to close. -/
def LaneIO.settledOn (io : LaneIO) (ms c : Nat) : Bool :=
  onBit io.toggle c && !onBit io.quench c && decide (Assoc.get 0 io.driveBegin c + 3 ≤ ms)

/-- Whether channel `c` has been without drive long enough for the output to be de-energised: 6 ms, as Table 9-4 allows a network to open. -/
def LaneIO.settledOff (io : LaneIO) (ms c : Nat) : Bool := !io.driven c && decide (Assoc.get 0 io.driveEnd c + 6 ≤ ms)

/-- READBACK_SAMPLE (R240, Table 9-3): a sample of every output readback `us` microseconds after the start of the open test
window. An off-pulse passes on a low from 50 to 200 µs, an on-pulse on a high from 2,000 to 2,100 µs; another energised output
that reads low, or another de-energised one that reads high, is noted. An output that switched within the time Table 9-4 allows it counts as neither
(DESIGN CHOICE, log entry 123). Without a window (a dark window) nothing is judged. -/
def execReadbackSample (x : LaneId) (readback : BitVec 32) (us : BitVec 32) (s : State) : Out :=
  .next (s.modLane x (fun l =>
    match l.io.window with
    | none => l
    | some w =>
      let t := us.toNat
      let h := onBit readback w.channel
      let pass := if w.onPulse then h && decide (2000 ≤ t) && decide (t ≤ 2100)
        else !h && decide (50 ≤ t) && decide (t ≤ 200)
      let others := (List.range 32).foldl (fun v c =>
        if c = w.channel then v
        else if w.onPulse then (if l.io.settledOff l.ms c && onBit readback c then putBit v c true else v)
        else (if l.io.settledOn l.ms c && !onBit readback c then putBit v c true else v)) w.others
      { l with io := { l.io with window := some { w with pass := w.pass || pass, high := w.high || (w.ended && h),
                                                         others := others } } }))

/-- Channel `j` on which the test pulse of channel `k` was seen: marked, latched, and named with `k` (Table 9-4). -/
def Lane.crossWired (x : LaneId) (k : Nat) (l : Lane) (j : Nat) : Lane :=
  let l := l.latchFault x j 2 2
  { l with io := { l.io with xpair := Assoc.put none l.io.xpair j (some k) } }

/-- The result of a test window (R243, Table 9-4): cross-wiring marks and latches the channel and every channel on which its pulse was seen, the
first of which its XPAIR names; a failed off-pulse is a short to the field supply, a failed on-pulse fails to energise. -/
def Lane.windowResult (l : Lane) (x : LaneId) (w : TestWindow) : Lane :=
  let k := w.channel
  match (List.range 32).filter (fun c => onBit w.others c) with
  | j :: js =>
    let l := (j :: js).foldl (Lane.crossWired x k) (l.latchFault x k 2 2)
    { l with io := { l.io with xpair := Assoc.put none l.io.xpair k (some j), test := Assoc.put 0 l.io.test k 2 } }
  | [] =>
    if w.pass then { l with io := { l.io with test := Assoc.put 0 l.io.test k 1 } }
    else
      let l := { l with io := { l.io with test := Assoc.put 0 l.io.test k 2 } }
      if w.onPulse then { l with io := { l.io with fault := Assoc.put 0 l.io.fault k 5 } }.faultRecord x k 5
      else l.latchFault x k 1 1

/-- TEST_WINDOW_END (R243): the window of channel k has run to its end; the quench is released, and the result is taken. -/
def execTestWindowEnd (x : LaneId) (k : Fin 32) (s : State) : Out :=
  .next (s.modLane x (fun l =>
    match l.io.window with
    | some w =>
      if w.channel = k.val ∧ w.ended then
        let io := { l.io with window := none, quench := putBit l.io.quench k.val false, testCnt := sat l.io.testCnt,
                              intervals := Assoc.put 0 l.io.intervals k.val 0, missed := Assoc.put 0 l.io.missed k.val 0,
                              overdue := putBit l.io.overdue k.val false }
        { l with io := io }.windowResult x w
      else l
    | none => l))

/-- EXTERNAL_CHECK (Table 9-4): 6 ms after group g opened on a short to the supply, EXTERNAL shows whether its channel still
reads high. -/
def execExternalCheck (x : LaneId) (g : Fin 4) (readback : BitVec 32) (s : State) : Out :=
  .next (s.modLane x (fun l =>
    if onBit l.io.latched g.val && decide (Assoc.get 0 l.io.groupCause g.val = 1) then
      { l with io := { l.io with groupExt := putBit l.io.groupExt g.val (onBit readback (Assoc.get 0 l.io.groupChan g.val)) } }
    else l))

/-- OVERCURRENT (Table 9-4, R245): the channel is quenched and its drive stopped; the fourth overcurrent since its last free interval leaves it
off (FAULT 0x4), else it pauses (FAULT 0x3). -/
def execOvercurrent (x : LaneId) (k : Fin 32) (s : State) : Out :=
  .next (s.modLane x (fun l =>
    if onBit l.io.toggle k.val && !onBit l.io.quench k.val then
      let n := Assoc.get 0 l.io.ocRun k.val + 1
      let last := decide (4 ≤ n)
      let code := if last then 4 else 3
      let io := l.io.abortTestIf l.ms (fun w => w.channel == k.val)
      ({ l with io := { io with ocRun := Assoc.put 0 io.ocRun k.val n, quench := putBit io.quench k.val true, toggle := putBit io.toggle k.val false,
                                driveEnd := Assoc.put 0 io.driveEnd k.val l.ms, ocCnt := sat io.ocCnt,
                                fault := Assoc.put 0 io.fault k.val code, paused := putBit io.paused k.val (!last) } }.faultRecord
        x k.val code).afterAbort x l.io.window
    else l))

/-- OVERCURRENT_RETRY (Table 9-4, R400): the pause of 1 s is over; the drive resumes if the channel is still commanded on and
R236 lets it. -/
def execOvercurrentRetry (x : LaneId) (k : Fin 32) (s : State) : Out :=
  .next (s.modLane x (fun l =>
    if onBit l.io.paused k.val then
      let io := { l.io with paused := putBit l.io.paused k.val false }
      let io := { io with quench := putBit io.quench k.val (io.held k.val || io.inDark k.val) }
      if io.drives && io.granted l.image io.cmd s.sleeps io.watchOut k.val then
        { l with io := { io with toggle := putBit io.toggle k.val (!io.inDark k.val), driveBegin := Assoc.put 0 io.driveBegin k.val l.ms,
                                 lowRun := Assoc.put 0 io.lowRun k.val 0, retry := Assoc.upd 0 io.retry k.val (· + 1) } }
      else { l with io := io }
    else l))

/-- OVERCURRENT_FREE_INTERVAL (R400): 10 s of continuous drive without overcurrent clear FAULT 0x3, RETRY and the count of overcurrents. -/
def execOvercurrentFreeInterval (x : LaneId) (k : Fin 32) (s : State) : Out :=
  .next (s.modLane x (fun l =>
    if l.io.driven k.val && decide (Assoc.get 0 l.io.driveBegin k.val + 10000 ≤ l.ms) then
      { l with io := { l.io with retry := Assoc.put 0 l.io.retry k.val 0, ocRun := Assoc.put 0 l.io.ocRun k.val 0,
                                 fault := if Assoc.get 0 l.io.fault k.val = 3 then Assoc.put 0 l.io.fault k.val 0
                                          else l.io.fault } }
    else l))

end Sys2Proof.Machine
end

