-- ==== Sys2Proof/Machine/Dispatch.lean ====
section
/-! DEFINITION. The dispatch of the commands: one arm for each constructor of Instr, each one direct call of its meaning. -/

namespace Sys2Proof.Machine

/-- The effect of a command on everything but the queue. -/
def exec (i : Instr) (s : State) : Host.Outcome State Fault Refusal :=
  match i with
  | .tideMark => Sys2Proof.Machine.execTideMark s
  | .tideReceive x sender count rate own crcOk => Sys2Proof.Machine.execTideReceive x sender count rate own crcOk s
  | .inputSample x ms raw readback groups watchIn fs1 fs2 => Sys2Proof.Machine.execInputSample x ms raw readback groups watchIn fs1 fs2 s
  | .freezePoint done => Sys2Proof.Machine.execFreezePoint done s
  | .sessionTimeout x sid => Sys2Proof.Machine.execSessionTimeout x sid s
  | .senderFaultEnd x sid => Sys2Proof.Machine.execSenderFaultEnd x sid s
  | .timeReferenceExpiry x sid => Sys2Proof.Machine.execTimeReferenceExpiry x sid s
  | .sweepStart x => Sys2Proof.Machine.execSweepStart x s
  | .level x stalls length => Sys2Proof.Machine.execLevel x stalls length s
  | .nop x cell => Sys2Proof.Machine.execNop x cell s
  | .guard x cell => Sys2Proof.Machine.execGuard x cell s
  | .mov x cell => Sys2Proof.Machine.execMov x cell s
  | .and x cell => Sys2Proof.Machine.execAnd x cell s
  | .or x cell => Sys2Proof.Machine.execOr x cell s
  | .xor x cell => Sys2Proof.Machine.execXor x cell s
  | .eq x cell => Sys2Proof.Machine.execEq x cell s
  | .ne x cell => Sys2Proof.Machine.execNe x cell s
  | .lt x cell => Sys2Proof.Machine.execLt x cell s
  | .le x cell => Sys2Proof.Machine.execLe x cell s
  | .adds x cell => Sys2Proof.Machine.execAdds x cell s
  | .subs x cell => Sys2Proof.Machine.execSubs x cell s
  | .sel x cell => Sys2Proof.Machine.execSel x cell s
  | .lut x cell => Sys2Proof.Machine.execLut x cell s
  | .sr x cell => Sys2Proof.Machine.execSr x cell s
  | .rs x cell => Sys2Proof.Machine.execRs x cell s
  | .rise x cell => Sys2Proof.Machine.execRise x cell s
  | .fall x cell => Sys2Proof.Machine.execFall x cell s
  | .ton x cell => Sys2Proof.Machine.execTon x cell s
  | .tof x cell => Sys2Proof.Machine.execTof x cell s
  | .tp x cell => Sys2Proof.Machine.execTp x cell s
  | .ctu x cell => Sys2Proof.Machine.execCtu x cell s
  | .ctd x cell => Sys2Proof.Machine.execCtd x cell s
  | .chainLink x cell => Sys2Proof.Machine.execChainLink x cell s
  | .engineFault x cause position => Sys2Proof.Machine.execEngineFault x cause position s
  | .gaugeScanComplete x offset waited => Sys2Proof.Machine.execGaugeScanComplete x offset waited s
  | .gaugeReceive x link frame => Sys2Proof.Machine.execGaugeReceive x link frame s
  | .testGaugeReceive x link frame stuckEqual => Sys2Proof.Machine.execTestGaugeReceive x link frame stuckEqual s
  | .comparisonWindowClose x offset => Sys2Proof.Machine.execComparisonWindowClose x offset s
  | .copyComplete x => Sys2Proof.Machine.execCopyComplete x s
  | .sealHandover x offset => Sys2Proof.Machine.execSealHandover x offset s
  | .outputDeadline x => Sys2Proof.Machine.execOutputDeadline x s
  | .verdictReceive x sender v crcOk => Sys2Proof.Machine.execVerdictReceive x sender v crcOk s
  | .restartDecision => Sys2Proof.Machine.execRestartDecision s
  | .retentionClockInvalid x => Sys2Proof.Machine.execRetentionClockInvalid x s
  | .changeConstant mb => Sys2Proof.Machine.execChangeConstant mb s
  | .changePar mb => Sys2Proof.Machine.execChangePar mb s
  | .setForce mb => Sys2Proof.Machine.execSetForce mb s
  | .releaseForce mb => Sys2Proof.Machine.execReleaseForce mb s
  | .releaseAllForces mb => Sys2Proof.Machine.execReleaseAllForces mb s
  | .changeApply => Sys2Proof.Machine.execChangeApply s
  | .sleeperChangeApply => Sys2Proof.Machine.execSleeperChangeApply s
  | .faultReset mb => Sys2Proof.Machine.execFaultReset mb s
  | .faultResetApply => Sys2Proof.Machine.execFaultResetApply s
  | .swapRequest mb => Sys2Proof.Machine.execSwapRequest mb s
  | .swapCommit => Sys2Proof.Machine.execSwapCommit s
  | .swapExecute => Sys2Proof.Machine.execSwapExecute s
  | .setOwnIpv4 mb => Sys2Proof.Machine.execSetOwnIpv4 mb s
  | .setPriorityMarking mb => Sys2Proof.Machine.execSetPriorityMarking mb s
  | .setPtpDomain mb => Sys2Proof.Machine.execSetPtpDomain mb s
  | .setCanBitRates mb => Sys2Proof.Machine.execSetCanBitRates mb s
  | .setCanReference mb => Sys2Proof.Machine.execSetCanReference mb s
  | .setWireTermination mb => Sys2Proof.Machine.execSetWireTermination mb s
  | .settingsApply => Sys2Proof.Machine.execSettingsApply s
  | .lifeCycleTransition mb => Sys2Proof.Machine.execLifeCycleTransition mb s
  | .transitionApply => Sys2Proof.Machine.execTransitionApply s
  | .enrolment mb => Sys2Proof.Machine.execEnrolment mb s
  | .passwordChange mb => Sys2Proof.Machine.execPasswordChange mb s
  | .softwareWarmReset mb => Sys2Proof.Machine.execSoftwareWarmReset mb s
  | .softwareColdReset mb => Sys2Proof.Machine.execSoftwareColdReset mb s
  | .softwareResetExecute => Sys2Proof.Machine.execSoftwareResetExecute s
  | .openUpdateSession mb => Sys2Proof.Machine.execOpenUpdateSession mb s
  | .stagePackage mb => Sys2Proof.Machine.execStagePackage mb s
  | .activate mb => Sys2Proof.Machine.execActivate mb s
  | .activationRestart => Sys2Proof.Machine.execActivationRestart s
  | .closeUpdateSession mb => Sys2Proof.Machine.execCloseUpdateSession mb s
  | .updateSessionLapse => Sys2Proof.Machine.execUpdateSessionLapse s
  | .readChangeLog mb => Sys2Proof.Machine.execReadChangeLog mb s
  | .changeLogEntryWrite written => Sys2Proof.Machine.execChangeLogEntryWrite written s
  | .lockoutEnd => Sys2Proof.Machine.execLockoutEnd s
  | .firmwareCommit => Sys2Proof.Machine.execFirmwareCommit s
  | .fallback cannotRead => Sys2Proof.Machine.execFallback cannotRead s
  | .issueFloorAdvance => Sys2Proof.Machine.execIssueFloorAdvance s
  | .logRead mb => Sys2Proof.Machine.execLogRead mb s
  | .dumpRead mb => Sys2Proof.Machine.execDumpRead mb s
  | .dumpRelease mb => Sys2Proof.Machine.execDumpRelease mb s
  | .resyncLoadingComplete x => Sys2Proof.Machine.execResyncLoadingComplete x s
  | .resyncJoining x => Sys2Proof.Machine.execResyncJoining x s
  | .baseBlockReceive x donor block crcOk => Sys2Proof.Machine.execBaseBlockReceive x donor block crcOk s
  | .deltaReceive x donor data crcOk => Sys2Proof.Machine.execDeltaReceive x donor data crcOk s
  | .resyncPhaseTimeout x => Sys2Proof.Machine.execResyncPhaseTimeout x s
  | .resyncAttemptTimeout x => Sys2Proof.Machine.execResyncAttemptTimeout x s
  | .rotationDue => Sys2Proof.Machine.execRotationDue s
  | .rotationDeferCheck => Sys2Proof.Machine.execRotationDeferCheck s
  | .laneRotationStart => Sys2Proof.Machine.execLaneRotationStart s
  | .rotationTestsComplete x => Sys2Proof.Machine.execRotationTestsComplete x s
  | .dataTelegramReceive x addr unreadable => Sys2Proof.Machine.execDataTelegramReceive x addr unreadable s
  | .pairingWindowClose x sid time => Sys2Proof.Machine.execPairingWindowClose x sid time s
  | .timeReqReceive x addr unreadable own => Sys2Proof.Machine.execTimeReqReceive x addr unreadable own s
  | .timeRespReceive x addr unreadable => Sys2Proof.Machine.execTimeRespReceive x addr unreadable s
  | .telegramAssembly sid kind offset => Sys2Proof.Machine.execTelegramAssembly sid kind offset s
  | .ringOutputSlot r slot => Sys2Proof.Machine.execRingOutputSlot r slot s
  | .sendingDeadline sending => Sys2Proof.Machine.execSendingDeadline sending s
  | .mirrorTelegramReceive port frame at_ unreadable => Sys2Proof.Machine.execMirrorTelegramReceive port frame at_ unreadable s
  | .partnerReportReceive port frame => Sys2Proof.Machine.execPartnerReportReceive port frame s
  | .ethernetFrameReceive net f at_ => Sys2Proof.Machine.execEthernetFrameReceive net f at_ s
  | .icmpEchoRequest net src second => Sys2Proof.Machine.execIcmpEchoRequest net src second s
  | .arpMessage net port request senderIp targetIp senderMac macDst => Sys2Proof.Machine.execArpMessage net port request senderIp targetIp senderMac macDst s
  | .arpResolutionFailure net ip => Sys2Proof.Machine.execArpResolutionFailure net ip s
  | .ethernetLinkUp net port gigabit => Sys2Proof.Machine.execEthernetLinkUp net port gigabit s
  | .canFrameReceive p f at_ => Sys2Proof.Machine.execCanFrameReceive p f at_ s
  | .canRateDetection p seen => Sys2Proof.Machine.execCanRateDetection p seen s
  | .canFrameSent p begun errors => Sys2Proof.Machine.execCanFrameSent p begun errors s
  | .busOff p => Sys2Proof.Machine.execBusOff p s
  | .busOffRecovery p sequences => Sys2Proof.Machine.execBusOffRecovery p sequences s
  | .canExpired p sending => Sys2Proof.Machine.execCanExpired p sending s
  | .referenceMessageMiss p => Sys2Proof.Machine.execReferenceMessageMiss p s
  | .wireFrameReceive l chars stopError at_ => Sys2Proof.Machine.execWireFrameReceive l chars stopError at_ s
  | .kmpRead req => Sys2Proof.Machine.execKmpRead req s
  | .kmpWrite req => Sys2Proof.Machine.execKmpWrite req s
  | .basinRead req => Sys2Proof.Machine.execBasinRead req s
  | .basinWrite req => Sys2Proof.Machine.execBasinWrite req s
  | .ptpMessageReceive m => Sys2Proof.Machine.execPtpMessageReceive m s
  | .announceReceiptTimeout => Sys2Proof.Machine.execAnnounceReceiptTimeout s
  | .utcHoldoverEnd => Sys2Proof.Machine.execUtcHoldoverEnd s
  | .ringFrameForward r side frame receipt latency => Sys2Proof.Machine.execRingFrameForward r side frame receipt latency s
  | .ringLinkChange r side up => Sys2Proof.Machine.execRingLinkChange r side up s
  | .delayMeasurementStart r => Sys2Proof.Machine.execDelayMeasurementStart r s
  | .delayReq r side frame turnaround => Sys2Proof.Machine.execDelayReq r side frame turnaround s
  | .delayResp r side frame roundTrip => Sys2Proof.Machine.execDelayResp r side frame roundTrip s
  | .delayRespTimeout r side => Sys2Proof.Machine.execDelayRespTimeout r side s
  | .syncLaunch r launchErr => Sys2Proof.Machine.execSyncLaunch r launchErr s
  | .syncReceive r side frame receipt => Sys2Proof.Machine.execSyncReceive r side frame receipt s
  | .holdover r => Sys2Proof.Machine.execHoldover r s
  | .holdoverEnd r => Sys2Proof.Machine.execHoldoverEnd r s
  | .slotFrameReceive r side slot frame receipt at_ => Sys2Proof.Machine.execSlotFrameReceive r side slot frame receipt at_ s
  | .nodeResync r node => Sys2Proof.Machine.execNodeResync r node s
  | .integrate r frame => Sys2Proof.Machine.execIntegrate r frame s
  | .diagRequest r identity => Sys2Proof.Machine.execDiagRequest r identity s
  | .diagResponse r frame => Sys2Proof.Machine.execDiagResponse r frame s
  | .vk2Echo r frame roundTrip => Sys2Proof.Machine.execVk2Echo r frame roundTrip s
  | .vk2PathDelay r frame => Sys2Proof.Machine.execVk2PathDelay r frame s
  | .coldstart frame => Sys2Proof.Machine.execColdstart frame s
  | .listenPeriodExpiry => Sys2Proof.Machine.execListenPeriodExpiry s
  | .contentionRound => Sys2Proof.Machine.execContentionRound s
  | .decidingEntry => Sys2Proof.Machine.execDecidingEntry s
  | .decidingTimeout => Sys2Proof.Machine.execDecidingTimeout s
  | .failOver => Sys2Proof.Machine.execFailOver s
  | .watcherGivesWay => Sys2Proof.Machine.execWatcherGivesWay s
  | .pulseDarkWindow j => Sys2Proof.Machine.execPulseDarkWindow j s
  | .testSample x j raw => Sys2Proof.Machine.execTestSample x j raw s
  | .testPulseStart k => Sys2Proof.Machine.execTestPulseStart k s
  | .testPulseEnd k => Sys2Proof.Machine.execTestPulseEnd k s
  | .testWindowEnd x k => Sys2Proof.Machine.execTestWindowEnd x k s
  | .externalCheck x g readback => Sys2Proof.Machine.execExternalCheck x g readback s
  | .overcurrent x k => Sys2Proof.Machine.execOvercurrent x k s
  | .overcurrentRetry x k => Sys2Proof.Machine.execOvercurrentRetry x k s
  | .overcurrentFreeInterval x k => Sys2Proof.Machine.execOvercurrentFreeInterval x k s
  | .laneBrownOut x => Sys2Proof.Machine.execLaneBrownOut x s
  | .pumphouseBrownOut => Sys2Proof.Machine.execPumphouseBrownOut s
  | .supplyStart p => Sys2Proof.Machine.execSupplyStart p s
  | .maintReset => Sys2Proof.Machine.execMaintReset s
  | .laneWatchdog x => Sys2Proof.Machine.execLaneWatchdog x s
  | .pumphouseWatchdog core => Sys2Proof.Machine.execPumphouseWatchdog core s
  | .clockGateOpen p domain met => Sys2Proof.Machine.execClockGateOpen p domain met s
  | .domainRelease p domain sfps firmwareOk => Sys2Proof.Machine.execDomainRelease p domain sfps firmwareOk s
  | .logicBist x signature reading => Sys2Proof.Machine.execLogicBist x signature reading s
  | .memoryBist x failing reading => Sys2Proof.Machine.execMemoryBist x failing reading s
  | .optionLoading p straps copyA copyB => Sys2Proof.Machine.execOptionLoading p straps copyA copyB s
  | .optionExchange x delays => Sys2Proof.Machine.execOptionExchange x delays s
  | .sluiceReopen p neighbour => Sys2Proof.Machine.execSluiceReopen p neighbour s
  | .queueWordReceive writer reader w => Sys2Proof.Machine.execQueueWordReceive writer reader w s
  | .testSlice x cls item passed => Sys2Proof.Machine.execTestSlice x cls item passed s
  | .wardenRecordWrite src => Sys2Proof.Machine.execWardenRecordWrite src s
  | .breachDump p cause reachable content => Sys2Proof.Machine.execBreachDump p cause reachable content s
  | .breachDumpComplete p => Sys2Proof.Machine.execBreachDumpComplete p s
  | .mailboxDoorbell mb tag requester copyTo readError laneErrors => Sys2Proof.Machine.execMailboxDoorbell mb tag requester copyTo readError laneErrors s
  | .mailboxAcknowledge mb code => Sys2Proof.Machine.execMailboxAcknowledge mb code s
  | .mbOutAck mb => Sys2Proof.Machine.execMbOutAck mb s
  | .lkLockRead n readers us => Sys2Proof.Machine.execLkLockRead n readers us s
  | .lkLockRelease n master value us => Sys2Proof.Machine.execLkLockRelease n master value us s
  | .lockLapse n master us => Sys2Proof.Machine.execLockLapse n master us s
  | .tdTideLo x => Sys2Proof.Machine.execTdTideLo x s
  | .wdOptimeLo => Sys2Proof.Machine.execWdOptimeLo s
  | .dlCntClr v => Sys2Proof.Machine.execDlCntClr v s
  | .xlCntClr v => Sys2Proof.Machine.execXlCntClr v s
  | .enCntClr v => Sys2Proof.Machine.execEnCntClr v s
  | .cnCntClr v => Sys2Proof.Machine.execCnCntClr v s
  | .wlCntClr v => Sys2Proof.Machine.execWlCntClr v s
  | .ptCntClr v => Sys2Proof.Machine.execPtCntClr v s
  | .mbCntClr v => Sys2Proof.Machine.execMbCntClr v s
  | .bsCounterClear v => Sys2Proof.Machine.execBsCounterClear v s
  | .lkCounterClear v => Sys2Proof.Machine.execLkCounterClear v s
  | .wdCntClr v => Sys2Proof.Machine.execWdCntClr v s
  | .phEvent v => Sys2Proof.Machine.execPhEvent v s
  | .phLampTest v => Sys2Proof.Machine.execPhLampTest v s
  | .lampTestEnd => Sys2Proof.Machine.execLampTestEnd s
  | .phPortDisable v => Sys2Proof.Machine.execPhPortDisable v s
  | .biExtCtrlStart x v => Sys2Proof.Machine.execBiExtCtrlStart x v s
  | .externalBistDone x => Sys2Proof.Machine.execExternalBistDone x s
  | .registerWrite addr v => Sys2Proof.Machine.execRegisterWrite addr v s
  | .basinScrub addr corrected uncorrectable => Sys2Proof.Machine.execBasinScrub addr corrected uncorrectable s
  | .mirrorFrameSent offset => Sys2Proof.Machine.execMirrorFrameSent offset s
  | .darkWindowEnd j => Sys2Proof.Machine.execDarkWindowEnd j s
  | .testPulseBegin k => Sys2Proof.Machine.execTestPulseBegin k s
  | .readbackSample x readback us => Sys2Proof.Machine.execReadbackSample x readback us s
  | .ptpDelayRequest => Sys2Proof.Machine.execPtpDelayRequest s
  | .ethernetLinkDown net port => Sys2Proof.Machine.execEthernetLinkDown net port s
  | .crossLinkChange port up => Sys2Proof.Machine.execCrossLinkChange port up s

end Sys2Proof.Machine
end

