-- ==== Sys2Proof/Machine/Tick.lean ====
section
/-! DEFINITION. What one millisecond brings when no command waits (log entry 1): the lanes' tides, the retention clocks, the operating time,
what runs down in it, resets that lanes have requested, and the registers that show measurements (log entry 12). -/

namespace Sys2Proof.Machine

/-- One millisecond of a lane's oscillator on its tide: 100,000 ticks and what the rate correction, in units of 0.01 ppm, adds or takes from them
(R24, R25, R139); what is less than a tick is kept. -/
def TideUnit.tick (t : TideUnit) : TideUnit :=
  let f := t.frac + t.rate
  { t with tide := ((t.tide : Int) + 100000 + f / 1000).toNat, frac := f % 1000 }

/-- One millisecond in a lane: its retention clock counts through every outage (R113, R399); its tide counts while its D3 is
released (R25); clocks, supply and toggle frequency are measured (Tables 13-11, 16-7). -/
def Lane.tick (l : Lane) (k : Nat) : Lane :=
  let ls := { l.ls with retention := l.ls.retention.map (· + 1), outage := if l.rc.powered then 0 else l.ls.outage + 1 }
  let l := { l with ls := ls }
  if !l.rc.powered || !l.rc.released.getLsbD 0 then l
  else
    let clk := Config.measured k 2
    { l with
        rc := { l.rc with clk := fld (clk / 64) 16 16 + clk % 64, supply := Config.measured k 3 % 2 ^ 32 },
        td := if l.rc.released.getLsbD 3 then l.td.tick else l.td,
        io := if l.io.drives then { l.io with toggleFreq := Config.measured k 4 % 2 ^ 32 } else l.io }

/-- One millisecond in the pumphouse's measurements (Table 13-15). -/
def Pumphouse.tick (p : Pumphouse) (k : Nat) : Pumphouse :=
  if !p.released.getLsbD 0 then p
  else
    let power := Config.measured k 5 % 2 ^ 32
    { p with power := power, powerMax := max p.powerMax power,
             inputs := PerLane.mapId (fun x _ => Config.measured (k + x.idx) 7 % 2 ^ 32) p.inputs }

/-- The traffic that the port lamps show, begun anew with each of their periods (R394; log entry 45). -/
def State.lampPeriod (s : State) : State :=
  if s.cfg.opTime % 500 = 0 then { s with ph := { s.ph with traffic := 0, sentMark := s.sent.length } } else s

/-- One millisecond of operating time (R363): UTC goes on (R292), the lockout (R346) and an idle update session (R354) run down. -/
def State.tickPowered (s : State) : State :=
  if !s.ph.powered then s
  else
    let left := s.upd.remaining - 1
    { s.lampPeriod with
        ph := s.lampPeriod.ph.tick s.fresh,
        ptp := s.ptp.tick,
        cfg := { s.cfg with opTime := s.cfg.opTime + 1, lockout := s.cfg.lockout - 1 },
        upd := { s.upd with remaining := left, holder := if left = 0 then none else s.upd.holder } }

/-- One millisecond of the block: a reset that a lane has requested begins, then time passes in every part. -/
def State.tick (s : State) : State :=
  let s := LaneId.list.foldl State.pendingReset s
  let s := s.mapLanes (fun x l => l.tick (s.fresh + x.idx))
  let s := { s.tickPowered with fresh := s.fresh + 4 }
  { s with rings := { s.rings with ring := Assoc.mapVal Ring.reset (fun g => if g.state.live then g.tick else g) s.rings.ring } }

end Sys2Proof.Machine
end

