-- ==== Sys2Proof/Safety.lean ====
section
/-! DEFINITION. What claims are stated in: the canonical form of the basin, what a command leaves alone, the frames a module sends on a
ring, where a cell of an engine stands
and what a term leaves behind. -/

namespace Sys2Proof.Machine

/-- The basin is in canonical form, and so is what stands beside the arrivals in it. -/
def State.wf (s : State) : Bool := Memory.wf s.basin && Assoc.wf none s.recv

/-- Only the lanes differ from `s` to `t`. -/
def State.onlyLanes (s t : State) : Prop := t = { s with lanes := t.lanes }

/-- Only lane `x` differs from `s` to `t`. -/
def State.onlyLane (s t : State) (x : LaneId) : Prop := t = { s with lanes := s.lanes.set x (t.lane x) }

/-- The frames of the module's own that go out of both ports of a ring: none out of one whose link carries no frames (R202). -/
def State.bothFrames (s : State) (r ty dst : Nat) (body : List Byte) : List Emit :=
  [Side.e, Side.w].flatMap (fun side =>
    if s.linkReady r side then [.ring r side (ringFrame (s.vk2 r) (s.ownHdr r side ty dst) body)] else [])

/-- Cell `cell` of lane `x` stands at term `t` with index `i` of image `m`, in a level in progress, nothing skipped, its accumulator
holding `acc` (R58, R74, R77). -/
def State.atTerm (s : State) (x : LaneId) (cell : Nat) (m : Image) (i : Nat) (t : Term) (acc : Option W16) : Prop :=
  (s.lane x).image? = some m ∧ (s.lane x).pe.state = .sweeping ∧ (s.lane x).pe.started = true ∧
    (∃ w, nextWord m (s.lane x).pe cell = some (i, w) ∧ Term.decode w = some t) ∧
    Assoc.get 0 (s.lane x).pe.skip cell = 0 ∧ Assoc.get none (s.lane x).pe.acc cell = acc

/-- Cell `cell` of lane `x` stands at term `t` of image `m`, which a GUARD skips (R77). -/
def State.atSkipped (s : State) (x : LaneId) (cell : Nat) (m : Image) (t : Term) : Prop :=
  (s.lane x).image? = some m ∧ (s.lane x).pe.state = .sweeping ∧ (s.lane x).pe.started = true ∧
    (∃ i w, nextWord m (s.lane x).pe cell = some (i, w) ∧ Term.decode w = some t) ∧ 0 < Assoc.get 0 (s.lane x).pe.skip cell

/-- Lane `x` is `l` with its cell moved to the next term, and the level or the sweep ended where that was the last one. -/
def State.moved (s : State) (x : LaneId) (cell : Nat) (m : Image) (l : Lane) : State :=
  s.modLane x (fun _ => { l with pe := l.pe.advance cell }.settleLevel m)

/-- What a closing or single term leaves: lane `x` is `l` with the cell's accumulator empty and the cell moved on (R74). -/
def State.afterTerm (s : State) (x : LaneId) (cell : Nat) (m : Image) (l : Lane) : State :=
  s.moved x cell m { l with pe := l.pe.setAcc cell none }

/-- The command of each opcode of Table 3-3 that a cell evaluates, but for LEVEL, which the dispatcher consumes. -/
def termCommands (x : LaneId) (cell : Fin 16) : List (Op × Instr) :=
  [(.nop, .nop x cell), (.guard, .guard x cell), (.mov, .mov x cell), (.and, .and x cell), (.or, .or x cell), (.xor, .xor x cell),
   (.eq, .eq x cell), (.ne, .ne x cell), (.lt, .lt x cell), (.le, .le x cell), (.adds, .adds x cell), (.subs, .subs x cell),
   (.sel, .sel x cell), (.lut, .lut x cell), (.sr, .sr x cell), (.rs, .rs x cell), (.rise, .rise x cell), (.fall, .fall x cell),
   (.ton, .ton x cell), (.tof, .tof x cell), (.tp, .tp x cell), (.ctu, .ctu x cell), (.ctd, .ctd x cell)]

/-- What an engine fault of lane `x` leaves (R91, R152, Table 3-7): the sweep stopped, PE_FAULT with cause and term index, the next buffer as it was; a lane in
service withdrawn with cause 0x6, its drive stopped and its reset waiting for the dump; a candidate's attempt aborted with code 4. The other lanes stay. -/
def State.afterFault (s t : State) (x : LaneId) (code pos : Nat) : Prop :=
  let l := s.lane x
  let l' := t.lane x
  l'.pe.state = .fault ∧ l'.pe.faultCode = code ∧ l'.pe.faultPos = pos ∧ l'.pe.next = l.pe.next ∧ l'.vt.committed = l.vt.committed ∧
    (∀ y, y ≠ x → t.lane y = s.lane y) ∧
    (l.vt.state ≠ .candidate → l'.vt.state = .withdrawn ∧ l'.vt.minCause = 6 ∧ l'.rc.resetReq = none ∧ l'.io.drives = false) ∧
    (l.vt.state = .candidate → l'.vt.state = (if 2 ≤ l.vt.abortRun then .failed else .reset) ∧ l'.vt.abort = 4 ∧ l'.rc = l.rc)

/-- What a telegram refused with a code leaves in a lane (R180): the counts of the code and of the session, the last code; no candidate is taken, nothing counts
as accepted, and no other session changes. -/
def Lane.refusedAs (l l' : Lane) (sid code : Nat) : Prop :=
  let c := l.ts.at sid
  let d := l'.ts.at sid
  l'.ts.refuseCnt = Assoc.upd 0 l.ts.refuseCnt code sat ∧ l'.ts.lastCode = code ∧ l'.ts.lastSid = sid ∧ l'.ts.acceptCnt = l.ts.acceptCnt ∧
    d.accepted = c.accepted ∧ (code ≠ 9 → d.cand = c.cand ∧ d.state = c.state) ∧
    (c.state ≠ .absent → d.refused = sat c.refused ∧ d.lastCode = code) ∧ (∀ k, k ≠ sid → l'.ts.at k = l.ts.at k) ∧
    l'.pe = l.pe ∧ l'.io = l.io ∧ l'.vt = l.vt

/-- The first of the checks, in the order given, that fails: its order number and code (R119, R340). -/
def firstFailing (checks : List (Bool × Nat × Nat)) : Option (Nat × Nat) := (checks.find? (·.1)).map (·.2)

/-- What the end of a session clears in its context, and how long it had lasted (R183). -/
def SessCtx.clearedTo (c d : SessCtx) (e : SessEntry) (state : SessState) : Prop :=
  d.state = state ∧ d.lastSeq = none ∧ d.lastAlive = none ∧ d.stale = 0 ∧ d.cand = none ∧ d.current = false ∧ d.timeouts = sat c.timeouts ∧
    d.nextSeq = c.nextSeq ∧ (e.transport ≠ .ring → d.peerEpoch = 0 ∧ d.ref = none) ∧ (e.transport = .ring → d.peerEpoch = c.peerEpoch)

/-- The timer's result: the count in its TIMER variable, the output in DST (R84). -/
def Lane.timerResult (l : Lane) (m : Image) (i : Nat) (t : Term) (count : Nat) (q : Bool) : Lane :=
  { l with pe := l.pe.writeVar m t.srcA.toNat (BitVec.ofNat 16 count) }.writeResult m i t.dst (b2n q)

end Sys2Proof.Machine
end

