-- ==== Sys2Proof/Certificates/Slice0/Obligations.lean ====
section
/-! DEFINITION. The statements about the block: what each command does, what it leaves alone, and what every step keeps. -/

open Sys2Proof Sys2Proof.Machine

/-! ## The Polder engine (chapter 3) -/

/-- R62, R68, R71, R74, Table 3-3: MOV, the comparisons and SUBS write their value to DST, empty the accumulator and move the cell on; nothing
outside the lane changes. NOP only moves on. -/
def Obligations.PlainTermsWriteTheirValue : Prop :=
  ∀ (s : State) (x : LaneId) (cell : Fin 16) (m : Image) (i : Nat) (t : Term) (acc : Option W16),
    s.atTerm x cell m i t acc → t.chain = false →
    let l := s.lane x
    let a := operandA m l.pe t
    let b := operandB m l.pe t
    let result := fun (v : Nat) => (.next (s.afterTerm x cell m (l.writeResult m i t.dst v)) : Out)
    (t.op = .nop → exec (.nop x cell) s = .next (s.afterTerm x cell m l)) ∧
    (t.op = .mov → exec (.mov x cell) s = result a) ∧
    (t.op = .eq → exec (.eq x cell) s = result (if a = b then 1 else 0)) ∧
    (t.op = .ne → exec (.ne x cell) s = result (if a = b then 0 else 1)) ∧
    (t.op = .lt → exec (.lt x cell) s = result (if a < b then 1 else 0)) ∧
    (t.op = .le → exec (.le x cell) s = result (if b < a then 0 else 1)) ∧
    (t.op = .subs → exec (.subs x cell) s = result (if b ≤ a then a - b else 0))

/-- R74, R75: a closing or single AND, OR, XOR or ADDS writes its operator's result of the accumulator and r, or r alone where the accumulator
is empty. -/
def Obligations.ClosingTermsFoldTheAccumulator : Prop :=
  ∀ (s : State) (x : LaneId) (cell : Fin 16) (m : Image) (i : Nat) (t : Term) (acc : Option W16),
    s.atTerm x cell m i t acc → t.chain = false →
    let l := s.lane x
    let a := operandA m l.pe t
    let b := operandB m l.pe t
    let result := fun (v : Nat) => (.next (s.afterTerm x cell m (l.writeResult m i t.dst v)) : Out)
    let close := fun (f : Nat → Nat → Nat) => match acc with
      | none => f a b
      | some c => f c.toNat (f a b)
    (t.op = .and → exec (.and x cell) s = result (close (fun p q => p &&& q))) ∧
    (t.op = .or → exec (.or x cell) s = result (close (fun p q => p ||| q))) ∧
    (t.op = .xor → exec (.xor x cell) s = result (close (fun p q => p ^^^ q))) ∧
    (t.op = .adds → exec (.adds x cell) s = result (close (fun p q => min (p + q) 65535)))

/-- R74, R77: a chain link leaves its operator's result of the accumulator and r in the accumulator, a MOV or an empty accumulator r alone, and
does not write DST; a GUARD whose a is 0 skips the next k terms of its run, and any other a none; a skipped term of any opcode, a chain link too, only moves
the cell on and counts the skip down. -/
def Obligations.ChainsAndGuardsControlTheRun : Prop :=
  ∀ (s : State) (x : LaneId) (cell : Fin 16) (m : Image) (i : Nat) (t : Term) (acc : Option W16),
    (s.atTerm x cell m i t acc → t.chain = true → t.op ≠ .level →
      exec (.chainLink x cell) s = .next (s.moved x cell m
        { s.lane x with pe := (s.lane x).pe.setAcc cell (some (BitVec.ofNat 16
            (match acc with
              | none => linkResult m (s.lane x).pe t
              | some c => if t.op = .mov then linkResult m (s.lane x).pe t
                          else chainOp t.op c.toNat (linkResult m (s.lane x).pe t)))) })) ∧
    (s.atTerm x cell m i t acc → t.chain = false → t.op = .guard → operandA m (s.lane x).pe t = 0 →
      exec (.guard x cell) s = .next (s.moved x cell m
        { s.lane x with pe := { (s.lane x).pe with skip := Assoc.put 0 (s.lane x).pe.skip cell t.constIdx } })) ∧
    (s.atTerm x cell m i t acc → t.chain = false → t.op = .guard → operandA m (s.lane x).pe t ≠ 0 →
      exec (.guard x cell) s = .next (s.moved x cell m (s.lane x))) ∧
    (s.atSkipped x cell m t →
      let skipped : Out := .next (s.moved x cell m
        { s.lane x with pe := { (s.lane x).pe with skip := Assoc.upd 0 (s.lane x).pe.skip cell (· - 1) } })
      (∀ op c, (op, c) ∈ termCommands x cell → t.chain = false → t.op = op → exec c s = skipped) ∧
      (t.chain = true → t.op ≠ .level → exec (.chainLink x cell) s = skipped))

/-- R75, R78, R79, R88: SEL takes source A where the condition is 1, else source B; LUT the entry that a selects within the last index and the
constant count, else the default; CTU and CTD count by their conditions. -/
def Obligations.SelectTableAndCounterTerms : Prop :=
  ∀ (s : State) (x : LaneId) (cell : Fin 16) (m : Image) (i : Nat) (t : Term) (acc : Option W16),
    s.atTerm x cell m i t acc → t.chain = false →
    let l := s.lane x
    let a := operandA m l.pe t
    let b := operandB m l.pe t
    let q := (Table.read l.pe.cur t.dst.toNat).toNat
    let c := condition acc
    let k := t.constIdx
    let result := fun (v : Nat) => (.next (s.afterTerm x cell m (l.writeResult m i t.dst v)) : Out)
    (t.op = .sel → c = 1 → exec (.sel x cell) s = result a) ∧
    (t.op = .sel → c ≠ 1 → exec (.sel x cell) s = result b) ∧
    (t.op = .lut → a ≤ (Table.read l.pe.consts k).toNat / 65536 → k + 1 + a < m.nConst →
      exec (.lut x cell) s = result ((Table.read l.pe.consts (k + 1 + a)).toNat % 65536)) ∧
    (t.op = .lut → (Table.read l.pe.consts k).toNat / 65536 < a ∨ m.nConst ≤ k + 1 + a →
      exec (.lut x cell) s = result ((Table.read l.pe.consts k).toNat % 65536)) ∧
    (t.op = .ctu → c = 1 → exec (.ctu x cell) s = result 0) ∧
    (t.op = .ctu → c ≠ 1 → a = 1 → exec (.ctu x cell) s = result (min (q + 1) b)) ∧
    (t.op = .ctu → c ≠ 1 → a ≠ 1 → exec (.ctu x cell) s = result q) ∧
    (t.op = .ctd → c = 1 → exec (.ctd x cell) s = result b) ∧
    (t.op = .ctd → c ≠ 1 → a = 1 → 0 < q → exec (.ctd x cell) s = result (q - 1)) ∧
    (t.op = .ctd → c ≠ 1 → (a ≠ 1 ∨ q = 0) → exec (.ctd x cell) s = result q)

/-- R80, R81: the latches read q from the current buffer; the edges compare the current with the previous buffer. -/
def Obligations.LatchAndEdgeTerms : Prop :=
  ∀ (s : State) (x : LaneId) (cell : Fin 16) (m : Image) (i : Nat) (t : Term) (acc : Option W16),
    s.atTerm x cell m i t acc → t.chain = false →
    let l := s.lane x
    let a := operandA m l.pe t
    let b := operandB m l.pe t
    let q := Table.read l.pe.cur t.dst.toNat
    let now := Table.read l.pe.cur t.srcA.toNat
    let before := Table.read l.pe.prev t.srcA.toNat
    let result := fun (v : Nat) => (.next (s.afterTerm x cell m (l.writeResult m i t.dst v)) : Out)
    (t.op = .sr → a = 1 → exec (.sr x cell) s = result 1) ∧
    (t.op = .sr → a ≠ 1 → exec (.sr x cell) s = result (if q = 1#16 ∧ b = 0 then 1 else 0)) ∧
    (t.op = .rs → b ≠ 0 → exec (.rs x cell) s = result 0) ∧
    (t.op = .rs → b = 0 → exec (.rs x cell) s = result (if a = 1 ∨ q = 1#16 then 1 else 0)) ∧
    (t.op = .rise → exec (.rise x cell) s = result (if now = 1#16 ∧ before = 0#16 then 1 else 0)) ∧
    (t.op = .fall → exec (.fall x cell) s = result (if now = 0#16 ∧ before = 1#16 then 1 else 0))

/-- R82 to R86: a timer whose effective preset is at most 65,000 writes its count and its output by its own rule; above it the count stays, DST
takes its cold value and the timer range events count. -/
def Obligations.TimerTermsCount : Prop :=
  ∀ (s : State) (x : LaneId) (cell : Fin 16) (m : Image) (i : Nat) (t : Term) (acc : Option W16),
    s.atTerm x cell m i t acc → t.chain = false →
    let l := s.lane x
    let n := (Table.read l.pe.cur t.srcA.toNat).toNat
    let e := effectivePreset m l.pe t
    let c := condition acc
    let result := fun (k : Nat) (q : Bool) => (.next (s.afterTerm x cell m (l.timerResult m i t k q)) : Out)
    (t.op = .ton → e ≤ 65000 → c = 0 → exec (.ton x cell) s = result 0 false) ∧
    (t.op = .ton → e ≤ 65000 → c ≠ 0 →
      exec (.ton x cell) s = result (min (n + 1) (e + 1)) (decide (min (n + 1) (e + 1) = e + 1))) ∧
    (t.op = .tof → e ≤ 65000 → c = 1 → exec (.tof x cell) s = result 1 true) ∧
    (t.op = .tof → e ≤ 65000 → c ≠ 1 → n = 0 → exec (.tof x cell) s = result 0 false) ∧
    (t.op = .tof → e ≤ 65000 → c ≠ 1 → 0 < n → n ≤ e → exec (.tof x cell) s = result (n + 1) true) ∧
    (t.op = .tof → e ≤ 65000 → c ≠ 1 → 0 < n → e < n → exec (.tof x cell) s = result 0 false) ∧
    (t.op = .tp → e ≤ 65000 → n = 0 → c ≠ 1 → exec (.tp x cell) s = result 0 false) ∧
    (t.op = .tp → e ≤ 65000 → n = 0 → c = 1 → exec (.tp x cell) s = result 1 (decide (1 ≤ e))) ∧
    (t.op = .tp → e ≤ 65000 → 0 < n → n ≤ e → exec (.tp x cell) s = result (n + 1) (decide (n + 1 ≤ e))) ∧
    (t.op = .tp → e ≤ 65000 → 0 < n → e < n → exec (.tp x cell) s = result (if c = 0 then 0 else n) false) ∧
    (65000 < e → t.op = .ton →
      exec (.ton x cell) s = .next (s.afterTerm x cell m (l.timerRange m t))) ∧
    (65000 < e → t.op = .tof →
      exec (.tof x cell) s = .next (s.afterTerm x cell m (l.timerRange m t))) ∧
    (65000 < e → t.op = .tp →
      exec (.tp x cell) s = .next (s.afterTerm x cell m (l.timerRange m t)))

/-- R62, R71, R72: a result within its destination's limit stands in DST of the next buffer, and of the current buffer for COMB; above the limit the
cold value stands there and PE_RANGE_CNT counts; every other variable of every buffer reads as before, and nothing else of the lane but its engine
and its record queue changes. -/
def Obligations.ResultsStayWithinTheirLimit : Prop :=
  ∀ (l : Lane) (m : Image) (i v : Nat) (dst : BitVec 18),
    let l' := l.writeResult m i dst v
    let e := m.var dst.toNat
    let w := if v ≤ limitOf e then BitVec.ofNat 16 v else e.cold
    Table.read l'.pe.next dst.toNat = w ∧
    Table.read l'.pe.cur dst.toNat = (if e.cls = .comb then w else Table.read l.pe.cur dst.toNat) ∧
    (∀ j, j ≠ dst.toNat → Table.read l'.pe.next j = Table.read l.pe.next j ∧ Table.read l'.pe.cur j = Table.read l.pe.cur j) ∧
    l'.pe.prev = l.pe.prev ∧ l'.pe.consts = l.pe.consts ∧ l'.pe.forces = l.pe.forces ∧
    l'.pe.rangeCnt = (if v ≤ limitOf e then l.pe.rangeCnt else sat l.pe.rangeCnt) ∧
    l'.pe.rangeTerm = (if v ≤ limitOf e then l.pe.rangeTerm else i) ∧
    l'.mb.queue.length ≤ l.mb.queue.length + 1 ∧ l' = { l with pe := l'.pe, mb := l'.mb }

/-- R84, R85: a TON whose preset is e and whose condition has been 1 in k consecutive evaluations since its count was 0 gives 1 exactly from the
evaluation e + 1 on; a TOF whose condition fell after it was 1 gives 1 in exactly e further evaluations, and 0 from then on. -/
def Obligations.DelaysHoldForTheirPreset : Prop :=
  ∀ (e k : Nat), 1 ≤ k →
    let on := (List.range k).foldl (fun (r : Nat × Bool) _ => tonCount r.1 e 1) (0, false)
    let off := (List.range k).foldl (fun (r : Nat × Bool) _ => tofCount r.1 e 0) (1, true)
    on.1 = min k (e + 1) ∧ (on.2 = true ↔ e + 1 ≤ k) ∧ (off.2 = true ↔ k ≤ e)

/-- R37, R58, R61, R65, R89, R91: a sweep starts with every cell at the start of its run and its fixed 2,048 clocks; at the start of a sweep and at each barrier
the LEVEL word of the next level starts that level, with its clocks; a word that is no LEVEL word or carries another number, an undefined word, and a LEVEL word
inside a run are engine faults with their own causes, as is each fault raised during the sweep; a fault stops the sweep, stands in PE_FAULT, and the lane leaves
service with cause 0x6 and no reset request yet; a correctable ECC error is counted alone; the copy of R65 makes the next buffer equal to the current one. -/
def Obligations.SweepLevelFaultAndCopy : Prop :=
  ∀ (s : State) (x : LaneId),
    let l := s.lane x
    (l.pe.sweepEn = true → l.evaluates = true → l.pe.state = .waiting → l.pe.freezeDone = true → l.pe.copyDone = true →
      s.changeDue x = false →
      exec (.sweepStart x) s = .next (s.modLane x (fun l =>
        { l with pe := { l.pe with state := .sweeping, level := 0, started := false, pos := [], skip := [], acc := [], clocks := 2048,
                                   stalls := 0 },
                 td := { l.td with phase := .sweep } }))) ∧
    (∀ (stalls length : BitVec 32) (m : Image), l.image? = some m →
      (l.pe.state = .sweeping ∧ l.pe.started = false) ∨ l.pe.state = .barrier →
      let lv := if l.pe.state = .barrier then l.pe.level + 1 else 0
      (∀ w t, m.terms[m.levelIndex lv]? = some w → Term.decode w = some t → t.op = .level → t.levelNo = lv →
        ∃ s', exec (.level x stalls length) s = .next s' ∧ s.onlyLane s' x ∧ (s'.lane x).pe.level = lv ∧ (s'.lane x).pe.started = true ∧
          (s'.lane x).pe.pos = [] ∧ (s'.lane x).pe.skip = [] ∧ (s'.lane x).pe.acc = [] ∧
          (s'.lane x).pe.clocks = l.pe.clocks + (m.level lv).foldl max 0 + 8 + length.toNat ∧
          (s'.lane x).pe.stalls = l.pe.stalls + stalls.toNat ∧ (s'.lane x).pe.next = l.pe.next ∧ (s'.lane x).pe.cur = l.pe.cur ∧
          (s'.lane x).io = l.io ∧ ((∃ c, c < 16 ∧ 0 < m.runLen lv c) → (s'.lane x).pe.state = .sweeping)) ∧
      (∀ w t, m.terms[m.levelIndex lv]? = some w → Term.decode w = some t → t.op ≠ .level ∨ t.levelNo ≠ lv →
        ∃ s', exec (.level x stalls length) s = .next s' ∧ s.afterFault s' x 3 (m.levelIndex lv)) ∧
      (∀ w, m.terms[m.levelIndex lv]? = some w → Term.decode w = none →
        ∃ s', exec (.level x stalls length) s = .next s' ∧ s.afterFault s' x 2 (m.levelIndex lv))) ∧
    (∀ (cell : Fin 16) (m : Image) (i : Nat) (w : W64), l.image? = some m → l.pe.state = .sweeping → l.pe.started = true →
      nextWord m l.pe cell = some (i, w) →
      ∀ op c, (op, c) ∈ (op, Instr.chainLink x cell) :: termCommands x cell →
        (Term.decode w = none → ∃ s', exec c s = .next s' ∧ s.afterFault s' x 2 i) ∧
        (∀ t, Term.decode w = some t → t.op = .level → ∃ s', exec c s = .next s' ∧ s.afterFault s' x 3 i)) ∧
    (∀ (cause : EngineCause) (position : BitVec 21), l.pe.state = .sweeping ∨ l.pe.state = .barrier →
      ∃ s', exec (.engineFault x (some cause) position) s = .next s' ∧ s.afterFault s' x cause.code position.toNat) ∧
    (∀ (position : BitVec 21), l.pe.state = .sweeping ∨ l.pe.state = .barrier →
      exec (.engineFault x none position) s = .next (s.modLane x (fun l => { l with pe := { l.pe with eccCorr := sat l.pe.eccCorr } }))) ∧
    (l.pe.copyDone = false →
      exec (.copyComplete x) s = .next (s.modLane x (fun l =>
        { l with pe := { l.pe with next := l.pe.cur, copyDone := true,
                                   state := if l.pe.state = .copying then .waiting else l.pe.state } })))

/-- Table 3-2, R70: the word of every term decodes to that term, every field at every value. -/
def Obligations.TermWordRoundTrip : Prop := ∀ t : Term, Term.decode t.encode = some t

/-! ## Vital inputs and outputs (chapter 9) -/

/-- R95, R229, R230, R232, R240: a lane whose sequencer runs takes the sample of a millisecond of its tide: inputs, readback, group readback, WATCH_IN and
field supplies; each used channel outside a cross-circuit filters it, one held by a cross-circuit stays at 0, an unused one is left alone, or a lane in resync
keeps the sample for its replay. Nothing but that lane changes. The filter moves one step
towards the sample within 0 to N and its value changes at the ends of the range only. -/
def Obligations.InputSampleFiltersEveryUsedChannel : Prop :=
  (∀ (n count : Nat) (filtered sample : Bool), 1 ≤ n → count ≤ n →
    let r := filterStep n count filtered sample
    r.1 ≤ n ∧
    (sample = true → r.1 = min (count + 1) n) ∧ (sample = false → r.1 = count - 1) ∧
    (r.1 = n → r.2 = true) ∧ (r.1 = 0 → r.2 = false) ∧ (0 < r.1 → r.1 < n → r.2 = filtered)) ∧
  ∀ (s : State) (x : LaneId) (ms : BitVec 40) (raw : BitVec 64) (readback : BitVec 32) (groups : BitVec 4) (watchIn : Bool)
      (fs1 fs2 : BitVec 16), onBit (s.lane x).rc.released 3 = true →
    let replay := (s.lane x).vt.state = .joining ∨ (s.lane x).vt.state = .base ∨ (s.lane x).vt.state = .catchUp
    ∃ t, exec (.inputSample x ms raw readback groups watchIn fs1 fs2) s = .next t ∧ s.onlyLane t x ∧
      (t.lane x).td = { (s.lane x).td with tide := max (s.lane x).td.tide (ms.toNat * 100000) } ∧ (t.lane x).pe = (s.lane x).pe ∧
      (t.lane x).vt = (if replay then { (s.lane x).vt with kept := (s.lane x).vt.kept ++ [(ms.toNat, raw)] } else (s.lane x).vt) ∧
      (t.lane x).io.raw = raw ∧ (t.lane x).io.readback = readback ∧ (t.lane x).io.groupsRead = groups ∧ (t.lane x).io.watchIn = watchIn ∧
      (t.lane x).io.fs1 = fs1.toNat ∧ (t.lane x).io.fs2 = fs2.toNat ∧ (t.lane x).io.sampleCnt = ((s.lane x).io.sampleCnt + 1) % 2 ^ 32 ∧
      (t.lane x).io.frozen = (s.lane x).io.frozen ∧
      (t.lane x).io.xcirc = (s.lane x).io.xcirc ∧
      (replay → (t.lane x).io.filt = (s.lane x).io.filt ∧ (t.lane x).io.count = (s.lane x).io.count) ∧
      (∀ c, c < 64 → ¬ replay → ((s.lane x).image.input c).used = false →
        Assoc.get 0 (t.lane x).io.count c = Assoc.get 0 (s.lane x).io.count c ∧ onBit (t.lane x).io.filt c = onBit (s.lane x).io.filt c) ∧
      (∀ c, c < 64 → ¬ replay → ((s.lane x).image.input c).used = true → onBit (s.lane x).io.xcirc c = true →
        Assoc.get 0 (t.lane x).io.count c = 0 ∧ onBit (t.lane x).io.filt c = false) ∧
      ∀ c, c < 64 → ((s.lane x).image.input c).used = true → onBit (s.lane x).io.xcirc c = false → ¬ replay →
        let r := filterStep ((s.lane x).image.input c).depth (Assoc.get 0 (s.lane x).io.count c) (onBit (s.lane x).io.filt c) (onBit raw c)
        Assoc.get 0 (t.lane x).io.count c = r.1 ∧ onBit (t.lane x).io.filt c = r.2

/-- R231, R232: in a dark window every lane in service asserts the quench of the pulse source and delivers it no pattern; the window's end releases the
quench unless a fault reaction of R236 holds it, and the pattern runs again where the lane drives and R236 lets it; a test sample that reads 1 sets the
cross-circuit and holds the filter at 0, the third 0 in a row clears it. Each completes in every state. -/
def Obligations.DarkWindowsFindCrossCircuits : Prop :=
  ∀ (s : State) (j : Fin 8),
    exec (.pulseDarkWindow j) s = .next (s.mapLanes (fun _ l =>
      if l.inService = true ∧ (l.image.output (24 + j.val)).pulse = true then
        { l with io := { l.io with quench := putBit l.io.quench (24 + j.val) true, toggle := putBit l.io.toggle (24 + j.val) false,
                                   dark := putBit l.io.dark j.val true } }
      else l)) ∧
    (∃ t, exec (.darkWindowEnd j) s = .next t ∧ s.onlyLanes t ∧ ∀ x,
      let l := s.lane x
      let l' := t.lane x
      (onBit l.io.dark j.val = false → l' = l) ∧
      (onBit l.io.dark j.val = true →
        onBit l'.io.dark j.val = false ∧
        onBit l'.io.quench (24 + j.val) = (onBit l.io.paused (24 + j.val) || decide (Assoc.get 0 l.io.fault (24 + j.val) = 4)) ∧
        onBit l'.io.toggle (24 + j.val) = (l.io.drives && l.io.granted l.image l.io.cmd s.sleeps l.io.watchOut (24 + j.val)) ∧
        Assoc.get 0 l'.io.driveEnd (24 + j.val) = l.ms ∧ l'.pe = l.pe ∧ l'.vt = l.vt ∧ l'.io.fault = l.io.fault ∧
        (∀ k, k < 32 → k ≠ 24 + j.val → onBit l'.io.quench k = onBit l.io.quench k ∧ onBit l'.io.toggle k = onBit l.io.toggle k))) ∧
    (∀ (x : LaneId) (raw : BitVec 64), ∃ t, exec (.testSample x j raw) s = .next t ∧ s.onlyLane t x ∧
      (t.lane x).pe = (s.lane x).pe ∧ (t.lane x).vt = (s.lane x).vt ∧ (t.lane x).io.toggle = (s.lane x).io.toggle ∧
      ∀ c, c < 64 →
        let e := (s.lane x).image.input c
        (e.used = true ∧ e.pulsed = true ∧ e.source = 24 + j.val → onBit raw c = true →
          onBit (t.lane x).io.xcirc c = true ∧ onBit (t.lane x).io.filt c = false ∧ Assoc.get 0 (t.lane x).io.count c = 0) ∧
        (e.used = true ∧ e.pulsed = true ∧ e.source = 24 + j.val → onBit raw c = false → onBit (s.lane x).io.xcirc c = true →
          onBit (t.lane x).io.xcirc c = decide (Assoc.get 0 (s.lane x).io.xzeros c < 2)) ∧
        (e.used = true ∧ e.pulsed = true ∧ e.source = 24 + j.val → onBit raw c = false → onBit (s.lane x).io.xcirc c = false →
          onBit (t.lane x).io.xcirc c = false ∧ onBit (t.lane x).io.filt c = onBit (s.lane x).io.filt c) ∧
        (¬ (e.used = true ∧ e.pulsed = true ∧ e.source = 24 + j.val) →
          onBit (t.lane x).io.xcirc c = onBit (s.lane x).io.xcirc c ∧ onBit (t.lane x).io.filt c = onBit (s.lane x).io.filt c))

/-- R241, R243, Table 9-3: the pulse of a tested channel: an energised output's quench is asserted at its slot and released at its end, a de-energised
output's pattern starts with the quench held, released at the begin and held again at the end; an untested channel counts as missed. -/
def Obligations.TestPulsesFollowTheirPattern : Prop :=
  ∀ (s : State) (k : Fin 32),
    (∃ t, exec (.testPulseStart k) s = .next t ∧ s.onlyLanes t ∧ ∀ x,
      let l := s.lane x
      let o := l.image.output k.val
      (l.inService = true → o.used = true → o.pulse = false → l.io.testable l.image s.sleeps k.val = true →
        onBit (t.lane x).io.quench k.val = true ∧ onBit (t.lane x).io.toggle k.val = true ∧
        (t.lane x).io.window = some { channel := k.val, onPulse := !onBit l.io.toggle k.val, begun := onBit l.io.toggle k.val,
                                      ended := false, pass := false, high := false, others := 0 }) ∧
      (l.inService = true → o.used = true → o.pulse = false → l.io.testable l.image s.sleeps k.val = false →
        Assoc.get 0 (t.lane x).io.missed k.val = Assoc.get 0 l.io.missed k.val + 1 ∧ (t.lane x).io.quench = l.io.quench ∧
        (t.lane x).io.toggle = l.io.toggle) ∧
      ((l.inService = false ∨ o.used = false ∨ o.pulse = true) → t.lane x = l)) ∧
    (∃ t, exec (.testPulseBegin k) s = .next t ∧ s.onlyLanes t ∧ ∀ x w, (s.lane x).io.window = some w →
      t.lane x = (if w.channel = k.val ∧ w.onPulse = true ∧ w.begun = false then
          { s.lane x with io := { (s.lane x).io with quench := putBit (s.lane x).io.quench k.val false,
                                                     window := some { w with begun := true } } }
        else s.lane x)) ∧
    (∃ t, exec (.testPulseEnd k) s = .next t ∧ s.onlyLanes t ∧ ∀ x w, (s.lane x).io.window = some w → w.channel = k.val →
      w.begun = true → w.ended = false →
      onBit (t.lane x).io.quench k.val = w.onPulse ∧ (t.lane x).io.window = some { w with ended := true } ∧
      (t.lane x).io.toggle = (if w.onPulse then putBit (s.lane x).io.toggle k.val false else (s.lane x).io.toggle))

/-- R240, R243, Table 9-4: an off-pulse passes on a low from 50 to 200 µs, an on-pulse on a high from 2,000 to 2,100 µs; at the window's end the quench is
released, the result stands in TEST, a failed off-pulse latches the channel as FAULT 0x1, a failed on-pulse marks it FAULT 0x5, a pulse seen on another
channel latches both as FAULT 0x2. -/
def Obligations.TestWindowsJudgeTheirChannel : Prop :=
  ∀ (s : State) (x : LaneId) (w : TestWindow), (s.lane x).io.window = some w → w.channel < 32 →
    (∀ (readback us : BitVec 32), ∃ t v, exec (.readbackSample x readback us) s = .next t ∧ s.onlyLane t x ∧
      (t.lane x).io.window = some v ∧ v.channel = w.channel ∧
      v.pass = (w.pass || (if w.onPulse then onBit readback w.channel && decide (2000 ≤ us.toNat ∧ us.toNat ≤ 2100)
                           else !onBit readback w.channel && decide (50 ≤ us.toNat ∧ us.toNat ≤ 200))) ∧
      (t.lane x).io.toggle = (s.lane x).io.toggle ∧ (t.lane x).io.quench = (s.lane x).io.quench) ∧
    (∀ k : Fin 32, w.channel = k.val → w.ended = true → ∃ t, exec (.testWindowEnd x k) s = .next t ∧ s.onlyLane t x ∧
      (t.lane x).io.window = none ∧ onBit (t.lane x).io.quench k.val = false ∧ (t.lane x).io.testCnt = sat (s.lane x).io.testCnt ∧
      (t.lane x).pe = (s.lane x).pe ∧ (t.lane x).vt = (s.lane x).vt ∧
      (w.others = 0 → w.pass = true → Assoc.get 0 (t.lane x).io.test k.val = 1 ∧ (t.lane x).io.fault = (s.lane x).io.fault ∧
        (t.lane x).io.latched = (s.lane x).io.latched) ∧
      (w.others = 0 → w.pass = false → w.onPulse = false → Assoc.get 0 (t.lane x).io.test k.val = 2 ∧
        Assoc.get 0 (t.lane x).io.fault k.val = 1 ∧ onBit (t.lane x).io.latched (groupOf k.val) = true ∧
        onBit (t.lane x).io.groupDrive (groupOf k.val) = false) ∧
      (w.others = 0 → w.pass = false → w.onPulse = true → Assoc.get 0 (t.lane x).io.test k.val = 2 ∧
        Assoc.get 0 (t.lane x).io.fault k.val = 5 ∧ (t.lane x).io.latched = (s.lane x).io.latched) ∧
      (∀ c, c < 32 → c ≠ k.val → w.others = BitVec.ofNat 32 (2 ^ c) → Assoc.get 0 (t.lane x).io.fault k.val = 2 ∧
        Assoc.get 0 (t.lane x).io.fault c = 2 ∧ Assoc.get none (t.lane x).io.xpair k.val = some c))

/-- R245, R400, Table 9-4: an overcurrent quenches the channel and stops its drive, paused (FAULT 0x3) the first three times since its last free
interval and held off (FAULT 0x4) the fourth; a retry ends the pause and, where R236 lets the lane drive, resumes the drive and counts in RETRY; a free
interval of 10 s of continuous drive clears FAULT 0x3, RETRY and the count; EXTERNAL shows whether the channel of a latched group still reads high. -/
def Obligations.OvercurrentPausesAndRetries : Prop :=
  ∀ (s : State) (x : LaneId),
    let l := s.lane x
    (∀ k : Fin 32, onBit l.io.toggle k.val = true → onBit l.io.quench k.val = false →
      ∃ t, exec (.overcurrent x k) s = .next t ∧ s.onlyLane t x ∧
        onBit (t.lane x).io.quench k.val = true ∧ onBit (t.lane x).io.toggle k.val = false ∧
        (t.lane x).io.ocCnt = sat l.io.ocCnt ∧ Assoc.get 0 (t.lane x).io.ocRun k.val = Assoc.get 0 l.io.ocRun k.val + 1 ∧
        Assoc.get 0 (t.lane x).io.fault k.val = (if 3 ≤ Assoc.get 0 l.io.ocRun k.val then 4 else 3) ∧
        onBit (t.lane x).io.paused k.val = decide (Assoc.get 0 l.io.ocRun k.val < 3) ∧
        (t.lane x).io.latched = l.io.latched ∧ (t.lane x).io.retry = l.io.retry ∧ (t.lane x).pe = l.pe ∧ (t.lane x).vt = l.vt) ∧
    (∀ k : Fin 32, onBit l.io.paused k.val = true →
      let free := { l.io with paused := putBit l.io.paused k.val false }
      let may := l.io.drives = true ∧ free.granted l.image l.io.cmd s.sleeps l.io.watchOut k.val = true
      ∃ t, exec (.overcurrentRetry x k) s = .next t ∧ s.onlyLane t x ∧
        onBit (t.lane x).io.paused k.val = false ∧
        onBit (t.lane x).io.quench k.val = (decide (Assoc.get 0 l.io.fault k.val = 4) || l.io.inDark k.val) ∧
        (t.lane x).io.fault = l.io.fault ∧ (t.lane x).pe = l.pe ∧ (t.lane x).vt = l.vt ∧
        (may → onBit (t.lane x).io.toggle k.val = !l.io.inDark k.val ∧
          Assoc.get 0 (t.lane x).io.retry k.val = Assoc.get 0 l.io.retry k.val + 1 ∧ Assoc.get 0 (t.lane x).io.driveBegin k.val = l.ms) ∧
        (¬ may → (t.lane x).io.toggle = l.io.toggle ∧ (t.lane x).io.retry = l.io.retry)) ∧
    (∀ k : Fin 32, l.io.driven k.val = true → Assoc.get 0 l.io.driveBegin k.val + 10000 ≤ l.ms →
      exec (.overcurrentFreeInterval x k) s = .next (s.modLane x (fun l =>
        { l with io := { l.io with retry := Assoc.put 0 l.io.retry k.val 0, ocRun := Assoc.put 0 l.io.ocRun k.val 0,
                                   fault := if Assoc.get 0 l.io.fault k.val = 3 then Assoc.put 0 l.io.fault k.val 0 else l.io.fault } }))) ∧
    (∀ (g : Fin 4) (readback : BitVec 32), onBit l.io.latched g.val = true → Assoc.get 0 l.io.groupCause g.val = 1 →
      exec (.externalCheck x g readback) s = .next (s.modLane x (fun l =>
        { l with io := { l.io with groupExt := putBit l.io.groupExt g.val (onBit readback (Assoc.get 0 l.io.groupChan g.val)) } })))

/-! ## The vote, the gauge and the tide exchange (chapters 1, 4 and 6) -/

/-- R133, R134, Table 6-5: the decision of a lane with two peers in its mask, over every combination of equal, different and missing gauges, of a lane with
one peer, and of a lane alone. -/
def Obligations.DecisionsFollowTheMask : Prop :=
  (∀ (v : Vote) (x y z : LaneId) (own : BitVec 128), v.inMask x = [y, z] → v.disagree.get y = 0 → v.disagree.get z = 0 →
    let eqY := ∃ g, v.got.get y = some g ∧ g.gauge = own
    let eqZ := ∃ g, v.got.get z = some g ∧ g.gauge = own
    (eqY → eqZ → v.decide3 x own = .continue_ none) ∧
    (eqY → ¬ eqZ → v.decide3 x own = .continue_ (some z)) ∧
    (¬ eqY → eqZ → v.decide3 x own = .continue_ (some y)) ∧
    (∀ g h, v.got.get y = some g → v.got.get z = some h → g.gauge ≠ own → h.gauge ≠ own → g.gauge = h.gauge →
      v.decide3 x own = .minority) ∧
    (∀ g h, v.got.get y = some g → v.got.get z = some h → g.gauge ≠ own → h.gauge ≠ own → g.gauge ≠ h.gauge →
      v.decide3 x own = .stop 1) ∧
    (¬ eqY → ¬ eqZ → (v.got.get y = none ∨ v.got.get z = none) → v.decide3 x own = .stop 3)) ∧
  (∀ (v : Vote) (x y : LaneId) (own : BitVec 128), v.inMask x = [y] → v.disagree.get x = 0 → v.disagree.get y = 0 →
    (∀ g, v.got.get y = some g → g.gauge = own → v.decide3 x own = .continue_ none) ∧
    (∀ g, v.got.get y = some g → g.gauge ≠ own → v.decide3 x own = .stop 2) ∧
    (v.got.get y = none → v.decide3 x own = .stop 3) ∧
    (∀ w : Vote, w.inMask x = [] → w.decide3 x own = .stop 4))

/-- R64, R97, R132, R135, R136: at the close of its window a lane that continues commits the cycle: its next buffer becomes current and its current
previous; a minority lane withdraws with cause 0x1 and a stopping lane stops with its cause, neither commits and neither drives. The other lanes stay as they
are. -/
def Obligations.WindowCloseActsOnTheDecision : Prop :=
  ∀ (s : State) (x : LaneId) (offset : BitVec 32) (own : BitVec 128),
    let l := s.lane x
    l.vt.own = some own → l.vt.state = .inService → l.vt.windowOpen = true → offset.toNat < l.image.deadlineTicks →
    (l.vt.allIn x = true ∨ l.td.tScan + 200000 ≤ offset.toNat) →
    ∃ t, exec (.comparisonWindowClose x offset) s = .next t ∧ (∀ y, y ≠ x → t.lane y = s.lane y) ∧
      (t.lane x).vt.windowOpen = false ∧
      (∀ removed, l.vt.decide3 x own = .continue_ removed →
        (t.lane x).pe.cur = l.pe.next ∧ (t.lane x).pe.prev = l.pe.cur ∧ (t.lane x).pe.next = l.pe.prev ∧
        (t.lane x).pe.copyDone = false ∧ (t.lane x).vt.committed = some l.td.cycle ∧ (t.lane x).vt.state = .inService ∧
        (t.lane x).vt.mask = l.vt.maskAfter x removed ∧ (t.lane x).io = l.io ∧ t.basin = s.basin) ∧
      (l.vt.decide3 x own = .minority →
        (t.lane x).vt.state = .withdrawn ∧ (t.lane x).vt.minCause = 1 ∧ (t.lane x).vt.minCycle = l.td.cycle ∧
        (t.lane x).vt.committed = l.vt.committed ∧ (t.lane x).io.drives = false ∧ (t.lane x).io.toggle = 0 ∧
        (t.lane x).pe.next = l.pe.next ∧ (t.lane x).pe.cur = l.pe.cur) ∧
      (∀ cause, l.vt.decide3 x own = .stop cause →
        (t.lane x).vt.state = .stopped ∧ (t.lane x).vt.stopCause = cause ∧ (t.lane x).vt.committed = l.vt.committed ∧
        (t.lane x).io.drives = false ∧ (t.lane x).io.toggle = 0 ∧ (t.lane x).pe.cur = l.pe.cur)

/-- R128, R131, R132, R144, R152, R159: before D the complete scan's gauge stands in the lane; a lane in service sends it and opens its window, and in its
test cycle sends the gauge with bit b inverted after it; a candidate and a lane in independent-lane mode commit their sweep. -/
def Obligations.GaugeScanSendsTheGauge : Prop :=
  ∀ (s : State) (x : LaneId) (offset waited : BitVec 32),
    let l := s.lane x
    let g := gaugeOf l.gaugeParts
    let n := l.td.cycle
    l.pe.state = .complete → l.vt.own = none → l.vt.heldTest = none → offset.toNat < l.image.deadlineTicks →
    (l.vt.state = .inService ∨ l.vt.state = .candidate ∨ l.vt.state = .independent) →
    ∃ t, exec (.gaugeScanComplete x offset waited) s = .next t ∧ (∀ y, y ≠ x → t.lane y = s.lane y) ∧ t.basin = s.basin ∧
      t.unit = s.unit ∧ t.cfg = s.cfg ∧ t.mail = s.mail ∧ (t.lane x).vt.own = some g ∧ (t.lane x).vt.gauges.get x = g ∧
      (l.cv.scans ≠ [] → (t.lane x).cv.scanCnt = sat l.cv.scanCnt) ∧ (t.lane x).cv.resA = l.gaugeParts.1 ∧
      (t.lane x).cv.resB = l.gaugeParts.2 ∧ (t.lane x).io = l.io ∧
      (l.vt.state = .inService → (t.lane x).vt.windowOpen = true ∧ (t.lane x).pe = l.pe ∧
        t.sent = s.sent ++ [.gauge x (l.gaugeMsg x g false).frame] ++
          (if n % 256 = 128 ∧ LaneId.ofIdx (n / 256) = x then
            [.gauge x { l.gaugeMsg x (g ^^^ BitVec.ofNat 128 (2 ^ (n / 768 % 128))) true with echo := 0 }.frame] else [])) ∧
      (l.vt.state = .candidate → (t.lane x).pe = l.pe.commit ∧ (t.lane x).vt.committed = some n ∧
        t.sent = s.sent ++ [.gauge x (l.gaugeMsg x g false).frame]) ∧
      (l.vt.state = .independent → (t.lane x).pe = l.pe.commit ∧ (t.lane x).vt.committed = some n ∧ t.sent = s.sent)

/-- R128, R130, R131, R132, R138: a GAUGE message travels as 36 bytes that end with their check value, and reads back as it was sent; one of the cycle in
progress is held for the window, a candidate's beside it; a frame that fails its check is counted while the link endpoints are out of reset and has no
other effect; a mask that excludes the lane withdraws it with cause 0x9. -/
def Obligations.GaugeReceiveHoldsOrWithdraws : Prop :=
  (∀ m : GaugeMsg, m.cycle < 2 ^ 64 → m.frame.length = 36 ∧ linkFrameOk m.frame = true ∧ GaugeMsg.ofFrame m.frame = some m) ∧
  ∀ (s : State) (x link : LaneId) (frame : List Byte),
    let l := s.lane x
    (linkFrameOk frame = false → exec (.gaugeReceive x link frame) s =
      .next (s.modLane x (fun l => if l.linksUp then { l with vt := { l.vt with linkErr := l.vt.linkErr.modify link sat } } else l))) ∧
    (linkFrameOk frame = true → gaugeFrom x link frame = none → exec (.gaugeReceive x link frame) s = .next s) ∧
    (∀ m, linkFrameOk frame = true → gaugeFrom x link frame = some m →
      ((m.test = true ∨ m.cycle ≠ l.td.cycle) → exec (.gaugeReceive x link frame) s = .next s) ∧
      ((l.vt.state = .inService ∨ l.vt.state = .candidate) → m.test = false → m.candidate = false → m.cycle = l.td.cycle → l.vt.testSent = false →
        (l.vt.state = .candidate ∨ l.vt.mask.get link = false ∨ m.mask.get x = true) →
        exec (.gaugeReceive x link frame) s = .next (s.modLane x (fun l => { l with vt := { l.vt with got := l.vt.got.set link (some m) } }))) ∧
      ((l.vt.state = .inService ∨ l.vt.state = .candidate) → m.test = false → m.candidate = true → m.cycle = l.td.cycle → l.vt.testSent = false →
        exec (.gaugeReceive x link frame) s = .next (s.modLane x (fun l => { l with vt := { l.vt with cand := l.vt.cand.set link (some m) } }))) ∧
      (l.vt.state = .inService → m.test = false → m.candidate = false → m.cycle = l.td.cycle → l.vt.testSent = true → m.echo ≠ 0 →
        (l.vt.mask.get link = false ∨ m.mask.get x = true) →
        ∃ t, exec (.gaugeReceive x link frame) s = .next t ∧ s.onlyLane t x ∧ (t.lane x).vt.testEcho.get link = m.echo.toNat) ∧
      (l.vt.state = .inService → m.test = false → m.candidate = false → m.cycle = l.td.cycle → l.vt.mask.get link = true → m.mask.get x = false →
        ∃ t, exec (.gaugeReceive x link frame) s = .next t ∧ (t.lane x).vt.state = .withdrawn ∧ (t.lane x).vt.minCause = 9 ∧
          (t.lane x).io.drives = false ∧ (t.lane x).rc.resetReq = some 4 ∧ ∀ y, y ≠ x → t.lane y = s.lane y))

/-- R144, R145: a receiver whose comparator finds the test gauge different echoes 0x01 and goes on; one that reports equal echoes 0x02 and withdraws with
cause 0x5. A test gauge never enters the vote; one that comes before the lane's own gauge is held until then. -/
def Obligations.TestGaugeChecksTheComparator : Prop :=
  ∀ (s : State) (x link : LaneId) (frame : List Byte) (m : GaugeMsg) (stuck : Bool), linkFrameOk frame = true →
    gaugeFrom x link frame = some m → m.test = true →
    let l := s.lane x
    l.vt.state = .inService → m.cycle = l.td.cycle →
    (l.vt.own = none → exec (.testGaugeReceive x link frame stuck) s =
      .next (s.modLane x (fun l => { l with vt := { l.vt with heldTest := some (m, stuck) } }))) ∧
    (∀ own, l.vt.own = some own →
      ∃ t, exec (.testGaugeReceive x link frame stuck) s = .next t ∧ (∀ y, y ≠ x → t.lane y = s.lane y) ∧
        (t.lane x).vt.got = l.vt.got ∧ (t.lane x).vt.testBit = m.cycle / 768 % 128 ∧ (t.lane x).vt.heldTest = none ∧
        (stuck = false → m.gauge ≠ own → (t.lane x).vt.state = .inService ∧ (t.lane x).vt.testSelf = 1 ∧ (t.lane x).vt.echoOut = 1 ∧
          (t.lane x).vt.testCnt = sat l.vt.testCnt ∧ s.onlyLane t x) ∧
        ((stuck = true ∨ m.gauge = own) → (t.lane x).vt.state = .withdrawn ∧ (t.lane x).vt.minCause = 5 ∧ (t.lane x).vt.testSelf = 2 ∧
          (t.lane x).vt.echoOut = 2 ∧ (t.lane x).io.drives = false))

/-- R98, R101, R102: a lane in service that has not committed at D abandons the cycle, stops its drive, counts the late cycle with its cause, and withdraws
with cause 0x2 where both peers have committed or still can, else it stops, and so does a lane that was late before it; a lane of the watcher that has
committed and not handed its seals over counts them as lost, and seals nothing more for the cycle. D comes once in a cycle. -/
def Obligations.OutputDeadlineEndsTheCycle : Prop :=
  ∀ (s : State) (x : LaneId),
    let l := s.lane x
    l.vt.state = .inService →
    (l.td.pastD = true → exec (.outputDeadline x) s = .next s) ∧
    (l.td.pastD = false → l.td.phase ≠ .none → l.td.phase ≠ .late → l.vt.committed ≠ some l.td.cycle →
      ∃ t, exec (.outputDeadline x) s = .next t ∧ (t.lane x).td.pastD = true ∧
        (t.lane x).td.lateCnt = sat l.td.lateCnt ∧ (t.lane x).td.lateCause = l.lateReason ∧ (t.lane x).td.lateCycle = l.td.cycle ∧
        (t.lane x).io.drives = false ∧ (t.lane x).io.toggle = 0 ∧ (t.lane x).vt.committed = l.vt.committed ∧
        (t.lane x).pe.sweepLate = (l.pe.sweepLate || l.lateReason == 1) ∧
        ((∀ y ∈ x.peers, s.mayCommit y l.td.cycle = true) → (t.lane x).vt.state = .withdrawn ∧ (t.lane x).vt.minCause = 2 ∧
          ∀ y, y ≠ x → t.lane y = s.lane y) ∧
        ((∃ y ∈ x.peers, s.mayCommit y l.td.cycle = false) → (t.lane x).vt.state = .stopped ∧ ∀ y, y ≠ x →
          let p := s.lane y
          if (p.vt.state = .withdrawn ∨ p.vt.state = .reset) ∧ p.vt.minCause = 2 ∧ p.vt.minCycle = l.td.cycle then
            (t.lane y).vt.state = .stopped ∧ (t.lane y).io.drives = false
          else t.lane y = p)) ∧
    (l.td.pastD = false → l.td.phase = .committed → l.vt.committed = some l.td.cycle → s.unit.role = .watcher →
      exec (.outputDeadline x) s = .next (s.modLane x (fun l =>
        { l with td := { l.td with pastD := true,
                                   sealLateCnt := satAdd l.td.sealLateCnt (l.handed l.image s.unit x l.td.cycle s.serviceMask).length },
                 ts := l.ts.spent l.image l.td.cycle })))

/-- R25, R140, R141, R142: a TIDE message's value less the link delay is kept with the rate it carries until every value is in; then the lane forms the
agreed tide from them, shows its spread, measures deviations and offsets, and steers its rate within 500 ppm; a lane that disagrees itself in a mask of
three withdraws with its cause; a message that fails its check is counted. The instant of comparison and the rate's amount are the model's choices (log
entries 80 and 8). -/
def Obligations.TideMessagesFormTheAgreedTide : Prop :=
  ∀ (s : State) (x sender : LaneId) (count own : BitVec 64) (rate : Int), sender ≠ x →
    let l := s.lane x
    let off : Int := (count.toNat : Int) - ((l.td.linkDelay.get sender).getD 0 : Nat) - (own.toNat : Int)
    let value := fun (y : LaneId) => if y = sender then off else ((l.td.rx.get y).getD (0, 0)).1
    let peers := s.tidePeers x
    let agreed := agreedOffset true (peers.map value)
    let kept := s.modLane x (fun l => { l with td := { l.td with rx := l.td.rx.set sender (some (off, rate)) } })
    (exec (.tideReceive x sender count rate own false) s =
      .next (s.modLane x (fun l => if l.linksUp then { l with vt := { l.vt with linkErr := l.vt.linkErr.modify sender sat } } else l))) ∧
    (l.vt.state = .inService → l.vt.mask.get sender = true → (∃ y ∈ peers, y ≠ sender ∧ l.td.rx.get y = none) →
      exec (.tideReceive x sender count rate own true) s = .next kept) ∧
    (l.vt.state = .inService → l.vt.mask.get sender = false → (s.lane sender).vt.joinCycle = none →
      exec (.tideReceive x sender count rate own true) s = .next kept) ∧
    (l.vt.state = .inService → l.vt.mask.get sender = true → (∀ y ∈ peers, y ≠ sender → (l.td.rx.get y).isSome = true) →
      ∃ t, exec (.tideReceive x sender count rate own true) s = .next t ∧ t.fresh = s.fresh + 1 ∧
        (∀ y, y ≠ x → (l.vt.mask.get y = true ∨ (s.lane y).vt.joinCycle = none) → t.lane y = s.lane y) ∧
        (t.lane x).td.spread = -agreed ∧ -50000 ≤ (t.lane x).td.rate ∧ (t.lane x).td.rate ≤ 50000 ∧
        (t.lane x).td.agreements = l.td.agreements + 1 ∧ (t.lane x).td.tide = l.td.tide ∧
        ((t.lane x).td.agreed = true ↔ agreed.natAbs ≤ 2000 ∧ ∀ y ∈ peers, (value y - agreed).natAbs ≤ 2000) ∧
        (∀ y ∈ peers, (t.lane x).td.rx.get y = none ∧
          (t.lane x).vt.disagree.get y = flagOf (l.vt.disagree.get y) (t.lane x).td y) ∧
        (t.lane x).vt.disagree.get x = flagOf (l.vt.disagree.get x) (t.lane x).td x ∧
        (Mask.count l.vt.mask = 3 → (t.lane x).vt.disagree.get x ≠ 0 →
          (t.lane x).vt.state = .withdrawn ∧ (t.lane x).vt.minCause = (t.lane x).vt.disagree.get x ∧ (t.lane x).io.drives = false) ∧
        ((t.lane x).vt.disagree.get x = 0 → (t.lane x).vt.state = .inService ∧ (t.lane x).io = l.io))

/-! ## The cycle, the sessions and the telegrams (chapters 4 and 7) -/

/-- R28, R92, R105, R160, R236: at the tide mark a lane in service that stays begins the unit's next cycle at its tide mark, its comparison window's data
new and its engine waiting once the copy is done, and it drives its outputs exactly where it committed the cycle just ended and its drive gate is open (R160). -/
def Obligations.TideMarkBeginsTheCycle : Prop :=
  ∀ (s : State) (x : LaneId), (s.unit.role = .watcher ∨ s.unit.role = .sleeper) →
    let l := s.lane x
    l.vt.state = .inService → l.vt.leaving = false →
    ∃ t, exec .tideMark s = .next t ∧ (t.lane x).td.cycle = s.nextCycle ∧
      (t.lane x).td.tide = max l.td.tide (s.nextCycle * l.image.period) ∧ (t.lane x).td.pastD = false ∧ (t.lane x).td.phase = .input ∧ (t.lane x).vt.own = none ∧
      (t.lane x).vt.windowOpen = false ∧ (t.lane x).vt.got = PerLane.all none ∧ (t.lane x).pe.freezeDone = false ∧
      (t.lane x).pe.sweepEn = true ∧ (l.pe.copyDone = true → (t.lane x).pe.state = .waiting) ∧
      (t.lane x).pe.cur = l.pe.cur ∧ (t.lane x).pe.next = l.pe.next ∧ (t.lane x).pe.prev = l.pe.prev ∧ (t.lane x).ts = l.ts ∧
      (t.lane x).io.drives = (l.rc.optDone && l.rc.opts.voting && l.vt.committed == some (s.nextCycle - 1))

/-- R94: at the freeze point a lane of the watcher, or of a unit on its own, writes every PAR variable from bits 15:0 of its constant into current
and next, its filtered inputs stand frozen for the cycle, and its freeze writes are complete at the instant given. -/
def Obligations.FreezePointWritesTheInputs : Prop :=
  ∀ (s : State) (x : LaneId) (done : PerLane (BitVec 32)), s.unit.role ≠ .sleeper → s.freezeDue x = true →
    let l := s.lane x
    ∃ t, exec (.freezePoint done) s = .next t ∧ (t.lane x).td.tFreeze = (done.get x).toNat ∧ (t.lane x).td.phase = .freeze ∧
      (t.lane x).td.tide = max l.td.tide (l.image.freezeAt l.td.cycle) ∧ (t.lane x).pe.freezeDone = true ∧ (t.lane x).io.frozen = l.io.filt ∧
      (t.lane x).io.toggle = l.io.toggle ∧ (t.lane x).pe.prev = l.pe.prev ∧ (t.lane x).pe.consts = l.pe.consts ∧
      (t.lane x).vt.own = l.vt.own ∧
      ∀ i, i < l.image.vars.length → (l.image.var i).cls = .par →
        Table.read (t.lane x).pe.cur i = (Table.read l.pe.consts (l.image.var i).constIdx).setWidth 16 ∧
        Table.read (t.lane x).pe.next i = (Table.read l.pe.consts (l.image.var i).constIdx).setWidth 16

/-- R178, R183, Table 7-9: a valid session with nothing current whose timeout is reached passes to timed out, one in sender fault to not established; each
clears the last sequence, the last alive counter, the stale count and the candidate, and but for a RING session the peer epoch and the time reference, and
writes its SESSION_STATE record; a time reference 1,024 cycles old counts as absent. -/
def Obligations.SessionsEndAtTheirTimeout : Prop :=
  ∀ (s : State) (x : LaneId) (sid : Fin 1024) (e : SessEntry),
    let l := s.lane x
    let c := l.ts.at sid.val
    let record := fun (old new : Nat) =>
      l.mb.push { code := 0x0701, source := 5, severity := 1, cycle := l.td.cycle % 2 ^ 32, params := [sid.val, old, new] }
    l.image.session sid.val = some e → e.sid = sid.val →
    (l.evaluates = true → l.pe.freezeDone = false → c.cand = none → c.resp = none → e.timeout ≤ c.timeout + 1 →
      (c.state = .valid → ∃ t, exec (.sessionTimeout x sid) s = .next t ∧ s.onlyLane t x ∧
        c.clearedTo ((t.lane x).ts.at sid.val) e .timedOut ∧ (t.lane x).mb = record 2 3 ∧
        (∀ k, k ≠ sid.val → (t.lane x).ts.at k = l.ts.at k) ∧ (t.lane x).pe = l.pe ∧ (t.lane x).io = l.io ∧ (t.lane x).vt = l.vt) ∧
      (c.state = .senderFault → ∃ t, exec (.senderFaultEnd x sid) s = .next t ∧ s.onlyLane t x ∧
        c.clearedTo ((t.lane x).ts.at sid.val) e .notEst ∧ (t.lane x).mb = record 4 1 ∧
        (∀ k, k ≠ sid.val → (t.lane x).ts.at k = l.ts.at k) ∧ (t.lane x).pe = l.pe ∧ (t.lane x).io = l.io ∧ (t.lane x).vt = l.vt)) ∧
    (∀ r, c.ref = some r → r.cycle + 1024 ≤ l.td.cycle →
      exec (.timeReferenceExpiry x sid) s = .next (s.modLane x (fun l => { l with ts := l.ts.set sid.val { c with ref := none } })))

/-- R19, R23, R96, R151, R180, R185, R186, Table 7-8: a lane reads what the pumphouse has placed with its stamp, as a master of the basin. A lane in resync keeps
the arrival for its replay; one that the lane cannot read is recorded and counted as such; one stamped at or after the freeze point still to come is held for
it. A DATA telegram is refused by the first of checks 1 to 6 that fails, with its code; no sequence number is later than itself, so none is accepted twice. One
that passes is accepted: its sequence number, alive counter, stale count and epoch stand, a higher epoch having cleared what was known of the sender, and it is
the candidate outside a sender fault. Of a NET2 telegram that matches the held first copy: a copy of a complete pair is refused as a repeated sequence, one at
or after the window's end as late, an equal one completes the pair, and a different one is a sender fault. Nothing but the lane changes. -/
def Obligations.DataTelegramsAreAcceptedOnce : Prop :=
  (∀ n, later n n = false) ∧
  (∀ (f : FirstCopy) (t : Tele) (netB : Bool), t.ty = 1 →
    (f.matches t netB = true ↔ f.closed = false ∧ f.netB ≠ netB ∧ (Tele.ofBytes 4 f.tele).copy ≠ t.copy ∧ (Tele.ofBytes 4 f.tele).ty = t.ty ∧
      (Tele.ofBytes 4 f.tele).seq = t.seq)) ∧
  ∀ (s : State) (x : LaneId) (addr : BitVec 29) (unreadable : Bool),
    (s.arrivalAt addr.toNat unreadable = none → exec (.dataTelegramReceive x addr unreadable) s = .next s) ∧
    ∀ a : Arrival, s.arrivalAt addr.toNat unreadable = some a →
      let l := s.lane x
      let u := l.rc.opts.unitId
      let s1 := (s.basinRead x.num a.addr a.len).1
      let b := (s.basinRead x.num a.addr a.len).2
      a.unreadable = unreadable ∧
      (l.vt.state = .base ∨ l.vt.state = .catchUp →
        exec (.dataTelegramReceive x addr unreadable) s =
          .next ((if unreadable then s.eccError a.addr else s).modLane x (fun l => { l with vt := { l.vt with arrivals := l.vt.arrivals ++
            [{ arr := a, epochs := s.unit.ringEpoch, sleeper := s.sleeps }] } }))) ∧
      (l.evaluates = true → unreadable = true →
        exec (.dataTelegramReceive x addr unreadable) s = .next ((s.eccError a.addr).modLane x (fun l => l.log x 0x0704 2 [a.addr]))) ∧
      (l.evaluates = true → unreadable = false → l.nextFreeze l.image ≤ a.stamp →
        exec (.dataTelegramReceive x addr unreadable) s = .next (s.modLane x (fun l =>
          let d := l.defer l.image a.stamp
          { d with ts := { d.ts with early := d.ts.early ++ [{ arr := a, kind := 1, own := 0 }] } }))) ∧
      (l.evaluates = true → unreadable = false → a.stamp < l.nextFreeze l.image →
        (∀ sid code, checkFrame l.image u a.path b = .error (sid, code) →
          exec (.dataTelegramReceive x addr unreadable) s = .next (s1.modLane x (fun l =>
            { (l.defer l.image a.stamp).verifySeals l.image a b with ts := l.ts.refuse sid code }))) ∧
        ∀ t e, checkFrame l.image u a.path b = .ok (t, e) → t.ty = 1 →
          let c := l.ts.at t.sid
          let low := epochLow e c s.unit.ringEpoch t
          let lastSeq := if c.peerEpoch < t.epoch then none else c.lastSeq
          let lastAlive := if c.peerEpoch < t.epoch then none else c.lastAlive
          let stale := if lastAlive = some t.alive then min ((if c.peerEpoch < t.epoch then 0 else c.stale) + 1) 65535 else 0
          let lone := e.transport ≠ .net2 ∨ ∀ f, c.firstData = some f → f.matches t (a.path == .net2 true) = false
          ∃ s', exec (.dataTelegramReceive x addr unreadable) s = .next s' ∧ s1.onlyLane s' x ∧
            let l' := s'.lane x
            let d := l'.ts.at t.sid
            (low = true → l.refusedAs l' t.sid 4 ∧ d.lastSeq = c.lastSeq ∧ d.peerEpoch = c.peerEpoch) ∧
            (low = false → lone → t.seq = 0 ∨ (∃ r, lastSeq = some r ∧ later t.seq r = false) →
              l.refusedAs l' t.sid 5 ∧ d.lastSeq = lastSeq ∧ d.peerEpoch = max c.peerEpoch t.epoch) ∧
            (low = false → lone → t.seq ≠ 0 → (∀ r, lastSeq = some r → later t.seq r = true) → e.staleK ≤ stale →
              l.refusedAs l' t.sid 6 ∧ d.lastSeq = some t.seq ∧ d.lastAlive = some t.alive ∧ d.stale = stale) ∧
            (low = false → lone → t.seq ≠ 0 → (∀ r, lastSeq = some r → later t.seq r = true) → stale < e.staleK →
              d.lastSeq = some t.seq ∧ d.lastAlive = some t.alive ∧ d.stale = stale ∧ d.peerEpoch = max c.peerEpoch t.epoch ∧
              d.cand = (if c.state = .senderFault then c.cand
                else some { addr := a.addr, stamp := a.stamp, time := t.time, payload := t.payload }) ∧
              d.accepted = sat c.accepted ∧ l'.ts.acceptCnt = sat l.ts.acceptCnt ∧
              (e.transport = .net2 → d.firstData = some { addr := a.addr, stamp := a.stamp, netB := (a.path == .net2 true), tele := b,
                                                             paired := false, closed := false }) ∧
              (∀ k, k ≠ t.sid → l'.ts.at k = l.ts.at k) ∧ l'.pe = l.pe ∧ l'.io = l.io ∧ l'.vt = l.vt) ∧
            (∀ f, low = false → e.transport = .net2 → c.firstData = some f → f.matches t (a.path == .net2 true) = true →
              (f.paired = true → l.refusedAs l' t.sid 5 ∧ d.firstData = some f) ∧
              (f.paired = false → f.stamp + e.pairWin * 100000 ≤ a.stamp → l.refusedAs l' t.sid 10 ∧ d.late = sat c.late ∧
                l'.ts.copyLate = sat l.ts.copyLate) ∧
              (f.paired = false → a.stamp < f.stamp + e.pairWin * 100000 → withoutCopy f.tele = withoutCopy b →
                d = { c with staleRef := false, firstData := some { f with paired := true } } ∧ l'.ts.refuseCnt = l.ts.refuseCnt ∧
                l'.ts.acceptCnt = l.ts.acceptCnt ∧ ∀ k, k ≠ t.sid → l'.ts.at k = l.ts.at k) ∧
              (f.paired = false → a.stamp < f.stamp + e.pairWin * 100000 → withoutCopy f.tele ≠ withoutCopy b →
                l.refusedAs l' t.sid 9 ∧ d.cand = none ∧ d.state = .senderFault ∧ d.timeout = 0 ∧ l'.ts.pairFault = sat l.ts.pairFault)))

/-- R176 to R179, R185: a first copy that is still unpaired when its window closes counts as missing, one that is paired stays as it is; a TIME_REQ that
passes its checks waits for its answer with the lane's own reading, which it tells its peers; a TIME_RESP that echoes the outstanding request waits for the
freeze point, any other is refused as UNMATCHED. Which request is outstanding for a response stamped at or after F is the model's reading (log entry 19), and
the close of a window is that of its command (log entry 111). -/
def Obligations.TimeTelegramsAndCopyWindows : Prop :=
  ∀ (s : State) (x : LaneId),
    let l := s.lane x
    (∀ (sid : Fin 1024) (f : FirstCopy), (l.ts.at sid.val).firstData = some f → f.paired = false → f.closed = false →
      ∃ t, exec (.pairingWindowClose x sid false) s = .next t ∧ s.onlyLane t x ∧ (t.lane x).ts.copyMissing = sat l.ts.copyMissing ∧
        ((t.lane x).ts.at sid.val).missing = sat (l.ts.at sid.val).missing ∧
        ((t.lane x).ts.at sid.val).firstData = some { f with closed := true } ∧
        ((t.lane x).ts.at sid.val).firstTime = (l.ts.at sid.val).firstTime ∧ (t.lane x).pe = l.pe ∧ (t.lane x).vt = l.vt) ∧
    (∀ (sid : Fin 1024) (f : FirstCopy), (l.ts.at sid.val).firstTime = some f → f.paired = false → f.closed = false →
      ∃ t, exec (.pairingWindowClose x sid true) s = .next t ∧ s.onlyLane t x ∧ (t.lane x).ts.copyMissing = sat l.ts.copyMissing ∧
        ((t.lane x).ts.at sid.val).firstTime = some { f with closed := true }) ∧
    (∀ (sid : Fin 1024) (f : FirstCopy), (l.ts.at sid.val).firstTime = some f → f.paired = true →
      ∃ t, exec (.pairingWindowClose x sid true) s = .next t ∧ s.onlyLane t x ∧ (t.lane x).ts.copyMissing = l.ts.copyMissing ∧
        ((t.lane x).ts.at sid.val).firstTime = some f) ∧
    (∀ (addr : BitVec 29) (a : Arrival) (own : BitVec 64) (l' : Lane) (t : Tele) (e : SessEntry), l.vt.state = .inService →
      s.arrivalAt addr.toNat false = some a → a.stamp < l.nextFreeze l.image →
      let r := s.basinRead x.num a.addr a.len
      (l.defer l.image a.stamp).takeTime l.image l.rc.opts.unitId s.unit.ringEpoch 2 a r.2 = (l', some (t, e)) →
      ∃ s', exec (.timeReqReceive x addr false own) s = .next s' ∧ (∀ y, y ≠ x → s'.lane y = s.lane y) ∧
        (s'.lane x).ts.at e.sid = (l'.ts.at e.sid).noteReading x t.time a.stamp own.toNat ∧
        s'.sent = r.1.sent ++ [.verdict x (.respInstant (Fin.ofNat 1024 e.sid) t.time a.stamp own.toNat)] ∧ s'.basin = s.basin ∧
        (s'.lane x).pe = l'.pe) ∧
    (∀ (addr : BitVec 29) (a : Arrival) (l' : Lane) (t : Tele) (e : SessEntry), l.vt.state = .inService → s.sleeps = false →
      s.arrivalAt addr.toNat false = some a → a.stamp < l.nextFreeze l.image →
      let r := s.basinRead x.num a.addr a.len
      (l.defer l.image a.stamp).takeTime l.image l.rc.opts.unitId s.unit.ringEpoch 3 a r.2 = (l', some (t, e)) →
      ∃ s', exec (.timeRespReceive x addr false) s = .next s' ∧ r.1.onlyLane s' x ∧
        (l'.outstanding l.image e a.stamp ≠ 0 → getBE t.payload 0 8 = l'.outstanding l.image e a.stamp →
          ((s'.lane x).ts.at e.sid).resp = some (a.stamp, getBE t.payload 8 8, getBE t.payload 0 8) ∧
          ((s'.lane x).ts.at e.sid).reqStamp = 0) ∧
        (l'.outstanding l.image e a.stamp = 0 ∨ getBE t.payload 0 8 ≠ l'.outstanding l.image e a.stamp →
          (s'.lane x).ts = l'.ts.refuse e.sid 11))

/-- R97, R98, R99, R164, R168, R209, R256, R265: a committed lane of the watcher hands its seals and payloads over before D; the pumphouse assembles a telegram
of the first two lanes whose headers and payloads agree, a mirror telegram onto both cross-links; an output slot carries the telegram assembled at least
20 µs before it on each port that is ready for it; a lane keeps the report of a whole mirror frame sent that comes before its D. At the tide mark every
telegram of an earlier cycle that has not gone is discarded (R275); what belongs to the cycle in progress, and mirror telegrams, stay. -/
def Obligations.SealsBecomeTelegrams : Prop :=
  (∀ (s : State) (sending : List (Fin 6 × BitVec 64)), ∃ t, exec (.sendingDeadline sending) s = .next t ∧ t.lanes = s.lanes ∧ t.basin = s.basin ∧ t.sent = s.sent ∧
    t.unit = s.unit ∧ t.out.handed = s.out.handed.filter (fun h => h.kind == 8 || decide (s.cycle ≤ h.cycle)) ∧
    t.out.assembled = s.out.assembled.filter (fun a => a.kind == 8 || decide (s.cycle ≤ a.cycle))) ∧
  ∀ (s : State), s.unit.role = .watcher →
    (∀ (x : LaneId) (offset : BitVec 32),
      let l := s.lane x
      l.vt.state = .inService → l.vt.committed = some l.td.cycle → l.td.phase = .committed → l.td.pastD = false →
      offset.toNat < l.image.deadlineTicks →
      ∃ t, exec (.sealHandover x offset) s = .next t ∧ (∀ y, y ≠ x → t.lane y = s.lane y) ∧
        t.out.handed = s.out.handed ++ l.handed l.image s.unit x l.td.cycle s.serviceMask ∧ t.out.assembled = s.out.assembled ∧
        (t.lane x).td.phase = .handed ∧ (t.lane x).td.tHandover = offset.toNat ∧
        (t.lane x).td.marginMin = min l.td.marginMin (l.image.deadlineTicks - offset.toNat) ∧ (t.lane x).pe = l.pe ∧ (t.lane x).io = l.io ∧
        t.basin = s.basin) ∧
    (∀ (sid : Fin 1024) (kind : BitVec 4) (offset : BitVec 32) (h g : Handed), s.phRuns = true →
      (kind.toNat ≠ 8 → offset.toNat < s.image.deadlineTicks) →
      firstPair (s.out.open_.filter (fun h => h.kind == kind.toNat &&
        (if kind.toNat = 8 then h.seg == sid.val else h.sid == sid.val && h.cycle == s.cycle))) = some (h, g) →
      ∃ t, exec (.telegramAssembly sid kind offset) s = .next t ∧ t.lanes = s.lanes ∧ t.unit = s.unit ∧ t.basin = s.basin ∧
        t.out.handed = s.out.handed ∧
        (∃ a ∈ t.out.assembled, a.kind = kind.toNat ∧ a.sid = h.sid ∧ a.seg = h.seg ∧ a.cycle = h.cycle ∧ a.offset = offset.toNat ∧
          a.bytes = assemble h g) ∧
        (kind.toNat = 8 → ∃ rest, t.sent = (s.sendCross 1 (assemble h g)).sent ++ rest)) ∧
    (∀ (r : Fin 4) (slot : Nat) (e : SlotEntry) (a : Assembled), (s.image.ring r.val).slots[slot]? = some e → e.out = true →
      s.phRuns = true → s.ringLive r.val = true → (s.ring r.val).state.leads = true →
      s.out.assembled.find? (fun a => a.kind == 1 && a.sid == e.sid && a.cycle == s.cycle && !a.sent &&
        decide (a.offset * 10 + 20000 ≤ e.start)) = some a →
      (∃ side, s.linkReady r.val side = true ∧ (s.ring r.val).busy side ≤ nanos e.start + nanos 500) →
      ∃ t, exec (.ringOutputSlot r slot) s = .next t ∧ t.lanes = s.lanes ∧ t.basin = s.basin ∧
        t.out.assembled = s.out.assembled.map (fun b => if b = a then { b with sent := true } else b) ∧
        ∀ side, s.linkReady r.val side = true → (s.ring r.val).busy side ≤ nanos e.start + nanos 500 →
          Emit.ring r.val side (slotFrame (s.vk2 r.val) (max (nanos e.start) ((s.ring r.val).busy side))
            (nanos e.start + nanos (occupancy (s.image.ring r.val).mode e.len))
            (ringFrame (s.vk2 r.val) (s.ownHdr r.val side 2 e.node) a.bytes)) ∈ t.sent) ∧
    (∀ offset : BitVec 32, s.crossSends .p27 = true ∨ s.crossSends .p28 = true → s.mirrorWhole s.cycle = true →
      exec (.mirrorFrameSent offset) s = .next ({ s with xl := { s.xl with mirrorCycle := s.cycle % 2 ^ 32 } }.mapLanes (fun _ l =>
        if l.td.cycle = s.cycle ∧ l.td.pastD = false ∧ offset.toNat < l.image.deadlineTicks then
          { l with io := { l.io with mirrorSent := some s.cycle } }
        else l)))

/-! ## Watcher and sleeper (chapter 10) -/

/-- R250 to R253, R264, R267, R302, R390: a unit whose lanes and pumphouse are up decides its role and posts the notice of it; a decision, a fail-over or a swap
raises the epoch by one above what it knew, which it stores while the MRAM is fed (R313), and UNIT_OK is closed once the pumphouse's firmware runs; an outranked
watcher becomes the sleeper. A lit WATCH_IN holds a takeover. -/
def Obligations.RolesChangeWithTheirEpoch : Prop :=
  ∀ s : State,
    (s.unit.role = .starting → 2 ≤ s.serviceLanes.length → s.ph.released.getLsbD 6 = true →
      exec .decidingEntry s = .next ({ s with unit := { s.unit with role := .deciding },
                                              rings := { s.rings with heardAny := false, heardStart := false } }.notice 1 [1, s.unit.epoch])) ∧
    (s.unit.role = .deciding → s.image.startRing = none → s.watchDark = true →
      ∃ t, exec .decidingTimeout s = .next t ∧ t.unit.role = .watcher ∧ t.unit.epoch = max s.cfg.epoch s.unit.heardEpoch + 1 ∧
        (s.ph.powered = true → t.cfg.epoch = t.unit.epoch) ∧ (s.coresRun = true → t.ph.unitOk = true)) ∧
    (s.unit.role = .sleeper → 2 ≤ s.serviceLanes.length → 2 ≤ s.unit.silentRun →
      (∀ x ∈ s.serviceLanes, (s.lane x).io.litLast = false) →
      ∃ t, exec .failOver s = .next t ∧ t.unit.role = .watcher ∧ t.unit.epoch = s.unit.epoch + 1 ∧ (s.ph.powered = true → t.cfg.epoch = s.unit.epoch + 1) ∧
        t.xl.failovers = sat s.xl.failovers ∧ ∀ x, (t.lane x).pe = { (s.lane x).pe with forces := [] }) ∧
    (s.unit.role = .sleeper → 2 ≤ s.serviceLanes.length → 2 ≤ s.unit.silentRun → (∃ x ∈ s.serviceLanes, (s.lane x).io.litLast = true) →
      ∃ t, exec .failOver s = .next t ∧ t.unit.role = .sleeper ∧ t.unit.held = true ∧ t.unit.epoch = s.unit.epoch ∧ t.cfg = s.cfg) ∧
    (s.unit.role = .watcher → s.unit.giveWay = true →
      ∃ t, exec .watcherGivesWay s = .next t ∧ t.unit.role = .sleeper ∧ t.unit.epoch = s.unit.giveEpoch ∧ t.unit.giveWay = false ∧
        (s.ph.powered = true → t.cfg.epoch = s.unit.giveEpoch))

/-- R270, R271: the watcher commits a swap two cycles before it where both reports said ready, else cancels it; at the swap's tide mark the committed sleeper
becomes the watcher and the watcher that has its report the sleeper, each with the epoch one higher. -/
def Obligations.SwapChangesBothRoles : Prop :=
  ∀ s : State,
    let w := s.unit.swap
    (s.unit.role = .watcher → w.state = 1 → s.cycle + 2 = w.cycle → w.readyA = true → w.readyB = true →
      exec .swapCommit s = .next { s with unit := { s.unit with swap := { w with state := 2, sentCommit := true } } }) ∧
    (s.unit.role = .watcher → w.state = 1 → s.cycle + 2 = w.cycle → (w.readyA = false ∨ w.readyB = false) →
      ∃ t, exec .swapCommit s = .next t ∧ t.unit.swap.state = 4 ∧ t.unit.role = .watcher ∧ t.unit.swap.mailbox = none ∧ t.lanes = s.lanes) ∧
    (s.unit.role = .sleeper → w.cycle ≠ 0 → s.cycle = w.cycle → w.state ≠ 3 → w.gotCommit = true → 2 ≤ s.serviceLanes.length →
      ∃ t, exec .swapExecute s = .next t ∧ t.unit.role = .watcher ∧ t.unit.epoch = s.unit.epoch + 1 ∧ t.unit.swap.state = 3 ∧
        t.xl.swaps = sat s.xl.swaps ∧ ∀ x, (t.lane x).pe = { (s.lane x).pe with forces := [] }) ∧
    (s.unit.role = .watcher → w.cycle ≠ 0 → s.cycle = w.cycle → w.sentCommit = true → w.state = 2 → w.partnerCommitted = true →
      ∃ t, exec .swapExecute s = .next t ∧ t.unit.role = .sleeper ∧ t.unit.epoch = s.unit.epoch + 1 ∧ t.unit.swap.state = 3 ∧
        t.xl.swaps = sat s.xl.swaps ∧ ∀ x, (t.lane x).pe = (s.lane x).pe) ∧
    (s.unit.role = .watcher → w.cycle ≠ 0 → s.cycle = w.cycle → w.sentCommit = true → w.state = 2 → w.partnerCommitted = false →
      ∃ t, exec .swapExecute s = .next t ∧ t.unit.role = .watcher ∧ t.unit.swap.state = 4 ∧ t.unit.epoch = s.unit.epoch ∧ t.lanes = s.lanes)

/-- R256, R260, R261, R263: a report travels in 64 bytes and reads back as it was sent; a mirror telegram of the partner is placed in the basin, and each lane
that passes its checks takes it as a segment, a refused one counts in XL_SEG_ERR_CNT; a report of the partner is kept with the epoch heard; a frame with a
wrong FCS counts on its link; a link's state follows. A refused SFP hinders no reception (R393), and each frame shows as traffic on the port's lamp (R394). -/
def Obligations.CrossLinksCarryThePartner : Prop :=
  (∀ (own partner : Nat) (r : PartnerReport), own < 256 → partner < 256 → r.unit < 256 → r.role < 256 → r.rotation < 256 → r.epoch < 2 ^ 32 →
    r.cycle < 2 ^ 64 → r.digest.length = 8 → r.ready < 256 → r.swap < 256 → r.tCycle < 65536 →
    (crossFrame own partner 2 r.bytes).length = 64 ∧
    ∃ content, readCross own partner (crossFrame own partner 2 r.bytes) = some (2, content) ∧ PartnerReport.ofBytes (content.take 32) = r) ∧
  ∀ (s : State) (port : XPort),
    (∀ (frame : List Byte) (at_ : Placing) (unreadable : PerLane Bool), s.phRuns = false →
      exec (.partnerReportReceive port frame) s = .next s ∧ exec (.mirrorTelegramReceive port frame at_ unreadable) s = .next s) ∧
    (∀ (frame : List Byte) (at_ : Placing) (unreadable : PerLane Bool), s.phRuns = true → crossSound frame = false →
      let bad : State := { s.traffic (port.index + 1) with xl := match port with
        | .p27 => { s.xl with err27 := sat s.xl.err27 }
        | .p28 => { s.xl with err28 := sat s.xl.err28 } }
      exec (.partnerReportReceive port frame) s = .next bad ∧ exec (.mirrorTelegramReceive port frame at_ unreadable) s = .next bad) ∧
    (∀ (frame content : List Byte) (at_ : Placing) (unreadable : PerLane Bool), s.phRuns = true → crossSound frame = true →
      readCross s.unitId (companion s.unitId) frame = some (1, content) → s.unit.role = .sleeper →
      let b := mirrorText content
      let t := Tele.ofBytes 4 b
      let addr := s.freePlace at_ b.length
      ∃ s', exec (.mirrorTelegramReceive port frame at_ unreadable) s = .next s' ∧ s'.unit.held = false ∧ s'.unit.role = .sleeper ∧
        Memory.readN s'.basin addr b.length = b ∧ ∀ x,
        let l := s.lane x
        (s'.lane x).pe = l.pe ∧ (s'.lane x).io = l.io ∧
        (l.vt.state = .inService → unreadable.get x = false → mirrorFrameOk l.rc.opts.unitId b = true → t.epoch = s.unit.epoch →
          l.mirrorCopy l.image t = false → t.seq ≠ 0 → l.mir.lastSeq = none →
          (s'.lane x).mir.lastSeq = some t.seq ∧ (s'.lane x).cv = l.cv.run [verifyJob addr none b]) ∧
        (s.serviceLanes.head? = some x → unreadable.get x = false → mirrorFrameOk l.rc.opts.unitId b = false →
          s'.xl.segErr = sat s.xl.segErr ∧ (s'.lane x).mir = l.mir)) ∧
    (∀ frame content : List Byte, s.phRuns = true → crossSound frame = true →
      readCross s.unitId (companion s.unitId) frame = some (2, content) →
      let r := PartnerReport.ofBytes (content.take 32)
      s.unit.partner.map (·.cycle) ≠ some r.cycle → r.role ≠ 2 →
      ∃ t, exec (.partnerReportReceive port frame) s = .next t ∧ t.unit.partner = some r ∧ t.unit.partnerCycle = s.cycle ∧
        t.unit.heardEpoch = max s.unit.heardEpoch r.epoch ∧ t.unit.held = false ∧ t.lanes = s.lanes ∧ t.basin = s.basin ∧ t.xl = s.xl) ∧
    (∀ up : Bool, s.phRuns = true →
      exec (.crossLinkChange .p27 up) s = .next { s with xl := { s.xl with link27 := up } } ∧
      exec (.crossLinkChange .p28 up) s = .next { s with xl := { s.xl with link28 := up } })

/-! ## Resync, rotation and restart (chapters 5 and 6) -/

/-- R130, R147 to R150, R153: a lane in loading that has passed its test slices and loaded the donors' image joins, and one whose image is refused aborts
with code 1 (log entry 6: the signature verification is uninterpreted), while one whose options differ from both peers' goes no further (R336); it takes the donors' agreed tide and waits for its base; it forms its state from the
bytes of its donors' identical blocks; blocks and deltas that differ between the donors, a phase or an attempt too long, end the attempt with their code. A
delta travels in the layout of R150 and reads back as it was sent. -/
def Obligations.ResyncMovesThroughItsPhases : Prop :=
  (∀ d : Delta, d.cycle < 2 ^ 64 → d.slots.length < 2 ^ 32 → d.consts.length < 2 ^ 32 →
    (∀ f, d.forces = some f → f.length ≤ 256 ∧ ∀ p ∈ f, p.1 < 2 ^ 32) → Delta.ofBytes d.bytes = some d) ∧
  ∀ (s : State) (x y z : LaneId), s.donors x = some (y, z) →
    let l := s.lane x
    (l.rc.fail = 5 → exec (.resyncLoadingComplete x) s = .next s ∧ exec (.resyncJoining x) s = .next s) ∧
    (l.vt.state = .loading → l.bi.slices = 1 → l.rc.fail ≠ 5 →
      ∃ t, exec (.resyncLoadingComplete x) s = .next t ∧ (∀ d, d ≠ x → t.lane d = s.lane d) ∧ t.basin = s.basin ∧
      (∀ m, loadImage (s.loadEnv x) l.activeSlot.file = .ok m → m.digest = (s.lane y).image.digest →
        s.onlyLane t x ∧ (t.lane x).vt.state = .joining ∧ (t.lane x).image? = some m ∧ (t.lane x).pe = l.pe ∧ (t.lane x).io = l.io) ∧
      (∀ m, loadImage (s.loadEnv x) l.activeSlot.file = .ok m → m.digest ≠ (s.lane y).image.digest → t = s) ∧
      (∀ code idx, loadImage (s.loadEnv x) l.activeSlot.file = .error (code, idx) →
        (t.lane x).vt.abort = 1 ∧ (t.lane x).vt.abortRun = l.vt.abortRun + 1)) ∧
    (∀ p q, l.vt.state = .joining → l.rc.fail ≠ 5 → l.td.rx.get y = some p → l.td.rx.get z = some q → (l.td.linkDelay.get y).isSome = true →
      (l.td.linkDelay.get z).isSome = true →
      ∃ t, exec (.resyncJoining x) s = .next t ∧ s.onlyLanes t ∧ (t.lane x).vt.state = .base ∧ (t.lane x).td.cycle = s.cycle ∧
        (t.lane x).td.tide = ((l.td.tide : Int) + halve (p.1 + q.1)).toNat ∧ (t.lane x).pe = l.pe ∧
        ∀ d, d ≠ x → (t.lane d).pe = (s.lane d).pe ∧ (t.lane d).io = (s.lane d).io) ∧
    (∀ (d o : LaneId) (block : Fin 258), (d = y ∧ o = z ∨ d = z ∧ o = y) → l.vt.state = .base →
      ((s.lane d).vt.baseTaken = none → exec (.baseBlockReceive x d block true) s = .next s) ∧
      ∀ b, (s.lane d).vt.baseTaken = some b →
        let data := b.block (s.lane d).image block.val
        let kept := s.modLane x (fun l => { l with vt := { l.vt with blocks := l.vt.blocks.modify d (fun b => Assoc.insert block.val data b) } })
        ((l.vt.blocks.get o).any (fun p => p.1 == block.val) = false → exec (.baseBlockReceive x d block true) s = .next kept) ∧
        ((l.vt.blocks.get o).any (fun p => p.1 == block.val) = true → Assoc.get [] (l.vt.blocks.get o) block.val ≠ data →
          ∃ t, exec (.baseBlockReceive x d block true) s = .next t ∧ (t.lane x).vt.abort = 2 ∧ (t.lane x).vt.abortRun = l.vt.abortRun + 1) ∧
        ((∀ i, i < 258 → (l.vt.blocks.get o).any (fun p => p.1 == i) = true ∧
            (i = block.val ∨ (l.vt.blocks.get d).any (fun p => p.1 == i) = true)) →
          Assoc.get [] (l.vt.blocks.get o) block.val = data →
          let bs := (Assoc.insert block.val data (l.vt.blocks.get d)).flatMap (·.2)
          ∃ t, exec (.baseBlockReceive x d block true) s = .next t ∧ s.onlyLane t x ∧ (t.lane x).vt.state = .catchUp ∧
            (t.lane x).vt.applied = some b.cycle ∧ (t.lane x).pe.cur = tableOf 2 262144 bs 256 ∧ (t.lane x).pe.next = tableOf 2 262144 bs 256 ∧
            (t.lane x).pe.consts = tableOf 4 65536 bs 524544 ∧ (t.lane x).pe.forces = forcesFrom (slice bs 786688 2048) ∧
            (t.lane x).io.drives = false)) ∧
    (∀ (d o : LaneId) (data : List Byte), (d = y ∧ o = z ∨ d = z ∧ o = y) → (l.vt.state = .base ∨ l.vt.state = .catchUp) →
      ((l.vt.deltas.get o).any (fun e => getBE e 0 8 == getBE data 0 8 && e != data) = false →
        l.vt.deltaBytes d + data.length ≤ 0x400000 →
        exec (.deltaReceive x d data true) s = .next (s.modLane x (fun l =>
          { l with vt := { l.vt with deltas := l.vt.deltas.modify d (· ++ [data]) } }))) ∧
      ((l.vt.deltas.get o).any (fun e => getBE e 0 8 == getBE data 0 8 && e != data) = true →
        ∃ t, exec (.deltaReceive x d data true) s = .next t ∧ (t.lane x).vt.abort = 2 ∧ (t.lane x).vt.abortRun = l.vt.abortRun + 1) ∧
      ((l.vt.deltas.get o).any (fun e => getBE e 0 8 == getBE data 0 8 && e != data) = false →
        0x400000 < l.vt.deltaBytes d + data.length →
        ∃ t, exec (.deltaReceive x d data true) s = .next t ∧ (t.lane x).vt.abort = 6 ∧ (t.lane x).vt.abortRun = l.vt.abortRun + 1)) ∧
    (∀ (d : LaneId) (block : Fin 258) (data : List Byte),
      let bad := s.modLane x (fun l => if l.linksUp then { l with vt := { l.vt with linkErr := l.vt.linkErr.modify d sat } } else l)
      exec (.baseBlockReceive x d block false) s = .next bad ∧ exec (.deltaReceive x d data false) s = .next bad) ∧
    (∀ c, (c = Instr.resyncPhaseTimeout x ∨ c = Instr.resyncAttemptTimeout x) → l.vt.state.inResync = true → l.vt.state ≠ .rotationTest →
      ∃ t, exec c s = .next t ∧ (t.lane x).vt.abort = 5 ∧ (t.lane x).vt.abortRun = l.vt.abortRun + 1 ∧
        (t.lane x).vt.state = (if 3 ≤ l.vt.abortRun + 1 then .failed else .reset) ∧ (t.lane x).io = l.io ∧
        (l.vt.abortRun + 1 < 3 → (t.lane x).rc.resetReq = some 4) ∧ ∀ d, d ≠ x → t.lane d = s.lane d)

/-- R154 to R157: a rotation falls due, is checked again while deferred, starts with the next lane leaving; the lane's reset comes before its
tests, and it goes on to its resync, with its slices anew (R333), when they have passed or fails with their result. -/
def Obligations.RotationsRunInTurn : Prop :=
  ∀ (s : State),
    ((s.unit.role = .watcher ∨ s.unit.role = .sleeper) → s.unit.rot.state = 0 → s.unit.rot.leaving = none →
      exec .rotationDue s = .next { s with unit := { s.unit with rot :=
        { s.unit.rot with state := 1, defer := s.rotationDefer, checkAt := s.tideMs + 60000 } } }) ∧
    (s.unit.rot.state = 1 →
      exec .rotationDeferCheck s = .next { s with unit := { s.unit with rot :=
        { s.unit.rot with defer := s.rotationDefer, checkAt := s.tideMs + 60000 } } }) ∧
    (s.unit.rot.state = 1 → s.rotationDefer = 0 → (s.lane s.unit.rot.next).vt.state = .inService →
      (s.lane s.unit.rot.next).vt.own = none →
      (s.lane s.unit.rot.next).vt.committed ≠ some (s.lane s.unit.rot.next).td.cycle →
      exec .laneRotationStart s = .next ({ s with unit := { s.unit with rot :=
        { s.unit.rot with state := 2, defer := 0, leaving := some s.unit.rot.next } } }.modLane s.unit.rot.next
          (fun l => { l with vt := { l.vt with leaving := true } }))) ∧
    (∀ x source, (s.lane x).vt.state = .rotationTest → (s.lane x).rc.resetReq = some source →
      exec (.rotationTestsComplete x) s = .next (s.resetLane x source) ∧ ((s.resetLane x source).lane x).bi.rotation = none) ∧
    (∀ x, (s.lane x).vt.state = .rotationTest → (s.lane x).rc.resetReq = none → (s.lane x).bi.rotation = some 1 →
      ∃ t, exec (.rotationTestsComplete x) s = .next t ∧ (t.lane x).vt.state = .loading ∧ (t.lane x).bi = (s.lane x).bi.newSlices ∧ (t.lane x).vt.rotLast = 1 ∧
        t.unit.rot.state = 4 ∧ (t.lane x).pe = (s.lane x).pe ∧ ∀ y, y ≠ x → t.lane y = s.lane y) ∧
    (∀ x r, (s.lane x).vt.state = .rotationTest → (s.lane x).rc.resetReq = none → (s.lane x).bi.rotation = some r → r ≠ 1 → s.unit.rot.leaving = some x →
      ∃ t, exec (.rotationTestsComplete x) s = .next t ∧ (t.lane x).vt.state = .failed ∧ (t.lane x).vt.rotLast = r ∧
        t.unit.rot.state = 0 ∧ t.unit.rot.next = x.next ∧ ∀ y, y ≠ x → t.lane y = s.lane y)

/-- R110 to R112, R114, Table 5-2: the restart decision over three lanes' findings: a cold reset request is cold with reason 1, fewer than three lanes with 2, no
common snapshot with 3; a warm start's cycle is one all three hold with one value digest under the running image, every clock valid and the age within its
limit. Where all three lanes may start and accept one image in voting mode, it puts each of them in service with the image's sessions new, no force, its I/O as
after a unit start; lanes that refuse their image do not start, and mark its slot empty with the code. A storage capacitor's
end makes the clock of a lane invalid that has been without supply for 4,000 s. (Whether an image is accepted rests on the
uninterpreted signature verification of log entry 6; no part of the claim rests on its value.) -/
def Obligations.RestartDecisionStartsTheLanes : Prop :=
  (∀ (m : Image) (kind : Nat) (f g h : Findings), m.retained.length ≤ 131008 →
    decideRestart m 6 [f, g, h] = .cold 1 ∧
    (kind ≠ 6 → decideRestart m kind [f, g] = .cold 2) ∧
    (kind ≠ 6 → (∀ c p, (c, p) ∈ f.snaps → Sys2Proof.Machine.Findings.at g c = none ∨ Sys2Proof.Machine.Findings.at h c = none) → decideRestart m kind [f, g, h] = .cold 3) ∧
    (∀ c a, decideRestart m kind [f, g, h] = .warm c a →
      ∃ p q r, Sys2Proof.Machine.Findings.at f c = some p ∧ Sys2Proof.Machine.Findings.at g c = some q ∧ Sys2Proof.Machine.Findings.at h c = some r ∧ p.1 = q.1 ∧ q.1 = r.1 ∧
        p.2 = (m.issue, m.digest) ∧ q.2 = (m.issue, m.digest) ∧ r.2 = (m.issue, m.digest) ∧
        f.invalid = false ∧ g.invalid = false ∧ h.invalid = false ∧
        a = max (Sys2Proof.Machine.Findings.age f c m.tCycle) (max (Sys2Proof.Machine.Findings.age g c m.tCycle) (Sys2Proof.Machine.Findings.age h c m.tCycle)) ∧ a < m.retainAge * 1000)) ∧
  ∀ s : State,
    (∀ x, (s.lane x).rc.powered = false → 4000000 ≤ (s.lane x).ls.outage →
      exec (.retentionClockInvalid x) s = .next (s.modLane x (fun l => { l with ls := { l.ls with retention := none } }))) ∧
    (∀ x, (s.lane x).rc.powered = true ∨ (s.lane x).ls.outage < 4000000 → exec (.retentionClockInvalid x) s = .next s) ∧
    (s.unit.restarted = false → s.unit.role = .starting → s.cyclesRun = false →
      ∃ t, exec .restartDecision s = .next t ∧
      (∀ m, (∀ x, s.mayStart x = true ∧ (s.lane x).ls.marked = none ∧ (s.lane x).rc.opts.voting = true ∧
          loadImage (s.loadEnv x) (s.lane x).activeSlot.file = .ok m) → s.cfg.overlayImg ≠ m.digest →
        t.unit.restarted = true ∧ t.unit.twoLane = false ∧
        ∀ x, (t.lane x).vt.state = .inService ∧ (t.lane x).vt.mask = PerLane.all true ∧ (t.lane x).image? = some m ∧
          (t.lane x).pe.forces = [] ∧ (t.lane x).pe.consts = m.consts ∧ (t.lane x).io = LaneIO.reset ∧
          (t.lane x).ts = Sessions.started m ∧ (t.lane x).pe.cur = (t.lane x).pe.next) ∧
      (∀ codes : LaneId → Nat × Nat, (∀ x, s.mayStart x = true ∧ (s.lane x).ls.marked = none ∧
          loadImage (s.loadEnv x) (s.lane x).activeSlot.file = .error (codes x)) →
        t.unit.restarted = false ∧
        ∀ x, (t.lane x).vt.state = .reset ∧ (t.lane x).activeSlot.mark = .empty ∧ (t.lane x).activeSlot.code = (codes x).1))

/-- R114, R119, R130, R151, R176, R177: a verdict of a peer is taken as its kind says, a reading for a request under the request's timestamp, which a lane in
resync keeps for its replay; a frame that fails its check is counted on its link and has no other effect. -/
def Obligations.VerdictsAreKeptByTheirKind : Prop :=
  ∀ (s : State) (x sender : LaneId),
    (∀ v, exec (.verdictReceive x sender v false) s =
      .next (s.modLane x (fun l => if l.linksUp then { l with vt := { l.vt with linkErr := l.vt.linkErr.modify sender sat } } else l))) ∧
    (sender ≠ x →
      (∀ f, exec (.verdictReceive x sender (.findings f) true) s =
        .next { s with unit := { s.unit with findings := s.unit.findings.set sender (some f) } }) ∧
      (∀ (mb : Fin 4) (code : BitVec 16) (digest : List Byte) (r : Request), s.req mb.val = some r → r.sent = false →
        exec (.verdictReceive x sender (.request mb code digest) true) s =
          .next (s.setReq mb.val (some { r with got := r.got.modify x (fun p => p.set sender (some (code.toNat, digest))) }))) ∧
      (∀ sid stamp instant, (s.lane x).keepsArrivals = false → exec (.verdictReceive x sender (.reqInstant sid stamp instant) true) s =
        .next (s.modLane x (fun l =>
          { l with ts := l.ts.set sid.val ({ l.ts.at sid.val with reqOwn := (l.ts.at sid.val).reqOwn.set sender (some instant) }) }))) ∧
      (∀ sid stamp instant, (s.lane x).keepsArrivals = true → exec (.verdictReceive x sender (.reqInstant sid stamp instant) true) s =
        .next (s.modLane x (fun l => { l with vt := { l.vt with said := l.vt.said ++ [(sid.val, stamp, sender, instant)] } }))) ∧
      (∀ sid echo stamp instant, ∃ t, exec (.verdictReceive x sender (.respInstant sid echo stamp instant) true) s = .next t ∧ s.onlyLane t x ∧
        (t.lane x).vt = (s.lane x).vt ∧ (t.lane x).pe = (s.lane x).pe ∧
        (∃ a ∈ ((t.lane x).ts.at sid.val).answers, a.echo = echo ∧ a.stamp = stamp ∧ a.own.get sender = some instant) ∧
        ∀ k, k ≠ sid.val → (t.lane x).ts.at k = (s.lane x).ts.at k))

/-! ## Requests, life cycle and update (chapters 5, 12 and 14) -/

/-- R117, R119, R124, R246, R270, R281, R340, Table 5-5: a lane finds the first check of 1 to 6 that a request fails, INITIAL_PASSWORD between checks 3 and 4, and of a
change or force item the first of checks 7 to 12, of a whole change request the first of 13 and 14, whatever later ones would give. The next item of a
request is checked by its own command in every lane that checks, one further each time, and the lanes exchange their verdicts, with the code of the first check
that failed, after the last; the lanes, the basin and the mailboxes stay as they are. (What is read into BAD_REQUEST and NOT_PERMITTED beyond the tables: log
entries 50 and 89.) -/
def Obligations.RequestItemsAreCheckedInTurn : Prop :=
  ∀ (s : State),
    (∀ (x : LaneId) (mb : Nat) (r : Request),
      let l := s.lane x
      let b := r.bytes
      s.headCheck x mb r = firstFailing
        [(!permitted l.ls.life l.indep b, 100, 0x0501), (decide (s.cfg.lockout ≠ 0), 200, 0x0502),
         (decide (reqAuth b ≠ authenticator s.hashInForce b), 300, 0x0503),
         (s.cfg.pwInitial && s.newPassword.isNone && decide (2 ≤ l.ls.life) && decide (reqFormat b ≠ 0x12) && decide (reqFormat b ≠ 0x18), 350, 0x0E0F),
         (badRequest l.image b, 400, 0x0504), (decide (reqDigest b ≠ padTo 64 l.image.digest), 500, 0x0505), (s.busy mb r, 600, 0x050D)]) ∧
    (∀ (m : Image) (e : Engine) (i : Item), (i.kind = 1 ∨ i.kind = 2) → changeCheck m e i = firstFailing
      [(i.kind == 2 && (e.forceOf i.index).isSome, 700, 0x0506), (i.kind == 2 && m.hasVar i.index && decide ((m.var i.index).cls ≠ .par), 800, 0x0507),
       (if i.kind = 2 then !m.hasVar i.index else decide (m.nConst ≤ i.index), 1000, 0x0508), (constTooLarge m (i.constant m) i.value, 1100, 0x0509),
       (timerTooLong m e (i.constant m) i.value, 1200, 0x050A)]) ∧
    (∀ (m : Image) (i : Item), (i.kind = 3 ∨ i.kind = 4) → forceCheck m i = firstFailing
      [(m.hasVar i.index && !((decide ((m.var i.index).cls = .inp) || decide ((m.var i.index).cls = .out)) && (m.var i.index).forceable), 900, 0x0510),
       (!m.hasVar i.index, 1000, 0x0508), (i.kind == 3 && decide (limitOf (m.var i.index) < i.value), 1100, 0x0509)]) ∧
    (∀ (x : LaneId) (b : List Byte), s.wholeCheck x b = firstFailing
      [(decide (256 < ((s.lane x).pe.applyRequest (s.lane x).image b).forces.length), 1300, 0x0511),
       (hasChange b && decide (8192 < (s.cfg.mergeItems (s.lane x).image b).overlay.length), 1400, 0x0516)]) ∧
  ∀ (mb : Fin 4) (r : Request), s.req mb.val = some r → r.sent = false → r.done < reqCount r.bytes →
    2 ≤ (s.checkLanes.filter (fun x => r.readable.get x)).length →
    let never := fun (_ : LaneId) (_ : List Byte) => (none : Option (Nat × Nat))
    let swap := fun (_ : LaneId) (_ : List Byte) => firstFailing [(s.sleeps, 605, 0x0515), (s.partnerHeard.isNone, 606, 0x0512)]
    let change := fun (x : LaneId) (it : List Byte) => if s.sleeps then some (606, 0x0515)
      else changeCheck (s.lane x).image (s.lane x).pe { kind := getBE it 0 1, index := getBE it 1 3, value := getBE it 4 4 }
    let force := fun (x : LaneId) (it : List Byte) =>
      forceCheck (s.lane x).image { kind := getBE it 0 1, index := getBE it 1 3, value := getBE it 4 4 }
    let setting := fun (_ : LaneId) (it : List Byte) => firstFailing [(badSetting it, 1100, 0x0509)]
    ∀ c f k check, (c, f, k, check) ∈ [(Instr.changeConstant mb, 1, 1, change), (.changePar mb, 1, 2, change), (.setForce mb, 1, 3, force),
        (.releaseForce mb, 1, 4, force), (.releaseAllForces mb, 1, 5, never), (.faultReset mb, 2, 0x10, never), (.swapRequest mb, 3, 0x20, swap),
        (.setOwnIpv4 mb, 4, 0x30, setting), (.setPriorityMarking mb, 4, 0x31, setting), (.setPtpDomain mb, 4, 0x32, setting),
        (.setCanBitRates mb, 4, 0x33, setting), (.setCanReference mb, 4, 0x34, setting), (.setWireTermination mb, 4, 0x35, setting)] →
    reqFormat r.bytes = f → getByte (itemBytes r.bytes r.done) 0 = k →
    ∃ t r', exec c s = .next t ∧ t.req mb.val = some r' ∧ r'.done = r.done + 1 ∧ r'.bytes = r.bytes ∧ r'.settled = r.settled ∧
      (∀ x ∈ s.checkLanes, r'.codes.get x = firstOf (firstOf (r.codes.get x) (check x (itemBytes r.bytes r.done)))
        (if reqCount r.bytes = r.done + 1 ∧ f = 1 then s.wholeCheck x r.bytes else none)) ∧
      (reqCount r.bytes = r.done + 1 → r'.sent = true ∧ ∀ x ∈ s.checkLanes, r.readable.get x = true →
        Emit.verdict x (.request mb (BitVec.ofNat 16 (r'.code x)) (s.verdictDigest x r')) ∈ t.sent) ∧
      t.lanes = s.lanes ∧ t.basin = s.basin ∧ t.mail = s.mail ∧ t.cfg = s.cfg ∧ t.ph = s.ph

/-- R119, R339 to R341, R345, R348, R350, R354 to R356, R371, Table 14-4: a request without kinds of items is checked whole in every lane that checks, for the first
check of its own that it fails in the order of Table 14-4, and the verdicts with its code go at once. A package is checked by each lane that has found
nothing before, on what it has written. -/
def Obligations.WholeRequestsAreCheckedAtOnce : Prop :=
  ∀ (s : State),
    (∀ (x : LaneId) (b : List Byte),
      let l := s.lane x
      let t := slice b 128 3357
      let old := getByte t 2
      let new := getByte t 3
      let force := !l.pe.forces.isEmpty
      let signers := (transitionSigners old new).getD (false, false)
      s.transitionCheck x b = firstFailing
        [((transitionSigners old new).isNone || decide (old ≠ l.ls.life), 610, 0x0E01), (s.cfg.gradeL && (new == 2 || new == 3), 611, 0x0E02),
         (badToken s.cfg l.rc.opts.serial t, 612, 0x0E03), (!((signers.1 && getByte t 4 == 1) || (signers.2 && getByte t 4 == 2)), 613, 0x0E04),
         (!tokenSigned s.cfg t, 614, 0x0E05), ((old == 2 || old == 4) && force, 615, 0x0E06),
         ((new == 3 && !(l.ls.running && l.rc.opts.voting)) || (new == 5 && force) || (old == 1 && new == 4 && !s.cfg.gradeL), 616, 0x0E07)]) ∧
    (∀ (x : LaneId) (b : List Byte),
      let e := slice b 128 5301
      s.enrolCheck x b = firstFailing
        [(getBE e 0 2 != 0x11 || getBE e 2 2 != 0 || getBE e 28 4 != 0 || slice e 4 16 != padTo 16 (s.lane x).rc.opts.serial ||
            decide (getBE e 24 4 ≤ s.cfg.enrolNo) || slice e 1984 8 != kelinagonPrint, 617, 0x0E08),
         (!kelinagonSigned (shake256 64 (e.take 1992)) (slice e 1992 3309), 618, 0x0E09)]) ∧
    (∀ (x : LaneId) (b : List Byte),
      let held := s.heldKind x (slice b 128 64)
      s.activateCheck x b = firstFailing
        [(decide (held = some 1) && (s.lane x).ls.life == 1, 100, 0x0501), (s.upd.holder.isNone, 621, 0x0E0C), (held.isNone, 622, 0x0E0D),
         (decide (held = some 1) && (match (s.lane x).otherSlot.image with
            | some m => decide (m.transfer.issue ≠ 0) && !transferFits m (s.lane x).image
            | none => false), 625, 0x021C)]) ∧
    (∀ (x : LaneId) (addr len : Nat) (f : List Byte), s.stageFirst x addr len f = firstFailing
        [(decide (addr < 0x0C000000) || decide (0x0E000000 < addr + len) || len == 0, 400, 0x0504), ((s.lane x).ls.life == 1 && !isFirmware f, 100, 0x0501),
         (s.upd.holder.isNone && isFirmware f && badPackage f, 619, 0x0E0A),
         (s.upd.holder.isNone && isFirmware f &&
            decide (getByte f 12 < (if getByte f 4 = 2 then s.ph.fw.otp else (s.lane x).ls.fw.otp)), 619, 0x0E0B),
         (s.upd.holder.isNone, 621, 0x0E0C)]) ∧
  ∀ (mb : Fin 4) (r : Request), s.req mb.val = some r → r.sent = false →
    2 ≤ (s.checkLanes.filter (fun x => r.readable.get x)).length →
    let done := fun (c : Instr) (code : LaneId → Option (Nat × Nat)) => ∃ t r', exec c s = .next t ∧ t.req mb.val = some r' ∧ r'.sent = true ∧
      r'.bytes = r.bytes ∧ t.basin = s.basin ∧ t.mail = s.mail ∧ t.cfg = s.cfg ∧
      (∀ x ∈ s.checkLanes, r.readable.get x = true → r'.codes.get x = code x ∧
        Emit.verdict x (.request mb (BitVec.ofNat 16 (r'.code x)) (t.verdictDigest x r')) ∈ t.sent)
    let found := fun (check : LaneId → List Byte → Option (Nat × Nat)) (x : LaneId) => firstOf (r.codes.get x) (check x r.bytes)
    (∀ c f check, (c, f, check) ∈ [(Instr.lifeCycleTransition mb, 0x10, s.transitionCheck), (.enrolment mb, 0x11, s.enrolCheck),
        (.passwordChange mb, 0x12, fun _ _ => none), (.openUpdateSession mb, 0x14, fun _ _ => none), (.activate mb, 0x16, s.activateCheck),
        (.closeUpdateSession mb, 0x17, fun _ _ => firstFailing [(s.upd.holder.isNone, 621, 0x0E0C)])] → reqFormat r.bytes = f → done c (found check)) ∧
    (reqFormat r.bytes = 0x15 →
      let addr := getBE (itemBytes r.bytes 0) 0 4
      let len := getBE (itemBytes r.bytes 0) 4 4
      let f := if 0x0C000000 ≤ addr ∧ addr + len ≤ 0x0E000000 then Memory.readN s.basin addr len else []
      done (.stagePackage mb) (fun x => match firstOf (r.codes.get x) (s.stageFirst x addr len f) with
        | some p => some p
        | none =>
          if isFirmware f then (if s.firmwareCode x f = 0 then none else some (619, s.firmwareCode x f))
          else match loadImage (s.loadEnv x) f with
            | .ok _ => none
            | .error (code, _) => some (619, code))) ∧
    (reqCount r.bytes = 1 → r.done = 0 → reqFormat r.bytes = 0x13 → getByte (itemBytes r.bytes 0) 0 = 0x30 →
      (getBE (itemBytes r.bytes 0) 4 4 = 1 → done (.softwareWarmReset mb) (fun x => r.codes.get x)) ∧
      (getBE (itemBytes r.bytes 0) 4 4 = 2 → done (.softwareColdReset mb) (fun x => r.codes.get x))) ∧
    (reqCount r.bytes = 1 → r.done = 0 → reqFormat r.bytes = 0x18 → done (.readChangeLog mb) (fun x => r.codes.get x)) ∧
    (reqCount r.bytes = 1 → r.done = 0 → reqFormat r.bytes = 0x32 →
      done (.dumpRelease mb) (fun x => firstOf (r.codes.get x)
        (let d := s.warden.dump (getByte (itemBytes r.bytes 0) 0)
         firstFailing [(d.state != 2 || !d.headerOk, 626, 0x0F01)])))

/-- R120, R246, R262, R281, R342: what has been agreed takes effect at its apply cycle: constants and forces in every lane that accepted it, cleared fault codes and
latches in every lane, which a lane that drives follows at once with its group switches and patterns (R236), settings in the configuration region; a sleeper's
lanes apply the mirrored change. A life-cycle transition puts every powered lane into its state and is counted; one into SERVICE blows the fuse of the
locked registers, one into RETIRED erases key and images, one into or out of FACTORY_TEST puts a password of Kelinagon's in force (free values, log entry
11); it waits while the MRAM's rail is down (R313). -/
def Obligations.AgreedRequestsTakeEffect : Prop :=
  ∀ (s : State) (p : Pending),
    (s.unit.pend = [p] → p.format = 1 → p.appliedBy = PerLane.all false → ∃ t, exec .changeApply s = .next t ∧ t.basin = s.basin ∧ t.cfg = s.cfg ∧
      ∀ x, ((s.lane x).vt.state = .inService ∧ (s.lane x).pe.freezeDone = false ∧ p.apply ≤ (s.lane x).td.cycle ∧ p.accepted.get x = true →
          (t.lane x).pe = (s.lane x).pe.applyRequest (s.lane x).image p.bytes) ∧
        ((s.lane x).vt.state ≠ .inService ∨ p.accepted.get x = false → t.lane x = s.lane x)) ∧
    (s.unit.role = .sleeper → ∃ t, exec .sleeperChangeApply s = .next t ∧ t.basin = s.basin ∧ t.cfg = s.cfg ∧
      ∀ x a b, (s.lane x).vt.state = .inService → (s.lane x).pe.freezeDone = false →
        (s.lane x).mirrorChange (s.lane x).image (s.lane x).td.cycle = some (a, b) →
        (t.lane x).pe = (s.lane x).pe.applyRequest (s.lane x).image b ∧ (t.lane x).mir.doneChange = some (a, b)) ∧
    (∀ rest, s.due 2 = p :: rest → ∃ t, exec .faultResetApply s = .next t ∧ t.basin = s.basin ∧ t.cfg = s.cfg ∧
      ∀ x, (t.lane x).io.resetCnt = sat (s.lane x).io.resetCnt ∧ (t.lane x).pe = (s.lane x).pe ∧ (t.lane x).vt = (s.lane x).vt ∧
        let mask := BitVec.ofNat 4 (getBE p.bytes 132 4)
        let io := (t.lane x).io
        let old := (s.lane x).io
        (∀ k, k < 32 → Assoc.get 0 io.fault k = if onBit mask (groupOf k) && (Assoc.get 0 old.fault k == 1 || Assoc.get 0 old.fault k == 2 ||
            Assoc.get 0 old.fault k == 4) then 0 else Assoc.get 0 old.fault k) ∧
        (∀ g, g < 4 → Assoc.get 0 io.groupCause g = if onBit mask g then 0 else Assoc.get 0 old.groupCause g) ∧
        io.latched = old.latched &&& ~~~ mask ∧
        (old.drives = false → io.toggle = old.toggle ∧ io.groupDrive = old.groupDrive) ∧
        (old.drives = true → io.groupDrive = ~~~ io.latched ∧ io.groupQuench = io.latched ∧ io.cmd = (s.lane x).commands (s.lane x).image ∧
          (old.window = none → ∀ k, k < 32 →
            onBit io.toggle k = io.mayDrive (s.lane x).image io.cmd s.sleeps old.watchOut k))) ∧
    (∀ rest, s.due 4 = p :: rest → s.ph.powered = true → reqCount p.bytes = 1 → getByte (itemBytes p.bytes 0) 0 = 0x32 →
      ∃ t, exec .settingsApply s = .next t ∧ t.basin = s.basin ∧ t.lanes = s.lanes ∧
        t.settings = { s.settings with domain := getBE (itemBytes p.bytes 0) 4 4 }) ∧
    (∀ rest, s.due 4 = p :: rest → s.ph.powered = false → exec .settingsApply s = .next s) ∧
    (∀ rest, s.due 0x10 = p :: rest → s.ph.powered = false → exec .transitionApply s = .next s) ∧
    (∀ rest old new, s.due 0x10 = p :: rest → s.ph.powered = true → getByte (slice p.bytes 128 4) 2 = old → getByte (slice p.bytes 128 4) 3 = new →
      (new ≠ 1 → new ≠ 5 → ∃ t, exec .transitionApply s = .next t ∧ t.basin = s.basin ∧ t.cfg.transitions = sat s.cfg.transitions ∧
        t.cfg.rwlFuse = (s.cfg.rwlFuse || new == 3) ∧ t.cfg.key = s.cfg.key ∧ t.cfg.retired = s.cfg.retired ∧
        (new ≠ 3 → old = 1 → t.cfg.pwInitial = true ∧ t.cfg.salt = be 16 Config.deliverySecret.1.toNat ∧
          t.cfg.pwHash = be 32 Config.deliverySecret.2.toNat) ∧
        (old ≠ 1 → t.cfg.pwInitial = s.cfg.pwInitial ∧ t.cfg.pwHash = s.cfg.pwHash) ∧
        (s.serviceLanes = [] → p.mailbox < 4 → (s.outBox p.mailbox).state = .full →
          (t.outBox p.mailbox).state = .acked ∧ (t.outBox p.mailbox).code = 0 ∧ p ∉ t.unit.pend) ∧
        ∀ x, (t.lane x).pe = (s.lane x).pe ∧ (t.lane x).ls.life = (if (s.lane x).rc.powered then new else (s.lane x).ls.life)) ∧
      (new = 1 → ∃ t, exec .transitionApply s = .next t ∧ t.cfg.pwInitial = true ∧ t.cfg.salt = be 16 Config.factorySecret.1.toNat ∧
        t.cfg.pwHash = be 32 Config.factorySecret.2.toNat ∧ (old ≠ 0 → t.cfg.key = none ∧ ∀ x, (t.lane x).ls.slot0 = ImageSlot.reset) ∧
        ∀ x, (t.lane x).ls.life = (if (s.lane x).rc.powered then 1 else (s.lane x).ls.life)) ∧
      (new = 5 → ∃ t, exec .transitionApply s = .next t ∧ t.cfg.retired = true ∧ t.cfg.key = none ∧
        ∀ x, (t.lane x).ls.slot0 = ImageSlot.reset ∧ (t.lane x).ls.slot1 = ImageSlot.reset ∧
          (t.lane x).ls.snap0 = none ∧ (t.lane x).ls.snap1 = none ∧ (t.lane x).ls.floor = 0 ∧
          (t.lane x).ls.life = (if (s.lane x).rc.powered then 5 else (s.lane x).ls.life)))

/-- R346, R347, R353, R354, R358, R359, R342: an entry of the change log is written in front of the rest under its chained digest, and every lane that keeps the chain goes on
to it, while the pumphouse's cores run; a lockout ends; an update session lapses; firmware that has run 100 cycles commits and firmware that cannot run falls back; the issue floor rises. -/
def Obligations.LogLockoutAndFirmware : Prop :=
  ∀ s : State,
    exec .lockoutEnd s = .next { s with cfg := { s.cfg with lockout := 0 } } ∧
    exec .updateSessionLapse s = .next { s with upd := { s.upd with holder := none, remaining := 0 } } ∧
    (s.coresRun = false → ∀ written, exec (.changeLogEntryWrite written) s = .next s) ∧
    (∀ i rest n chain, s.coresRun = true → s.cfg.logQueue = i :: rest → i.mailbox = none → s.chainHead = some (n, chain) →
      let h := entryHead s i (n + 1)
      ∃ t, exec (.changeLogEntryWrite true) s = .next t ∧ t.cfg.logQueue = rest ∧
        Assoc.get [] t.cfg.log (n % 4096) = h ++ shake256 32 (chain ++ h) ∧
        (∀ k, k ≠ n % 4096 → Assoc.get [] t.cfg.log k = Assoc.get [] s.cfg.log k) ∧
        (∀ x ∈ s.chainLanes, (t.lane x).ls.logSeq = n + 1 ∧ (t.lane x).ls.logChain = shake256 32 (chain ++ h)) ∧
        (∀ x, x ∉ s.chainLanes → t.lane x = s.lane x) ∧ t.basin = s.basin) ∧
    (s.ph.powered = false → exec .firmwareCommit s = .next s ∧ exec .issueFloorAdvance s = .next s) ∧
    (100 ≤ s.upd.trialRun → s.ph.powered = true → s.ph.fw.onTrial = true → (∀ x, (s.lane x).ls.fw.onTrial = false) →
      ∃ t, exec .firmwareCommit s = .next t ∧ t.upd.activation = 3 ∧ t.upd.trialRun = 0 ∧ t.ph.fw = s.ph.fw.commit ∧ t.lanes = s.lanes ∧
        t.basin = s.basin ∧ ∃ i, i.kind = 0x21 ∧ t.cfg.logQueue = s.cfg.logQueue ++ [i]) ∧
    (100 ≤ s.upd.trialRun → s.ph.powered = true → (∃ x, (s.lane x).ls.fw.onTrial = true) →
      ∃ t, exec .firmwareCommit s = .next t ∧ t.upd.activation = 3 ∧ t.ph.fw = (if s.ph.fw.onTrial then s.ph.fw.commit else s.ph.fw) ∧
        (∃ is, (∀ i ∈ is, i.kind = 0x21) ∧ is.length = (if s.ph.fw.onTrial then 2 else 1) ∧ t.cfg.logQueue = s.cfg.logQueue ++ is) ∧
        ∀ x, (t.lane x).ls.fw = (if (s.lane x).ls.fw.onTrial then (s.lane x).ls.fw.commit else (s.lane x).ls.fw) ∧ (t.lane x).pe = (s.lane x).pe) ∧
    (∀ (cannotRead : Bool) (x : LaneId), (s.lane x).ls.fw.mustFallBack cannotRead = true →
      ∃ t, exec (.fallback cannotRead) s = .next t ∧ t.upd.activation = 4 ∧ t.upd.fallbacks = sat s.upd.fallbacks ∧ t.upd.fellBack = true ∧
        t.basin = s.basin) ∧
    (2 ≤ (s.serviceLanes.filter (fun x => 100 ≤ (s.lane x).ls.floorRun && (s.lane x).ls.floor < (s.lane x).image.issue)).length → s.ph.powered = true →
      exec .issueFloorAdvance s = .next (s.mapLanes (fun _ l =>
        if l.inService && l.ls.floor < l.image.issue then { l with ls := { l.ls with floor := l.image.issue } } else l)))

/-- R366, R371: the pumphouse answers a well-formed log read or dump read with the data in region 7 announced through host inbound mailbox 1, and with BAD_REQUEST (0x0504)
what is not well-formed; the lanes take no part and its authenticator is not checked. -/
def Obligations.LogAndDumpReadsReturnData : Prop :=
  ∀ (s : State) (mb : Fin 4) (r : Request), s.req mb.val = some r → (s.outBox mb.val).state = .full →
    (reqFormat r.bytes = 0x30 → badRead r.bytes = false → 1 ≤ getBE r.bytes 132 4 → getBE r.bytes 132 4 ≤ 1024 → (s.inBox 1).state = .empty →
      let bs := (s.warden.read (getBE r.bytes 128 4) (getBE r.bytes 132 4)).1
      ∃ t, exec (.logRead mb) s = .next t ∧ t.basin = Memory.writeN s.basin 0x0E010000 bs ∧ (t.inBox 1).state = .full ∧
        (t.inBox 1).addr = 0x0E010000 ∧ (t.inBox 1).len = bs.length ∧ (t.outBox mb.val).state = .acked ∧ (t.outBox mb.val).code = 0 ∧
        t.req mb.val = none ∧ t.lanes = s.lanes) ∧
    (reqFormat r.bytes = 0x30 → badRead r.bytes = true →
      ∃ t, exec (.logRead mb) s = .next t ∧ t.basin = s.basin ∧ (t.outBox mb.val).state = .acked ∧ (t.outBox mb.val).code = 0x0504 ∧
        t.req mb.val = none ∧ t.lanes = s.lanes) ∧
    (reqFormat r.bytes = 0x31 → badRead r.bytes = false → getByte r.bytes 128 ≤ 3 → getByte r.bytes 129 ≤ 15 → getBE r.bytes 130 6 = 0 →
      (s.inBox 1).state = .empty →
      ∃ t, exec (.dumpRead mb) s = .next t ∧
        t.basin = Memory.writeN s.basin 0x0E010000
          (padTo 65536 ((s.warden.dump (getByte r.bytes 128)).bytes.drop (65536 * getByte r.bytes 129))) ∧
        (t.inBox 1).state = .full ∧ (t.inBox 1).len = 65536 ∧ (t.outBox mb.val).state = .acked ∧ (t.outBox mb.val).code = 0 ∧
        t.req mb.val = none ∧ t.lanes = s.lanes)

/-! ## Power, clocks, reset and self-test (chapter 13) -/

/-- R312, R319, R321, R326, R339, R341, R356: each reset source resets its part and shows its number; a lane's brown-out leaves the other lanes and ends neither FAILED nor
STOPPED (R136, R153), a pumphouse reset by watchdog leaves every lane and the basin; what reads a queue of a part that was reset learns it anew (R317). A unit start begins anew with
its kind and a new challenge (a free value). A supply that starts powers its part; the pumphouse's counts a power cycle and its power-on reset, and empties its mailboxes
(R300). -/
def Obligations.ResetSourcesResetTheirPart : Prop :=
  ∀ s : State,
    let stale := fun (l : Lane) (x : LaneId) => { l with rc := { l.rc with rxLane := l.rc.rxLane.modify x QueueRx.stale } }
    (∀ x, (s.lane x).rc.powered = true → ∃ t, exec (.laneBrownOut x) s = .next t ∧ (t.lane x).rc.powered = false ∧
      (t.lane x).rc.source = 1 ∧ (t.lane x).rc.released = 0 ∧ (t.lane x).pe = Engine.reset ∧ (t.lane x).io = LaneIO.reset ∧
      (t.lane x).vt.state = (if (s.lane x).vt.state = .failed then .failed else if (s.lane x).vt.state = .stopped then .stopped else .reset) ∧
      (t.lane x).ls.snap0 = (s.lane x).ls.snap0 ∧ ∀ y, y ≠ x → t.lane y = stale (s.lane y) x) ∧
    (∀ x, (s.lane x).rc.powered = true → (s.lane x).rc.released.getLsbD 3 = true → ∃ t, exec (.laneWatchdog x) s = .next t ∧
      (t.lane x).rc.source = 3 ∧ (t.lane x).rc.released = (s.lane x).rc.released &&& 1 ∧ (t.lane x).io = LaneIO.reset ∧
      (t.lane x).vt.minCnt = (s.lane x).vt.minCnt ∧
      Assoc.get 0 (t.lane x).ls.resetCnt 3 = (if s.ph.powered then sat (Assoc.get 0 (s.lane x).ls.resetCnt 3) else Assoc.get 0 (s.lane x).ls.resetCnt 3) ∧
      ∀ y, y ≠ x → t.lane y = stale (s.lane y) x) ∧
    (s.ph.powered = true → ∃ t, exec .pumphouseBrownOut s = .next t ∧ t.ph.powered = false ∧ t.basin = [] ∧ t.locks = Locks.reset ∧
      t.mail = HostMail.reset ∧ t.cfg = s.cfg.rekey ∧ ∀ x, (t.lane x).pe = (s.lane x).pe ∧ (t.lane x).vt = (s.lane x).vt ∧ (t.lane x).io = (s.lane x).io) ∧
    (∀ core : Fin 4, s.ph.powered = true → bit s.ph.cores core.val = true → ∃ t, exec (.pumphouseWatchdog core) s = .next t ∧ t.ph.source = 3 ∧
      t.ph.released = s.ph.released &&& 1 ∧ t.ph.pass = true ∧ t.ph.unitOk = s.ph.unitOk ∧ t.basin = s.basin ∧ t.cfg = s.cfg.rekey ∧ t.upd.trialRun = 0 ∧
      Assoc.get 0 t.ph.resetCnt 3 = sat (Assoc.get 0 s.ph.resetCnt 3) ∧
      ∀ x, t.lane x = { s.lane x with rc := { (s.lane x).rc with rxPh := (s.lane x).rc.rxPh.stale } }) ∧
    (∀ x, exec (.supplyStart (.lane x)) s = .next (s.modLane x (fun l => { l with rc := { l.rc with powered := true } }))) ∧
    (s.ph.powered = false → ∃ t, exec (.supplyStart .pumphouse) s = .next t ∧ t.ph.powered = true ∧ t.ph.released = s.ph.released ∧
      Assoc.get 0 t.ph.resetCnt 1 = sat (Assoc.get 0 s.ph.resetCnt 1) ∧ t.cfg = { s.cfg with powerCycles := sat s.cfg.powerCycles } ∧ t.mail = HostMail.reset ∧
      t.basin = s.basin ∧ ∀ x, (t.lane x).mb.l2p = [] ∧ (t.lane x).mb.p2l = [] ∧ (t.lane x).pe = (s.lane x).pe ∧ (t.lane x).vt = (s.lane x).vt) ∧
    (∀ c k, (c = .maintReset ∧ k = 2 ∨ c = .activationRestart ∧ s.unit.activateAt.isSome = true ∧ k = 5 ∨
        c = .softwareResetExecute ∧ ∃ kind apply, s.unit.resetAt = some (kind, apply) ∧ (apply ≤ s.cycle ∨ s.cyclesRun = false) ∧
          k = (if kind = 2 then 6 else 5)) →
      ∃ t, exec c s = .next t ∧ t.unit = { UnitState.reset with startKind := k, started := PerLane.all false } ∧ t.basin = s.basin ∧
        t.cfg.challenge = Config.freeChallenge s.fresh ∧ t.upd.trialRun = 0 ∧
        ∀ x, (s.lane x).rc.powered = true → (t.lane x).rc.source = k ∧ (t.lane x).vt.state = .reset ∧ (t.lane x).io = LaneIO.reset ∧
          (t.lane x).rc.released = (s.lane x).rc.released &&& 1 ∧ (t.lane x).ls.snap0 = (s.lane x).ls.snap0)

/-- R188, R319, R320, R323, Tables 13-5 and 13-6: a clock gate opens in its part once its clock meets the conditions, a clock found never to meet them shows as
FAIL 0x1 until it is judged good; a domain whose predecessor is ready and whose gate is open is released, and any other stays in reset: one behind a domain
in reset, behind a BIST not run, behind options not loaded, behind firmware that was not accepted (FAIL 0x6). P1 ends with the basin's initialisation, P6 with the handshake
of the pumphouse's sluice, a lane's D4 with the fixed slots of its check-value unit loaded. (FAIL 0x1 of several clocks: log entry 108.) -/
def Obligations.DomainsAreReleasedInOrder : Prop :=
  ∀ s : State,
    (∀ x (k : Fin 8), (s.lane x).rc.resetReq = none → (s.lane x).rc.powered = true →
      exec (.clockGateOpen (.lane x) k true) s = .next (s.modLane x (fun l =>
        { l with rc := { l.rc with pll := true, gates := putBit l.rc.gates k.val true, clkBad := putBit l.rc.clkBad k.val false,
                                   fail := if l.rc.fail = 1 ∧ putBit l.rc.clkBad k.val false = 0#8 then 0 else l.rc.fail } })) ∧
      exec (.clockGateOpen (.lane x) k false) s = .next (s.modLane x (fun l =>
        if l.rc.gates.getLsbD k.val then l
        else { l with rc := { l.rc with clkBad := putBit l.rc.clkBad k.val true, fail := if l.rc.fail = 0 then 1 else l.rc.fail } }))) ∧
    (∀ k : Fin 8, s.ph.powered = true →
      exec (.clockGateOpen .pumphouse k true) s = .next { s with ph := { s.ph with gates := putBit s.ph.gates k.val true } } ∧
      exec (.clockGateOpen .pumphouse k false) s = .next s) ∧
    (∀ x (k : Fin 8) sfps ok, (s.lane x).rc.resetReq = none → (s.lane x).rc.powered = true →
      (s.lane x).rc.released.getLsbD k.val = false → (s.lane x).rc.gates.getLsbD k.val = true → (s.lane x).domainReady k.val = true →
      ∃ t, exec (.domainRelease (.lane x) k sfps ok) s = .next t ∧ (t.lane x).rc.released = putBit (s.lane x).rc.released k.val true ∧
        (t.lane x).pe = (s.lane x).pe ∧ (t.lane x).io = (s.lane x).io ∧ (k ≠ 6 → t.basin = s.basin) ∧
        (k = 3 → (t.lane x).rc.fwOk = (s.lane x).ls.fw.startNext.mayRun ok ∧
          (t.lane x).rc.fail = (if (s.lane x).ls.fw.startNext.mayRun ok then (s.lane x).rc.fail else 6) ∧ (t.lane x).rc.wdogTimeout = 1000) ∧
        (k = 4 → ∀ i, Assoc.get none (t.lane x).cv.slots i =
          (if i < 3 then (if (s.lane x).rc.opts.voting then some (sealParams (if i = 0 then .a else if i = 1 then .b else .c)) else none)
           else if i = 3 then some gaugeParams3 else if i = 4 then some gaugeParams4 else none)) ∧
        ∀ y, y ≠ x → (t.lane y).pe = (s.lane y).pe ∧ (t.lane y).io = (s.lane y).io ∧ (t.lane y).rc = (s.lane y).rc ∧
          (k ≠ 6 → t.lane y = s.lane y)) ∧
    (∀ (k : Fin 8) sfps ok, s.ph.powered = true → s.ph.released.getLsbD k.val = false → s.ph.gates.getLsbD k.val = true →
      s.phDomainReady k.val = true →
      ∃ t, exec (.domainRelease .pumphouse k sfps ok) s = .next t ∧ t.ph.released = putBit s.ph.released k.val true ∧ t.basin = s.basin ∧
        (k = 3 → t.ph.fwOk = s.ph.fw.startNext.mayRun ok) ∧
        ∀ x, (t.lane x).pe = (s.lane x).pe ∧ (t.lane x).vt = (s.lane x).vt) ∧
    (∀ x (k : Fin 8) sfps ok, (s.lane x).rc.resetReq = none →
      (s.lane x).rc.gates.getLsbD k.val = false ∨ (0 < k.val ∧ (s.lane x).rc.released.getLsbD (k.val - 1) = false) ∨
        (k = 1 ∧ (s.lane x).rc.bist = true ∧ (s.lane x).bi.logic = 0) ∨ (k = 2 ∧ (s.lane x).rc.bist = true ∧ (s.lane x).bi.memory = 0) ∨
        (k = 3 ∧ (s.lane x).rc.optDone = false) ∨ (k = 4 ∧ (s.lane x).rc.fwOk = false) →
      exec (.domainRelease (.lane x) k sfps ok) s = .next s) ∧
    (∀ (k : Fin 8) sfps ok, s.ph.gates.getLsbD k.val = false ∨ (0 < k.val ∧ s.ph.released.getLsbD (k.val - 1) = false) ∨ k = 7 ∨
        (k = 3 ∧ s.ph.optDone = false) ∨ (k = 4 ∧ s.ph.fwOk = false) →
      exec (.domainRelease .pumphouse k sfps ok) s = .next s) ∧
    (∀ sfps ok, s.ph.powered = true → s.ph.released.getLsbD 1 = false → s.ph.gates.getLsbD 1 = true → s.ph.released.getLsbD 0 = true →
      exec (.domainRelease .pumphouse 1 sfps ok) s = .next { s with ph := { s.ph with released := putBit s.ph.released 1 true }, bs := { s.bs with initDone := true, scrub := true } }) ∧
    (∀ sfps ok, s.ph.powered = true → s.ph.released.getLsbD 6 = false → s.ph.gates.getLsbD 6 = true → s.ph.released.getLsbD 5 = true →
      exec (.domainRelease .pumphouse 6 sfps ok) s = .next { s with ph := { s.ph with released := putBit s.ph.released 6 true, sluice := .handshake } })

/-- R329 to R334: a logic BIST passes where its signature is the OTP value and voltage and clock stayed within their limits throughout, and is not tested where
they did not; a memory BIST applies the factory repair again, passes where at most 20 rows of a macro are repaired in all, exhausts its repair above, and makes no map
where it does not run; the slice of an item runs once, its result is counted, as not tested where it may not close a switch element, and the first failure shows
in BI_SLICE_FAIL. -/
def Obligations.SelfTestsJudgeTheLane : Prop :=
  ∀ (s : State) (x : LaneId),
    let l := s.lane x
    l.rc.resetReq = none →
    (∀ (sg : BitVec 64) (b : BistReading), l.rc.powered = true → l.rc.bist = true → l.rc.released.getLsbD 0 = true →
      l.bi.logic = 0 →
      let inside := (∀ mv ∈ [b.mvLow, b.mvHigh], 808 ≤ mv.toNat ∧ mv.toNat ≤ 892) ∧ (∀ khz ∈ [b.khzLow, b.khzHigh], 99000 ≤ khz.toNat ∧ khz.toNat ≤ 101000)
      ∃ t, exec (.logicBist x sg b) s = .next t ∧ s.onlyLane t x ∧
        (t.lane x).bi.logic = (if inside then (if sg = l.ls.otpSig then 1 else 2) else 3) ∧ (t.lane x).pe = l.pe ∧
        ((inside ∧ sg = l.ls.otpSig) → (t.lane x).rc = l.rc) ∧ (¬ (inside ∧ sg = l.ls.otpSig) → l.vt.state ≠ .rotationTest → (t.lane x).rc.fail = 7)) ∧
    (∀ (failing : List (Nat × Nat)) (b : BistReading), l.rc.powered = true → l.rc.bist = true → l.rc.released.getLsbD 1 = true → l.bi.memory = 0 →
      let inside := (∀ mv ∈ [b.mvLow, b.mvHigh], 808 ≤ mv.toNat ∧ mv.toNat ≤ 892) ∧ (∀ khz ∈ [b.khzLow, b.khzHigh], 99000 ≤ khz.toNat ∧ khz.toNat ≤ 101000)
      (inside → l.ls.otpRows.length + failing.length ≤ 20 → ∃ t, exec (.memoryBist x failing b) s = .next t ∧ s.onlyLane t x ∧ (t.lane x).bi.memory = 1 ∧
        (t.lane x).bi.exhausted = false ∧ (t.lane x).bi.factory = l.ls.otpRows.eraseDups.length ∧
        (t.lane x).bi.soft = (failing.eraseDups.filter (fun p => decide (p ∉ l.ls.otpRows))).length ∧ (t.lane x).rc = l.rc) ∧
      (∀ k, inside → k < 96 → 21 ≤ (((l.ls.otpRows ++ failing).filter (fun p => p.1 == k)).map (·.2)).eraseDups.length →
        ∃ t, exec (.memoryBist x failing b) s = .next t ∧ s.onlyLane t x ∧ (t.lane x).bi.memory = 2 ∧ (t.lane x).bi.exhausted = true) ∧
      (¬ inside → ∃ t, exec (.memoryBist x failing b) s = .next t ∧ s.onlyLane t x ∧ (t.lane x).bi.memory = 3 ∧
        (t.lane x).bi.soft = l.bi.soft ∧ (t.lane x).bi.bermFree = l.bi.bermFree)) ∧
    (∀ (cls : SliceClass) (item : BitVec 8), l.rc.released.getLsbD 7 = true → l.vt.state ∈ [LaneState.reset, .stopped, .failed] →
      (l.bi.done.contains (cls.code, item.toNat) = true → ∀ passed, exec (.testSlice x cls item passed) s = .next s) ∧
      (item.toNat < cls.items → l.bi.done.contains (cls.code, item.toNat) = false →
        let closing := (cls = .element ∨ cls = .groupElement) ∧ s.mayClose x cls item.toNat = false
        (∃ t, exec (.testSlice x cls item true) s = .next t ∧ s.onlyLane t x ∧ (t.lane x).bi.done = (cls.code, item.toNat) :: l.bi.done ∧
          (t.lane x).bi.passed = (if closing then l.bi.passed else l.bi.passed + 1) ∧
          (t.lane x).bi.notTested = (if closing then l.bi.notTested + 1 else l.bi.notTested) ∧ (t.lane x).rc = l.rc ∧
          (l.bi.failed = 0 → (t.lane x).bi.allRun = true → (t.lane x).bi.slices = 1)) ∧
        (l.bi.failed = 0 → ∃ t, exec (.testSlice x cls item false) s = .next t ∧ s.onlyLane t x ∧ (t.lane x).bi.failed = 1 ∧
          (t.lane x).bi.sliceFail = fld cls.code 28 4 + fld item.toNat 0 8 ∧ (t.lane x).bi.slices = 2 ∧ (t.lane x).rc.fail = 7)))

/-- R317, R319, R324, R325, R336: equal straps and a good option record give the lane its options, unequal ones restart the loader, and straps still unequal
after 64 restarts fail it; the exchange makes them known to the unit, and a lane that differs from both others in its options or in its life-cycle state shows FAIL
0x5. A start word gives a queue a new generation, and the sluice opens fully once every neighbour that is up has written its own (log entry 53); a queue accepts
exactly the next word of its generation, delivers a transfer with its last word, discards and counts every other word and the transfer with it, takes nothing after
its writer's reset until it is learned anew, and counts a word at a closed sluice. -/
def Obligations.OptionsAndQueuesComeUp : Prop :=
  ∀ s : State,
    (∀ x straps copyA copyB, (s.lane x).rc.resetReq = none → (s.lane x).rc.powered = true → (s.lane x).rc.released.getLsbD 2 = true →
      (s.lane x).rc.optDone = false → (s.lane x).rc.fail = 0 →
      (∀ t0 : StrapReading, straps = List.replicate 16 t0 → t0.unitId ≠ 0 → t0.unitId ≠ 255 → recordOk x.num s.cfg.gradeL copyA = true →
        ∃ t, exec (.optionLoading (.lane x) straps copyA copyB) s = .next t ∧ s.onlyLane t x ∧ (t.lane x).rc.optDone = true ∧
          (t.lane x).rc.opts.unitId = t0.unitId.toNat ∧ (t.lane x).rc.opts.pairPos = t0.pairPos ∧ (t.lane x).rc.opts.copyB = false ∧
          (t.lane x).rc.opts.serial = slice copyA 4 16 ∧ (t.lane x).rc.fail = 0) ∧
      (strapsStable straps = false → ∃ t, exec (.optionLoading (.lane x) straps copyA copyB) s = .next t ∧ s.onlyLane t x ∧
        (t.lane x).rc.optRestarts = (if 64 ≤ (s.lane x).rc.optRestarts then (s.lane x).rc.optRestarts else (s.lane x).rc.optRestarts + 1) ∧
        (t.lane x).rc.optDone = false ∧ (t.lane x).rc.fail = (if 64 ≤ (s.lane x).rc.optRestarts then 3 else 0))) ∧
    (∀ (t0 : StrapReading) copyA copyB, s.ph.powered = true → s.ph.released.getLsbD 2 = true → s.ph.optDone = false →
      ∃ t, exec (.optionLoading .pumphouse (List.replicate 16 t0) copyA copyB) s = .next t ∧ t = { s with ph := t.ph } ∧ t.ph.optDone = true ∧
        t.ph.optDefault = (!recordOk 4 s.cfg.gradeL copyA && !recordOk 4 s.cfg.gradeL copyB) ∧ t.ph.opts.unitId = t0.unitId.toNat ∧
        (recordOk 4 s.cfg.gradeL copyA = true → t.ph.opts.copyB = false ∧ t.ph.opts.serial = slice copyA 4 16) ∧
        (recordOk 4 s.cfg.gradeL copyA = false → recordOk 4 s.cfg.gradeL copyB = true → t.ph.opts.copyB = true ∧ t.ph.opts.serial = slice copyB 4 16)) ∧
    (∀ x delays, (s.lane x).linked = false → exec (.optionExchange x delays) s = .next s) ∧
    (∀ x delays, (s.lane x).linked = true →
      ∃ t, exec (.optionExchange x delays) s = .next t ∧ t.unit.options.get x = some (s.lane x).rc.opts ∧
        (∀ y ∈ x.peers, (s.lane y).linked = true → (t.lane x).td.linkDelay.get y = some (delays.get y).toNat) ∧
        (∀ y, (s.lane y).linked = true →
          let others := y.peers
          let odd := (∀ z ∈ others, (s.lane z).linked = true) ∧
            ((∀ z ∈ others, (s.lane z).rc.opts.shared ≠ (s.lane y).rc.opts.shared) ∨ (∀ z ∈ others, (s.lane z).ls.life ≠ (s.lane y).ls.life))
          (odd → (s.lane y).rc.fail = 0 → (t.lane y).rc.fail = 5) ∧ (¬ odd → (s.lane y).rc.fail = 5 → (t.lane y).rc.fail = 0) ∧
          (odd ∧ (s.lane y).rc.fail ≠ 0 ∨ ¬ odd ∧ (s.lane y).rc.fail ≠ 5 → (t.lane y).rc = (s.lane y).rc)) ∧
        (∀ y, (s.lane y).linked = false → t.lane y = s.lane y) ∧
        ∀ y, (t.lane y).pe = (s.lane y).pe ∧ (t.lane y).vt = (s.lane y).vt ∧ (t.lane y).io = (s.lane y).io) ∧
    (∀ x, (s.lane x).rc.sluice = .handshake → s.ph.released.getLsbD 6 = true →
      ∃ t, exec (.sluiceReopen (.lane x) .pumphouse) s = .next t ∧
        (t.lane x).rc.sluice = (if x.peers.all (fun y => !(s.lane y).linksUp || ((s.lane x).rc.rxLane.get y).live) then .opened else .handshake) ∧
        t.ph.startLane.get x = s.ph.startLane.get x + 1 ∧ (t.lane x).rc.rxPh = { live := true, gen := t.ph.genLane x, tag := some 0, part := [] } ∧
        t.ph.rxLane.get x = { live := true, gen := (t.lane x).rc.genPh, tag := none, part := [] } ∧ ∀ y, y ≠ x → t.lane y = s.lane y) ∧
    (∀ x, (s.lane x).rc.powered = true → (s.lane x).rc.released.getLsbD 3 = true →
      ∃ t, exec (.laneWatchdog x) s = .next t ∧ (t.lane x).rc.sluice = .closed ∧ (t.lane x).rc.gen = ((s.lane x).rc.gen + 1) % 4 ∧
        (t.ph.rxLane.get x).live = false) ∧
    (∀ x (w : QueueWord),
      let q := s.ph.rxLane.get x
      let good := q.live = true ∧ w.parityOk = true ∧ w.gen.val = q.gen ∧ w.tag.val = (match q.tag with
        | some n => (n + 1) % 16
        | none => 0)
      (s.ph.sluice = .closed → exec (.queueWordReceive (.lane x) .pumphouse w) s = .next { s with ph := { s.ph with sluiceErr := sat s.ph.sluiceErr } }) ∧
      (s.ph.sluice ≠ .closed → good → w.last = false → exec (.queueWordReceive (.lane x) .pumphouse w) s =
        .next { s with ph := { s.ph with rxLane := s.ph.rxLane.set x { q with tag := some w.tag.val, part := q.part ++ w.data } } }) ∧
      (s.ph.sluice ≠ .closed → good → w.last = true → exec (.queueWordReceive (.lane x) .pumphouse w) s =
        .next { s with ph := { s.ph with rxLane := s.ph.rxLane.set x { q with tag := some w.tag.val, part := [] } },
                       sent := s.sent ++ [.queue (.lane x) .pumphouse (q.part ++ w.data)] }) ∧
      (s.ph.sluice ≠ .closed → ¬ good → exec (.queueWordReceive (.lane x) .pumphouse w) s =
        .next { s with ph := { s.ph with rxLane := s.ph.rxLane.set x { q with part := [] }, discards := sat s.ph.discards } }))

/-! ## Mailboxes and locks (chapter 12) -/

/-- R297, R298, R300 to R302: the doorbell fills an EMPTY outbound mailbox with its tag. A pumphouse in reset leaves it FULL; a running one acknowledges a message of
the wrong place, length or format with its code of Table 12-4, keeps a log or dump read for its own service, and copies every other message to region 5, at a place aligned to 64 bytes; an uncorrectable error of its read is counted with its address (R295). The
host's acknowledge moves its FULL inbound mailbox to ACKED; a running pumphouse reads it at once, which empties the mailbox, and delivers its next notice. The
host's read of MB_OUT_ACK returns tag and code and empties an ACKED mailbox. Any other doorbell or acknowledge is refused and counted. -/
def Obligations.MailboxesFollowTheirStates : Prop :=
  ∀ (s : State) (mb : Fin 4),
    let b := s.outBox mb.val
    let i := s.inBox mb.val
    let refused : State := { s with mail := { s.mail with busErr := sat s.mail.busErr }, ph := { s.ph with event := s.ph.event ||| 4 } }
    (∀ (tag : BitVec 32) who (copyTo : BitVec 32) err errs,
      let bytes := Memory.readN s.basin b.addr b.len
      let code := messageCode b.addr b.len bytes err
      (s.ph.powered = false → exec (.mailboxDoorbell mb tag who copyTo err errs) s = .next s) ∧
      (s.ph.powered = true → b.state ≠ .empty → exec (.mailboxDoorbell mb tag who copyTo err errs) s = .next refused) ∧
      (s.ph.powered = true → b.state = .empty → s.coresRun = false → exec (.mailboxDoorbell mb tag who copyTo err errs) s =
        .next { s with upd := s.upd.heardFrom who, mail := { s.mail with
          out := Assoc.put Mailbox.reset s.mail.out mb.val { b with state := .full, tag := tag.toNat % 65536, code := 0 } } }) ∧
      (b.state = .empty → s.coresRun = true → code ≠ 0 →
        ∃ t, exec (.mailboxDoorbell mb tag who copyTo err errs) s = .next t ∧
          t.outBox mb.val = { b with state := .acked, tag := tag.toNat % 65536, code := code } ∧ (∀ k, k ≠ mb.val → t.outBox k = s.outBox k) ∧
          t = { s with mail := { s.mail with out := t.mail.out }, upd := s.upd.heardFrom who,
                       bs := if err && messageLies b.addr b.len then { s.bs with eccUncorr := sat s.bs.eccUncorr, eccAddr := b.addr } else s.bs }) ∧
      (b.state = .empty → s.coresRun = true → code = 0 → (reqFormat bytes = 0x30 ∨ reqFormat bytes = 0x31) →
        ∃ t r, exec (.mailboxDoorbell mb tag who copyTo err errs) s = .next t ∧
          t.outBox mb.val = { b with state := .full, tag := tag.toNat % 65536, code := 0 } ∧ (∀ k, k ≠ mb.val → t.outBox k = s.outBox k) ∧
          t.req mb.val = some r ∧ r.bytes = bytes ∧ r.requester = who ∧ r.done = 0 ∧ t.lanes = s.lanes ∧ t.basin = s.basin ∧ t.mail.inn = s.mail.inn) ∧
      (b.state = .empty → s.coresRun = true → code = 0 → reqFormat bytes ≠ 0x30 → reqFormat bytes ≠ 0x31 →
        ∃ t, exec (.mailboxDoorbell mb tag who copyTo err errs) s = .next t ∧
          t.basin = Memory.writeN s.basin (copyAddr copyTo.toNat) bytes ∧ copyAddr copyTo.toNat % 64 = 0 ∧ (∀ k, k ≠ mb.val → t.outBox k = s.outBox k) ∧
          (t.req mb.val).isSome = (decide ((t.outBox mb.val).state = .full)) ∧
          (t.outBox mb.val).tag = tag.toNat % 65536 ∧ t.mail.inn = s.mail.inn ∧
          ∀ x, (t.lane x).pe = (s.lane x).pe ∧ (t.lane x).vt = (s.lane x).vt ∧ (t.lane x).io = (s.lane x).io)) ∧
    (∀ code : BitVec 32,
      let box (st : MbState) : Mailbox := { i with state := st, code := code.toNat % 65536 }
      (i.state ≠ .full → exec (.mailboxAcknowledge mb code) s = .next refused) ∧
      (i.state = .full → s.coresRun = false → exec (.mailboxAcknowledge mb code) s =
        .next { s with mail := { s.mail with inn := Assoc.put Mailbox.reset s.mail.inn mb.val (box .acked) } }) ∧
      (i.state = .full → s.coresRun = true → (s.mail.notices = [] ∨ mb ≠ 0 ∧ (s.inBox 0).state ≠ .empty) →
        ∃ t, exec (.mailboxAcknowledge mb code) s = .next t ∧ t.inBox mb.val = box .empty ∧ (∀ k, k ≠ mb.val → t.inBox k = s.inBox k) ∧
          t = { s with mail := { s.mail with inn := t.mail.inn } }) ∧
      (∀ c cy ps rest, i.state = .full → s.coresRun = true → s.mail.notices = (c, cy, ps) :: rest → (mb = 0 ∨ (s.inBox 0).state = .empty) →
        ∃ t, exec (.mailboxAcknowledge mb code) s = .next t ∧ t.inBox 0 = { state := .full, addr := noticeAddr, len := 64, tag := c, code := 0 } ∧
          (mb ≠ 0 → t.inBox mb.val = box .empty) ∧ (∀ k, k ≠ 0 → k ≠ mb.val → t.inBox k = s.inBox k) ∧
          t.basin = Memory.writeN s.basin noticeAddr (noticeBytes s.mail.lostSince cy s.utc c ps) ∧
          t = { s with basin := t.basin, mail := { s.mail with inn := t.mail.inn, notices := rest, lostSince := 0 } })) ∧
    (b.state = .acked → ∃ t, exec (.mbOutAck mb) s = .next t ∧ t.outBox mb.val = { b with state := .empty } ∧
      (∀ k, k ≠ mb.val → t.outBox k = s.outBox k) ∧
      t = { s with mail := { s.mail with out := t.mail.out }, sent := s.sent ++ [.ackValue mb.val (fld b.tag 16 16 + fld b.code 0 16)] }) ∧
    (b.state ≠ .acked → exec (.mbOutAck mb) s = .next { s with sent := s.sent ++ [.ackValue mb.val 0xFFFFFFFF] })

/-- R303 to R305, R307: a read of a free lock acquires it and returns 0, a read by another enters the waiting set and returns the owner; of several readers in one
clock cycle the first after the last acquirer in the rotating order wins and the others wait. A write of its own number by the owner hands the lock to the next waiting
master or frees it, and any other write is refused and counted, in a bus error where a master of the module made it; a lapse takes the waiting entry out, or passes the reservation on; the host reaches locks 56 to 63
alone, and its refused access shows in PH_EVENT. -/
def Obligations.LocksHaveOneOwner : Prop :=
  ∀ (s : State) (n : Fin 64) (m : Fin 8) (us : Fin 1000),
    let l := s.locks.at n.val
    let me := m.val + 1
    let alone := BitVec.ofNat 8 (2 ^ m.val)
    let may := me ≠ 8 ∨ 56 ≤ n.val
    let others (t : State) := (∀ k, k ≠ n.val → t.locks.at k = s.locks.at k)
    let event : Nat := if me = 8 then s.ph.event ||| 8 else s.ph.event
    (may → l.owner = 0 → ∃ t, exec (.lkLockRead n alone us) s = .next t ∧ (t.locks.at n.val).owner = me ∧ (t.locks.at n.val).reserved = false ∧
      (t.locks.at n.val).last = me ∧ others t ∧ t = { s with locks := t.locks, sent := s.sent ++ [.lockValue n.val me (some 0)] }) ∧
    (may → l.owner ≠ 0 → l.owner ≠ me → ∃ t, exec (.lkLockRead n alone us) s = .next t ∧ (t.locks.at n.val).owner = l.owner ∧
      me ∈ (t.locks.at n.val).waiting ∧ others t ∧ t = { s with locks := t.locks, sent := s.sent ++ [.lockValue n.val me (some l.owner)] }) ∧
    (may → l.owner = me → ∃ t, exec (.lkLockRead n alone us) s = .next t ∧ t.locks.at n.val = { l with reserved := false } ∧ others t ∧
      t = { s with locks := t.locks, sent := s.sent ++ [.lockValue n.val me (some (if l.reserved then 0 else me))] }) ∧
    (¬ may → exec (.lkLockRead n alone us) s = .next { s with locks := { s.locks with err := sat s.locks.err }, ph := { s.ph with event := event },
                                                              sent := s.sent ++ [.lockValue n.val me none] }) ∧
    (∀ (readers : BitVec 8) w rest, l.owner = 0 → (readers.getLsbD 7 = true → 56 ≤ n.val) → readOrder l.last readers = w :: rest →
      ∃ t, exec (.lkLockRead n readers us) s = .next t ∧ (t.locks.at n.val).owner = w ∧ (∀ v ∈ rest, v ∈ (t.locks.at n.val).waiting) ∧ others t ∧
        t = { s with locks := t.locks, sent := s.sent ++ .lockValue n.val w (some 0) :: rest.map (fun v => .lockValue n.val v (some w)) }) ∧
    (∀ v : BitVec 32, may → l.owner = me → v.toNat = me → l.waiting = [] →
      ∃ t, exec (.lkLockRelease n m v us) s = .next t ∧ (t.locks.at n.val).owner = 0 ∧ others t ∧ t = { s with locks := t.locks }) ∧
    (∀ (v : BitVec 32) (w : Nat), may → l.owner = me → v.toNat = me → nextMaster l.waiting me = some w →
      ∃ t, exec (.lkLockRelease n m v us) s = .next t ∧ (t.locks.at n.val).owner = w ∧ (t.locks.at n.val).reserved = true ∧
        w ∉ (t.locks.at n.val).waiting ∧ others t ∧ t = { s with locks := t.locks }) ∧
    (∀ v : BitVec 32, (¬ may ∨ l.owner ≠ me ∨ v.toNat ≠ me) → exec (.lkLockRelease n m v us) s =
      .next { s with locks := { s.locks with err := sat s.locks.err }, ph := { s.ph with event := event },
                     sent := if me = 8 then s.sent else s.sent ++ [.busError me] }) ∧
    (l.waiting.contains me = true →
      exec (.lockLapse n m us) s = .next { s with locks := { s.locks.set n.val { l with waiting := l.waiting.filter (· != me) } with
                                                         lapse := sat s.locks.lapse } }) ∧
    (l.waiting.contains me = false → l.owner = me → l.reserved = true → ∃ t, exec (.lockLapse n m us) s = .next t ∧
      (t.locks.at n.val).owner = (nextMaster l.waiting me).getD 0 ∧ t.locks.lapse = sat s.locks.lapse ∧ others t ∧ t = { s with locks := t.locks })

/-- R305: where masters wait, the lock passes to the first of them after its owner in the rotating order 1, 2, …, 8, 1: no waiting master stands between. -/
def Obligations.WaitingMastersGoInRotation : Prop :=
  ∀ (waiting : List Nat) (m w : Nat), 1 ≤ m → m ≤ 8 → nextMaster waiting m = some w →
    w ∈ waiting ∧ 1 ≤ w ∧ w ≤ 8 ∧
    ∀ v ∈ waiting, 1 ≤ v → v ≤ 8 → (w + 7 - m) % 8 ≤ (v + 7 - m) % 8

/-! ## Warden log and breach dumps (chapter 15) -/

/-- R361, R362, R364: a record written takes the next sequence number and stands complete in its slot before the head word names it. A lane rings an EMPTY mailbox 0 with
the record in its own part of region 4 (the layout is the model's choice, log entry 129). Its own record is written when it is delivered; of a unit record the first
copy is kept, the second copy writes it, and a further one is discarded. A lane that has dropped records delivers their number first. A mailbox that still
holds a message refuses the lane's write in a bus error, and what is rung while the pumphouse's cores are in reset stays, and the lane holds the record. The
pumphouse's own records go in order. -/
def Obligations.RecordsTakeTheNextNumber : Prop :=
  ∀ s : State,
    (∀ r : Record, s.ph.powered = true →
      let t := s.writeRecord r
      let n := s.warden.nextSeq
      t.warden.head = some n ∧ t.warden.headWord = some n ∧
      Assoc.get [] t.warden.slots (n % 131072) = recordBytes n s.cfg.opTime s.cfg.powerCycles s.utc r ∧
      (∀ k, k ≠ n % 131072 → Assoc.get [] t.warden.slots k = Assoc.get [] s.warden.slots k) ∧ t = { s with warden := t.warden }) ∧
    (∀ r rest, s.coresRun = true → s.warden.own = r :: rest →
      ∃ t, exec (.wardenRecordWrite .pumphouse) s = .next t ∧ t.warden.own = rest ∧ t.warden.head = some s.warden.nextSeq ∧
        t = { s with warden := t.warden }) ∧
    ∀ x, (s.lane x).rc.powered = true → (s.lane x).rc.released.getLsbD 7 = true → s.ph.powered = true →
      let l := s.lane x
      let box := Assoc.get Mailbox.reset l.mb.l2p 0
      let n := s.warden.nextSeq
      let handed := fun (r : Record) (t : State) => t.basin = Memory.writeN s.basin (0x0A000000 + x.idx * 0x800000) r.handed ∧
        (∀ y, y ≠ x → t.lane y = s.lane y)
      let taken := fun (t : State) => Assoc.get Mailbox.reset (t.lane x).mb.l2p 0 =
        { state := .empty, addr := 0x0A000000 + x.idx * 0x800000, len := 64, tag := (box.tag + 1) % 65536, code := 0 }
      let entered := fun (r : Record) (t : State) => t.warden.head = some n ∧
        Assoc.get [] t.warden.slots (n % 131072) = recordBytes n s.cfg.opTime s.cfg.powerCycles s.utc r
      (box.state = .empty → s.coresRun = true → 0 < l.mb.dropped →
        ∃ t, exec (.wardenRecordWrite (.lane x)) s = .next t ∧ (t.lane x).mb.dropped = 0 ∧ (t.lane x).mb.queue = l.mb.queue ∧ taken t ∧
          handed (lostRecord x l) t ∧ entered (lostRecord x l) t ∧ t.warden.lostCnt = satAdd s.warden.lostCnt l.mb.dropped) ∧
      (∀ r rest, box.state = .empty → s.coresRun = true → l.mb.dropped = 0 → l.mb.queue = r :: rest →
        ∃ t, exec (.wardenRecordWrite (.lane x)) s = .next t ∧ (t.lane x).mb.queue = rest ∧ taken t ∧ handed r t ∧
          (r.source ≠ 5 → entered r t) ∧
          (r.source = 5 → (∀ h ∈ s.warden.halves, h.1 = r → h.2.get x = true) → t.warden.head = s.warden.head ∧
            t.warden.halves = s.warden.halves ++ [(r, (PerLane.all false).set x true)]) ∧
          (∀ m : Mask, r.source = 5 → s.warden.halves.find? (fun h => h.1 == r && !h.2.get x) = some (r, m) →
            (Mask.count m = 1 → entered r t) ∧ (Mask.count m = 2 → t.warden.head = s.warden.head ∧ t.warden.slots = s.warden.slots))) ∧
      (∀ r, box.state ≠ .empty → l.nextRecord x = some r → exec (.wardenRecordWrite (.lane x)) s = .next
        { s.modLane x (fun l => { l with mb := { l.mb with busErr := sat l.mb.busErr } }) with sent := s.sent ++ [.busError x.num] }) ∧
      (∀ r, box.state = .empty → s.coresRun = false → l.nextRecord x = some r →
        ∃ t, exec (.wardenRecordWrite (.lane x)) s = .next t ∧ handed r t ∧ (t.lane x).mb.queue = l.mb.queue ∧ (t.lane x).mb.dropped = l.mb.dropped ∧
          (Assoc.get Mailbox.reset (t.lane x).mb.l2p 0).state = .full ∧ t.warden = s.warden)

/-- R368 to R370: an engine fault's dump is written to the lane's region in state 0x01 unless the region holds a complete dump, which is kept and the skip counted, or
the MRAM cannot be reached; its completion writes state 0x02, unless the MRAM's rail is gone meanwhile, and asks for the lane's reset. -/
def Obligations.BreachDumpsAreKeptUntilReleased : Prop :=
  ∀ (s : State) (x : LaneId),
    let i := x.idx
    (s.lane x).pe.state = .fault →
    (∀ content, (s.lane x).rc.resetReq = none → s.ph.powered = true →
      ((s.warden.dump i).state ≠ 2 ∨ (s.warden.dump i).headerOk = false) →
      ∃ t, exec (.breachDump (.lane x) .engine true content) s = .next t ∧ (t.warden.dump i).state = 1 ∧ (t.warden.dump i).cause = 1 ∧
        (t.warden.dump i).cycle = (s.lane x).td.cycle ∧ t.lanes = s.lanes ∧ t.basin = s.basin) ∧
    (∀ content, (s.lane x).rc.resetReq = none → s.ph.powered = true → (s.warden.dump i).state = 2 → (s.warden.dump i).headerOk = true →
      ∃ t, exec (.breachDump (.lane x) .engine true content) s = .next t ∧ t.warden.dump i = s.warden.dump i ∧
        t.warden.skipCnt = sat s.warden.skipCnt ∧ (t.lane x).rc.resetReq = some 4 ∧ ∀ y, y ≠ x → t.lane y = s.lane y) ∧
    (∀ reachable content, (s.lane x).rc.resetReq = none → (reachable = false ∨ s.ph.powered = false) →
      ∃ t, exec (.breachDump (.lane x) .engine reachable content) s = .next t ∧ t.warden = s.warden ∧ (t.lane x).rc.resetReq = some 4) ∧
    ((s.warden.dump i).state = 1 → s.ph.powered = false → ∃ t, exec (.breachDumpComplete (.lane x)) s = .next t ∧ t.warden = s.warden ∧
      (t.lane x).rc.resetReq = some 4) ∧
    ((s.warden.dump i).state = 1 → s.ph.powered = true → ∃ t, exec (.breachDumpComplete (.lane x)) s = .next t ∧ (t.warden.dump i).state = 2 ∧
      (t.lane x).rc.resetReq = some 4 ∧ (∀ y, y ≠ x → t.lane y = s.lane y) ∧ t.basin = s.basin)

/-! ## Ports (chapters 7 and 11) -/

/-- R23, R276, R278, R279, R293, R384: a safety network places a datagram for the unit that passes its filter in the receive area, with its length, stamp and network
beside it, and counts it; of the other frames for the unit, and of those beyond 1,522 bytes, each is counted and leaves the basin as it is; a frame for another station is
passed on by the bridge, which learns the source. An echo request is answered at most 16 times in a second, once the requester's address is known. A sender
that the message is for enters the ARP table, what waited for it goes out of the port on which it was learned, and a request for the own address is answered; an address that does
not answer is given up and counted, and the telegram that waited stays unsent; a link that comes up announces the own address on every port that sends. What
came in makes its port's lamp flash (R394). -/
def Obligations.NetworksFilterAndResolve : Prop :=
  ∀ (s : State) (n : NetId), (s.net n).forwarding = true →
    (∀ (f : EthFrame) (p : Placing), f.port.val < netPorts n →
      let exec_ := exec (.ethernetFrameReceive n f p) s
      let ports := s.bridgeTo n f.port.val f.macDst.toNat
      let addr := s.freePlace p f.payload.length
      let heard := s.traffic (netPort n f.port.val)
      ((s.tagKnown n f = false ∨ 1522 < f.size) → exec_ = .next (heard.modNet n (fun t => { t with filter := sat t.filter }))) ∧
      (f.macDst.toNat = s.ownMac n → n ≠ .maint → f.size ≤ 1522 → s.passes n f = true →
        ∃ t, exec_ = .next t ∧ (t.net n).rx = sat (s.net n).rx ∧ (t.net n).filter = (s.net n).filter ∧
          Memory.readN t.basin addr f.payload.length = f.payload ∧
          (∀ a, (a < addr ∨ addr + f.payload.length ≤ a) → Memory.read t.basin a = Memory.read s.basin a) ∧
          (∀ u, t.arrivalAt addr u = some { addr := addr, len := f.payload.length, stamp := p.stamp, path := .net2 (n == .b), unreadable := u }) ∧
          t = { s with basin := t.basin, recv := t.recv, nets := t.nets, ph := heard.ph }) ∧
      (f.macDst.toNat = s.ownMac n → s.tagKnown n f = true → f.size ≤ 1522 → (n = .maint ∧ s.kmpFrame f = false ∨ n ≠ .maint ∧ s.passes n f = false) →
        ∃ t, exec_ = .next t ∧ (t.net n).rx = (s.net n).rx ∧ (t.net n).filter = sat (s.net n).filter ∧ t = { s with nets := t.nets, ph := heard.ph }) ∧
      (f.macDst.toNat ≠ s.ownMac n → groupMac f.macDst.toNat = false → s.tagKnown n f = true → f.size ≤ 1522 →
        ∃ t, exec_ = .next t ∧ (t.net n).rx = (s.net n).rx ∧ (t.net n).filter = (s.net n).filter ∧
          Assoc.get none (t.net n).macs f.macSrc.toNat = some f.port.val ∧
          t = { s with nets := t.nets, ph := heard.ph, sent := s.sent ++ (if ports = [] then [] else [.bridged n ports f]) })) ∧
    (∀ (src second : BitVec 32), s.netSends n = true → ((s.net n).icmpSec ≠ second.toNat ∨ (s.net n).icmpRun < 16) → src ≠ 0#32 →
      let mac := Assoc.get 0 (s.net n).arp src.toNat
      let ports := s.outPorts n mac
      let all := s.outPorts n 0
      (mac ≠ 0 → ports ≠ [] → ∃ t, exec (.icmpEchoRequest n src second) s = .next t ∧ t = { s with nets := t.nets, sent := s.sent ++ [.icmp n ports mac src.toNat] } ∧
        (t.net n).icmp = sat (s.net n).icmp) ∧
      (mac = 0 → src.toNat ∉ (s.net n).asking → ∃ t, exec (.icmpEchoRequest n src second) s = .next t ∧ (t.net n).icmp = (s.net n).icmp ∧
        t = { s with nets := t.nets, sent := s.sent ++ (if all = [] then [] else [.arpRequest n all src.toNat]) } ∧
        (t.net n).asking = (s.net n).asking ++ [src.toNat] ∧
        ∃ w, (t.net n).waiting = (s.net n).waiting ++ [w] ∧ w.echo = true ∧ w.d.dst = src.toNat)) ∧
    (∀ (src second : BitVec 32), (s.net n).icmpSec = second.toNat → 16 ≤ (s.net n).icmpRun →
      exec (.icmpEchoRequest n src second) s = .next s) ∧
    (∀ (port : Fin 6) (ip : BitVec 32) (mac macDst : BitVec 48), port.val < netPorts n → s.netSends n = true → s.netIp n < 2 ^ 32 →
      ip.toNat ≠ s.netIp n → ip ≠ 0#32 → mac ≠ 0#48 → (s.net n).arp = [] → s.txOff n port.val = false → (n = .maint → s.ph.kmpQueue = []) →
      let ports := s.bridgeTo n port.val macDst.toNat
      let passed (request : Bool) : List Emit :=
        if ports = [] then [] else [.arpBridged n ports request ip.toNat (s.netIp n) mac.toNat macDst.toNat]
      let heard := s.traffic (netPort n port.val)
      ((s.net n).waiting = [] → ∃ t, exec (.arpMessage n port true ip (BitVec.ofNat 32 (s.netIp n)) mac macDst) s = .next t ∧
        Assoc.get 0 (t.net n).arp ip.toNat = mac.toNat ∧
        t = { s with nets := t.nets, ph := heard.ph, sent := s.sent ++ passed true ++ [.arpReply n [port.val] ip.toNat mac.toNat] }) ∧
      (∀ w, (s.net n).waiting = [w] → w.d.dst = ip.toNat → w.failed = false →
        ∃ t, exec (.arpMessage n port false ip (BitVec.ofNat 32 (s.netIp n)) mac macDst) s = .next t ∧ (t.net n).waiting = [] ∧
          (t.net n).tx = (if w.echo then (s.net n).tx else sat (s.net n).tx) ∧
          (t.net n).icmp = (if w.echo then sat (s.net n).icmp else (s.net n).icmp) ∧
          t = { s with nets := t.nets, ph := heard.ph,
                       sent := s.sent ++ passed false ++ [if w.echo then .icmp n [port.val] mac.toNat ip.toNat else .datagram n [port.val] mac.toNat w.d] })) ∧
    (∀ ip : BitVec 32, (s.net n).asking.contains ip.toNat = true → (n = .maint → s.ph.kmpQueue = []) →
      ∃ t, exec (.arpResolutionFailure n ip) s = .next t ∧ (t.net n).arpFail = sat (s.net n).arpFail ∧ (t.net n).asking.contains ip.toNat = false ∧
        (∀ w ∈ (s.net n).waiting, w.d.dst = ip.toNat → w.cycle.isSome = true → { w with failed := true } ∈ (t.net n).waiting) ∧
        (∀ w ∈ (s.net n).waiting, w.d.dst ≠ ip.toNat → w ∈ (t.net n).waiting) ∧ t = { s with nets := t.nets }) ∧
    (∀ (port : Fin 6) (gigabit : Bool), port.val < netPorts n → s.netSends n = true →
      ∃ t, exec (.ethernetLinkUp n port gigabit) s = .next t ∧ bit (t.net n).links port.val = true ∧
        bit (t.net n).gig port.val = gigabit ∧ t.sent = s.sent ++ [.arpRequest n (s.outPorts n 0) (s.netIp n)] ∧ t.lanes = s.lanes ∧ t.basin = s.basin) ∧
    (∀ i, i ∈ s.outPorts n 0 ↔ i < netPorts n ∧ (n = .maint ∨ bit s.ph.portDisable (netPort n i - 9) = false)) ∧
    (∀ port : Fin 6, port.val < netPorts n →
      ∃ t, exec (.ethernetLinkDown n port) s = .next t ∧ bit (t.net n).links port.val = false ∧ t.sent = s.sent ∧ t.lanes = s.lanes ∧
        t.basin = s.basin)

/-- R173, R275, R282 to R287: a CAN port that detects its rate locks it at the second good frame and tries the next one at an error; in normal operation it acknowledges a
good frame and answers a bad one with an error frame, counts what is not for it and places a whole telegram, without its padding where that can be told; only a
leading pumphouse's port sends, the entry its queue offered when the transmission began, after an error frame for each attempt that failed. Bus-off pins that entry, 128 sequences of recessive bits clear the error counters, and what is past its deadline is discarded but for a frame in transmission.
What the error counters do is the model's reading of ISO 11898-1 (log entry 101). -/
def Obligations.CanPortsQueueAndRecover : Prop :=
  ∀ (s : State) (p : Fin 6),
    let c := s.canPort p.val
    let live := c.state = .active ∨ c.state = .passive
    (∀ seen, c.state = .detecting → c.good = 1 → seen = CanSeen.goodFrame →
      exec (.canRateDetection p seen) s = .next (s.modCan p.val (fun c => { c with state := .active, good := 2, tec := 0, rxErr := 0 }))) ∧
    (∀ seen, c.state = .detecting → seen ≠ CanSeen.goodFrame →
      exec (.canRateDetection p seen) s = .next (s.modCan p.val (fun c => { c with rate := (c.rate + 1) % 9, good := 0 }))) ∧
    (∀ (f : CanFrame) (at_ : Placing), live →
      let exec_ := exec (.canFrameReceive p f at_) s
      let answer (e : Emit) : List Emit := if s.portOff (21 + p.val) = true then [] else [e]
      let body := unpadded s.image (f.data.drop 1)
      let heard := s.traffic (21 + p.val)
      let addr := s.freePlace at_ body.length
      ((f.sound = false ∨ f.fd = true ∧ f.res = true) → ∃ t, exec_ = .next t ∧ (t.canPort p.val).rxErr = min 255 (c.rxErr + 1) ∧
        (t.canPort p.val).rx = c.rx ∧ (t.canPort p.val).filter = c.filter ∧ (t.canPort p.val).remote = c.remote ∧
        t = { s with can := t.can, ph := heard.ph, sent := s.sent ++ answer (.canError p.val (c.state == .active)) }) ∧
      (f.sound = true → (f.fd = false ∨ f.res = false) →
        (f.remote = true → ∃ t, exec_ = .next t ∧ (t.canPort p.val).remote = (if f.fd then c.remote else sat c.remote) ∧
          (t.canPort p.val).rx = c.rx ∧ t = { s with can := t.can, ph := heard.ph, sent := s.sent ++ answer (.canAck p.val) }) ∧
        (f.remote = false → f.ext = true → (s.canIds p.val).contains (2 ^ 31 + f.ident.toNat) = false →
          ∃ t, exec_ = .next t ∧ (t.canPort p.val).filter = sat c.filter ∧ (t.canPort p.val).rx = c.rx ∧
            t = { s with can := t.can, ph := heard.ph, sent := s.sent ++ answer (.canAck p.val) }) ∧
        (f.remote = false → f.fd = false → f.ext = true → (s.canIds p.val).contains (2 ^ 31 + f.ident.toNat) = true →
          ∃ t, exec_ = .next t ∧ (t.canPort p.val).rx = sat c.rx ∧ t = { s with can := t.can, ph := heard.ph, sent := s.sent ++ answer (.canAck p.val) }) ∧
        (f.remote = false → f.fd = true → f.ext = true → (s.canIds p.val).contains (2 ^ 31 + f.ident.toNat) = true → bits (getByte f.data 0) 0 6 = 0 →
          bit (getByte f.data 0) 7 = true → bit (getByte f.data 0) 6 = true →
          ∃ t, exec_ = .next t ∧ (t.canPort p.val).rx = sat c.rx ∧ (t.canPort p.val).queue = c.queue ∧
            t.basin = Memory.writeN s.basin addr body ∧
            (∀ u, t.arrivalAt addr u = some { addr := addr, len := body.length, stamp := at_.stamp, path := .can p, unreadable := u }) ∧
            t = { s with basin := t.basin, recv := t.recv, can := t.can, ph := heard.ph, sent := s.sent ++ answer (.canAck p.val) }))) ∧
    (∀ e (begun : BitVec 64) (errors : BitVec 8), c.queue = [e] → c.pinned = none → c.sending = none → e.since ≤ begun.toNat → begun.toNat < e.deadline → live → s.leads = true →
      s.phRuns = true → s.portOff (21 + p.val) = false →
      let fd := e.sid.isSome
      let brs := fd && decide (bits (s.canCodes p.val) 0 4 ≠ 0)
      let failed := fun (k : Nat) => (List.range k).map (fun i => Emit.canError p.val (decide (c.tec + 8 * i < 128) && decide (c.rxErr < 128)))
      (c.tec + 8 * errors.toNat ≤ 255 → ∃ t, exec (.canFrameSent p begun errors) s = .next t ∧ t.sent = s.sent ++ failed errors.toNat ++ [.can p.val fd brs e.ident e.data] ∧
        (t.canPort p.val).queue = [] ∧ (t.canPort p.val).tx = sat c.tx ∧ (t.canPort p.val).tec = c.tec + 8 * errors.toNat - 1 ∧
        t.basin = s.basin ∧ t.lanes = s.lanes) ∧
      (255 < c.tec + 8 * errors.toNat → ∃ t, exec (.canFrameSent p begun errors) s = .next t ∧ (t.canPort p.val).state = .busOff ∧
        (t.canPort p.val).pinned = some e ∧ (t.canPort p.val).queue = [e] ∧ t = { s with can := t.can, sent := s.sent ++ failed (ceilDiv (256 - c.tec) 8) })) ∧
    (live → exec (.busOff p) s = .next ((if s.portOff (21 + p.val) then s else
        s.emit (.canError p.val (decide (c.tec < 128) && decide (c.rxErr < 128)))).modCan p.val (fun c =>
      { c with state := .busOff, pinned := c.head, queue := c.sending.toList ++ c.queue, sending := none, tec := 255, recovery := 0,
               busOffCnt := sat c.busOffCnt }))) ∧
    (∀ (sequences : BitVec 8), (c.state = .busOff ∨ c.state = .recovering) →
      (c.recovery + sequences.toNat < 128 → exec (.busOffRecovery p sequences) s =
        .next (s.modCan p.val (fun k => { k with state := .recovering, tec := 0, rxErr := 0, recovery := c.recovery + sequences.toNat }))) ∧
      (∀ e, 128 ≤ c.recovery + sequences.toNat → c.queue = [e] → s.tideNow < e.deadline →
        ∃ t, exec (.busOffRecovery p sequences) s = .next t ∧ (t.canPort p.val).state = .active ∧ (t.canPort p.val).tec = 0 ∧
          (t.canPort p.val).queue = [e] ∧ (t.canPort p.val).pinned = c.pinned ∧ t = { s with can := t.can })) ∧
    (∀ e k, c.queue = [e] → e.sid = some k → e.deadline ≤ s.tideNow →
      (∃ t, exec (.canExpired p none) s = .next t ∧ (t.canPort p.val).queue = [] ∧ (t.canPort p.val).expired = satAdd c.expired 1 ∧
        t.warden.own.length = s.warden.own.length + 1 ∧ t = { s with can := t.can, warden := t.warden }) ∧
      (∀ begun : BitVec 64, c.sending = none → c.pinned = none → e.since ≤ begun.toNat → begun.toNat < e.deadline →
        ∃ t, exec (.canExpired p (some begun)) s = .next t ∧ (t.canPort p.val).queue = [] ∧
        (t.canPort p.val).sending = some e ∧ (t.canPort p.val).expired = c.expired ∧ t = { s with can := t.can })) ∧
    (∀ e, c.queue = [e] → e.sid = none → e.deadline ≤ s.cycle * s.image.period + 100000 →
      ∃ t, exec (.referenceMessageMiss p) s = .next t ∧ (t.canPort p.val).queue = [] ∧ (t.canPort p.val).refMiss = satAdd c.refMiss 1 ∧
        t = { s with can := t.can })

/-- R174, R289, R291, R292: a wire frame with a bad stop bit, an abort or a wrong FCS is counted and dropped, a good one's telegram is placed in the receive area; a
pumphouse in reset takes none; what byte stuffing sends is what is received. PTP follows the best master it hears in its domain, takes offset and UTC from its Sync,
halves the way there and back for the delay, and gives the master up when it falls silent. -/
def Obligations.WireFramesAndPtpMessages : Prop :=
  (∀ bs : List Byte, unescape (bs.flatMap escape) = bs) ∧
  ∀ s : State,
    (∀ (l : Fin 2) (chars : List Byte) (stop : Bool) (at_ : Placing), s.phRuns = false → exec (.wireFrameReceive l chars stop at_) s = .next s) ∧
    (∀ (l : Fin 2) (chars : List Byte) (at_ : Placing), s.phRuns = true →
      let got := unescape chars
      let heard := s.traffic (31 + l.val)
      (exec (.wireFrameReceive l chars true at_) s = .next (heard.modLink l.val (fun w => { w with idle := true, charErr := sat w.charErr }))) ∧
      (chars.getLast? = some 0x7D#8 →
        exec (.wireFrameReceive l chars false at_) s = .next (heard.modLink l.val (fun w => { w with idle := true, abort := sat w.abort }))) ∧
      (chars.getLast? ≠ some 0x7D#8 → 2136 < chars.length →
        exec (.wireFrameReceive l chars false at_) s = .next (heard.modLink l.val (fun w => { w with idle := true, long := sat w.long }))) ∧
      (chars.getLast? ≠ some 0x7D#8 → chars.length ≤ 2136 →
        crc wireFcsParams (got.take (got.length - 2)) ≠ getByte got (got.length - 2) + 256 * getByte got (got.length - 1) →
        exec (.wireFrameReceive l chars false at_) s = .next (heard.modLink l.val (fun w => { w with idle := true, fcsErr := sat w.fcsErr })))) ∧
    (∀ (l : Fin 2) (bs : List Byte) (at_ : Placing), s.phRuns = true →
      let body := be 1 (ownIds s.unitId).1 ++ be 1 3 ++ bs
      let frame := (body ++ be 1 (crc wireFcsParams body % 256) ++ be 1 (crc wireFcsParams body / 256)).flatMap escape
      frame.length ≤ 2136 → (ownIds s.unitId).1 < 256 →
      exec (.wireFrameReceive l frame false at_) s =
        .next (((s.traffic (31 + l.val)).place at_ (.wire l) bs).modLink l.val (fun w => { w with idle := true, rx := sat w.rx }))) ∧
    (∀ m : PtpMaster, s.ptpRuns = true → s.ptp.master = none →
      exec (.ptpMessageReceive (.announce s.settings.domain m)) s =
        .next { s with ptp := { s.ptp with master := some m, state := 2, pendingSync := false, present := false, seconds := 0 } }) ∧
    (∀ (m old : PtpMaster), s.ptpRuns = true → s.ptp.master = some old → old.ident ≠ m.ident →
      exec (.ptpMessageReceive (.announce s.settings.domain m)) s =
        .next (if masterBefore m old then
          { s with ptp := { s.ptp with master := some m, state := 2, pendingSync := false, present := false, seconds := 0 } } else s)) ∧
    (∀ (m : PtpMaster) (sec : Nat) (d : Int), s.ptpRuns = true → s.ptp.master = some m →
      ∃ t, exec (.ptpMessageReceive (.sync s.settings.domain m.ident false sec d)) s = .next t ∧ t.ptp.state = 3 ∧ t.ptp.present = true ∧
        t.ptp.offset = d - s.ptp.delay ∧ t.ptp.seconds = (sec - m.utcOffset) % 2 ^ 32 ∧ t.ptp.syncCnt = sat s.ptp.syncCnt ∧
        t = { s with ptp := t.ptp }) ∧
    (∀ (m : PtpMaster) (d : Int), s.ptpRuns = true → s.ptp.master = some m →
      exec (.ptpMessageReceive (.delayResp s.settings.domain m.ident d)) s =
        .next { s with ptp := { s.ptp with delay := halve (s.ptp.t2t1 + d), offset := s.ptp.t2t1 - halve (s.ptp.t2t1 + d) } }) ∧
    (∀ msg, s.ptpRuns = false → exec (.ptpMessageReceive msg) s = .next s) ∧
    (∀ m, s.ptp.master = some m → s.ptp.state ≠ 0 →
      exec .announceReceiptTimeout s = .next { s with ptp := { s.ptp with
        master := none, pendingSync := false, state := if s.ptp.state = 3 ∨ s.ptp.state = 4 then 4 else 1, timeoutCnt := sat s.ptp.timeoutCnt } }) ∧
    (s.ptp.state = 4 → exec .utcHoldoverEnd s = .next { s with ptp := { s.ptp with state := 1, present := false, seconds := 0 } }) ∧
    (∀ m, s.ptp.master = some m → s.netIp .maint ≠ 0 → (s.net .maint).forwarding = true →
      exec .ptpDelayRequest s = .next (s.emit .ptpDelay))

/-! ## The Dikeline rings (chapter 8) -/

/-- R195 to R198, R202, R209, R210, R215, R225, R226: a native or a VK2 frame, a SYNC and a COLDSTART body are
read back as they were built, every field at every value its bytes hold. A frame goes on, in its turn, with its hop, its link's delay (before it has been measured a free
value, log entry 118) and its residence added; one that would run into the module's own slot is held, one with too many hops or too long on its way, or with a bad FCS, is counted; a delay is measured when
a link comes up and every 64 cycles, answered with its turnaround, and halved; without an answer it stays. A slot frame in its slot from its node places its
telegram; the leader polls the admitted nodes in turn and keeps their answers; a VK2 node's path delay is measured and confirmed. -/
def Obligations.RingFramesAndLinkDelays : Prop :=
  (∀ (h : RingHdr) (body : List Byte), h.ty < 16 → h.ring < 256 → h.srcAddr < 256 → h.srcUnit < 256 → h.dst < 256 → h.hops < 256 →
    h.cycle < 2 ^ 32 → -(2 ^ 63 : Int) ≤ h.corr → h.corr < 2 ^ 63 → body.length ≤ 2020 →
    readFrame false (ringFrame false h body) = some ({ h with len := body.length }, body) ∧
    (∀ more : Int, h.hops + 1 < 256 → -(2 ^ 63 : Int) ≤ h.corr + more → h.corr + more < 2 ^ 63 →
      forwarded false (ringFrame false h body) more = ringFrame false { h with hops := h.hops + 1, corr := h.corr + more } body)) ∧
  (∀ (h : RingHdr) (body : List Byte), h.ty < 256 → h.dir = false → h.ring = 0 → h.srcAddr < 256 → h.srcUnit = 0 → h.dst < 256 → h.hops < 256 →
    h.cycle < 2 ^ 16 → h.corr = 0 → body.length ≤ 2036 → readFrame true (ringFrame true h body) = some ({ h with len := body.length }, body)) ∧
  (∀ b : SyncBody, b.cycle < 2 ^ 64 → b.tCycle < 2 ^ 16 → b.rank < 256 → b.start < 2 ^ 32 → -(2 ^ 63 : Int) ≤ b.launchErr → b.launchErr < 2 ^ 63 →
    b.epoch < 2 ^ 32 → b.unit < 256 → b.digest.length = 8 → (∀ p q : Nat → Bool, b.admitted = (List.range 128).filter p →
      b.resync = (List.range 128).filter q → SyncBody.ofBytes false (b.bytes false) = b)) ∧
  (∀ b : ColdBody, b.rank < 256 → b.round < 256 → b.epoch < 2 ^ 32 → b.tCycle < 2 ^ 16 → b.digest.length = 8 → ColdBody.ofBytes b.bytes = b) ∧
  ∀ (s : State) (r : Fin 4), s.ringLive r.val = true → s.phRuns = true →
    let g := s.ring r.val
    (∀ (side : Side) (f : List Byte) (receipt : Int) (latency : Nat),
      let out := side.opposite
      let h := RingHdr.ofBytes (s.vk2 r.val) f
      let go := max (receipt + latency) (g.busy out)
      let fin := go + frameTime false f.length
      let waits := ∃ a ∈ s.ownSlots r.val, go ≤ a ∧ a ≤ fin
      let exec_ := exec (.ringFrameForward r side f receipt latency) s
      let heard := s.traffic (side.port r.val + 1)
      let d : Int := (g.delay side).getD (Config.measured s.fresh 9 : Nat)
      (frameWhole f = false → exec_ = .next (heard.modRing r.val (fun g => { g with fcsErr := sat g.fcsErr }))) ∧
      (frameWhole f = true → (h.ty = 5 ∨ h.ty = 6 ∨ s.ownFrame r.val h = true ∨ s.linkReady r.val out = false) → exec_ = .next (heard.hearAny r.val h.ty)) ∧
      (frameWhole f = true → h.ty ≠ 5 → h.ty ≠ 6 → s.ownFrame r.val h = false → s.linkReady r.val out = true →
        (127 ≤ h.hops → ∃ t, exec_ = .next t ∧ (t.ring r.val).dropCnt = sat g.dropCnt ∧ t = { s with rings := t.rings, ph := heard.ph }) ∧
        (h.hops < 127 → s.vk2 r.val = false → g.held out = [] →
          (nanos 100000 < go - receipt → ∃ t, exec_ = .next t ∧ (t.ring r.val).dropCnt = satAdd g.dropCnt 1 ∧ (t.ring r.val).held out = [] ∧
            t = { s with rings := t.rings, ph := heard.ph, fresh := s.fresh + 1 }) ∧
          (go - receipt ≤ nanos 100000 → waits → ∃ t, exec_ = .next t ∧ (t.ring r.val).gateCnt = sat g.gateCnt ∧
            (t.ring r.val).held out = [{ arrived := receipt, ready := receipt + latency, delay := d, frame := f }] ∧
            t = { s with rings := t.rings, ph := heard.ph, fresh := s.fresh + 1 }) ∧
          (go - receipt ≤ nanos 100000 → ¬ waits → ∃ t, exec_ = .next t ∧ (t.ring r.val).held out = [] ∧ (t.ring r.val).busy out = fin ∧
            t = { s with rings := t.rings, ph := heard.ph, fresh := s.fresh + 1, sent := s.sent ++ [.ring r.val out (forwarded false f (d + (go - receipt)))] })))) ∧
    (∃ t, exec (.ringLinkChange r .e false) s = .next t ∧ (t.ring r.val).linkE = false ∧ (t.ring r.val).linkW = g.linkW ∧
      (t.ring r.val).delayE = g.delayE ∧ t.sent = s.sent ∧ t.lanes = s.lanes ∧ t.basin = s.basin) ∧
    ((s.image.ring r.val).mode = .native → bit s.ph.sfpRefused (Side.port r.val .w) = false →
      ∃ t i, exec (.ringLinkChange r .w true) s = .next t ∧ (t.ring r.val).linkW = true ∧
      (t.ring r.val).reqW = some i ∧ t.sent = s.sent ++ [.ring r.val .w (ringFrame false (s.ownHdr r.val .w 5 0xFE) (delayReqBody i))] ∧
      t.lanes = s.lanes) ∧
    (s.cyclesRun = true → s.cycle % 64 = 0 → s.portUp r.val .e = true → s.portUp r.val .w = true → (s.image.ring r.val).mode = .native →
      ∃ t i j, exec (.delayMeasurementStart r) s = .next t ∧ (t.ring r.val).reqE = some i ∧ (t.ring r.val).reqW = some j ∧
        t.sent = s.sent ++ [.ring r.val .e (ringFrame false (s.ownHdr r.val .e 5 0xFE) (delayReqBody i)),
                            .ring r.val .w (ringFrame false (s.ownHdr r.val .w 5 0xFE) (delayReqBody j))] ∧
        t.lanes = s.lanes ∧ t.basin = s.basin) ∧
    (∀ (side : Side) (f body : List Byte) (ta : Nat), (s.image.ring r.val).mode = .native → s.portUp r.val side = true → ta ≤ 10000 * 65536 →
      readDelay 5 f = some body →
      ∃ t, exec (.delayReq r side f ta) s = .next t ∧
        t.sent = s.sent ++ [.ring r.val side (ringFrame false (s.ownHdr r.val side 6 0xFE) (delayRespBody (getBE body 0 2) ta))] ∧
        t.lanes = s.lanes ∧ t.basin = s.basin) ∧
    (∀ (f body : List Byte) (rt : Nat), readDelay 6 f = some body → g.reqE = some (getBE body 0 2) →
      exec (.delayResp r .e f rt) s =
        .next (s.modRing r.val (fun g => { g with delayE := some (halve ((rt : Int) - (getBE body 8 8 : Int))), reqE := none }))) ∧
    (∃ t, exec (.delayRespTimeout r .e) s = .next t ∧ (t.ring r.val).delayE = g.delayE ∧ (t.ring r.val).reqE = none ∧
      (t.ring r.val).reqW = g.reqW ∧ t.sent = s.sent ∧ t.lanes = s.lanes) ∧
    (∀ (side : Side) (slot : Nat) (e : SlotEntry) (f body : List Byte) (h : RingHdr) (receipt d : Int) (p : Placing),
      (s.image.ring r.val).slots[slot]? = some e → (s.image.ring r.val).mode = .native → s.cyclesRun = true → e.out = false → e.node ≠ 0 →
      readFrame false f = some (h, body) → h.srcAddr = e.node → h.ty = 2 → f.length = e.len → g.delay side = some d →
      Assoc.get 0 g.slotsGot slot = 0 → (receipt - h.corr - d - (e.start : Int) * 65536).natAbs < 1500 * 65536 →
      let addr := s.freePlace p body.length
      ∃ t, exec (.slotFrameReceive r side slot f receipt p) s = .next t ∧ ((t.ring r.val).node e.node).seenNow = true ∧
        t.basin = Memory.writeN s.basin addr body ∧
        (∀ u, t.arrivalAt addr u = some { addr := addr, len := body.length, stamp := p.stamp, path := .ring r e.node, unreadable := u }) ∧
        t = { s with basin := t.basin, recv := t.recv, rings := t.rings }) ∧
    (∀ (identity : Bool) (a : Nat), g.state = .lead → s.vk2 r.val = false → s.cyclesRun = true → nextPolled g.admitted g.polled = some a →
      ∃ t, exec (.diagRequest r identity) s = .next t ∧ (t.ring r.val).polled = a ∧
        t.sent = s.sent ++ s.bothFrames r.val 7 a (diagRequest (if identity then 2 else 1) []) ∧ t.lanes = s.lanes ∧ t.basin = s.basin) ∧
    (∀ (f body : List Byte) (a : Nat), s.vk2 r.val = false → g.state ≠ .vk2Master → s.rings.diagBase = diagTable → a < 128 →
      readDiag false [1, 2] f = some (a, body) →
      ∃ t, exec (.diagResponse r f) s = .next t ∧
        Memory.readN t.basin (s.rings.diagBase + r.val * 8192 + 64 * a) 64 = padTo 64 body ∧ t = { s with basin := t.basin }) ∧
    (∀ (f body : List Byte) (a rt : Nat), g.state = .vk2Master → readDiag true [0x10] f = some (a, body) →
      (g.node a).echoId = some (getBE body 4 4) →
      let d := (halve ((rt : Int) - (getBE body 8 4 : Int))).toNat
      ∃ t, exec (.vk2Echo r f rt) s = .next t ∧ ((t.ring r.val).node a).pathDelay = some d ∧
        t.sent = s.sent ++ s.bothFrames r.val 7 a (diagRequest 0x11 (be 4 d ++ be 4 0)) ∧ t.lanes = s.lanes) ∧
    (∀ (f body : List Byte) (a : Nat), readDiag true [0x11] f = some (a, body) →
      (g.state = .vk2Master ∧ (g.node a).pathDelay = some (getBE body 4 4) ∨ g.state = .vk2Passive) →
      ∃ t, exec (.vk2PathDelay r f) s = .next t ∧ ((t.ring r.val).node a).echoed = true ∧
        ((t.ring r.val).node a).pathDelay = some (getBE body 4 4) ∧ t = { s with rings := t.rings })

/-- R203 to R206, R211, R214, R217 to R220, R223: at its sync segment start the leader launches a ring's SYNC; a deciding module that hears a SYNC becomes the sleeper of
its epoch; a follower takes θ and the correction from its followed port; without SYNC it holds over, and after 4 cycles listens. The third timing error in a row takes a
node's admission, once in a run of them unless it is admitted or ready again; a node with the schedule's digest becomes ready. COLDSTART decides who follows and who contends; two clear rounds in which it sent lead with an epoch above every one
heard. -/
def Obligations.RingLeadershipAndAdmission : Prop :=
  ∀ (s : State),
    (∀ (r : Fin 4) (launchErr : Int), s.leads = true → s.cyclesRun = true → s.ringLive r.val = true → (s.ring r.val).state.leads = true →
      ∃ t, exec (.syncLaunch r launchErr) s = .next t ∧
        t.sent = s.sent ++ s.bothFrames r.val 1 0xFF ((s.syncBody r.val s.cycle launchErr).bytes (s.vk2 r.val)) ∧
        t.rings.epoch = s.unit.epoch ∧ t.rings.leader = s.unitId ∧ Assoc.get 0 t.unit.ringEpoch r.val = s.unit.epoch ∧
        (t.ring r.val).admitted = s.admittedNodes r.val ∧ (∀ a, ((t.ring r.val).node a).ordered = false) ∧
        (∀ q, q ≠ r.val → t.ring q = s.ring q) ∧ t.lanes = s.lanes ∧ t.basin = s.basin) ∧
    (∀ (r : Fin 4) (side : Side) (f : List Byte) (h : RingHdr) (b : SyncBody) (receipt d : Int), s.ringLive r.val = true → s.vk2 r.val = false →
      readSync false f = some (h, b) → b.unit ≠ s.unitId → b.tCycle = s.image.tCycle → s.unit.role = .deciding → (s.image.ring r.val).mode = .native →
      (s.ring r.val).delay side = some d →
      ∃ t, exec (.syncReceive r side f receipt) s = .next t ∧ t.unit.role = .sleeper ∧ t.unit.epoch = b.epoch ∧ t.rings.leader = b.unit ∧
        (t.ring r.val).state = .follow ∧ (∀ x, (t.lane x).rc = (s.lane x).rc ∧ (t.lane x).vt = (s.lane x).vt ∧
          ((s.lane x).inService = true → (t.lane x).pe.cur = (s.lane x).image.coldState))) ∧
    (∀ (r : Fin 4) (side : Side) (f : List Byte) (h : RingHdr) (b : SyncBody) (receipt d : Int), s.ringLive r.val = true → s.vk2 r.val = false →
      readSync false f = some (h, b) → b.unit ≠ s.unitId → b.tCycle = s.image.tCycle → s.unit.role = .sleeper → b.epoch = s.unit.epoch →
      s.rings.leader = b.unit → s.unit.tideSet = true → (s.ring r.val).delay side = some d → (s.ring r.val).syncSide = some side →
      (s.ring r.val).tookSync = false →
      let theta := (s.cycle : Int) * s.ringCycle + receipt - leaderTime s.ringCycle b h.corr d
      ∃ t, exec (.syncReceive r side f receipt) s = .next t ∧ (t.ring r.val).offset = theta ∧ (t.ring r.val).rAcc = (s.ring r.val).rAcc + theta ∧
        (t.ring r.val).rate = correction ((s.ring r.val).rAcc + theta) theta (s.image.tCycle * 1000000) ∧ (t.ring r.val).tookSync = true) ∧
    (∀ r : Fin 4, s.ringLive r.val = true → (s.ring r.val).lostSync = true →
      ∃ t, exec (.holdover r) s = .next t ∧ (t.ring r.val).state = (if (s.ring r.val).state = .vk2Passive then .vk2Passive else .holdover) ∧ (t.ring r.val).missRun = (s.ring r.val).missRun + 1 ∧
        (t.ring r.val).syncMiss = sat (s.ring r.val).syncMiss ∧
        (t.ring r.val).rate = correction (s.ring r.val).rAcc 0 (s.image.tCycle * 1000000) ∧ t = { s with rings := t.rings }) ∧
    (∀ r : Fin 4, (s.ring r.val).state = .vk2Passive → 4 ≤ (s.ring r.val).missRun →
      exec (.holdoverEnd r) s = .next (s.modRing r.val (fun g => { g with missRun := 0, syncSide := none }))) ∧
    (∀ r : Fin 4, (s.ring r.val).state = .holdover → 4 ≤ (s.ring r.val).missRun →
      exec (.holdoverEnd r) s = .next (s.modRing r.val (fun g => { g with state := .listen, missRun := 0, syncSide := none }))) ∧
    (∀ (r : Fin 4) (node : Fin 128),
      let n := (s.ring r.val).node node.val
      (n.told = true → n.admitted = false → n.ready = false → exec (.nodeResync r node) s = .next s) ∧
      (s.ringLive r.val = true → (s.ring r.val).state.leads = true → (n.told = false ∨ n.admitted = true ∨ n.ready = true) → n.errRun = 2 → n.errNow = true →
      ∃ t, exec (.nodeResync r node) s = .next t ∧ ((t.ring r.val).node node.val).admitted = false ∧
        ((t.ring r.val).node node.val).ordered = true ∧ (∀ a, a ≠ node.val → (t.ring r.val).node a = (s.ring r.val).node a) ∧
        ((t.ring r.val).node node.val).told = true ∧ t.warden.own.length = s.warden.own.length + 1 ∧ t.lanes = s.lanes)) ∧
    (∀ (r : Fin 4) (f body : List Byte) (h : RingHdr), s.ringLive r.val = true → (s.image.ring r.val).mode = .native →
      readFrame false f = some (h, body) → h.ty = 4 → 32 ≤ body.length → s.slotHeard r.val h.srcAddr = true →
      let b := IntegrateBody.ofBytes body
      let n (t : State) := (t.ring r.val).node h.srcAddr
      (b.digest = (s.image.ring r.val).digest → ∃ t, exec (.integrate r f) s = .next t ∧
        (n t).ready = !(n s).admitted ∧ (n t).mismatch = false ∧ t = { s with rings := t.rings }) ∧
      (b.digest ≠ (s.image.ring r.val).digest → (s.ring r.val).state = .lead → ∃ t, exec (.integrate r f) s = .next t ∧
        (n t).ready = false ∧ (n t).mismatch = true ∧ t.warden.own.length = s.warden.own.length + 1 ∧ t.lanes = s.lanes)) ∧
    (∀ k : Nat, s.image.startRing = some k → s.ringLive k = true → s.unit.role = .deciding →
      (∀ (f body : List Byte) (h : RingHdr), readFrame false f = some (h, body) → h.ty = 3 → h.forModules = true → body.length = 24 →
        h.srcUnit ≠ s.unitId →
        let b := ColdBody.ofBytes body
        let st := (s.ring k).state
        (b.tCycle = s.image.tCycle → s.outranks h.srcUnit b = true → (st = .listen ∨ st = .contend) →
          ∃ t, exec (.coldstart f) s = .next t ∧ (t.ring k).state = .follow ∧ t.rings.outcome = 2 ∧ t.rings.leader = h.srcUnit ∧
            t.rings.heardCold = max s.rings.heardCold b.epoch ∧ t = { s with rings := t.rings }) ∧
        (b.tCycle = s.image.tCycle → s.outranks h.srcUnit b = false → st = .listen → s.rings.otherTime = false → s.rings.outcome ≠ 4 →
          ∃ t, exec (.coldstart f) s = .next t ∧ (t.ring k).state = .contend ∧ t.rings.round = 0 ∧ t = { s with rings := t.rings }) ∧
        (b.tCycle ≠ s.image.tCycle →
          ∃ t, exec (.coldstart f) s = .next t ∧ (t.ring k).state = .listen ∧ t.rings.outcome = 6 ∧
            t.rings.heardCold = max s.rings.heardCold b.epoch ∧ t = { s with rings := t.rings, warden := t.warden })) ∧
      ((s.ring k).state = .listen → s.rings.heardAny = false → s.rings.outcome ≠ 4 →
        ∃ t, exec .listenPeriodExpiry s = .next t ∧ (t.ring k).state = .contend ∧ t.rings.round = s.rings.round ∧ t.unit = s.unit) ∧
      ((s.ring k).state = .contend → s.rings.round < 16 → s.rings.sentRound = false →
        ∃ t, exec .contentionRound s = .next t ∧ t.rings.round = s.rings.round + 1 ∧ t.rings.sentRound = (s.linkReady k .e || s.linkReady k .w) ∧
          t.sent = s.sent ++ s.bothFrames k 3 0
            (ColdBody.bytes ⟨s.rank, s.preferred, s.rings.round + 1, s.cfg.epoch, s.image.tCycle, (s.image.ring k).digest⟩) ∧ t.unit = s.unit) ∧
      ((s.ring k).state = .contend → s.rings.sentRound = true → 1 ≤ s.rings.clear →
        ∃ t, exec .contentionRound s = .next t ∧ (t.ring k).state = .lead ∧ t.unit.role = .watcher ∧
          t.unit.epoch = max s.cfg.epoch s.rings.heardCold + 1 ∧ t.rings.outcome = 1))

/-! ## Registers and requests of the maintenance port (chapter 16) -/

/-- R375 to R379, R384, R394, R335, R295: each clear register clears the counters its bits name and leaves every other part of the block; a read of the low half of the tide or of the
operating time latches the high half; a bit of PH_EVENT written as 1 is cleared; the locked registers take no write once the fuse is blown; an external BIST run is
started and ends with DONE; the scrubber counts what it corrects. -/
def Obligations.RegisterWritesAndClears : Prop :=
  ∀ (s : State), s.phRuns = true →
    (∀ x, s.sluiceOpen x = true → exec (.tdTideLo x) s =
      .next (s.modLane x (fun l => { l with td := { l.td with tideHi := l.td.tide / 2 ^ 32 % 2 ^ 32 } }))) ∧
    exec .wdOptimeLo s = .next { s with cfg := { s.cfg with opHi := s.cfg.opTime / 2 ^ 32 % 2 ^ 16 } } ∧
    (∀ v : BitVec 32, ∃ t, exec (.dlCntClr v) s = .next t ∧ t = { s with rings := t.rings } ∧
      ∀ r, r < 4 → (v.getLsbD r = true → (t.ring r).transit = 0 ∧ (t.ring r).fcsErr = 0 ∧ (t.ring r).syncMiss = 0 ∧ (t.ring r).gateCnt = 0 ∧
          (t.ring r).dropCnt = 0 ∧ (t.ring r).singleCnt = 0 ∧ (∀ a, ((t.ring r).node a).errCnt = 0) ∧ (t.ring r).state = (s.ring r).state) ∧
        (v.getLsbD r = false → t.ring r = s.ring r)) ∧
    (∀ v : BitVec 32, v.getLsbD 0 = true → exec (.xlCntClr v) s =
      .next { s with xl := { s.xl with missCnt := 0, segErr := 0, failovers := 0, swaps := 0, err27 := 0, err28 := 0 } }) ∧
    (∀ v : BitVec 32, ∃ t, exec (.enCntClr v) s = .next t ∧ t = { s with nets := t.nets } ∧
      ∀ n : NetId, (v.getLsbD n.idx = true → t.net n = { s.net n with rx := 0, tx := 0, filter := 0, arpFail := 0, icmp := 0, lateCnt := 0 }) ∧
        (v.getLsbD n.idx = false → t.net n = s.net n)) ∧
    (∀ v : BitVec 32, ∃ t, exec (.cnCntClr v) s = .next t ∧ t = { s with can := t.can } ∧
      ∀ p, p < 6 →
        (v.getLsbD p = true → t.canPort p =
          { s.canPort p with rx := 0, tx := 0, busOffCnt := 0, expired := 0, qfull := 0, refMiss := 0, remote := 0, filter := 0 }) ∧
        (v.getLsbD p = false → t.canPort p = s.canPort p)) ∧
    (∀ v : BitVec 32, ∃ t, exec (.wlCntClr v) s = .next t ∧ t = { s with wire := t.wire } ∧
      ∀ l, l < 2 →
        (v.getLsbD l = true → t.link l =
          { s.link l with rx := 0, tx := 0, fcsErr := 0, addrCnt := 0, charErr := 0, abort := 0, long := 0, lateCnt := 0 }) ∧
        (v.getLsbD l = false → t.link l = s.link l)) ∧
    (∀ v : BitVec 32, v.getLsbD 0 = true →
      exec (.ptCntClr v) s = .next { s with ptp := { s.ptp with syncCnt := 0, timeoutCnt := 0 } } ∧
      exec (.mbCntClr v) s = .next { s with mail := { s.mail with busErr := 0, lostCnt := 0 } } ∧
      exec (.bsCounterClear v) s = .next { s with bs := { s.bs with eccCorr := 0, eccUncorr := 0, violCnt := 0 } } ∧
      exec (.wdCntClr v) s = .next { s with warden := { s.warden with lostCnt := 0, crcErr := 0, skipCnt := 0 } }) ∧
    (∀ v : BitVec 32, v.getLsbD 1 = true →
      exec (.lkCounterClear v) s = .next { s with locks := { s.locks with holdMax := 0, holdIdx := 0, overCnt := 0, err := 0, lapse := 0 } }) ∧
    (∀ v : BitVec 32, ∃ t, exec (.phEvent v) s = .next t ∧ t = { s with ph := { s.ph with event := t.ph.event } } ∧
      ∀ i, t.ph.event.testBit i = (s.ph.event.testBit i && !v.getLsbD i)) ∧
    (∀ v : BitVec 32, s.cfg.rwlFuse = true → exec (.phLampTest v) s = .next s ∧ exec (.phPortDisable v) s = .next s) ∧
    (∀ v : BitVec 32, s.cfg.rwlFuse = false →
      exec (.phPortDisable v) s = .next { s with ph := { s.ph with portDisable := v.toNat % 2 ^ 20 } } ∧
      (v.getLsbD 0 = true → exec (.phLampTest v) s = .next { s with ph := { s.ph with lampTest := true } })) ∧
    exec .lampTestEnd s = .next { s with ph := { s.ph with lampTest := false } } ∧
    (∀ x (v : BitVec 32), s.sluiceOpen x = true → extPermitted (s.lane x).ls.life = true → v.getLsbD 0 = true →
      exec (.biExtCtrlStart x v) s =
        .next (s.modLane x (fun l => { l with bi := { l.bi with extCtrl := 1 + (if v.getLsbD 2 then 4 else 0) } }))) ∧
    (∀ x, (s.lane x).bi.extCtrl.testBit 0 = true → ∃ t, exec (.externalBistDone x) s = .next t ∧ s.onlyLane t x ∧
      (t.lane x).bi.extCtrl.testBit 0 = false ∧ (t.lane x).bi.extCtrl.testBit 1 = true ∧
      (t.lane x).bi.extCtrl.testBit 2 = (s.lane x).bi.extCtrl.testBit 2) ∧
    (∀ v : BitVec 32, exec (.registerWrite 0x20000008#32 v) s = exec (.phEvent v) s) ∧
    (∀ addr v : BitVec 32, (blockOf addr.toNat = none ∨ blockOf addr.toNat = some .module) → exec (.registerWrite addr v) s = .next s) ∧
    (∀ addr : BitVec 29, s.bs.scrub = true →
      exec (.basinScrub addr true false) s = .next { s with bs := { s.bs with scrubAddr := addr.toNat, eccCorr := sat s.bs.eccCorr } } ∧
      exec (.basinScrub addr false true) s =
        .next { s with bs := { s.bs with scrubAddr := addr.toNat, eccUncorr := sat s.bs.eccUncorr, eccAddr := addr.toNat } })

/-- R278, R290, R294, R381 to R383, Tables 16-3 to 16-5: a well-formed request is answered once, from KMP's port to the requester once its MAC address is known, with its tag and address, the number accessed, the status and the data; one that fails its
checks accesses nothing, is counted as refused and shows in PH_EVENT. Bytes written into region 6 are there and no other byte changes; a write outside it
changes no byte of the basin and is counted as a violation. A datagram of an undefined operation, or shorter than the header, is answered with BAD_REQUEST. While the
response to a request still waits for its requester's address, the next one waits behind it (R383). -/
def Obligations.RequestsAreAnsweredWithTheirStatus : Prop :=
  ∀ (s : State) (q : KmpReq), s.kmpRuns = true → q.version = 1#8 → q.requester.ip ≠ 0#32 →
    let a := q.address.toNat
    let n := q.count.toNat
    let ip := q.requester.ip.toNat
    let mac := Assoc.get 0 (s.net .maint).arp ip
    let message := fun (op count code : Nat) (data : List Byte) => s.kmpDatagram q.requester
      (be 1 1 ++ be 1 (op + 128) ++ be 2 q.tag.toNat ++ be 4 a ++ be 2 count ++ be 2 code ++ data)
    let ports := s.outPorts .maint mac
    let answer := fun (op count code : Nat) (data : List Byte) => Emit.datagram .maint ports mac (message op count code data)
    let served := fun (t : State) (op count code : Nat) (data : List Byte) =>
      t.sent = s.sent ++ [answer op count code data] ∧ t.ph.kmpCnt = sat s.ph.kmpCnt ∧ t.lanes = s.lanes ∧
        t.ph.kmpErr = (if code = 0 then s.ph.kmpErr else sat s.ph.kmpErr) ∧ (code ≠ 0 → t.ph.event.testBit 0 = true)
    (s.kmpHeld = true → ∀ c op, (c, op) ∈ [(Instr.kmpRead q, 1), (.kmpWrite q, 2), (.basinRead q, 3), (.basinWrite q, 4)] →
      exec c s = .next { s with ph := { s.ph with kmpQueue := s.ph.kmpQueue ++ [(op, q)] } }) ∧
    (s.kmpHeld = false → s.ph.kmpQueue = [] → n = 0 → mac = 0 → (s.net .maint).asking.contains ip = false →
      ∃ t, exec (.kmpRead q) s = .next t ∧ t.sent = s.sent ++ [.arpRequest .maint [0, 1] ip] ∧
        (t.net .maint).waiting = (s.net .maint).waiting ++ [{ d := message 1 0 0x0D01 [], cycle := none, failed := false, echo := false }] ∧
        (t.net .maint).asking = (s.net .maint).asking ++ [ip] ∧ t.basin = s.basin ∧ t.lanes = s.lanes) ∧
    (s.kmpHeld = false → s.ph.kmpQueue = [] → mac ≠ 0 → ports ≠ [] →
    (blockOf a = some .module → s.sluiceOpen .a = true → a % 4 = 0 → n = 1 → q.data = [] →
      ∃ t, exec (.kmpRead q) s = .next t ∧ served t 1 1 0 (be 4 (s.regsMod (offsetOf a))) ∧ t.basin = s.basin) ∧
    (1 ≤ n → n ≤ 256 → q.data = [] → blockOf a = none →
      ∃ t, exec (.kmpRead q) s = .next t ∧ served t 1 0 0x0D02 [] ∧ t.basin = s.basin) ∧
    (n = 0 → ∃ t, exec (.kmpRead q) s = .next t ∧ served t 1 0 0x0D01 [] ∧ t.basin = s.basin) ∧
    (a = 0x20000008 → n = 1 → q.data.length = 4 →
      ∃ t, exec (.kmpWrite q) s = .next t ∧ served t 2 1 0 [] ∧ t.basin = s.basin ∧
        ∀ i, t.ph.event.testBit i = (s.ph.event.testBit i && !(ofBE q.data).testBit i)) ∧
    (blockOf a = some .module → a % 4 = 0 → n = 1 → q.data.length = 4 →
      ∃ t, exec (.kmpWrite q) s = .next t ∧ served t 2 0 0x0D04 [] ∧ t.basin = s.basin) ∧
    (4 ≤ n → n ≤ 1024 → n % 4 = 0 → a % 4 = 0 → q.data = [] → 0x0C000000 ≤ a → a + n ≤ 0x0E000000 →
      ∃ t, exec (.basinRead q) s = .next t ∧ served t 3 n 0 (Memory.readN s.basin a n) ∧ t.basin = s.basin) ∧
    (4 ≤ n → n ≤ 1024 → n % 4 = 0 → a % 4 = 0 → q.data.length = n → 0x0C000000 ≤ a → a + n ≤ 0x0E000000 →
      ∃ t, exec (.basinWrite q) s = .next t ∧ served t 4 n 0 [] ∧ Memory.readN t.basin a n = q.data ∧
        ∀ b, (b < a ∨ a + n ≤ b) → Memory.read t.basin b = Memory.read s.basin b) ∧
    (4 ≤ n → n ≤ 1024 → n % 4 = 0 → a % 4 = 0 → q.data.length = n → 0x0E000000 ≤ a → a + n ≤ 0x10000000 →
      ∃ t, exec (.basinWrite q) s = .next t ∧ served t 4 0 0x0D06 [] ∧ t.basin = s.basin ∧ t.bs.violCnt = sat s.bs.violCnt ∧
        t.bs.violAddr = a ∧ t.ph.event.testBit 1 = true) ∧
    (∀ (f : EthFrame) (at_ : Placing), f.port.val < 2 → f.macDst.toNat = s.ownMac .maint → s.tagKnown .maint f = true → s.kmpFrame f = true →
      f.src = q.requester.ip → f.sport = q.requester.port → f.size ≤ 1522 → (f.payload.length < 12 ∨ getByte f.payload 1 = 0 ∨ 4 < getByte f.payload 1) →
      let out := (s.learn .maint f.port.val f.macSrc.toNat).outPorts .maint mac
      out ≠ [] → ∃ t, exec (.ethernetFrameReceive .maint f at_) s = .next t ∧ t.basin = s.basin ∧ t.lanes = s.lanes ∧ t.ph.kmpErr = sat s.ph.kmpErr ∧
        t.ph.event.testBit 0 = true ∧
        t.sent = s.sent ++ [.datagram .maint out mac (s.kmpDatagram q.requester
          (be 1 1 ++ be 1 (getByte f.payload 1 % 128 + 128) ++ be 2 (getBE f.payload 2 2) ++ be 4 (getBE f.payload 4 4) ++ be 2 0 ++ be 2 0x0D01))]))

/-! ## The whole block -/

/-- R62, R64, R293: what has been written is what is read: a state buffer's and the constant table's entry, and every byte of a block written to the basin, with everything
outside as it was; and every write keeps the one form in which equal contents are equal data. -/
def Obligations.WritesAreReadBack : Prop :=
  (∀ (w : Nat) (t : Table w) (k j : Nat) (v : BitVec w), Table.read (Table.write t k v) j = if k = j then v else Table.read t j) ∧
  (∀ (w : Nat) (t : Table w) (k : Nat) (v : BitVec w), Table.wf t = true → Table.wf (Table.write t k v) = true) ∧
  (∀ (m : Memory) (a : Nat) (bs : List (BitVec 8)), Memory.readN (Memory.writeN m a bs) a bs.length = bs) ∧
  (∀ (m : Memory) (a b : Nat) (bs : List (BitVec 8)), (b < a ∨ a + bs.length ≤ b) →
    Memory.read (Memory.writeN m a bs) b = Memory.read m b) ∧
  (∀ (m : Memory) (a : Nat) (bs : List (BitVec 8)), Memory.wf m = true → Memory.wf (Memory.writeN m a bs) = true) ∧
  (∀ (m n : Memory), Memory.wf m = true → Memory.wf n = true → (∀ a, Memory.read m a = Memory.read n a) → m = n)

/-- A step takes the command at the front of the queue and carries it out with the rest of the queue; with no command waiting it lets one millisecond pass (the
model's own choice, log entry 1). -/
def Obligations.StepRunsTheFrontCommand : Prop :=
  (∀ (s : State) (c : Instr) (rest : List Instr), step { s with pending := c :: rest } = exec c { s with pending := rest }) ∧
  ∀ s : State, s.pending = [] → step s = .next (State.tick s)

/-- The block after reset: no command waits, nothing has been sent, the role is STARTING, no lane is in service, the basin reads 0 and is in canonical form, and the margin,
the range term and the pattern count stand at the values other than 0 that their tables give (Tables 3-4, 4-5, 13-13). -/
def Obligations.ResetLeavesTheStatedValues : Prop :=
  State.reset.pending = [] ∧ State.reset.sent = [] ∧ State.reset.unit.role = .starting ∧ State.reset.wf = true ∧
  (∀ a, Memory.read State.reset.basin a = 0#8) ∧
  (∀ x, (State.reset.lane x).vt.state = .reset ∧ (State.reset.lane x).pe.state = .idle ∧ (State.reset.lane x).io.drives = false ∧
    (State.reset.lane x).ts = Sessions.reset ∧ (State.reset.lane x).td.marginMin = 0xFFFFFFFF ∧
    (State.reset.lane x).pe.rangeTerm = 0xFFFFFFFF ∧ (State.reset.lane x).bi.extPatterns = 0x10000 ∧ (State.reset.lane x).rc.sluice = .closed) ∧
  State.reset.ph.unitOk = false ∧ State.reset.lamps = Lamps.off

/-- From every state whose basin, and the index of the arrivals in it, are in canonical form, every step that answers a next state leaves both in canonical form. -/
def Obligations.StepKeepsTheBasinCanonical : Prop :=
  ∀ s t : State, s.wf = true → step s = .next t → t.wf = true
end

