-- ==== Sys2Proof/Laws/Assoc.lean ====
section
/-! SUPPORT. The laws of sparse data: what a read gives after a write, that every write keeps the canonical form, and the same for
tables and for the basin. -/

namespace Sys2Proof

variable {α : Type}

@[simp] theorem Assoc.get_nil (d : α) (k : Nat) : Assoc.get d [] k = d := rfl

theorem Assoc.get_insert (d v : α) (k j : Nat) (m : Assoc α) :
    Assoc.get d (Assoc.insert k v m) j = if k = j then v else Assoc.get d m j := by
  induction m with
  | nil => rfl
  | cons p m ih =>
    obtain ⟨i, w⟩ := p
    by_cases h1 : k < i
    · simp [Assoc.insert, h1, Assoc.get]
    · by_cases h2 : k = i
      · subst h2; by_cases hj : k = j <;> simp [Assoc.insert, Assoc.get, hj]
      · simp only [Assoc.insert, h1, h2, if_false, Assoc.get, ih]
        by_cases hij : i = j
        · subst hij; simp [h2]
        · simp [hij]

theorem Assoc.get_erase (d : α) (k j : Nat) (m : Assoc α) :
    Assoc.get d (Assoc.erase k m) j = if k = j then d else Assoc.get d m j := by
  induction m with
  | nil => simp [Assoc.erase]
  | cons p m ih =>
    obtain ⟨i, w⟩ := p
    by_cases h : i = k
    · subst h; simp only [Assoc.erase, if_true, ih, Assoc.get]
      by_cases hj : i = j <;> simp [hj]
    · simp only [Assoc.erase, h, if_false, Assoc.get, ih]
      by_cases hij : i = j
      · subst hij; simp [Ne.symm h]
      · simp [hij]

/-- Read after write: the key written has the value written, and every other key has what it had. -/
theorem Assoc.get_put [DecidableEq α] (d v : α) (m : Assoc α) (k j : Nat) :
    Assoc.get d (Assoc.put d m k v) j = if k = j then v else Assoc.get d m j := by
  by_cases h : v = d <;> simp [Assoc.put, h, Assoc.get_insert, Assoc.get_erase]

@[simp] theorem Assoc.get_put_self [DecidableEq α] (d v : α) (m : Assoc α) (k : Nat) :
    Assoc.get d (Assoc.put d m k v) k = v := by simp [Assoc.get_put]

theorem Assoc.get_put_ne [DecidableEq α] {d v : α} {m : Assoc α} {k j : Nat} (h : k ≠ j) :
    Assoc.get d (Assoc.put d m k v) j = Assoc.get d m j := by simp [Assoc.get_put, h]

/-! ## The canonical form -/

theorem Assoc.mem_insert {k : Nat} {v : α} {m : Assoc α} {p : Nat × α} (h : p ∈ Assoc.insert k v m) : p = (k, v) ∨ p ∈ m := by
  induction m with
  | nil => simpa [Assoc.insert] using h
  | cons q m ih =>
    obtain ⟨i, w⟩ := q
    by_cases h1 : k < i
    · simpa [Assoc.insert, h1] using h
    · by_cases h2 : k = i
      · subst h2
        simp only [Assoc.insert, lt_irrefl, if_true, if_false, List.mem_cons] at h ⊢
        rcases h with h | h
        · left; exact h
        · right; right; exact h
      · simp only [Assoc.insert, h1, h2, if_false, List.mem_cons] at h ⊢
        rcases h with h | h
        · right; left; exact h
        · rcases ih h with h | h
          · left; exact h
          · right; right; exact h

theorem Assoc.mem_erase {k : Nat} {m : Assoc α} {p : Nat × α} (h : p ∈ Assoc.erase k m) : p ∈ m := by
  induction m with
  | nil => exact h
  | cons q m ih =>
    obtain ⟨i, w⟩ := q
    by_cases hk : i = k
    · simp only [Assoc.erase, hk, if_true] at h
      exact List.mem_cons_of_mem _ (ih h)
    · simp only [Assoc.erase, hk, if_false, List.mem_cons] at h
      rcases h with h | h
      · simp [h]
      · exact List.mem_cons_of_mem _ (ih h)

theorem Assoc.sorted_cons {j : Nat} {w : α} {m : Assoc α} :
    Assoc.sorted ((j, w) :: m) = true ↔ (∀ p ∈ m, j < p.1) ∧ Assoc.sorted m = true := by
  simp [Assoc.sorted]

theorem Assoc.sorted_insert {k : Nat} {v : α} {m : Assoc α} (h : Assoc.sorted m = true) :
    Assoc.sorted (Assoc.insert k v m) = true := by
  induction m with
  | nil => simp [Assoc.insert, Assoc.sorted]
  | cons q m ih =>
    obtain ⟨i, w⟩ := q
    obtain ⟨h1, h2⟩ := Assoc.sorted_cons.mp h
    by_cases hlt : k < i
    · simp only [Assoc.insert, hlt, if_true]
      refine Assoc.sorted_cons.mpr ⟨fun p hp => ?_, h⟩
      rcases List.mem_cons.mp hp with hp | hp
      · simpa [hp] using hlt
      · exact lt_trans hlt (h1 p hp)
    · by_cases he : k = i
      · subst he
        simp only [Assoc.insert, lt_irrefl, if_true, if_false]
        exact Assoc.sorted_cons.mpr ⟨h1, h2⟩
      · simp only [Assoc.insert, hlt, he, if_false]
        refine Assoc.sorted_cons.mpr ⟨fun p hp => ?_, ih h2⟩
        rcases Assoc.mem_insert hp with hp | hp
        · subst hp; simp only; omega
        · exact h1 p hp

theorem Assoc.sorted_erase {k : Nat} {m : Assoc α} (h : Assoc.sorted m = true) : Assoc.sorted (Assoc.erase k m) = true := by
  induction m with
  | nil => rfl
  | cons q m ih =>
    obtain ⟨i, w⟩ := q
    obtain ⟨h1, h2⟩ := Assoc.sorted_cons.mp h
    by_cases he : i = k
    · simpa [Assoc.erase, he] using ih h2
    · simp only [Assoc.erase, he, if_false]
      exact Assoc.sorted_cons.mpr ⟨fun p hp => h1 p (Assoc.mem_erase hp), ih h2⟩

/-- Every write keeps the canonical form. -/
theorem Assoc.wf_put [DecidableEq α] {d v : α} {m : Assoc α} {k : Nat} (h : Assoc.wf d m = true) :
    Assoc.wf d (Assoc.put d m k v) = true := by
  simp only [Assoc.wf, Bool.and_eq_true, List.all_eq_true, decide_eq_true_eq] at h ⊢
  by_cases hv : v = d
  · simp only [Assoc.put, hv, if_true]
    exact ⟨Assoc.sorted_erase h.1, fun p hp => h.2 p (Assoc.mem_erase hp)⟩
  · simp only [Assoc.put, hv, if_false]
    refine ⟨Assoc.sorted_insert h.1, fun p hp => ?_⟩
    rcases Assoc.mem_insert hp with hp | hp
    · subst hp; exact hv
    · exact h.2 p hp

/-! ## Tables and the basin -/

theorem Assoc.sorted_filter {m : Assoc α} (f : Nat × α → Bool) (h : Assoc.sorted m = true) : Assoc.sorted (m.filter f) = true := by
  induction m with
  | nil => rfl
  | cons p m ih =>
    rw [Assoc.sorted_cons] at h
    rw [List.filter_cons]
    split
    · rw [Assoc.sorted_cons]
      exact ⟨fun q hq => h.1 q (List.mem_of_mem_filter hq), ih h.2⟩
    · exact ih h.2

/-- Entries taken out leave the canonical form. -/
theorem Assoc.wf_filter [DecidableEq α] {d : α} {m : Assoc α} (f : Nat × α → Bool) (h : Assoc.wf d m = true) : Assoc.wf d (m.filter f) = true := by
  rw [Assoc.wf, Bool.and_eq_true] at h ⊢
  refine ⟨Assoc.sorted_filter f h.1, ?_⟩
  rw [List.all_eq_true] at h ⊢
  exact fun p hp => h.2 p (List.mem_of_mem_filter hp)

theorem Table.read_write {w : Nat} (t : Table w) (k j : Nat) (v : BitVec w) :
    Table.read (Table.write t k v) j = if k = j then v else Table.read t j := Assoc.get_put _ _ _ _ _

@[simp] theorem Table.read_write_self {w : Nat} (t : Table w) (k : Nat) (v : BitVec w) :
    Table.read (Table.write t k v) k = v := by simp [Table.read_write]

theorem Table.wf_write {w : Nat} {t : Table w} {k : Nat} {v : BitVec w} (h : Table.wf t = true) :
    Table.wf (Table.write t k v) = true := Assoc.wf_put h

/-- A byte read after a byte write. -/
theorem Memory.read_write (m : Memory) (a b : Nat) (v : BitVec 8) :
    Memory.read (Memory.write m a v) b = if a = b then v else Memory.read m b := Assoc.get_put _ _ _ _ _

/-- A byte write keeps the canonical form. -/
theorem Memory.wf_write {m : Memory} {a : Nat} {v : BitVec 8} (h : Memory.wf m = true) :
    Memory.wf (Memory.write m a v) = true := Assoc.wf_put h

/-- A write of bytes keeps the canonical form. -/
theorem Memory.wf_writeN {m : Memory} {a : Nat} {bs : List (BitVec 8)} (h : Memory.wf m = true) :
    Memory.wf (Memory.writeN m a bs) = true := by
  induction bs generalizing m a with
  | nil => exact h
  | cons b bs ih => exact ih (Memory.wf_write h)

/-- A write of bytes below `b` or wholly above it leaves the byte at `b`. -/
theorem Memory.read_writeN_outside {m : Memory} {a b : Nat} {bs : List (BitVec 8)} (h : b < a ∨ a + bs.length ≤ b) :
    Memory.read (Memory.writeN m a bs) b = Memory.read m b := by
  induction bs generalizing m a with
  | nil => rfl
  | cons v bs ih =>
    simp only [List.length_cons] at h
    rw [Memory.writeN, ih (by omega), Memory.read_write, if_neg (by omega)]

@[simp] theorem Memory.length_readN (m : Memory) (a n : Nat) : (Memory.readN m a n).length = n := by
  induction n generalizing a with
  | zero => rfl
  | succ n ih => simp [Memory.readN, ih]

/-- The basin after reset is in canonical form. -/
theorem Memory.wf_reset : Memory.wf Machine.State.reset.basin = true := rfl

end Sys2Proof
end

