-- ==== Sys2Proof/Laws/State.lean ====
section
/-! SUPPORT. One lemma per field and update of the state: what an update sets and what it leaves. Later proofs rewrite with these and never unfold an
update. -/

namespace Sys2Proof

/-! ## A value per lane -/

@[simp] theorem PerLane.get_set_self {α : Type} (p : PerLane α) (x : LaneId) (v : α) : (p.set x v).get x = v := by cases x <;> rfl

theorem PerLane.get_set_ne {α : Type} (p : PerLane α) {x y : LaneId} (v : α) (h : y ≠ x) : (p.set x v).get y = p.get y := by
  cases x <;> cases y <;> first | rfl | exact absurd rfl h

theorem PerLane.get_set {α : Type} (p : PerLane α) (x y : LaneId) (v : α) : (p.set x v).get y = if y = x then v else p.get y := by
  cases x <;> cases y <;> rfl

@[simp] theorem PerLane.get_modify_self {α : Type} (p : PerLane α) (x : LaneId) (f : α → α) : (p.modify x f).get x = f (p.get x) := by
  simp [PerLane.modify]

theorem PerLane.get_modify_ne {α : Type} (p : PerLane α) {x y : LaneId} (f : α → α) (h : y ≠ x) : (p.modify x f).get y = p.get y := by
  simp [PerLane.modify, PerLane.get_set_ne _ _ h]

@[simp] theorem PerLane.get_map {α β : Type} (p : PerLane α) (x : LaneId) (f : α → β) : (p.map f).get x = f (p.get x) := by cases x <;> rfl

@[simp] theorem PerLane.get_mapId {α β : Type} (p : PerLane α) (x : LaneId) (f : LaneId → α → β) : (p.mapId f).get x = f x (p.get x) := by
  cases x <;> rfl

@[simp] theorem PerLane.get_all {α : Type} (v : α) (x : LaneId) : (PerLane.all v).get x = v := by cases x <;> rfl

/-- Two records of lanes that agree in every lane are the same. -/
theorem PerLane.ext_get {α : Type} {p q : PerLane α} (h : ∀ x, p.get x = q.get x) : p = q := by
  obtain ⟨a, b, c⟩ := p; obtain ⟨d, e, f⟩ := q
  have h1 : a = d := h .a
  have h2 : b = e := h .b
  have h3 : c = f := h .c
  subst h1 h2 h3; rfl

namespace Machine

/-! ## One lane changed -/

@[simp] theorem State.lane_modLane_self (s : State) (x : LaneId) (f : Lane → Lane) : (s.modLane x f).lane x = f (s.lane x) := by
  simp [State.modLane, State.lane]

theorem State.lane_modLane_ne (s : State) {x y : LaneId} (f : Lane → Lane) (h : y ≠ x) : (s.modLane x f).lane y = s.lane y := by
  simp [State.modLane, State.lane, PerLane.get_modify_ne _ _ h]

@[simp] theorem State.modLane_unit (s : State) (x : LaneId) (f : Lane → Lane) : (s.modLane x f).unit = s.unit := rfl
@[simp] theorem State.modLane_cfg (s : State) (x : LaneId) (f : Lane → Lane) : (s.modLane x f).cfg = s.cfg := rfl
@[simp] theorem State.modLane_basin (s : State) (x : LaneId) (f : Lane → Lane) : (s.modLane x f).basin = s.basin := rfl
@[simp] theorem State.modLane_recv (s : State) (x : LaneId) (f : Lane → Lane) : (s.modLane x f).recv = s.recv := rfl
@[simp] theorem State.modLane_bs (s : State) (x : LaneId) (f : Lane → Lane) : (s.modLane x f).bs = s.bs := rfl
@[simp] theorem State.modLane_locks (s : State) (x : LaneId) (f : Lane → Lane) : (s.modLane x f).locks = s.locks := rfl
@[simp] theorem State.modLane_mail (s : State) (x : LaneId) (f : Lane → Lane) : (s.modLane x f).mail = s.mail := rfl
@[simp] theorem State.modLane_ph (s : State) (x : LaneId) (f : Lane → Lane) : (s.modLane x f).ph = s.ph := rfl
@[simp] theorem State.modLane_rings (s : State) (x : LaneId) (f : Lane → Lane) : (s.modLane x f).rings = s.rings := rfl
@[simp] theorem State.modLane_out (s : State) (x : LaneId) (f : Lane → Lane) : (s.modLane x f).out = s.out := rfl
@[simp] theorem State.modLane_nets (s : State) (x : LaneId) (f : Lane → Lane) : (s.modLane x f).nets = s.nets := rfl
@[simp] theorem State.modLane_can (s : State) (x : LaneId) (f : Lane → Lane) : (s.modLane x f).can = s.can := rfl
@[simp] theorem State.modLane_wire (s : State) (x : LaneId) (f : Lane → Lane) : (s.modLane x f).wire = s.wire := rfl
@[simp] theorem State.modLane_xl (s : State) (x : LaneId) (f : Lane → Lane) : (s.modLane x f).xl = s.xl := rfl
@[simp] theorem State.modLane_ptp (s : State) (x : LaneId) (f : Lane → Lane) : (s.modLane x f).ptp = s.ptp := rfl
@[simp] theorem State.modLane_warden (s : State) (x : LaneId) (f : Lane → Lane) : (s.modLane x f).warden = s.warden := rfl
@[simp] theorem State.modLane_upd (s : State) (x : LaneId) (f : Lane → Lane) : (s.modLane x f).upd = s.upd := rfl
@[simp] theorem State.modLane_sent (s : State) (x : LaneId) (f : Lane → Lane) : (s.modLane x f).sent = s.sent := rfl
@[simp] theorem State.modLane_fresh (s : State) (x : LaneId) (f : Lane → Lane) : (s.modLane x f).fresh = s.fresh := rfl
@[simp] theorem State.modLane_pending (s : State) (x : LaneId) (f : Lane → Lane) : (s.modLane x f).pending = s.pending := rfl

/-! ## Every lane changed -/

@[simp] theorem State.lane_mapLanes (s : State) (x : LaneId) (f : LaneId → Lane → Lane) : (s.mapLanes f).lane x = f x (s.lane x) := by
  simp [State.mapLanes, State.lane]

@[simp] theorem State.mapLanes_unit (s : State) (f : LaneId → Lane → Lane) : (s.mapLanes f).unit = s.unit := rfl
@[simp] theorem State.mapLanes_cfg (s : State) (f : LaneId → Lane → Lane) : (s.mapLanes f).cfg = s.cfg := rfl
@[simp] theorem State.mapLanes_basin (s : State) (f : LaneId → Lane → Lane) : (s.mapLanes f).basin = s.basin := rfl
@[simp] theorem State.mapLanes_recv (s : State) (f : LaneId → Lane → Lane) : (s.mapLanes f).recv = s.recv := rfl
@[simp] theorem State.mapLanes_bs (s : State) (f : LaneId → Lane → Lane) : (s.mapLanes f).bs = s.bs := rfl
@[simp] theorem State.mapLanes_locks (s : State) (f : LaneId → Lane → Lane) : (s.mapLanes f).locks = s.locks := rfl
@[simp] theorem State.mapLanes_mail (s : State) (f : LaneId → Lane → Lane) : (s.mapLanes f).mail = s.mail := rfl
@[simp] theorem State.mapLanes_ph (s : State) (f : LaneId → Lane → Lane) : (s.mapLanes f).ph = s.ph := rfl
@[simp] theorem State.mapLanes_rings (s : State) (f : LaneId → Lane → Lane) : (s.mapLanes f).rings = s.rings := rfl
@[simp] theorem State.mapLanes_out (s : State) (f : LaneId → Lane → Lane) : (s.mapLanes f).out = s.out := rfl
@[simp] theorem State.mapLanes_nets (s : State) (f : LaneId → Lane → Lane) : (s.mapLanes f).nets = s.nets := rfl
@[simp] theorem State.mapLanes_can (s : State) (f : LaneId → Lane → Lane) : (s.mapLanes f).can = s.can := rfl
@[simp] theorem State.mapLanes_wire (s : State) (f : LaneId → Lane → Lane) : (s.mapLanes f).wire = s.wire := rfl
@[simp] theorem State.mapLanes_xl (s : State) (f : LaneId → Lane → Lane) : (s.mapLanes f).xl = s.xl := rfl
@[simp] theorem State.mapLanes_ptp (s : State) (f : LaneId → Lane → Lane) : (s.mapLanes f).ptp = s.ptp := rfl
@[simp] theorem State.mapLanes_warden (s : State) (f : LaneId → Lane → Lane) : (s.mapLanes f).warden = s.warden := rfl
@[simp] theorem State.mapLanes_upd (s : State) (f : LaneId → Lane → Lane) : (s.mapLanes f).upd = s.upd := rfl
@[simp] theorem State.mapLanes_sent (s : State) (f : LaneId → Lane → Lane) : (s.mapLanes f).sent = s.sent := rfl
@[simp] theorem State.mapLanes_fresh (s : State) (f : LaneId → Lane → Lane) : (s.mapLanes f).fresh = s.fresh := rfl
@[simp] theorem State.mapLanes_pending (s : State) (f : LaneId → Lane → Lane) : (s.mapLanes f).pending = s.pending := rfl

/-! ## A message sent -/

@[simp] theorem State.emit_sent (s : State) (e : Emit) : (s.emit e).sent = s.sent ++ [e] := rfl
@[simp] theorem State.lane_emit (s : State) (e : Emit) (x : LaneId) : (s.emit e).lane x = s.lane x := rfl
@[simp] theorem State.emit_lanes (s : State) (e : Emit) : (s.emit e).lanes = s.lanes := rfl
@[simp] theorem State.emit_unit (s : State) (e : Emit) : (s.emit e).unit = s.unit := rfl
@[simp] theorem State.emit_cfg (s : State) (e : Emit) : (s.emit e).cfg = s.cfg := rfl
@[simp] theorem State.emit_basin (s : State) (e : Emit) : (s.emit e).basin = s.basin := rfl
@[simp] theorem State.emit_recv (s : State) (e : Emit) : (s.emit e).recv = s.recv := rfl
@[simp] theorem State.emit_bs (s : State) (e : Emit) : (s.emit e).bs = s.bs := rfl
@[simp] theorem State.emit_locks (s : State) (e : Emit) : (s.emit e).locks = s.locks := rfl
@[simp] theorem State.emit_mail (s : State) (e : Emit) : (s.emit e).mail = s.mail := rfl
@[simp] theorem State.emit_ph (s : State) (e : Emit) : (s.emit e).ph = s.ph := rfl
@[simp] theorem State.emit_rings (s : State) (e : Emit) : (s.emit e).rings = s.rings := rfl
@[simp] theorem State.emit_out (s : State) (e : Emit) : (s.emit e).out = s.out := rfl
@[simp] theorem State.emit_nets (s : State) (e : Emit) : (s.emit e).nets = s.nets := rfl
@[simp] theorem State.emit_can (s : State) (e : Emit) : (s.emit e).can = s.can := rfl
@[simp] theorem State.emit_wire (s : State) (e : Emit) : (s.emit e).wire = s.wire := rfl
@[simp] theorem State.emit_xl (s : State) (e : Emit) : (s.emit e).xl = s.xl := rfl
@[simp] theorem State.emit_ptp (s : State) (e : Emit) : (s.emit e).ptp = s.ptp := rfl
@[simp] theorem State.emit_warden (s : State) (e : Emit) : (s.emit e).warden = s.warden := rfl
@[simp] theorem State.emit_upd (s : State) (e : Emit) : (s.emit e).upd = s.upd := rfl
@[simp] theorem State.emit_fresh (s : State) (e : Emit) : (s.emit e).fresh = s.fresh := rfl
@[simp] theorem State.emit_pending (s : State) (e : Emit) : (s.emit e).pending = s.pending := rfl

/-! ## A record of the pumphouse -/

@[simp] theorem State.lane_logPh (s : State) (code sev : Nat) (ps : List Nat) (x : LaneId) : (s.logPh code sev ps).lane x = s.lane x := rfl
@[simp] theorem State.logPh_lanes (s : State) (code sev : Nat) (ps : List Nat) : (s.logPh code sev ps).lanes = s.lanes := rfl
@[simp] theorem State.logPh_unit (s : State) (code sev : Nat) (ps : List Nat) : (s.logPh code sev ps).unit = s.unit := rfl
@[simp] theorem State.logPh_cfg (s : State) (code sev : Nat) (ps : List Nat) : (s.logPh code sev ps).cfg = s.cfg := rfl
@[simp] theorem State.logPh_basin (s : State) (code sev : Nat) (ps : List Nat) : (s.logPh code sev ps).basin = s.basin := rfl
@[simp] theorem State.logPh_recv (s : State) (code sev : Nat) (ps : List Nat) : (s.logPh code sev ps).recv = s.recv := rfl
@[simp] theorem State.logPh_bs (s : State) (code sev : Nat) (ps : List Nat) : (s.logPh code sev ps).bs = s.bs := rfl
@[simp] theorem State.logPh_locks (s : State) (code sev : Nat) (ps : List Nat) : (s.logPh code sev ps).locks = s.locks := rfl
@[simp] theorem State.logPh_mail (s : State) (code sev : Nat) (ps : List Nat) : (s.logPh code sev ps).mail = s.mail := rfl
@[simp] theorem State.logPh_ph (s : State) (code sev : Nat) (ps : List Nat) : (s.logPh code sev ps).ph = s.ph := rfl
@[simp] theorem State.logPh_rings (s : State) (code sev : Nat) (ps : List Nat) : (s.logPh code sev ps).rings = s.rings := rfl
@[simp] theorem State.logPh_out (s : State) (code sev : Nat) (ps : List Nat) : (s.logPh code sev ps).out = s.out := rfl
@[simp] theorem State.logPh_nets (s : State) (code sev : Nat) (ps : List Nat) : (s.logPh code sev ps).nets = s.nets := rfl
@[simp] theorem State.logPh_can (s : State) (code sev : Nat) (ps : List Nat) : (s.logPh code sev ps).can = s.can := rfl
@[simp] theorem State.logPh_wire (s : State) (code sev : Nat) (ps : List Nat) : (s.logPh code sev ps).wire = s.wire := rfl
@[simp] theorem State.logPh_xl (s : State) (code sev : Nat) (ps : List Nat) : (s.logPh code sev ps).xl = s.xl := rfl
@[simp] theorem State.logPh_ptp (s : State) (code sev : Nat) (ps : List Nat) : (s.logPh code sev ps).ptp = s.ptp := rfl
@[simp] theorem State.logPh_upd (s : State) (code sev : Nat) (ps : List Nat) : (s.logPh code sev ps).upd = s.upd := rfl
@[simp] theorem State.logPh_sent (s : State) (code sev : Nat) (ps : List Nat) : (s.logPh code sev ps).sent = s.sent := rfl
@[simp] theorem State.logPh_fresh (s : State) (code sev : Nat) (ps : List Nat) : (s.logPh code sev ps).fresh = s.fresh := rfl
@[simp] theorem State.logPh_pending (s : State) (code sev : Nat) (ps : List Nat) : (s.logPh code sev ps).pending = s.pending := rfl

/-! ## A mailbox filled -/

@[simp] theorem State.fillIn_lanes (s : State) (n addr len tag : Nat) : (s.fillIn n addr len tag).lanes = s.lanes := rfl
@[simp] theorem State.fillIn_unit (s : State) (n addr len tag : Nat) : (s.fillIn n addr len tag).unit = s.unit := rfl
@[simp] theorem State.fillIn_cfg (s : State) (n addr len tag : Nat) : (s.fillIn n addr len tag).cfg = s.cfg := rfl
@[simp] theorem State.fillIn_basin (s : State) (n addr len tag : Nat) : (s.fillIn n addr len tag).basin = s.basin := rfl
@[simp] theorem State.fillIn_recv (s : State) (n addr len tag : Nat) : (s.fillIn n addr len tag).recv = s.recv := rfl
@[simp] theorem State.fillIn_bs (s : State) (n addr len tag : Nat) : (s.fillIn n addr len tag).bs = s.bs := rfl
@[simp] theorem State.fillIn_locks (s : State) (n addr len tag : Nat) : (s.fillIn n addr len tag).locks = s.locks := rfl
@[simp] theorem State.fillIn_ph (s : State) (n addr len tag : Nat) : (s.fillIn n addr len tag).ph = s.ph := rfl
@[simp] theorem State.fillIn_rings (s : State) (n addr len tag : Nat) : (s.fillIn n addr len tag).rings = s.rings := rfl
@[simp] theorem State.fillIn_out (s : State) (n addr len tag : Nat) : (s.fillIn n addr len tag).out = s.out := rfl
@[simp] theorem State.fillIn_nets (s : State) (n addr len tag : Nat) : (s.fillIn n addr len tag).nets = s.nets := rfl
@[simp] theorem State.fillIn_can (s : State) (n addr len tag : Nat) : (s.fillIn n addr len tag).can = s.can := rfl
@[simp] theorem State.fillIn_wire (s : State) (n addr len tag : Nat) : (s.fillIn n addr len tag).wire = s.wire := rfl
@[simp] theorem State.fillIn_xl (s : State) (n addr len tag : Nat) : (s.fillIn n addr len tag).xl = s.xl := rfl
@[simp] theorem State.fillIn_ptp (s : State) (n addr len tag : Nat) : (s.fillIn n addr len tag).ptp = s.ptp := rfl
@[simp] theorem State.fillIn_warden (s : State) (n addr len tag : Nat) : (s.fillIn n addr len tag).warden = s.warden := rfl
@[simp] theorem State.fillIn_upd (s : State) (n addr len tag : Nat) : (s.fillIn n addr len tag).upd = s.upd := rfl
@[simp] theorem State.fillIn_sent (s : State) (n addr len tag : Nat) : (s.fillIn n addr len tag).sent = s.sent := rfl
@[simp] theorem State.fillIn_fresh (s : State) (n addr len tag : Nat) : (s.fillIn n addr len tag).fresh = s.fresh := rfl
@[simp] theorem State.fillIn_pending (s : State) (n addr len tag : Nat) : (s.fillIn n addr len tag).pending = s.pending := rfl

@[simp] theorem State.inBox_fillIn_self (s : State) (n addr len tag : Nat) :
    (s.fillIn n addr len tag).inBox n = { state := .full, addr := addr, len := len, tag := tag, code := 0 } := by
  simp [State.fillIn, State.inBox]

/-! ## The basin written (R294) -/

/-- A write that the basin controller lets through changes the basin alone. -/
theorem State.basinWrite_of_may {s : State} {m a : Nat} {bs : List Byte} (h : basinMay true m a = true) :
    s.basinWrite m a bs = { s with basin := Memory.writeN s.basin a bs } := by simp [State.basinWrite, h]

/-- A write outside the regions of the master is discarded. -/
theorem State.basinWrite_of_not {s : State} {m a : Nat} {bs : List Byte} (h : basinMay true m a = false) :
    s.basinWrite m a bs = s.violation m a true := by simp [State.basinWrite, h]

/-! A refused access and its bus error change the basin controller's counts, PH_EVENT and what is sent alone. -/

@[simp] theorem State.violation_lanes (s : State) (m a : Nat) (w : Bool) : (s.violation m a w).lanes = s.lanes := by
  simp only [State.violation, State.busError]; split <;> rfl
@[simp] theorem State.violation_unit (s : State) (m a : Nat) (w : Bool) : (s.violation m a w).unit = s.unit := by
  simp only [State.violation, State.busError]; split <;> rfl
@[simp] theorem State.violation_cfg (s : State) (m a : Nat) (w : Bool) : (s.violation m a w).cfg = s.cfg := by
  simp only [State.violation, State.busError]; split <;> rfl
@[simp] theorem State.violation_basin (s : State) (m a : Nat) (w : Bool) : (s.violation m a w).basin = s.basin := by
  simp only [State.violation, State.busError]; split <;> rfl
@[simp] theorem State.violation_recv (s : State) (m a : Nat) (w : Bool) : (s.violation m a w).recv = s.recv := by
  simp only [State.violation, State.busError]; split <;> rfl
@[simp] theorem State.violation_locks (s : State) (m a : Nat) (w : Bool) : (s.violation m a w).locks = s.locks := by
  simp only [State.violation, State.busError]; split <;> rfl
@[simp] theorem State.violation_mail (s : State) (m a : Nat) (w : Bool) : (s.violation m a w).mail = s.mail := by
  simp only [State.violation, State.busError]; split <;> rfl
@[simp] theorem State.violation_rings (s : State) (m a : Nat) (w : Bool) : (s.violation m a w).rings = s.rings := by
  simp only [State.violation, State.busError]; split <;> rfl
@[simp] theorem State.violation_out (s : State) (m a : Nat) (w : Bool) : (s.violation m a w).out = s.out := by
  simp only [State.violation, State.busError]; split <;> rfl
@[simp] theorem State.violation_nets (s : State) (m a : Nat) (w : Bool) : (s.violation m a w).nets = s.nets := by
  simp only [State.violation, State.busError]; split <;> rfl
@[simp] theorem State.violation_can (s : State) (m a : Nat) (w : Bool) : (s.violation m a w).can = s.can := by
  simp only [State.violation, State.busError]; split <;> rfl
@[simp] theorem State.violation_wire (s : State) (m a : Nat) (w : Bool) : (s.violation m a w).wire = s.wire := by
  simp only [State.violation, State.busError]; split <;> rfl
@[simp] theorem State.violation_xl (s : State) (m a : Nat) (w : Bool) : (s.violation m a w).xl = s.xl := by
  simp only [State.violation, State.busError]; split <;> rfl
@[simp] theorem State.violation_ptp (s : State) (m a : Nat) (w : Bool) : (s.violation m a w).ptp = s.ptp := by
  simp only [State.violation, State.busError]; split <;> rfl
@[simp] theorem State.violation_warden (s : State) (m a : Nat) (w : Bool) : (s.violation m a w).warden = s.warden := by
  simp only [State.violation, State.busError]; split <;> rfl
@[simp] theorem State.violation_upd (s : State) (m a : Nat) (w : Bool) : (s.violation m a w).upd = s.upd := by
  simp only [State.violation, State.busError]; split <;> rfl
@[simp] theorem State.violation_fresh (s : State) (m a : Nat) (w : Bool) : (s.violation m a w).fresh = s.fresh := by
  simp only [State.violation, State.busError]; split <;> rfl
@[simp] theorem State.violation_pending (s : State) (m a : Nat) (w : Bool) : (s.violation m a w).pending = s.pending := by
  simp only [State.violation, State.busError]; split <;> rfl

@[simp] theorem State.basinWrite_lanes (s : State) (m a : Nat) (bs : List Byte) : (s.basinWrite m a bs).lanes = s.lanes := by
  unfold State.basinWrite; split <;> simp
@[simp] theorem State.basinWrite_unit (s : State) (m a : Nat) (bs : List Byte) : (s.basinWrite m a bs).unit = s.unit := by
  unfold State.basinWrite; split <;> simp
@[simp] theorem State.basinWrite_cfg (s : State) (m a : Nat) (bs : List Byte) : (s.basinWrite m a bs).cfg = s.cfg := by
  unfold State.basinWrite; split <;> simp
@[simp] theorem State.basinWrite_recv (s : State) (m a : Nat) (bs : List Byte) : (s.basinWrite m a bs).recv = s.recv := by
  unfold State.basinWrite; split <;> simp
@[simp] theorem State.basinWrite_locks (s : State) (m a : Nat) (bs : List Byte) : (s.basinWrite m a bs).locks = s.locks := by
  unfold State.basinWrite; split <;> simp
@[simp] theorem State.basinWrite_mail (s : State) (m a : Nat) (bs : List Byte) : (s.basinWrite m a bs).mail = s.mail := by
  unfold State.basinWrite; split <;> simp
@[simp] theorem State.basinWrite_rings (s : State) (m a : Nat) (bs : List Byte) : (s.basinWrite m a bs).rings = s.rings := by
  unfold State.basinWrite; split <;> simp
@[simp] theorem State.basinWrite_out (s : State) (m a : Nat) (bs : List Byte) : (s.basinWrite m a bs).out = s.out := by
  unfold State.basinWrite; split <;> simp
@[simp] theorem State.basinWrite_nets (s : State) (m a : Nat) (bs : List Byte) : (s.basinWrite m a bs).nets = s.nets := by
  unfold State.basinWrite; split <;> simp
@[simp] theorem State.basinWrite_can (s : State) (m a : Nat) (bs : List Byte) : (s.basinWrite m a bs).can = s.can := by
  unfold State.basinWrite; split <;> simp
@[simp] theorem State.basinWrite_wire (s : State) (m a : Nat) (bs : List Byte) : (s.basinWrite m a bs).wire = s.wire := by
  unfold State.basinWrite; split <;> simp
@[simp] theorem State.basinWrite_xl (s : State) (m a : Nat) (bs : List Byte) : (s.basinWrite m a bs).xl = s.xl := by
  unfold State.basinWrite; split <;> simp
@[simp] theorem State.basinWrite_ptp (s : State) (m a : Nat) (bs : List Byte) : (s.basinWrite m a bs).ptp = s.ptp := by
  unfold State.basinWrite; split <;> simp
@[simp] theorem State.basinWrite_warden (s : State) (m a : Nat) (bs : List Byte) : (s.basinWrite m a bs).warden = s.warden := by
  unfold State.basinWrite; split <;> simp
@[simp] theorem State.basinWrite_upd (s : State) (m a : Nat) (bs : List Byte) : (s.basinWrite m a bs).upd = s.upd := by
  unfold State.basinWrite; split <;> simp
theorem State.basinWrite_sent {s : State} {m a : Nat} {bs : List Byte} (h : basinMay true m a = true) : (s.basinWrite m a bs).sent = s.sent := by
  simp [State.basinWrite, h]
@[simp] theorem State.basinWrite_fresh (s : State) (m a : Nat) (bs : List Byte) : (s.basinWrite m a bs).fresh = s.fresh := by
  unfold State.basinWrite; split <;> simp
@[simp] theorem State.basinWrite_pending (s : State) (m a : Nat) (bs : List Byte) : (s.basinWrite m a bs).pending = s.pending := by
  unfold State.basinWrite; split <;> simp
@[simp] theorem State.lane_basinWrite (s : State) (m a : Nat) (bs : List Byte) (x : LaneId) : (s.basinWrite m a bs).lane x = s.lane x := by
  simp [State.lane]

/-- The pumphouse may place notices where it does. -/
theorem basinMay_notice : basinMay true corePh noticeAddr = true := by decide

/-- A read after a refused or permitted write: outside the bytes written every byte is as before. -/
theorem State.basinWrite_read_outside (s : State) (m : Nat) {a b : Nat} {bs : List Byte} (h : b < a ∨ a + bs.length ≤ b) :
    Memory.read (s.basinWrite m a bs).basin b = Memory.read s.basin b := by
  unfold State.basinWrite
  split
  · exact Memory.read_writeN_outside h
  · simp

/-! ## The drive stopped -/

@[simp] theorem LaneIO.stopDrive_drives (io : LaneIO) : io.stopDrive.drives = false := rfl
@[simp] theorem LaneIO.stopDrive_toggle (io : LaneIO) : io.stopDrive.toggle = 0 := rfl
@[simp] theorem LaneIO.stopDrive_quench (io : LaneIO) : io.stopDrive.quench = 0 := rfl
@[simp] theorem LaneIO.stopDrive_groupQuench (io : LaneIO) : io.stopDrive.groupQuench = 0 := rfl
@[simp] theorem LaneIO.stopDrive_window (io : LaneIO) : io.stopDrive.window = none := rfl
@[simp] theorem LaneIO.stopDrive_watchOut (io : LaneIO) : io.stopDrive.watchOut = false := rfl
@[simp] theorem LaneIO.stopDrive_filt (io : LaneIO) : io.stopDrive.filt = io.filt := rfl
@[simp] theorem LaneIO.stopDrive_frozen (io : LaneIO) : io.stopDrive.frozen = io.frozen := rfl
@[simp] theorem LaneIO.stopDrive_latched (io : LaneIO) : io.stopDrive.latched = io.latched := rfl
@[simp] theorem LaneIO.stopDrive_fault (io : LaneIO) : io.stopDrive.fault = io.fault := rfl

end Machine

end Sys2Proof
end

