-- ==== Sys2Proof/Laws/Parts.lean ====
section
/-! SUPPORT. The parts of the pumphouse that are held under a number: what a part reads after another of its kind has been changed. -/

namespace Sys2Proof.Machine

/-! ## Rings and nodes -/

@[simp] theorem State.ring_modRing_self (s : State) (r : Nat) (f : Ring → Ring) : (s.modRing r f).ring r = f (s.ring r) := by
  simp [State.modRing, State.ring, Assoc.upd]

theorem State.ring_modRing_ne (s : State) {r q : Nat} (f : Ring → Ring) (h : r ≠ q) : (s.modRing r f).ring q = s.ring q := by
  simp [State.modRing, State.ring, Assoc.upd, Assoc.get_put_ne h]

@[simp] theorem State.modRing_lanes (s : State) (r : Nat) (f : Ring → Ring) : (s.modRing r f).lanes = s.lanes := rfl
@[simp] theorem State.lane_modRing (s : State) (r : Nat) (f : Ring → Ring) (x : LaneId) : (s.modRing r f).lane x = s.lane x := rfl
@[simp] theorem State.modRing_unit (s : State) (r : Nat) (f : Ring → Ring) : (s.modRing r f).unit = s.unit := rfl
@[simp] theorem State.modRing_cfg (s : State) (r : Nat) (f : Ring → Ring) : (s.modRing r f).cfg = s.cfg := rfl
@[simp] theorem State.modRing_basin (s : State) (r : Nat) (f : Ring → Ring) : (s.modRing r f).basin = s.basin := rfl
@[simp] theorem State.modRing_ph (s : State) (r : Nat) (f : Ring → Ring) : (s.modRing r f).ph = s.ph := rfl
@[simp] theorem State.modRing_sent (s : State) (r : Nat) (f : Ring → Ring) : (s.modRing r f).sent = s.sent := rfl
@[simp] theorem State.modRing_fresh (s : State) (r : Nat) (f : Ring → Ring) : (s.modRing r f).fresh = s.fresh := rfl

@[simp] theorem Ring.node_modNode_self (g : Ring) (a : Nat) (f : RingNode → RingNode) : (g.modNode a f).node a = f (g.node a) := by
  simp [Ring.modNode, Ring.node, Assoc.upd]

theorem Ring.node_modNode_ne (g : Ring) {a b : Nat} (f : RingNode → RingNode) (h : a ≠ b) : (g.modNode a f).node b = g.node b := by
  simp [Ring.modNode, Ring.node, Assoc.upd, Assoc.get_put_ne h]

@[simp] theorem Ring.modNode_state (g : Ring) (a : Nat) (f : RingNode → RingNode) : (g.modNode a f).state = g.state := rfl

/-! ## CAN ports, wire links, networks -/

@[simp] theorem State.canPort_modCan_self (s : State) (p : Nat) (f : CanPort → CanPort) : (s.modCan p f).canPort p = f (s.canPort p) := by
  simp [State.modCan, State.canPort, Assoc.upd]

theorem State.canPort_modCan_ne (s : State) {p q : Nat} (f : CanPort → CanPort) (h : p ≠ q) : (s.modCan p f).canPort q = s.canPort q := by
  simp [State.modCan, State.canPort, Assoc.upd, Assoc.get_put_ne h]

@[simp] theorem State.lane_modCan (s : State) (p : Nat) (f : CanPort → CanPort) (x : LaneId) : (s.modCan p f).lane x = s.lane x := rfl
@[simp] theorem State.modCan_basin (s : State) (p : Nat) (f : CanPort → CanPort) : (s.modCan p f).basin = s.basin := rfl
@[simp] theorem State.modCan_sent (s : State) (p : Nat) (f : CanPort → CanPort) : (s.modCan p f).sent = s.sent := rfl

@[simp] theorem State.link_modLink_self (s : State) (l : Nat) (f : Wire → Wire) : (s.modLink l f).link l = f (s.link l) := by
  simp [State.modLink, State.link, Assoc.upd]

theorem State.link_modLink_ne (s : State) {l k : Nat} (f : Wire → Wire) (h : l ≠ k) : (s.modLink l f).link k = s.link k := by
  simp [State.modLink, State.link, Assoc.upd, Assoc.get_put_ne h]

@[simp] theorem State.modLink_basin (s : State) (l : Nat) (f : Wire → Wire) : (s.modLink l f).basin = s.basin := rfl

@[simp] theorem State.net_modNet_self (s : State) (n : NetId) (f : Net → Net) : (s.modNet n f).net n = f (s.net n) := by cases n <;> rfl

theorem State.net_modNet_ne (s : State) {n m : NetId} (f : Net → Net) (h : n ≠ m) : (s.modNet n f).net m = s.net m := by
  cases n <;> cases m <;> first | rfl | exact absurd rfl h

@[simp] theorem State.modNet_basin (s : State) (n : NetId) (f : Net → Net) : (s.modNet n f).basin = s.basin := by cases n <;> rfl
@[simp] theorem State.modNet_lanes (s : State) (n : NetId) (f : Net → Net) : (s.modNet n f).lanes = s.lanes := by cases n <;> rfl
@[simp] theorem State.modNet_sent (s : State) (n : NetId) (f : Net → Net) : (s.modNet n f).sent = s.sent := by cases n <;> rfl
@[simp] theorem State.modNet_cfg (s : State) (n : NetId) (f : Net → Net) : (s.modNet n f).cfg = s.cfg := by cases n <;> rfl
@[simp] theorem State.modNet_ph (s : State) (n : NetId) (f : Net → Net) : (s.modNet n f).ph = s.ph := by cases n <;> rfl

/-! ## Locks -/

@[simp] theorem Locks.at_set_self (k : Locks) (n : Nat) (l : Lock) : (k.set n l).at n = l := by simp [Locks.set, Locks.at]

theorem Locks.at_set_ne (k : Locks) {n m : Nat} (l : Lock) (h : n ≠ m) : (k.set n l).at m = k.at m := by
  simp [Locks.set, Locks.at, Assoc.get_put_ne h]

/-! ## The receive area -/

@[simp] theorem State.place_lanes (s : State) (p : Placing) (w : Path) (bs : List Byte) : (s.place p w bs).lanes = s.lanes := by simp [State.place]
/-- The pumphouse may write wherever it places what is received. -/
theorem basinMay_recvAddr (a len : Nat) : basinMay true corePh (recvAddr a len) = true := by
  have h : 0x02000000 ≤ recvAddr a len ∧ recvAddr a len < 0x08000000 := by unfold recvAddr; split <;> omega
  generalize recvAddr a len = b at h
  have hr : basinRegion b = some 1 := by
    have h0 : ¬ b < 33554432 := by omega
    have h1 : b < 134217728 := by omega
    simp [basinRegion, basinRegions, List.findIdx?_cons, h.1, h0, h1]
  simp [basinMay, hr, basinRegions, corePh]

theorem State.basinMay_freePlace (s : State) (p : Placing) (len : Nat) : basinMay true corePh (s.freePlace p len) = true := by
  dsimp only [State.freePlace]; split <;> exact basinMay_recvAddr _ _

@[simp] theorem State.place_sent (s : State) (p : Placing) (w : Path) (bs : List Byte) : (s.place p w bs).sent = s.sent :=
  State.basinWrite_sent (s.basinMay_freePlace p bs.length)
@[simp] theorem State.place_unit (s : State) (p : Placing) (w : Path) (bs : List Byte) : (s.place p w bs).unit = s.unit := by simp [State.place]
@[simp] theorem State.place_cfg (s : State) (p : Placing) (w : Path) (bs : List Byte) : (s.place p w bs).cfg = s.cfg := by simp [State.place]

/-- What has been placed is found where it was placed, with its length, stamp and path (R23, R279). -/
theorem State.arrivalAt_place (s : State) (p : Placing) (w : Path) (bs : List Byte) (u : Bool) :
    (s.place p w bs).arrivalAt (s.freePlace p bs.length) u =
      some { addr := s.freePlace p bs.length, len := bs.length, stamp := p.stamp, path := w, unreadable := u } := by
  simp [State.arrivalAt, State.place]

/-- Bytes placed are placed within region 1. -/
theorem recvAddr_bounds (a len : Nat) (h : len ≤ 0x06000000) : 0x02000000 ≤ recvAddr a len ∧ recvAddr a len + len ≤ 0x08000000 := by
  unfold recvAddr; split <;> omega

end Sys2Proof.Machine
end

