-- ==== Sys2Proof/Laws/Basin.lean ====
section
/-! SUPPORT. What the shared operations do to the basin and to the other lanes: each keeps the basin's canonical form, and an operation on one lane leaves the
others as they are. -/

namespace Sys2Proof.Machine

/-- The canonical form speaks of the basin and the receive area's index alone. -/
theorem State.wf_of_basin_eq {s t : State} (h : t.basin = s.basin) (hr : t.recv = s.recv) (hs : s.wf = true) : t.wf = true := by
  simpa [State.wf, h, hr] using hs

theorem State.wf_iff {s : State} : s.wf = true ↔ Memory.wf s.basin = true ∧ Assoc.wf none s.recv = true := by simp [State.wf]

/-- A list of operations that each keep the canonical form keeps it. -/
theorem State.wf_foldl {α : Type} (f : State → α → State) (hf : ∀ s a, s.wf = true → (f s a).wf = true) (l : List α) :
    ∀ s : State, s.wf = true → (l.foldl f s).wf = true := by
  induction l with
  | nil => exact fun s hs => hs
  | cons a l ih => exact fun s hs => ih _ (hf s a hs)

theorem State.wf_basinWrite {s : State} (m a : Nat) (bs : List Byte) (hs : s.wf = true) : (s.basinWrite m a bs).wf = true := by
  rw [State.wf_iff] at hs ⊢
  refine ⟨?_, by simpa using hs.2⟩
  unfold State.basinWrite
  split
  · exact Memory.wf_writeN hs.1
  · simpa using hs.1

theorem State.wf_place {s : State} (p : Placing) (w : Path) (bs : List Byte) (hs : s.wf = true) : (s.place p w bs).wf = true := by
  have h := State.wf_iff.1 (State.wf_basinWrite corePh (s.freePlace p bs.length) bs hs)
  refine State.wf_iff.2 ⟨h.1, ?_⟩
  dsimp only [State.place]
  apply Assoc.wf_put
  exact Assoc.wf_filter _ (State.wf_iff.1 hs).2

theorem State.wf_deliverNotice {s : State} (code cycle : Nat) (ps : List Nat) (hs : s.wf = true) : (s.deliverNotice code cycle ps).wf = true :=
  State.wf_basinWrite corePh noticeAddr _ hs

theorem State.wf_notice {s : State} (code : Nat) (ps : List Nat) (hs : s.wf = true) : (s.notice code ps).wf = true := by
  unfold State.notice
  split
  · exact hs
  split
  · exact State.wf_deliverNotice _ _ _ hs
  · split <;> exact hs

@[simp] theorem State.notice_lanes (s : State) (code : Nat) (ps : List Nat) : (s.notice code ps).lanes = s.lanes := by
  unfold State.notice; split
  · rfl
  split
  · simp [State.deliverNotice]
  · split <;> rfl

@[simp] theorem State.lane_notice (s : State) (code : Nat) (ps : List Nat) (x : LaneId) : (s.notice code ps).lane x = s.lane x := by
  simp [State.lane]

theorem noticeBytes_length (lost cycle utc code : Nat) (ps : List Nat) : (noticeBytes lost cycle utc code ps).length = 64 := by
  simp [noticeBytes, be, padTo]; omega

/-- A notice writes the 64 bytes of region 7 alone. -/
theorem State.notice_read_outside (s : State) (code : Nat) (ps : List Nat) (a : Nat) (h : a < noticeAddr ∨ noticeAddr + 64 ≤ a) :
    Memory.read (s.notice code ps).basin a = Memory.read s.basin a := by
  unfold State.notice
  split
  · rfl
  split
  · exact State.basinWrite_read_outside s corePh (by rw [noticeBytes_length]; exact h)
  · split <;> rfl

theorem State.wf_failSafe {s : State} (hs : s.wf = true) : s.failSafe.wf = true :=
  State.wf_notice _ _ (State.wf_notice _ _ (by simpa [State.wf] using hs))

theorem State.wf_settleService {s : State} (hs : s.wf = true) : s.settleService.wf = true := by
  unfold State.settleService
  split
  · exact State.wf_failSafe hs
  · split <;> exact hs

theorem State.wf_maskNotice {s : State} (old : Mask) (gone : Option LaneId) (hs : s.wf = true) : (s.maskNotice old gone).wf = true := by
  unfold State.maskNotice
  split
  · exact hs
  · exact State.wf_notice _ _ hs

theorem State.wf_withdraw {s : State} (x : LaneId) (cause : Nat) (dump : Bool) (hs : s.wf = true) : (s.withdraw x cause dump).wf = true :=
  State.wf_settleService (State.wf_maskNotice _ _ hs)

theorem State.wf_stopLane {s : State} (x : LaneId) (cause : Nat) (hs : s.wf = true) : (s.stopLane x cause).wf = true :=
  State.wf_settleService (State.wf_maskNotice _ _ hs)

@[simp] theorem State.settleService_lanes (s : State) : s.settleService.lanes = s.lanes := by
  unfold State.settleService
  split
  · simp [State.failSafe]
  · split <;> rfl

@[simp] theorem State.maskNotice_lanes (s : State) (old : Mask) (gone : Option LaneId) : (s.maskNotice old gone).lanes = s.lanes := by
  unfold State.maskNotice; split <;> simp

/-- A lane that withdraws: withdrawn, its cause kept, its drive stopped, its tables as they were (R135, R153). -/
theorem State.lane_withdraw_self (s : State) (x : LaneId) (cause : Nat) (dump : Bool) :
    (s.withdraw x cause dump).lane x = (s.lane x).withdraw x cause dump s.tideMs := by
  simp [State.withdraw, State.lane, State.modLane]

theorem State.lane_withdraw_ne (s : State) {x y : LaneId} (cause : Nat) (dump : Bool) (h : y ≠ x) :
    (s.withdraw x cause dump).lane y = s.lane y := by
  simp [State.withdraw, State.lane, State.modLane, PerLane.get_modify_ne _ _ h]

/-- A lane that stops (R136). -/
theorem State.lane_stopLane_self (s : State) (x : LaneId) (cause : Nat) : (s.stopLane x cause).lane x = (s.lane x).stop x cause := by
  simp [State.stopLane, State.lane, State.modLane]

theorem State.lane_stopLane_ne (s : State) {x y : LaneId} (cause : Nat) (h : y ≠ x) : (s.stopLane x cause).lane y = s.lane y := by
  simp [State.stopLane, State.lane, State.modLane, PerLane.get_modify_ne _ _ h]

/-- A lane out of service drives nothing. -/
theorem Lane.withdraw_drives (l : Lane) (x : LaneId) (cause ms : Nat) (dump : Bool) : (l.withdraw x cause dump ms).io.drives = false := rfl
theorem Lane.stop_drives (l : Lane) (x : LaneId) (cause : Nat) : (l.stop x cause).io.drives = false := rfl
theorem Lane.withdraw_state (l : Lane) (x : LaneId) (cause ms : Nat) (dump : Bool) : (l.withdraw x cause dump ms).vt.state = .withdrawn := rfl
theorem Lane.stop_state (l : Lane) (x : LaneId) (cause : Nat) : (l.stop x cause).vt.state = .stopped := rfl

/-- An acknowledge changes the mailboxes alone; one that is refused also ends in a bus error (R298). -/
theorem State.ackOut_only (s : State) (n code : Nat) :
    s.ackOut n code = { s with mail := (s.ackOut n code).mail, sent := (s.ackOut n code).sent } := by
  by_cases h : (s.outBox n).state == .full <;> simp [State.ackOut, State.phRefused, State.busError, State.emit, corePh, h]

@[simp] theorem State.ackOut_basin (s : State) (n code : Nat) : (s.ackOut n code).basin = s.basin := by rw [State.ackOut_only]
@[simp] theorem State.ackOut_lanes (s : State) (n code : Nat) : (s.ackOut n code).lanes = s.lanes := by rw [State.ackOut_only]

end Sys2Proof.Machine
end

