-- ==== Sys2Proof/WellFormed.lean ====
section
/-! DEFINITION. Which commands are well formed. Register numbers, ports, lanes and cells carry their range in their type; what is
left to check are the operands that are plain numbers or lists. A command that is not well formed stands for no event of the
part: its meaning is stated all the same. -/

namespace Sys2Proof

/-- A basin address within the 512 MiB of R293. -/
def Placing.ok (p : Placing) : Bool := decide (p.addr < 0x20000000)

/-- An address of the receive area, region 1 of Table 12-1. -/
def inReceiveArea (a : BitVec 29) : Bool := decide (0x02000000 ≤ a.toNat) && decide (a.toNat < 0x08000000)

/-- An arrival that lies wholly within the basin (R293). -/
def Arrival.ok (a : Arrival) : Bool := decide (a.addr + a.len ≤ 0x20000000)

/-- A CAN frame: at most 64 data bytes in a CAN FD frame and 8 in a classical one (R282), an 11-bit identifier unless extended. -/
def CanFrame.ok (f : CanFrame) : Bool :=
  decide (f.data.length ≤ (if f.fd then 64 else 8)) && (f.ext || decide (f.ident.toNat ≤ 0x7FF))

/-- A KMP request whose count fits its data (R381). -/
def KmpReq.ok (r : KmpReq) : Bool := decide (r.data.length ≤ 1024)

/-- A slice item within its class (Table 13-9). -/
def sliceItemOk (c : SliceClass) (i : BitVec 8) : Bool := decide (i.toNat < c.items)

/-- Well-formed commands. -/
def Instr.wf : Instr → Bool
  | .dataTelegramReceive _ a _ => inReceiveArea a
  | .timeReqReceive _ a _ _ => inReceiveArea a
  | .timeRespReceive _ a _ => inReceiveArea a
  | .mirrorTelegramReceive _ _ p _ => p.ok
  | .ethernetFrameReceive _ _ p => p.ok
  | .canFrameReceive _ f p => f.ok && p.ok
  | .wireFrameReceive _ _ _ p => p.ok
  | .slotFrameReceive _ _ _ _ _ p => p.ok
  | .kmpRead r => r.ok
  | .kmpWrite r => r.ok
  | .basinRead r => r.ok
  | .basinWrite r => r.ok
  | .testSlice _ c i _ => sliceItemOk c i
  | _ => true

end Sys2Proof
end

