-- ==== Sys2Proof/Tests/Slice0.lean ====
section
/-! SUPPORT. Tests of one step on small states, words and bytes written out from the spec, ill-formed commands refused, and for every statement a state and
operands that meet its hypotheses together. -/

namespace Sys2Proof.Tests

open Sys2Proof Sys2Proof.Machine

/-! ## Small states -/

/-- A variable of a type and class. -/
def tVar (ty : VarType) (cls : VarClass) : VarEntry := { VarEntry.absent with ty := ty, cls := cls, limit := 5, prescaler := 100 }

/-- A term of an opcode with DST 1, source A 2 and source B 3, a constant where `bk`. -/
def tTerm (op : Op) (bk : Bool := false) : Term :=
  { op := op, dst := 1, srcA := 2, srcB := 3, chain := false, negA := false, negB := false, bk := bk }

/-- The LEVEL word of level 0. -/
def tLevel : Term := { op := .level, dst := 0, srcA := 0, srcB := 0, chain := false, negA := false, negB := false, bk := false }

/-- An image of one level whose cell 0 runs the words given. -/
def tImage (ws : List W64) : Image :=
  { noImage with tCycle := 20, freeze := 50, issue := 3, retainAge := 1, runs := [[ws.length]], terms := tLevel.encode :: ws, nConst := 8,
                 vars := [tVar .bool .inp, tVar .uint16 .reg, tVar .timer .reg, tVar .enum .reg, tVar .uint16 .par] }

/-- A lane that runs an image. -/
def tLane (m : Image) : Lane :=
  { Lane.reset with ls := { Sequencer.reset with slot0 := { ImageSlot.reset with mark := .active, image := some m }, running := true } }

/-- A block whose three lanes run an image, each changed alike. -/
def tState (m : Image) (f : Lane → Lane) : State := { State.reset with lanes := PerLane.all (f (tLane m)) }

/-- Cell 0 at a term, with an accumulator, a current buffer and constants. -/
def termState (t : Term) (acc : Option W16) (cur : Table 16) (consts : Table 32) : State :=
  tState (tImage [t.encode]) (fun l =>
    { l with pe := { l.pe with state := .sweeping, started := true, acc := Assoc.put none [] 0 acc, cur := cur, consts := consts } })

theorem termState_at (t : Term) (acc : Option W16) (cur : Table 16) (consts : Table 32) (h : Term.decode t.encode = some t) :
    (termState t acc cur consts).atTerm .a 0 (tImage [t.encode]) 1 t acc :=
  ⟨rfl, rfl, rfl, ⟨t.encode, rfl, h⟩, rfl, by cases acc <;> rfl⟩

/-- A case of the term statements: a state at a term of the opcode at which `p` holds. -/
def TermCase (op : Op) (p : Image → Engine → Term → Option W16 → Prop) : Prop :=
  ∃ t acc cur consts, (termState t acc cur consts).atTerm .a 0 (tImage [t.encode]) 1 t acc ∧ t.chain = false ∧ t.op = op ∧
    p (tImage [t.encode]) ((termState t acc cur consts).lane .a).pe t acc

/-- A lane in service with the cycle and mask of a running unit. -/
def serving (l : Lane) : Lane :=
  { l with vt := { l.vt with state := .inService, mask := PerLane.all true }, td := { l.td with cycle := 7, phase := .vote } }

/-- The outcome's next state. -/
def after (o : Out) : State := match o with
  | .next t => t
  | _ => State.reset

/-! ## Ill-formed commands -/

/-- A request of the maintenance port. -/
def tReq (addr : BitVec 32) (count : BitVec 16) (data : List Byte) : KmpReq :=
  { version := 1, tag := 0x1234, address := addr, count := count, data := data, requester := { ip := 0xC0A8FE02, port := 5000 } }

/-- An Ethernet frame to an address that holds `payload`. -/
def tEth (dst src : BitVec 32) (mac : BitVec 48) (dport : BitVec 16) (payload : List Byte) : EthFrame :=
  { port := 0, macDst := mac, macSrc := 0x020000000009, vlan := none, dst := dst, src := src, sport := 5000, dport := dport, whole := true,
    payload := payload }

/-- A CAN FD frame. -/
def tCan (ext remote : Bool) (ident : BitVec 29) (data : List Byte) : CanFrame :=
  { fd := true, brs := false, res := false, sound := true, ext := ext, ident := ident, remote := remote, data := data }

theorem test_wf_data : (Instr.dataTelegramReceive .a 0x08000000 false).wf = false := by decide
theorem test_wf_timeReq : (Instr.timeReqReceive .a 0x01FFFFFF false 0).wf = false := by decide
theorem test_wf_timeResp : (Instr.timeRespReceive .b 0x08000000 false).wf = false := by decide
theorem test_wf_mirror : (Instr.mirrorTelegramReceive .p27 [] ⟨0x20000000, 0⟩ (PerLane.all false)).wf = false := by decide
theorem test_wf_ethernet : (Instr.ethernetFrameReceive .a (tEth 0 0 0 0 []) ⟨0x20000000, 0⟩).wf = false := by decide
theorem test_wf_canLength : (Instr.canFrameReceive 0 (tCan false false 1 (List.replicate 65 0)) ⟨0, 0⟩).wf = false := by decide
theorem test_wf_canClassical : (Instr.canFrameReceive 0 { tCan false false 1 (List.replicate 9 0) with fd := false } ⟨0, 0⟩).wf = false := by decide
theorem test_wf_canIdent : (Instr.canFrameReceive 0 (tCan false false 0x800 []) ⟨0, 0⟩).wf = false := by decide
theorem test_wf_canPlace : (Instr.canFrameReceive 0 (tCan true false 0x800 []) ⟨0x20000000, 0⟩).wf = false := by decide
theorem test_wf_wire : (Instr.wireFrameReceive 0 [] false ⟨0x20000000, 0⟩).wf = false := by decide
theorem test_wf_slot : (Instr.slotFrameReceive 0 .e 0 [] 0 ⟨0x20000000, 0⟩).wf = false := by decide
theorem test_wf_kmp : ∀ c ∈ [Instr.kmpRead, Instr.kmpWrite, Instr.basinRead, Instr.basinWrite],
    (c (tReq 0 1 (List.replicate 1025 0))).wf = false := by decide +kernel
theorem test_wf_slice : (Instr.testSlice .a .groupElement 8 true).wf = false := by decide
theorem test_wf_good : (Instr.dataTelegramReceive .a 0x02000000 false).wf = true ∧ (Instr.canFrameReceive 0 (tCan true false 0x800 []) ⟨0, 0⟩).wf = true := by
  decide

/-! ## The Polder engine -/

/-- Words written out from the field positions of Table 3-2 and the opcodes of Table 3-3. -/
theorem test_termWords :
    Term.decode (BitVec.ofNat 64 (4 * 2 ^ 58 + 5 * 2 ^ 40 + 7 * 2 ^ 22)) =
      some { op := .mov, dst := 5, srcA := 7, srcB := 0, chain := false, negA := false, negB := false, bk := false } ∧
    Term.decode (BitVec.ofNat 64 (5 * 2 ^ 58 + 0x3FFFF * 2 ^ 40 + 1 * 2 ^ 22 + 2 * 2 ^ 4 + 8 + 2)) =
      some { op := .and, dst := 0x3FFFF, srcA := 1, srcB := 2, chain := true, negA := false, negB := true, bk := false } ∧
    Term.decode (BitVec.ofNat 64 (0x14 * 2 ^ 58 + 3 * 2 ^ 40 + 4 * 2 ^ 22 + 9 * 2 ^ 4 + 1)) =
      some { op := .ton, dst := 3, srcA := 4, srcB := 9, chain := false, negA := false, negB := false, bk := true } ∧
    Term.decode (BitVec.ofNat 64 (3 * 2 ^ 58)) = none := by decide

/-- R84: a TON with E = 0 gives q = c in the first evaluation; with E = 1 its count reads 2 and q is 1 in the second. -/
theorem test_tonCount : tonCount 0 0 1 = (1, true) ∧ tonCount 0 1 1 = (1, false) ∧ tonCount 1 1 1 = (2, true) := by decide

/-- R85: with E = 0 a TOF falls in the first cycle in which c is 0. -/
theorem test_tofCount : tofCount 1 0 0 = (0, false) ∧ tofCount 1 1 0 = (2, true) ∧ tofCount 2 1 0 = (0, false) := by decide

/-- R74: the third ADDS of six true inputs. -/
theorem test_addsSaturates : chainOp .adds 65535 1 = 65535 ∧ chainOp .adds 2 2 = 4 := by decide

theorem case_of (op : Op) (bk : Bool) (acc : Option W16) (cur : Table 16) (consts : Table 32) {p : Image → Engine → Term → Option W16 → Prop}
    (hd : Term.decode (tTerm op bk).encode = some (tTerm op bk))
    (hp : p (tImage [(tTerm op bk).encode]) ((termState (tTerm op bk) acc cur consts).lane .a).pe (tTerm op bk) acc) : TermCase op p :=
  ⟨tTerm op bk, acc, cur, consts, termState_at _ _ _ _ hd, rfl, rfl, hp⟩

theorem witness_PlainTermsWriteTheirValue :
    ∀ op ∈ [Op.nop, .mov, .eq, .ne, .lt, .le, .subs], TermCase op (fun _ _ _ _ => True) := by
  intro op h
  exact case_of op false none [] [] (by revert op; decide) trivial

theorem witness_ClosingTermsFoldTheAccumulator :
    ∀ op ∈ [Op.and, .or, .xor, .adds], TermCase op (fun _ _ _ acc => acc = none) ∧ TermCase op (fun _ _ _ acc => acc = some 1#16) := by
  intro op h
  exact ⟨case_of op false none [] [] (by revert op; decide) rfl, case_of op false (some 1#16) [] [] (by revert op; decide) rfl⟩

/-- A chained AND with one link before it, a MOV link. -/
def tLink (op : Op) : Term := { tTerm op with chain := true }

theorem witness_ChainsAndGuardsControlTheRun :
    (∀ op ∈ [Op.mov, .and, .or, .xor, .adds], (termState (tLink op) none [] []).atTerm .a 0 (tImage [(tLink op).encode]) 1 (tLink op) none ∧
      (tLink op).chain = true ∧ (tLink op).op ≠ .level) ∧
    TermCase .guard (fun m e t _ => operandA m e t = 0) ∧ TermCase .guard (fun m e t _ => operandA m e t ≠ 0) ∧
    (∀ t ∈ [tTerm .ton, tLink .xor], ∃ s : State, s.atSkipped .a 0 (tImage [t.encode]) t ∧ (t.chain = true ↔ t.op = .xor)) := by
  refine ⟨fun op h => ⟨termState_at _ _ _ _ (by revert op; decide), rfl, by revert op; decide⟩,
    case_of .guard false none [] [] (by decide) (by decide), case_of .guard false none [(2, 1)] [] (by decide) (by decide), fun t h =>
    ⟨(termState t none [] []).modLane .a (fun l => { l with pe := { l.pe with skip := [(0, 1)] } }),
      ⟨rfl, rfl, rfl, ⟨1, _, rfl, by revert t; decide⟩, (by decide : 0 < Assoc.get 0 [(0, 1)] 0)⟩, by revert t; decide⟩⟩

theorem witness_SelectTableAndCounterTerms :
    TermCase .sel (fun _ _ _ acc => condition acc = 1) ∧ TermCase .sel (fun _ _ _ acc => condition acc ≠ 1) ∧
    TermCase .lut (fun m e t _ => operandA m e t ≤ (Table.read e.consts t.constIdx).toNat / 65536 ∧ t.constIdx + 1 + operandA m e t < m.nConst) ∧
    TermCase .lut (fun m e t _ => (Table.read e.consts t.constIdx).toNat / 65536 < operandA m e t) ∧
    TermCase .lut (fun m e t _ => operandA m e t ≤ (Table.read e.consts t.constIdx).toNat / 65536 ∧ m.nConst ≤ t.constIdx + 1 + operandA m e t) ∧
    TermCase .ctu (fun _ _ _ acc => condition acc = 1) ∧ TermCase .ctu (fun m e t acc => condition acc ≠ 1 ∧ operandA m e t = 1) ∧
    TermCase .ctu (fun m e t acc => condition acc ≠ 1 ∧ operandA m e t ≠ 1) ∧ TermCase .ctd (fun _ _ _ acc => condition acc = 1) ∧
    TermCase .ctd (fun m e t acc => condition acc ≠ 1 ∧ operandA m e t = 1 ∧ 0 < (Table.read e.cur t.dst.toNat).toNat) ∧
    TermCase .ctd (fun m e t acc => condition acc ≠ 1 ∧ operandA m e t = 1 ∧ (Table.read e.cur t.dst.toNat).toNat = 0) := by
  refine ⟨case_of _ false (some 1) [] [] (by decide) (by decide), case_of _ false (some 0) [] [] (by decide) (by decide),
    case_of _ true none [(2, 3)] [(3, 0x40007)] (by decide) (by decide), case_of _ true none [(2, 5)] [(3, 0x40007)] (by decide) (by decide),
    case_of _ true none [(2, 4)] [(3, 0x40007)] (by decide) (by decide), case_of _ false (some 1) [] [] (by decide) (by decide),
    case_of _ false (some 0) [(2, 1)] [] (by decide) (by decide), case_of _ false none [] [] (by decide) (by decide),
    case_of _ false (some 1) [] [] (by decide) (by decide), case_of _ false none [(1, 1), (2, 1)] [] (by decide) (by decide),
    case_of _ false none [(2, 1)] [] (by decide) (by decide)⟩

theorem witness_LatchAndEdgeTerms :
    TermCase .sr (fun m e t _ => operandA m e t = 1) ∧ TermCase .sr (fun m e t _ => operandA m e t ≠ 1) ∧
    TermCase .rs (fun m e t _ => operandB m e t ≠ 0) ∧ TermCase .rs (fun m e t _ => operandB m e t = 0) ∧
    TermCase .rise (fun _ _ _ _ => True) ∧ TermCase .fall (fun _ _ _ _ => True) := by
  refine ⟨case_of _ false none [(2, 1)] [] (by decide) (by decide), case_of _ false none [] [] (by decide) (by decide),
    case_of _ false none [(3, 1)] [] (by decide) (by decide), case_of _ false none [] [] (by decide) (by decide),
    case_of _ false none [] [] (by decide) trivial, case_of _ false none [] [] (by decide) trivial⟩

theorem witness_TimerTermsCount :
    (∀ op ∈ [Op.ton, .tof, .tp], TermCase op (fun m e t _ => 65000 < effectivePreset m e t) ∧
      TermCase op (fun m e t acc => effectivePreset m e t = 65000 ∧ condition acc = 0) ∧
      TermCase op (fun m e t acc => effectivePreset m e t = 65000 ∧ condition acc = 1) ∧
      TermCase op (fun m e t acc => effectivePreset m e t = 100 ∧ condition acc = 0 ∧ (Table.read e.cur t.srcA.toNat).toNat = 100) ∧
      TermCase op (fun m e t acc => effectivePreset m e t = 100 ∧ condition acc = 0 ∧ (Table.read e.cur t.srcA.toNat).toNat = 101)) := by
  intro op h
  have hd : Term.decode (tTerm op true).encode = some (tTerm op true) := by revert op; decide
  exact ⟨case_of op true none [] [(3, 651)] hd (by revert op; decide), case_of op true none [] [(3, 650)] hd (by revert op; decide),
    case_of op true (some 1) [] [(3, 650)] hd (by revert op; decide), case_of op true none [(2, 100)] [(3, 1)] hd (by revert op; decide),
    case_of op true none [(2, 101)] [(3, 1)] hd (by revert op; decide)⟩

theorem witness_DelaysHoldForTheirPreset : 1 ≤ 1 ∧ (tonCount 0 0 1).2 = true ∧ (tofCount 1 1 0).2 = true := by decide

/-- Both cases of a result's limit: variable 3 is an ENUM with limit 5. -/
theorem witness_ResultsStayWithinTheirLimit :
    5 ≤ limitOf ((tImage []).var (3 : BitVec 18).toNat) ∧ ¬ 6 ≤ limitOf ((tImage []).var (3 : BitVec 18).toNat) := by decide

/-- A lane whose engine waits for its sweep. -/
def tReady : State := tState (tImage []) (fun l =>
  { serving l with pe := { l.pe with state := .waiting, sweepEn := true, freezeDone := true, copyDone := true } })

/-- An image of two empty levels, its second LEVEL word as given. -/
def twoLevels (w : W64) : Image := { tImage [] with runs := [[0], [0]], terms := [tLevel.encode, w] }

/-- The LEVEL word of the level barrier that follows level 0: right, with another level's number, no LEVEL word, and undefined (R61, R89). -/
theorem witness_LevelWords :
    (∀ w, let s := tState (twoLevels w) (fun l => { l with pe := { l.pe with state := .barrier } });
      (s.lane .a).image? = some (twoLevels w) ∧ (s.lane .a).pe.state = .barrier ∧ (s.lane .a).pe.level + 1 = 1 ∧
        (twoLevels w).terms[(twoLevels w).levelIndex 1]? = some w) ∧
    Term.decode { tLevel with srcB := 1 }.encode = some { tLevel with srcB := 1 } ∧ { tLevel with srcB := 1 }.levelNo = 1 ∧
    Term.decode tLevel.encode = some tLevel ∧ tLevel.levelNo ≠ 1 ∧ Term.decode (tTerm .mov).encode = some (tTerm .mov) ∧
    Term.decode (BitVec.ofNat 64 (3 * 2 ^ 58)) = none := by
  refine ⟨fun w => ⟨rfl, rfl, rfl, rfl⟩, by decide, by decide, by decide, by decide, by decide, by decide⟩

/-- Words inside a run that end it: any that is undefined or a LEVEL word. -/
theorem witness_FaultyTerms (w : W64) :
    let s := tState (tImage [w]) (fun l => { l with pe := { l.pe with state := .sweeping, started := true } });
    (s.lane .a).image? = some (tImage [w]) ∧ (s.lane .a).pe.state = .sweeping ∧ (s.lane .a).pe.started = true ∧
      nextWord (tImage [w]) (s.lane .a).pe (0 : Fin 16) = some (1, w) := ⟨rfl, rfl, rfl, rfl⟩

theorem witness_SweepLevelFaultAndCopy :
    ((tReady.lane .a).pe.sweepEn = true ∧ (tReady.lane .a).evaluates = true ∧ (tReady.lane .a).pe.state = .waiting ∧
      (tReady.lane .a).pe.freezeDone = true ∧ (tReady.lane .a).pe.copyDone = true ∧ tReady.changeDue .a = false) ∧
    (let s := tState (tImage []) (fun l => { l with pe := { l.pe with state := .sweeping } });
      (s.lane .a).image? = some (tImage []) ∧ (s.lane .a).pe.state = .sweeping ∧ (s.lane .a).pe.started = false ∧
      (tImage []).terms[(tImage []).levelIndex 0]? = some tLevel.encode ∧ Term.decode tLevel.encode = some tLevel ∧ tLevel.op = .level ∧
      tLevel.levelNo = 0) ∧
    ((tState (tImage []) (fun l => { l with pe := { l.pe with copyDone := false } })).lane .a).pe.copyDone = false := by
  refine ⟨⟨rfl, rfl, rfl, rfl, rfl, by decide⟩, ⟨rfl, rfl, rfl, rfl, by decide, rfl, by decide⟩, rfl⟩

/-! ## Vital inputs and outputs -/

/-- An image with a pulsed input on channel 0, a plain input on channel 1, outputs 0 to 2 and pulse source 24. -/
def ioImage : Image :=
  { tImage [] with inputs := [⟨true, true, 3, 24, 0⟩, ⟨true, false, 1, 0xFF, 0⟩],
                   outputs := [⟨true, false, false, false, 3⟩, ⟨true, false, true, false, 3⟩] ++ List.replicate 22 ⟨false, false, false, false, 0⟩ ++
                     [⟨true, true, false, false, 0⟩] }

/-- A driving lane in service whose sequencer runs. -/
def driving (l : Lane) : Lane :=
  { serving l with rc := { l.rc with released := 0xFF, opts := { l.rc.opts with unitId := 3 } }, io := { l.io with drives := true, toggle := 1 } }

def ioState : State := tState ioImage driving

/-- R230: with N = 3 the filtered value rises at the third sample of 1. -/
theorem test_filter : filterStep 3 2 false true = (3, true) ∧ filterStep 3 1 false true = (2, false) ∧ filterStep 3 1 true false = (0, false) ∧
    filterStep 1 0 false true = (1, true) := by decide

theorem witness_InputSampleFiltersEveryUsedChannel :
    onBit (ioState.lane .a).rc.released 3 = true ∧ ((ioState.lane .a).image.input 1).used = true ∧ onBit (ioState.lane .a).io.xcirc 1 = false ∧
    ((ioState.lane .a).image.input 2).used = false ∧
    (let s := ioState.modLane .a (fun l => { l with io := { l.io with xcirc := 1 } });
      ((s.lane .a).image.input 0).used = true ∧ onBit (s.lane .a).io.xcirc 0 = true ∧ onBit (s.lane .a).rc.released 3 = true) ∧
    (ioState.lane .a).vt.state ≠ .joining ∧ (ioState.lane .a).vt.state ≠ .base ∧ (ioState.lane .a).vt.state ≠ .catchUp ∧
    (let s := ioState.modLane .a (fun l => { l with vt := { l.vt with state := .catchUp } });
      onBit (s.lane .a).rc.released 3 = true ∧ (s.lane .a).vt.state = .catchUp) := by
  refine ⟨by decide, rfl, by decide, rfl, ⟨rfl, by decide, by decide⟩, by decide, by decide, by decide, by decide, rfl⟩

/-- R16, R233 to R235: a network conducts through two lanes whose elements conduct and through none alone; an asserted quench opens its element; an output lies in
series with its group. -/
theorem test_conduction :
    let on := fun (k : Nat) => { LaneIO.reset with toggle := BitVec.ofNat 32 (2 ^ k), toggleFreq := 10, groupDrive := 1 }
    let unit := fun (a b c : LaneIO) => ({ State.reset with lanes := ⟨{ Lane.reset with io := a }, { Lane.reset with io := b }, { Lane.reset with io := c }⟩ } : State)
    (unit (on 0) (on 0) (on 1)).outputConducts 0 = true ∧ (unit (on 0) (on 1) (on 1)).outputConducts 0 = false ∧
    (unit (on 0) { on 0 with quench := 1 } (on 1)).outputConducts 0 = false ∧ (unit (on 0) { on 0 with toggleFreq := 9 } (on 1)).outputConducts 0 = false ∧
    (unit (on 0) { on 0 with groupQuench := 1 } { on 1 with groupDrive := 0 }).outputConducts 0 = false := by decide

theorem witness_DarkWindowsFindCrossCircuits :
    ((ioState.lane .b).inService = true ∧ ((ioState.lane .b).image.output 24).pulse = true ∧ (ioState.lane .b).io.drives = true) ∧
    (let e := (ioState.lane .a).image.input 0; e.used = true ∧ e.pulsed = true ∧ e.source = 24 + (0 : Fin 8).val ∧
      onBit (1#64) 0 = true ∧ onBit (0#64) 0 = false) ∧
    (let s := ioState.modLane .a (fun l => { l with io := { l.io with xcirc := 1, xzeros := [(0, 2)], dark := 1 } });
      onBit (s.lane .a).io.xcirc 0 = true ∧ onBit (s.lane .a).io.dark (0 : Fin 8).val = true ∧ ¬ Assoc.get 0 (s.lane .a).io.xzeros 0 < 2) := by
  refine ⟨⟨rfl, rfl, rfl⟩, ⟨rfl, rfl, rfl, by decide, by decide⟩, by decide, by decide, by decide⟩

/-- A test window on output 0. -/
def tWindow (on begun ended pass : Bool) (others : BitVec 32) : TestWindow :=
  { channel := 0, onPulse := on, begun := begun, ended := ended, pass := pass, high := false, others := others }

/-- Lane A with an open test window. -/
def winState (w : TestWindow) : State := ioState.modLane .a (fun l => { l with io := { l.io with window := some w } })

theorem witness_TestPulsesFollowTheirPattern :
    (let l := ioState.lane .a; l.inService = true ∧ (l.image.output 0).used = true ∧ (l.image.output 0).pulse = false ∧
      l.io.testable l.image ioState.sleeps 0 = true ∧ (l.image.output 1).used = true ∧ (l.image.output 1).pulse = false ∧
      l.io.testable l.image ioState.sleeps 1 = false ∧ (l.image.output 24).pulse = true) ∧
    ((winState (tWindow true false false false 0)).lane .a).io.window = some (tWindow true false false false 0) ∧
    ((winState (tWindow false true false false 0)).lane .a).io.window = some (tWindow false true false false 0) := by
  refine ⟨⟨rfl, rfl, rfl, by decide, rfl, rfl, by decide, rfl⟩, rfl, rfl⟩

theorem witness_TestWindowsJudgeTheirChannel :
    ∀ w ∈ [tWindow false true true true 0, tWindow false true true false 0, tWindow true true true false 0, tWindow false true true true (BitVec.ofNat 32 (2 ^ 31))],
      ((winState w).lane .a).io.window = some w ∧ w.channel = (0 : Fin 32).val ∧ w.ended = true := by
  intro w h
  exact ⟨rfl, by revert w; decide, by revert w; decide⟩

theorem witness_OvercurrentPausesAndRetries :
    (onBit (ioState.lane .a).io.toggle 0 = true ∧ onBit (ioState.lane .a).io.quench 0 = false ∧ Assoc.get 0 (ioState.lane .a).io.ocRun 0 = 0) ∧
    (let s := ioState.modLane .a (fun l => { l with io := { l.io with ocRun := [(0, 3)], paused := 1, latched := 1, groupCause := [(0, 1)] },
                                                    td := { l.td with tide := 10000 * 100000 } });
      onBit (s.lane .a).io.toggle 0 = true ∧ onBit (s.lane .a).io.quench 0 = false ∧ 3 ≤ Assoc.get 0 (s.lane .a).io.ocRun 0 ∧ (s.lane .a).io.driven 0 = true ∧
      onBit (s.lane .a).io.paused 0 = true ∧ Assoc.get 0 (s.lane .a).io.driveBegin 0 + 10000 ≤ (s.lane .a).ms ∧
      onBit (s.lane .a).io.latched 0 = true ∧ Assoc.get 0 (s.lane .a).io.groupCause 0 = 1) := by
  refine ⟨⟨by decide, by decide, rfl⟩, by decide, by decide, by decide, by decide, by decide, by decide, by decide, rfl⟩

/-! ## The vote, the gauge and the tide exchange -/

/-- A gauge message. -/
def tGauge (x : LaneId) (g : BitVec 128) : GaugeMsg :=
  { sender := x, test := false, candidate := false, leaving := false, mask := PerLane.all true, cycle := 7, gauge := g, echo := 0 }

/-- A vote of lane A that has received gauges of B and C. -/
def tVote (mask : Mask) (b c : Option (BitVec 128)) : Vote :=
  { Vote.reset with state := .inService, mask := mask, windowOpen := true, own := some 1,
                    got := { a := none, b := b.map (tGauge .b), c := c.map (tGauge .c) } }

def all3 : Mask := PerLane.all true
def onlyAB : Mask := { a := true, b := true, c := false }

/-- Table 6-5, row by row. -/
theorem test_decisions :
    (tVote all3 (some 1) (some 1)).decide3 .a 1 = .continue_ none ∧ (tVote all3 (some 1) (some 2)).decide3 .a 1 = .continue_ (some .c) ∧
    (tVote all3 none (some 1)).decide3 .a 1 = .continue_ (some .b) ∧ (tVote all3 (some 2) (some 2)).decide3 .a 1 = .minority ∧
    (tVote all3 (some 2) (some 3)).decide3 .a 1 = .stop 1 ∧ (tVote all3 (some 2) none).decide3 .a 1 = .stop 3 := by decide

theorem witness_DecisionsFollowTheMask :
    (∀ v ∈ [tVote all3 (some 1) (some 1), tVote all3 (some 1) none, tVote all3 none (some 1), tVote all3 (some 2) (some 2), tVote all3 (some 2) (some 3),
        tVote all3 (some 2) none], v.inMask .a = [.b, .c] ∧ v.disagree.get .b = 0 ∧ v.disagree.get .c = 0) ∧
    (∀ v ∈ [tVote onlyAB (some 1) none, tVote onlyAB (some 2) none, tVote onlyAB none none],
        v.inMask .a = [.b] ∧ v.disagree.get .a = 0 ∧ v.disagree.get .b = 0) ∧ (tVote { onlyAB with b := false } none none).inMask .a = [] := by decide

/-- Lane A with a vote. -/
def voteState (v : Vote) : State :=
  tState (tImage []) (fun l => { serving l with vt := v, pe := { l.pe with state := .complete, prev := [(0, 1)], cur := [(0, 2)], next := [(0, 3)] } })

theorem witness_WindowCloseActsOnTheDecision :
    ∀ v ∈ [tVote all3 (some 1) (some 1), tVote all3 (some 2) (some 2), tVote all3 (some 2) (some 3)],
      let l := (voteState v).lane .a
      l.vt.own = some 1 ∧ l.vt.state = .inService ∧ l.vt.windowOpen = true ∧ (1949999#32).toNat < l.image.deadlineTicks ∧ l.vt.allIn .a = true := by
  decide

theorem witness_WindowCloseTimesOut :
    let l := (voteState (tVote all3 (some 1) none)).lane .a
    l.vt.allIn .a = false ∧ l.td.tScan + 200000 ≤ (200000#32).toNat ∧ l.vt.decide3 .a 1 = .continue_ (some .c) := by decide

theorem witness_GaugeScanSendsTheGauge :
    ∀ st ∈ [LaneState.inService, .candidate, .independent],
      let l := (voteState { Vote.reset with state := st, mask := all3 }).lane .a
      l.pe.state = .complete ∧ l.vt.own = none ∧ l.vt.heldTest = none ∧ (1949999#32).toNat < l.image.deadlineTicks ∧ l.vt.state = st := by
  intro st h
  exact ⟨rfl, rfl, rfl, by revert st; decide, rfl⟩

/-- R131, Table 6-4: the bytes of a GAUGE message of lane B in cycle 7: type 0x01, sender 0x02, flags, the mask of three lanes, cycle, gauge, echo, reserved. -/
theorem test_gaugeFrame :
    (tGauge .b 5).frame.take 32 = [1, 2, 0, 7, 0, 0, 0, 0, 0, 0, 0, 7, 0, 0, 0, 0, 0, 0, 0, 0, 0, 0, 0, 0, 0, 0, 0, 5, 0, 0, 0, 0] ∧
    (tGauge .b 5).frame.length = 36 := by decide +kernel

theorem witness_GaugeReceiveHoldsOrWithdraws :
    (∀ m ∈ [tGauge .b 5, { tGauge .b 5 with echo := 1 }, { tGauge .b 5 with mask := { a := false, b := true, c := true } }, { tGauge .b 5 with candidate := true },
        { tGauge .b 5 with test := true }],
      linkFrameOk m.frame = true ∧ gaugeFrom .a .b m.frame = some m ∧ m.cycle = 7) ∧
    linkFrameOk [] = false ∧ (linkFrameOk (tGauge .c 5).frame = true ∧ gaugeFrom .a .b (tGauge .c 5).frame = none) ∧
    (let l := (voteState (tVote all3 none none)).lane .a;
      l.vt.state = .inService ∧ l.td.cycle = 7 ∧ l.vt.testSent = false ∧ l.vt.mask.get .b = true ∧ (tGauge .b 5).mask.get .a = true) ∧
    ((voteState { tVote all3 none none with testSent := true }).lane .a).vt.testSent = true := by
  decide +kernel

theorem witness_TestGaugeChecksTheComparator :
    let l := (voteState (tVote all3 none none)).lane .a
    let held := (voteState { tVote all3 none none with own := none }).lane .a
    (∀ m ∈ [{ tGauge .b 5 with test := true }, { tGauge .b 1 with test := true }],
      linkFrameOk m.frame = true ∧ gaugeFrom .a .b m.frame = some m ∧ m.test = true ∧ m.cycle = l.td.cycle) ∧
    l.vt.state = .inService ∧ l.vt.own = some 1 ∧ held.vt.own = none ∧ held.vt.state = .inService ∧ held.td.cycle = 7 := by decide +kernel

theorem witness_OutputDeadlineEndsTheCycle :
    (let s := voteState (tVote all3 none none); (s.lane .a).vt.state = .inService ∧ (s.lane .a).td.phase ≠ .none ∧ (s.lane .a).td.phase ≠ .late ∧
      (s.lane .a).td.pastD = false ∧ (s.lane .a).vt.committed ≠ some (s.lane .a).td.cycle ∧
      ∀ y ∈ LaneId.a.peers, s.mayCommit y (s.lane .a).td.cycle = true) ∧
    (let s := (voteState (tVote all3 none none)).modLane .b (fun l => { l with vt := { l.vt with state := .stopped } });
      (s.lane .a).vt.committed ≠ some (s.lane .a).td.cycle ∧ ∃ y ∈ LaneId.a.peers, s.mayCommit y (s.lane .a).td.cycle = false) ∧
    ((voteState (tVote all3 none none)).modLane .a (fun l => { l with td := { l.td with pastD := true } }) |>.lane .a).td.pastD = true ∧
    (let s := { tState (tImage []) (fun l => { serving l with vt := { (serving l).vt with committed := some 7 },
                                                              td := { (serving l).td with phase := .committed } }) with
                unit := { UnitState.reset with role := .watcher } };
      (s.lane .a).vt.state = .inService ∧ (s.lane .a).td.phase = .committed ∧ (s.lane .a).vt.committed = some (s.lane .a).td.cycle ∧ (s.lane .a).td.pastD = false ∧
        s.unit.role = .watcher) := by
  refine ⟨⟨rfl, by decide, by decide, rfl, by decide, by decide⟩, ⟨by decide, .b, by decide, by decide⟩, rfl, rfl, rfl, rfl, rfl, rfl⟩

theorem witness_TideMessagesFormTheAgreedTide :
    (let s := tState (tImage []) serving; (s.lane .a).vt.state = .inService ∧ (s.lane .a).vt.mask.get .b = true ∧ LaneId.c ∈ s.tidePeers .a ∧
      (LaneId.c ≠ .b) ∧ (s.lane .a).td.rx.get .c = none) ∧
    (let s := (tState (tImage []) serving).modLane .a (fun l => { l with vt := { l.vt with mask := { a := true, b := false, c := true } } });
      (s.lane .a).vt.state = .inService ∧ (s.lane .a).vt.mask.get .b = false ∧ (s.lane .b).vt.joinCycle = none) ∧
    (let s := tState (tImage []) (fun l => { serving l with td := { (serving l).td with rx := PerLane.all (some (4, 0)) } });
      (s.lane .a).vt.state = .inService ∧ (s.lane .a).vt.mask.get .b = true ∧ ∀ y ∈ s.tidePeers .a, y ≠ .b → ((s.lane .a).td.rx.get y).isSome = true) := by
  refine ⟨⟨rfl, rfl, by decide, by decide, rfl⟩, ⟨rfl, rfl, rfl⟩, rfl, rfl, by decide⟩


/-! ## Cycle, sessions and telegrams -/

/-- A unit with a role and lanes in service with an image. -/
def unitState (r : Role) (m : Image) (f : Lane → Lane) : State :=
  { tState m (fun l => f (serving l)) with unit := { UnitState.reset with role := r }, ph := { Pumphouse.reset with released := 0x7F, fwOk := true } }

theorem witness_TideMarkBeginsTheCycle :
    let s := unitState .watcher (tImage []) id;
    s.unit.role = .watcher ∧ (s.lane .a).vt.state = .inService ∧ (s.lane .a).vt.leaving = false ∧ (s.lane .a).pe.copyDone = true := by decide

theorem witness_FreezePointWritesTheInputs :
    let s := unitState .watcher (tImage []) (fun l => { l with td := { l.td with phase := .input } });
    s.unit.role ≠ .sleeper ∧ s.freezeDue .a = true ∧ 4 < (s.lane .a).image.vars.length ∧ ((s.lane .a).image.var 4).cls = .par := by decide

/-- A ring session 5 that receives two bytes from node 0 of ring 1 and sends two, and a NET2 session 6. -/
def tSess (sid : Nat) (tr : Transport) : SessEntry :=
  { sid := sid, transport := tr, rx := true, tx := true, legacy := none, peer := 0x33, partner := 0, port := 1, node := 0, maxAge := 10000,
    staleK := 3, pairWin := 4, latency := 0, timeout := 3, rxLen := 2, txLen := 2, rxMap := [⟨3, 0, 16, 0⟩], txMap := [], addrA := 0, addrB := 0,
    udp := 0, vlan := 0, canTx := 0, canRx := 0, partnerA := 0, partnerB := 0 }

def sessImage : Image := { tImage [] with sessions := [tSess 5 .ring, tSess 6 .net2] }

/-- A lane with a context of session 5. -/
def withCtx (c : SessCtx) (l : Lane) : Lane :=
  { l with rc := { l.rc with opts := { l.rc.opts with unitId := 3 } }, ts := { l.ts with ctx := [(5, c), (6, { SessCtx.reset with state := .notEst })] } }

theorem witness_SessionsEndAtTheirTimeout :
    (∀ st ∈ [SessState.valid, .senderFault],
      let l := (unitState .watcher sessImage (withCtx { SessCtx.reset with state := st, timeout := 2 })).lane .a;
      let c := l.ts.at (5 : Fin 1024).val;
      l.image.session (5 : Fin 1024).val = some (tSess 5 .ring) ∧ (tSess 5 .ring).sid = (5 : Fin 1024).val ∧ l.evaluates = true ∧
        l.pe.freezeDone = false ∧ c.cand = none ∧ c.resp = none ∧ (tSess 5 .ring).timeout ≤ c.timeout + 1 ∧ c.state = st) ∧
    (let l := (unitState .watcher sessImage (fun l => { withCtx { SessCtx.reset with state := .valid, ref := some ⟨0, 0, 6⟩ } l with
        td := { l.td with cycle := 1030 } })).lane .a;
      (l.ts.at 5).ref = some ⟨0, 0, 6⟩ ∧ 6 + 1024 ≤ l.td.cycle) := by decide

/-- The telegram of lanes A and B with a type, session, sequence number and payload, under epoch 0, as unit 3 receives it: its seals are those of
R165 and R166 over its header with SEAL_PAIR 0. -/
def tTele (ty sid seq : Nat) (payload : List Byte) : List Byte :=
  let h := teleHeader ty sid seq 1 payload.length 0 0 false
  h.take 1 ++ be 1 0x40 ++ h.drop 2 ++ payload ++ be 4 (sealOf none .a (3, 4) h payload) ++ be 4 (sealOf none .b (3, 4) h payload)

/-- What the pumphouse notes of a telegram at 0x02001000. -/
def tPlace (b : List Byte) (p : Path) : Arrival := { addr := 0x02001000, len := b.length, stamp := 5, path := p, unreadable := false }

/-- A unit whose receive area holds a telegram at 0x02001000, with a context of sessions 5 and 6. -/
def arrivedWith (c : SessCtx) (r : Role) (p : Path) (b : List Byte) : State :=
  { unitState r sessImage (withCtx c) with basin := Memory.writeN [] 0x02001000 b, recv := [(0x02001000, some (tPlace b p))] }

def arrived (r : Role) (p : Path) (b : List Byte) : State := arrivedWith { SessCtx.reset with state := .notEst } r p b

theorem arrived_arrivalAt (c : SessCtx) (r : Role) (p : Path) (b : List Byte) :
    (arrivedWith c r p b).arrivalAt (0x02001000#29).toNat false = some (tPlace b p) := rfl

/-- The receive area keeps an arrival whole for 16 cycles: what comes at its address is placed behind it (R151). -/
theorem test_freePlace :
    (arrived .watcher (.ring 0 0) [1, 2]).freePlace ⟨0x02001001, 6⟩ 3 = 0x02001002 ∧
    (arrived .watcher (.ring 0 0) [1, 2]).freePlace ⟨0x02001002, 6⟩ 3 = 0x02001002 ∧
    (arrived .watcher (.ring 0 0) [1, 2]).freePlace ⟨0x02001001, 6 + 16 * 2000000⟩ 3 = 0x02001001 := by decide

/-- What the checks give as options. -/
def found (r : Except (Nat × Nat) (Tele × SessEntry)) : Option (Tele × SessEntry) := match r with
  | .ok p => some p
  | .error _ => none

def refused (r : Except (Nat × Nat) (Tele × SessEntry)) : Option (Nat × Nat) := match r with
  | .ok _ => none
  | .error p => some p

theorem ok_of_found {r : Except (Nat × Nat) (Tele × SessEntry)} {p : Tele × SessEntry} (h : found r = some p) : r = .ok p := by
  cases r <;> simp_all [found]

theorem error_of_refused {r : Except (Nat × Nat) (Tele × SessEntry)} {p : Nat × Nat} (h : refused r = some p) : r = .error p := by
  cases r <;> simp_all [refused]

/-- The frame that a telegram's checks give: the telegram's fields and its session, and the codes of Table 7-8 in order. -/
theorem test_checkFrame :
    found (checkFrame sessImage 3 (.ring 0 0) (tTele 1 5 9 [1, 2])) = some (Tele.ofBytes 4 (tTele 1 5 9 [1, 2]), tSess 5 .ring) ∧
    refused (checkFrame sessImage 3 (.ring 0 1) (tTele 1 5 9 [1, 2])) = some (5, 3) ∧
    refused (checkFrame sessImage 5 (.ring 0 0) (tTele 1 5 9 [1, 2])) = some (5, 2) ∧
    refused (checkFrame sessImage 3 (.ring 0 0) []) = some (0, 1) := by decide +kernel

/-- What a lane reads of the telegram at 0x02001000. -/
def tRead (s : State) (b : List Byte) (p : Path) : List Byte := (s.basinRead LaneId.a.num (tPlace b p).addr (tPlace b p).len).2

theorem witness_DataTelegramsAreAcceptedOnce :
    State.reset.arrivalAt (0x02001000#29).toNat true = none ∧
    (∀ u : Bool, let s := arrived .watcher (.ring 0 0) [1]; ∃ a, s.arrivalAt (0x02001000#29).toNat u = some a ∧ (s.lane .a).evaluates = true) ∧
    (((arrived .watcher (.ring 0 0) []).modLane .a (fun l => { l with vt := { l.vt with state := .base } })).lane .a).vt.state = .base ∧
    (let a := { tPlace [1] (.ring 0 0) with stamp := 8 * 2000000 }; let s := { arrived .watcher (.ring 0 0) [1] with recv := [(0x02001000, some a)] };
      s.arrivalAt (0x02001000#29).toNat false = some a ∧ (s.lane .a).evaluates = true ∧ (s.lane .a).nextFreeze (s.lane .a).image ≤ a.stamp) ∧
    (let b := tTele 1 5 9 [1, 2]; let s := arrived .watcher (.ring 0 1) b; let l := s.lane .a;
      (tPlace b (.ring 0 1)).stamp < l.nextFreeze l.image ∧ checkFrame l.image l.rc.opts.unitId (.ring 0 1) (tRead s b (.ring 0 1)) = .error (5, 3)) := by
  refine ⟨rfl, fun u => ⟨_, rfl, rfl⟩, rfl, ⟨rfl, rfl, by decide⟩, by decide, error_of_refused (by decide +kernel)⟩

/-- The telegram of session 5 whose acceptance is checked, in what a lane with a context reads of it. -/
def tData : List Byte := tTele 1 5 9 [1, 2]

theorem arrived_lane (c : SessCtx) :
    let l := (arrivedWith c .watcher (.ring 0 0) tData).lane .a
    l.image = sessImage ∧ l.rc.opts.unitId = 3 ∧ l.evaluates = true ∧ l.ts.at 5 = c ∧ (tPlace tData (.ring 0 0)).stamp < l.nextFreeze l.image := by
  refine ⟨rfl, rfl, rfl, rfl, ?_⟩
  show 5 < (tImage []).freezeAt 7
  decide

theorem arrived_read (c d : SessCtx) :
    tRead (arrivedWith c .watcher (.ring 0 0) tData) tData (.ring 0 0) = tRead (arrivedWith d .watcher (.ring 0 0) tData) tData (.ring 0 0) := by
  unfold tRead State.basinRead
  split <;> rfl

theorem arrived_passes : tRead (arrived .watcher (.ring 0 0) tData) tData (.ring 0 0) = tData ∧
    found (checkFrame sessImage 3 (.ring 0 0) tData) = some (Tele.ofBytes 4 tData, tSess 5 .ring) := by decide +kernel

/-- What check 4 finds of that telegram in a context under known ring epochs, and what holds there. -/
def tChecked (c : SessCtx) (ring : Assoc Nat) (low : Bool) (p : SessCtx → Tele → SessEntry → Prop) : Prop :=
  epochLow (tSess 5 .ring) c ring (Tele.ofBytes 4 tData) = low ∧ p c (Tele.ofBytes 4 tData) (tSess 5 .ring)

/-- Checks 4 to 6 and acceptance: a low epoch, a repeated sequence, an alive counter that has stood still, a telegram accepted, in a session's first and under a
higher epoch's. -/
theorem witness_DataChecks :
    tChecked { SessCtx.reset with state := .notEst } [(0, 1)] true (fun _ _ _ => True) ∧
    tChecked { SessCtx.reset with state := .valid, lastSeq := some 9 } [] false (fun c t _ => ¬ c.peerEpoch < t.epoch ∧ later t.seq 9 = false) ∧
    tChecked { SessCtx.reset with state := .valid, lastSeq := some 8, lastAlive := some 1, stale := 2 } [] false
      (fun c t e => t.seq ≠ 0 ∧ later t.seq 8 = true ∧ c.lastAlive = some t.alive ∧ e.staleK ≤ c.stale + 1) ∧
    tChecked { SessCtx.reset with state := .valid, lastSeq := some 8, lastAlive := some 0 } [] false
      (fun c t e => e.transport ≠ .net2 ∧ t.seq ≠ 0 ∧ later t.seq 8 = true ∧ c.lastAlive ≠ some t.alive ∧ 0 < e.staleK ∧ c.state ≠ .senderFault) := by
  refine ⟨⟨?_, trivial⟩, ⟨?_, ?_⟩, ⟨?_, ?_⟩, ⟨?_, ?_⟩⟩ <;> decide +kernel

/-- A held first copy. -/
def tFirst : FirstCopy := { addr := 0, stamp := 1, netB := false, tele := [], paired := false, closed := false }

/-- A telegram of the NET2 session on network B, whose COPY bit is 1 there. -/
def tCopyB (b : List Byte) : List Byte := b.take 1 ++ be 1 (getByte b 1 + 16) ++ b.drop 2

/-- The held first copy of a NET2 telegram and its copy: a complete pair, one after the window, an equal copy and a different one. -/
theorem witness_DataCopies :
    let one := tTele 1 6 9 [1, 2]; let t := Tele.ofBytes 4 (tCopyB one);
    let f := fun (p : Bool) (b : List Byte) => ({ tFirst with paired := p, tele := b } : FirstCopy);
    (tSess 6 .net2).transport = .net2 ∧ t.ty = 1 ∧
    found (checkFrame sessImage 3 (.net2 true) (tCopyB one)) = some (t, tSess 6 .net2) ∧
    (f true one).matches t true = true ∧ (f false one).matches t true = true ∧ (f false one).stamp + 4 * 100000 ≤ 400001 ∧
    5 < (f false one).stamp + 4 * 100000 ∧ withoutCopy one = withoutCopy (tCopyB one) ∧
    (f false (tTele 1 6 9 [1, 3])).matches t true = true ∧ withoutCopy (tTele 1 6 9 [1, 3]) ≠ withoutCopy (tCopyB one) := by
  decide +kernel

/-- What a lane finds of a TIME telegram on safety network A. -/
def tTook (s : State) (ty : Nat) (b : List Byte) : Lane × Option (Tele × SessEntry) :=
  ((s.lane .a).defer (s.lane .a).image (tPlace b (.net2 false)).stamp).takeTime (s.lane .a).image (s.lane .a).rc.opts.unitId s.unit.ringEpoch ty
    (tPlace b (.net2 false)) (s.basinRead LaneId.a.num (tPlace b (.net2 false)).addr (tPlace b (.net2 false)).len).2

theorem pair_of_snd {α β : Type} {p : α × Option β} {q : β} (h : p.2 = some q) : p = (p.1, some q) := by
  rw [← h]

theorem witness_TimeTelegramsAndCopyWindows :
    (∀ p : Bool, let f := { tFirst with paired := p };
      let l := (unitState .watcher sessImage (withCtx { SessCtx.reset with firstData := some f, firstTime := some f })).lane .a;
      (l.ts.at (5 : Fin 1024).val).firstData = some f ∧ (l.ts.at (5 : Fin 1024).val).firstTime = some f ∧ f.paired = p ∧ f.closed = false) ∧
    (∀ ty ∈ [2, 3], let b := tTele ty 6 0 (if ty = 3 then be 8 77 ++ be 8 99 else []); let s := arrived .watcher (.net2 false) b;
      (s.lane .a).vt.state = .inService ∧ s.sleeps = false ∧ s.arrivalAt (0x02001000#29).toNat false = some (tPlace b (.net2 false)) ∧
        (tPlace b (.net2 false)).stamp < (s.lane .a).nextFreeze (s.lane .a).image ∧
        tTook s ty b = ((tTook s ty b).1, some (Tele.ofBytes 4 b, tSess 6 .net2)) ∧
        (tTook s ty b).1.outstanding (s.lane .a).image (tSess 6 .net2) 5 = 0) ∧
    (let b := tTele 3 6 0 (be 8 77 ++ be 8 99);
      let s := (arrived .watcher (.net2 false) b).modLane .a (fun l =>
        { l with ts := { l.ts with ctx := [(6, { SessCtx.reset with state := .notEst, reqStamp := 77 })] } });
      (tTook s 3 b).2 = some (Tele.ofBytes 4 b, tSess 6 .net2) ∧ (tTook s 3 b).1.outstanding (s.lane .a).image (tSess 6 .net2) 5 = 77 ∧
        getBE (Tele.ofBytes 4 b).payload 0 8 = 77) := by
  refine ⟨by decide, ?_, by decide +kernel⟩
  intro ty h
  have h' : (let b := tTele ty 6 0 (if ty = 3 then be 8 77 ++ be 8 99 else []); let s := arrived .watcher (.net2 false) b;
      (tTook s ty b).2 = some (Tele.ofBytes 4 b, tSess 6 .net2) ∧ (tTook s ty b).1.outstanding (s.lane .a).image (tSess 6 .net2) 5 = 0) := by
    revert ty; decide +kernel
  exact ⟨rfl, rfl, arrived_arrivalAt _ _ _ _, (by decide : 5 < (tImage []).freezeAt 7), pair_of_snd h'.1, h'.2⟩

/-- Seals of lanes A and B handed over for mirror segment 0 of cycle 7. -/
def tHanded (x : LaneId) : Handed :=
  { lane := x, sid := 0, kind := 8, seg := 0, cycle := 7, header := be 1 0x38 ++ be 23 0, payload := be 8 1, sealVal := be 4 x.num }

def tRing : RingBlock :=
  { mode := .native, nodes := 2, inStart := 1000, syncStart := 2000, outStart := 400000, diagStart := 0, idleStart := 0,
    slots := [⟨true, 1, 34, 400000, 5⟩], digest := [] }

def tSent (kind sid : Nat) : Assembled := { sid := sid, kind := kind, seg := 0, cycle := 7, offset := 100, bytes := be 26 0 ++ be 2 1, sent := false }

theorem witness_SealsBecomeTelegrams :
    (let s := unitState .watcher sessImage (fun l => { l with vt := { l.vt with committed := some 7 }, td := { l.td with phase := .committed } });
      s.unit.role = .watcher ∧ (s.lane .a).vt.state = .inService ∧ (s.lane .a).vt.committed = some (s.lane .a).td.cycle ∧
        (s.lane .a).td.phase = .committed ∧ (s.lane .a).td.pastD = false ∧ (1949999#32).toNat < (s.lane .a).image.deadlineTicks) ∧
    (let s := { unitState .watcher sessImage id with out := ⟨[tHanded .a, tHanded .b], []⟩ };
      s.unit.role = .watcher ∧ s.phRuns = true ∧ (1949999#32).toNat < s.image.deadlineTicks ∧
        firstPair (s.out.open_.filter (fun h => h.kind == (8#4).toNat &&
          (if (8#4).toNat = 8 then h.seg == (0 : Fin 1024).val else h.sid == (0 : Fin 1024).val && h.cycle == s.cycle))) = some (tHanded .a, tHanded .b)) ∧
    (let s := { unitState .watcher { sessImage with rings := [tRing] } id with
                  out := ⟨[], [tSent 1 5]⟩, rings := { Rings.reset with ring := [(0, { Ring.reset with state := .lead, linkE := true, delayE := some 5 })] } };
      s.unit.role = .watcher ∧ (s.image.ring (0 : Fin 4).val).slots[0]? = some ⟨true, 1, 34, 400000, 5⟩ ∧ s.phRuns = true ∧
        s.ringLive (0 : Fin 4).val = true ∧ (s.ring (0 : Fin 4).val).state.leads = true ∧
        s.out.assembled.find? (fun a => a.kind == 1 && a.sid == 5 && a.cycle == s.cycle && !a.sent &&
          decide (a.offset * 10 + 20000 ≤ 400000)) = some (tSent 1 5) ∧
        s.linkReady (0 : Fin 4).val .e = true ∧ (s.ring (0 : Fin 4).val).busy .e ≤ nanos 400000 + nanos 500) ∧
    (let s := { unitState .watcher sessImage id with out := ⟨[], [{ tSent 8 0 with sent := true }]⟩, xl := { Cross.reset with link27 := true } };
      s.unit.role = .watcher ∧ s.crossSends .p27 = true ∧ s.mirrorWhole s.cycle = true) := by
  refine ⟨?_, ?_, ?_, ?_⟩ <;> decide +kernel

/-! ## Watcher and sleeper -/

/-- A unit whose lanes, and whose unit and partner, are changed. -/
def pairState (r : Role) (f : Lane → Lane) (g : UnitState → UnitState) : State :=
  let s := unitState r (tImage []) f
  { s with unit := g s.unit }

theorem witness_RolesChangeWithTheirEpoch :
    (let s := pairState .starting id id; s.unit.role = .starting ∧ 2 ≤ s.serviceLanes.length ∧ s.ph.released.getLsbD 6 = true) ∧
    (let s := pairState .deciding (fun l => { l with io := { l.io with darkRun := 20 } }) id;
      s.unit.role = .deciding ∧ s.image.startRing = none ∧ s.watchDark = true) ∧
    (let s := pairState .sleeper id (fun u => { u with silentRun := 2 });
      s.unit.role = .sleeper ∧ 2 ≤ s.serviceLanes.length ∧ 2 ≤ s.unit.silentRun ∧ (∀ x ∈ s.serviceLanes, (s.lane x).io.litLast = false)) ∧
    (let s := pairState .sleeper (fun l => { l with io := { l.io with litLast := true } }) (fun u => { u with silentRun := 2 });
      s.unit.role = .sleeper ∧ 2 ≤ s.serviceLanes.length ∧ 2 ≤ s.unit.silentRun ∧ (∃ x ∈ s.serviceLanes, (s.lane x).io.litLast = true)) ∧
    (let s := pairState .watcher id (fun u => { u with giveWay := true }); s.unit.role = .watcher ∧ s.unit.giveWay = true) := by
  decide

/-- A unit with a swap under way. -/
def swapState (r : Role) (w : Swap) : State := pairState r id (fun u => { u with swap := w })

theorem witness_SwapChangesBothRoles :
    (∀ ra : Bool, let s := swapState .watcher { Swap.reset with state := 1, cycle := 9, readyA := ra, readyB := true };
      s.unit.role = .watcher ∧ s.unit.swap.state = 1 ∧ s.cycle + 2 = s.unit.swap.cycle ∧ s.unit.swap.readyA = ra ∧ s.unit.swap.readyB = true) ∧
    (let s := swapState .sleeper { Swap.reset with state := 1, cycle := 7, gotCommit := true };
      s.unit.role = .sleeper ∧ s.unit.swap.cycle ≠ 0 ∧ s.cycle = s.unit.swap.cycle ∧ s.unit.swap.state ≠ 3 ∧ s.unit.swap.gotCommit = true ∧
        2 ≤ s.serviceLanes.length) ∧
    (∀ pc : Bool, let s := swapState .watcher { Swap.reset with state := 2, cycle := 7, sentCommit := true, partnerCommitted := pc };
      s.unit.role = .watcher ∧ s.unit.swap.cycle ≠ 0 ∧ s.cycle = s.unit.swap.cycle ∧ s.unit.swap.sentCommit = true ∧ s.unit.swap.state = 2 ∧
        s.unit.swap.partnerCommitted = pc) := by
  decide

/-- A report of unit 4, a sleeper. -/
def tReport : PartnerReport :=
  { unit := 4, role := 3, mask := PerLane.all true, rotation := 0, epoch := 2, cycle := 7, digest := be 8 1, ready := 0, swap := 0, tCycle := 20 }

/-- A mirror telegram of the partner, unit 4, in its frame to unit 3. -/
def tMirror : List Byte := tTele 8 0 9 (be 2 0 ++ be 2 1 ++ be 4 0 ++ be 8 5)

theorem witness_CrossLinksCarryThePartner :
    (let s := { arrived .sleeper (.ring 0 0) [] with xl := { Cross.reset with link27 := true } };
      s.crossSends .p27 = true ∧ ({ s with ph := { s.ph with sfpRefused := 2 ^ 27 } }).crossSends .p28 = false ∧ s.phRuns = true ∧ s.unit.role = .sleeper ∧ crossSound [] = false ∧ s.unitId = 3 ∧
      (crossSound (crossFrame 3 4 1 tMirror) = true ∧ readCross s.unitId (companion s.unitId) (crossFrame 3 4 1 tMirror) = some (1, tMirror ++ padTo (46 - 2 - tMirror.length) []) ∧
        mirrorText (tMirror ++ padTo (46 - 2 - tMirror.length) []) = tMirror) ∧
      (let l := s.lane .a; let t := Tele.ofBytes 4 tMirror;
        l.vt.state = .inService ∧ mirrorFrameOk l.rc.opts.unitId tMirror = true ∧ t.epoch = s.unit.epoch ∧ l.mirrorCopy l.image t = false ∧ t.seq ≠ 0 ∧
          l.mir.lastSeq = none ∧ s.serviceLanes.head? = some .a ∧ mirrorFrameOk l.rc.opts.unitId [7] = false) ∧
      (let f := crossFrame 3 4 2 tReport.bytes; crossSound f = true ∧ (readCross s.unitId (companion s.unitId) f).map (·.1) = some 2 ∧
        s.unit.partner.map (·.cycle) ≠ some tReport.cycle ∧ tReport.role ≠ 2)) ∧
    (tReport.unit < 256 ∧ tReport.role < 256 ∧ tReport.rotation < 256 ∧ tReport.epoch < 2 ^ 32 ∧ tReport.cycle < 2 ^ 64 ∧ tReport.digest.length = 8 ∧
      tReport.ready < 256 ∧ tReport.swap < 256 ∧ tReport.tCycle < 65536) := by
  decide +kernel

/-! ## Resync, rotation and restart -/

/-- A unit whose lanes B and C are in service and whose lane A resyncs in a phase. -/
def joinState (st : LaneState) (f : Lane → Lane) : State :=
  (unitState .watcher (tImage []) id).modLane .a (fun l => f { l with vt := { Vote.reset with state := st } })

/-- Every block of a base, block `i` with the bytes `f i`. -/
def allBlocks (f : Nat → List Byte) : Assoc (List Byte) := (List.range 258).map (fun i => (i, f i))

theorem allBlocks_any (f : Nat → List Byte) (i : Nat) (h : i < 258) : (allBlocks f).any (fun p => p.1 == i) = true := by
  simp [allBlocks, h]

theorem get_blocks (f : Nat → List Byte) (ks : List Nat) (k : Nat) (h : k ∈ ks) : Assoc.get [] (ks.map (fun i => (i, f i))) k = f k := by
  induction ks with
  | nil => cases h
  | cons i ks ih =>
    by_cases hi : i = k
    · simp [Assoc.get, hi]
    · simpa [Assoc.get, hi] using ih (by simpa [Ne.symm hi] using h)

theorem allBlocks_get (f : Nat → List Byte) : Assoc.get [] (allBlocks f) (257 : Fin 258).val = f (257 : Fin 258).val :=
  get_blocks f _ _ (by simp)

def tBase : Base := { cycle := 6, digest := [], state := [(0, 1)], consts := [], forces := [], ctx := [], epochs := [], io := LaneIO.reset }

/-- A unit whose lane A takes its base, with the blocks it has of lane C, and whose donors B and C have taken theirs. -/
def baseState (bs : Assoc (List Byte)) : State :=
  let s := joinState .base (fun l => { l with vt := { l.vt with blocks := ⟨[], allBlocks (fun _ => []), bs⟩ } })
  let took := fun (l : Lane) => { l with vt := { l.vt with baseTaken := some tBase } }
  (s.modLane .b took).modLane .c took

/-- The blocks of the base as its donors send them. -/
def sameBlocks : Assoc (List Byte) := allBlocks (tBase.block (tImage []))

/-- A delta of cycle 8 without changes, and one with a changed slot, constant and force. -/
def tDelta : Delta := { cycle := 8, slots := [], consts := [], forces := none }
def uDelta : Delta := { tDelta with slots := [(5, 6)], consts := [(1, 2)], forces := some [(3, 1)] }

theorem test_deltaBytes : tDelta.bytes = be 8 8 ++ be 24 0 ∧ uDelta.bytes.take 46 =
    be 8 8 ++ be 4 1 ++ be 4 1 ++ be 1 1 ++ be 15 0 ++ be 4 5 ++ be 2 6 ++ be 4 1 ++ be 4 2 := by decide

/-- An empty file is refused with code 0x0201 (R52). -/
theorem test_emptyFile (e : LoadEnv) : loadImage e [] = .error (0x0201, 0) := rfl

theorem witness_ResyncMovesThroughItsPhases :
    (uDelta.cycle < 2 ^ 64 ∧ uDelta.slots.length < 2 ^ 32 ∧ uDelta.consts.length < 2 ^ 32 ∧
      (∀ f, uDelta.forces = some f → f.length ≤ 256 ∧ ∀ p ∈ f, p.1 < 2 ^ 32)) ∧
    (let s := joinState .loading (fun l => { l with bi := { l.bi with slices := 1 } });
      s.donors .a = some (.b, .c) ∧ (s.lane .a).vt.state = .loading ∧ (s.lane .a).bi.slices = 1 ∧ (s.lane .a).rc.fail ≠ 5) ∧
    (let s := joinState .loading (fun l => { l with rc := { l.rc with fail := 5 } }); s.donors .a = some (.b, .c) ∧ (s.lane .a).rc.fail = 5) ∧
    (∃ code idx, loadImage ((joinState .loading id).loadEnv .a) ((joinState .loading id).lane .a).activeSlot.file = .error (code, idx)) ∧
    (let s := joinState .joining (fun l => { l with td := { l.td with rx := PerLane.all (some (4, 0)), linkDelay := PerLane.all (some 5) } });
      s.donors .a = some (.b, .c) ∧ (s.lane .a).vt.state = .joining ∧ (s.lane .a).rc.fail ≠ 5 ∧ (s.lane .a).td.rx.get .b = some (4, 0) ∧
        (s.lane .a).td.rx.get .c = some (4, 0) ∧ ((s.lane .a).td.linkDelay.get .b).isSome = true ∧ ((s.lane .a).td.linkDelay.get .c).isSome = true) ∧
    (let s := joinState .base id; s.donors .a = some (.b, .c) ∧ (s.lane .a).vt.state = .base ∧ (s.lane .b).vt.baseTaken = none ∧
      ((s.lane .a).vt.deltas.get .c).any (fun e => getBE e 0 8 == getBE tDelta.bytes 0 8 && e != tDelta.bytes) = false ∧
      (s.lane .a).vt.deltaBytes .b + tDelta.bytes.length ≤ 0x400000) ∧
    (let s := baseState []; ((s.lane .a).vt.blocks.get .c).any (fun p => p.1 == (0 : Fin 258).val) = false ∧ (s.lane .b).vt.baseTaken = some tBase) ∧
    (let s := joinState .base (fun l => { l with vt := { l.vt with deltas := ⟨[], [], [uDelta.bytes]⟩ } });
      s.donors .a = some (.b, .c) ∧ (s.lane .a).vt.state = .base ∧
        ((s.lane .a).vt.deltas.get .c).any (fun e => getBE e 0 8 == getBE tDelta.bytes 0 8 && e != tDelta.bytes) = true) ∧
    (∀ st ∈ [LaneState.loading, .catchUp], (joinState st id).donors .a = some (.b, .c) ∧ ((joinState st id).lane .a).vt.state.inResync = true ∧
      ((joinState st id).lane .a).vt.state ≠ .rotationTest) := by
  refine ⟨by decide, by decide, by decide, ⟨0x0201, 0, test_emptyFile _⟩, by decide, by decide, by decide, by decide +kernel, by decide⟩

/-- The last block completes the base where it is the same of both donors, and aborts where it differs. -/
theorem witness_lastBlock :
    (let s := baseState sameBlocks; s.donors .a = some (.b, .c) ∧ (s.lane .b).vt.baseTaken = some tBase ∧
      Assoc.get [] ((s.lane .a).vt.blocks.get .c) (257 : Fin 258).val = tBase.block (s.lane .b).image (257 : Fin 258).val ∧
      ∀ i, i < 258 → ((s.lane .a).vt.blocks.get .c).any (fun p => p.1 == i) = true ∧
        ((s.lane .a).vt.blocks.get .b).any (fun p => p.1 == i) = true) ∧
    (let s := baseState (allBlocks (fun i => 1#8 :: tBase.block (tImage []) i));
      ((s.lane .a).vt.blocks.get .c).any (fun p => p.1 == (257 : Fin 258).val) = true ∧
        Assoc.get [] ((s.lane .a).vt.blocks.get .c) (257 : Fin 258).val ≠
          tBase.block (s.lane .b).image (257 : Fin 258).val) := by
  refine ⟨⟨rfl, rfl, allBlocks_get _, fun i h => ⟨allBlocks_any _ i h, allBlocks_any _ i h⟩⟩, allBlocks_any _ _ (by decide), ?_⟩
  exact fun h => List.cons_ne_self _ _ ((allBlocks_get (fun i => 1#8 :: tBase.block (tImage []) i)).symm.trans h)

/-- A lane that has buffered `n` bytes of deltas of lane B. -/
def fullDeltas (n : Nat) : State := joinState .base (fun l => { l with vt := { l.vt with deltas := ⟨[], [List.replicate n 0#8], []⟩ } })

theorem fullDeltas_bytes (n : Nat) : ((fullDeltas n).lane .a).vt.deltaBytes .b = n := by
  show ([List.replicate n 0#8].map List.length).sum = n
  simp

/-- A delta beyond the 4 MiB of a donor. -/
theorem witness_deltaTooMuch : ∃ n, ((fullDeltas n).lane .a).vt.state = .base ∧
    0x400000 < ((fullDeltas n).lane .a).vt.deltaBytes .b + tDelta.bytes.length ∧
    (((fullDeltas n).lane .a).vt.deltas.get .c).any (fun e => getBE e 0 8 == getBE tDelta.bytes 0 8 && e != tDelta.bytes) = false :=
  ⟨0x400001, rfl, by rw [fullDeltas_bytes]; omega, rfl⟩

/-- A unit with a rotation. -/
def rotState (r : Rotation) : State := pairState .watcher id (fun u => { u with rot := r })

theorem witness_RotationsRunInTurn :
    (let s := rotState Rotation.reset; s.unit.role = .watcher ∧ s.unit.rot.state = 0 ∧ s.unit.rot.leaving = none) ∧
    (let s := rotState { Rotation.reset with state := 1, next := .b };
      s.unit.rot.state = 1 ∧ s.rotationDefer = 0 ∧ (s.lane s.unit.rot.next).vt.state = .inService ∧ (s.lane s.unit.rot.next).vt.own = none ∧
        (s.lane s.unit.rot.next).vt.committed ≠ some (s.lane s.unit.rot.next).td.cycle) ∧
    (∀ p ∈ [(1, 1, 1, 1), (1, 1, 2, 4), (3, 0, 0, 2), (1, 3, 0, 3)],
      let s := (rotState { Rotation.reset with state := 3, leaving := some .a }).modLane .a (fun l =>
        { l with vt := { l.vt with state := .rotationTest }, bi := { l.bi with logic := p.1, memory := p.2.1, slices := p.2.2.1 } });
      (s.lane .a).vt.state = .rotationTest ∧ (s.lane .a).rc.resetReq = none ∧ (s.lane .a).bi.rotation = some p.2.2.2 ∧ s.unit.rot.leaving = some .a) ∧
    (let s := (rotState Rotation.reset).modLane .a (fun l => { l with vt := { l.vt with state := .rotationTest }, rc := { l.rc with resetReq := some 4 } });
      (s.lane .a).vt.state = .rotationTest ∧ (s.lane .a).rc.resetReq = some 4) := by
  decide

def tFindings (c : Nat) : Findings := { snaps := [(c, [7], 3, [])], clock := 10, invalid := false }

/-- A block before its restart decision, its image slots empty. -/
def startState : State :=
  { State.reset with lanes := PerLane.all { Lane.reset with rc := { ResetUnit.reset with released := 0xFF }, ls := { Sequencer.reset with life := 3 },
                                                            bi := { SelfTest.reset with logic := 1, memory := 1, slices := 1 } },
                     unit := { UnitState.reset with started := PerLane.all true, options := PerLane.all (some Options.reset) } }

theorem witness_RestartDecisionStartsTheLanes :
    (let m := tImage []; m.retained.length ≤ 131008 ∧
      (∀ p ∈ (tFindings 5).snaps, Sys2Proof.Machine.Findings.at (tFindings 6) p.1 = none ∨ Sys2Proof.Machine.Findings.at (tFindings 5) p.1 = none) ∧
      decideRestart { m with issue := 3, digest := [] } 1 [tFindings 5, tFindings 5, tFindings 5] = .warm 5 10) ∧
    startState.unit.restarted = false ∧ startState.unit.role = .starting ∧ startState.cyclesRun = false ∧
      (∀ x, startState.mayStart x = true ∧ (startState.lane x).ls.marked = none ∧
        ∃ code idx, loadImage (startState.loadEnv x) (startState.lane x).activeSlot.file = .error (code, idx)) := by
  refine ⟨by decide, rfl, rfl, rfl, fun x => ⟨by cases x <;> decide, by cases x <;> rfl, 0x0201, 0, ?_⟩⟩
  cases x <;> exact test_emptyFile _

/-! ## Requests -/

/-- The bytes of a request: format, item count, and what follows the 128 bytes of its header. -/
def tBytes (fmt count : Nat) (rest : List Byte) : List Byte := be 2 fmt ++ be 2 count ++ be 4 9 ++ be 120 0 ++ rest

def tRequest (b : List Byte) : Request :=
  { bytes := b, requester := { ip := 1, port := 2 }, readable := PerLane.all true, done := 0, codes := PerLane.all none, sent := false,
    got := PerLane.all (PerLane.all none), settled := false }

/-- A watcher with a request in host mailbox 0. -/
def reqState (r : Request) : State := pairState .watcher id (fun u => { u with reqs := [(0, some r)] })

theorem witness_VerdictsAreKeptByTheirKind :
    (let s := reqState (tRequest (tBytes 1 1 [])); LaneId.b ≠ .a ∧ (s.lane .a).keepsArrivals = false ∧ s.req (0 : Fin 4).val = some (tRequest (tBytes 1 1 [])) ∧
      (tRequest (tBytes 1 1 [])).sent = false) ∧
    ((joinState .catchUp id).lane .a).keepsArrivals = true := by
  decide

theorem witness_RequestItemsAreCheckedInTurn :
    ∀ p ∈ [(1, 1), (1, 2), (1, 3), (1, 4), (1, 5), (2, 0x10), (3, 0x20), (4, 0x30), (4, 0x31), (4, 0x32), (4, 0x33), (4, 0x34), (4, 0x35)],
      let r := tRequest (tBytes p.1 1 (be 1 p.2 ++ be 7 0)); let s := reqState r;
      s.req (0 : Fin 4).val = some r ∧ r.sent = false ∧ r.done < reqCount r.bytes ∧ 2 ≤ (s.checkLanes.filter (fun x => r.readable.get x)).length ∧
        reqFormat r.bytes = p.1 ∧ getByte (itemBytes r.bytes r.done) 0 = p.2 := by
  decide +kernel

theorem witness_WholeRequestsAreCheckedAtOnce :
    (∀ p ∈ [(0x10, 0, 0), (0x11, 0, 0), (0x12, 0, 0), (0x14, 0, 0), (0x15, 0, 0), (0x16, 0, 0), (0x17, 0, 0), (0x13, 0x30, 1), (0x13, 0x30, 2),
        (0x18, 0, 0), (0x32, 0, 0)],
      let r := tRequest (tBytes p.1 1 (be 1 p.2.1 ++ be 3 0 ++ be 4 p.2.2)); let s := reqState r;
      s.req (0 : Fin 4).val = some r ∧ r.sent = false ∧ 2 ≤ (s.checkLanes.filter (fun x => r.readable.get x)).length ∧ reqFormat r.bytes = p.1 ∧
        reqCount r.bytes = 1 ∧ r.done = 0 ∧ getByte (itemBytes r.bytes 0) 0 = p.2.1 ∧ getBE (itemBytes r.bytes 0) 4 4 = p.2.2) := by
  decide +kernel

/-- An agreed request whose apply cycle has come. -/
def tPend (fmt : Nat) (rest : List Byte) : Pending :=
  { mailbox := 0, format := fmt, bytes := tBytes fmt 1 rest, apply := 7, accepted := PerLane.all true, logSeq := 1, appliedBy := PerLane.all false,
    commits := PerLane.all false, freed := [] }

theorem witness_AgreedRequestsTakeEffect :
    (let p := tPend 1 (be 8 0); let s := pairState .watcher id (fun u => { u with pend := [p] });
      s.unit.pend = [p] ∧ p.format = 1 ∧ p.appliedBy = PerLane.all false ∧ (s.lane .a).vt.state = .inService ∧ (s.lane .a).pe.freezeDone = false ∧
        p.apply ≤ (s.lane .a).td.cycle ∧ p.accepted.get .a = true) ∧
    (let s := unitState .sleeper { tImage [] with digest := be 64 0 } (fun l => { l with mir := { l.mir with change := some (7, tBytes 1 0 []) } });
      s.unit.role = .sleeper ∧ (s.lane .a).vt.state = .inService ∧ (s.lane .a).pe.freezeDone = false ∧
        (s.lane .a).mirrorChange (s.lane .a).image (s.lane .a).td.cycle = some (7, tBytes 1 0 [])) ∧
    (∀ p ∈ [tPend 2 (be 8 0), tPend 4 (be 1 0x32 ++ be 7 0), tPend 0x10 (be 2 0 ++ be 1 2 ++ be 1 3)],
      let s := pairState .watcher (fun l => { l with io := { l.io with drives := true } }) (fun u => { u with pend := [p] });
      s.due p.format = [p] ∧ reqCount p.bytes = 1 ∧ s.ph.powered = true ∧ (s.lane .a).io.drives = true ∧ (s.lane .a).io.window = none ∧
        ({ s with ph := { s.ph with powered := false } } : State).due p.format = [p]) ∧
    getByte (itemBytes (tPend 4 (be 1 0x32 ++ be 7 0)).bytes 0) 0 = 0x32 := by
  refine ⟨?_, ?_, ?_, ?_⟩ <;> decide +kernel

/-- The transitions of the statement: into FACTORY_TEST, out of it to SERVICE and to another state, between others, and into RETIRED, the last with no lane in
service and its message still in the mailbox. -/
theorem witness_Transitions :
    ∀ q ∈ [(0, 1), (4, 1), (1, 2), (1, 4), (2, 3), (3, 5)],
      let p := tPend 0x10 (be 2 0 ++ be 1 q.1 ++ be 1 q.2);
      let s := { pairState .watcher id (fun u => { u with pend := [p] }) with mail := { HostMail.reset with out := [(0, { Mailbox.reset with state := .full })] } };
      s.due 0x10 = [p] ∧ s.ph.powered = true ∧ getByte (slice p.bytes 128 4) 2 = q.1 ∧ getByte (slice p.bytes 128 4) 3 = q.2 ∧ p.mailbox < 4 ∧
        (s.outBox p.mailbox).state = .full ∧
        ({ s with lanes := PerLane.all Lane.reset } : State).serviceLanes = [] ∧ ({ s with lanes := PerLane.all Lane.reset } : State).due 0x10 = [p] := by
  decide +kernel

/-- Firmware on trial that has reset twice. -/
def tTrial : Firmware := { Firmware.reset with slot0 := { FwSlot.reset with mark := .trial }, resets := 2 }

def tItem : LogItem := { kind := 0x20, operator := 0, cycle := 7, before := [], after := [], mailbox := none, code := 0, merged := false }

theorem witness_LogLockoutAndFirmware :
    (let s := unitState .watcher (tImage []) (fun l => { l with rc := { l.rc with released := 0xFF } });
      let s := { s with cfg := { s.cfg with logQueue := [tItem] } };
      s.coresRun = true ∧ s.cfg.logQueue = [tItem] ∧ tItem.mailbox = none ∧ s.chainHead = some (0, List.replicate 32 0#8)) ∧
    (let s := unitState .watcher (tImage []) id;
      let s := { s with ph := { s.ph with fw := tTrial }, upd := { s.upd with trialRun := 100 } };
      100 ≤ s.upd.trialRun ∧ s.ph.powered = true ∧ s.ph.fw.onTrial = true ∧ (∀ x, (s.lane x).ls.fw.onTrial = false)) ∧
    (let s := unitState .watcher { tImage [] with issue := 3 } (fun l => { l with ls := { l.ls with fw := tTrial, floorRun := 100 } });
      let s := { s with upd := { s.upd with trialRun := 100 } };
      100 ≤ s.upd.trialRun ∧ (s.lane .a).ls.fw.onTrial = true ∧ (s.lane .a).ls.fw.mustFallBack false = true ∧
        2 ≤ (s.serviceLanes.filter (fun x => 100 ≤ (s.lane x).ls.floorRun && (s.lane x).ls.floor < (s.lane x).image.issue)).length) := by
  refine ⟨by decide, ⟨by decide, rfl, by decide, fun x => by cases x <;> decide⟩, by decide⟩

theorem witness_LogAndDumpReadsReturnData :
    ∀ p ∈ [(0x30, 0, 0, 1), (0x30, 0, 0, 1024), (0x31, 3, 15, 0)],
      let r := tRequest (be 2 p.1 ++ be 2 1 ++ be 4 9 ++ be 120 0 ++ be 1 p.2.1 ++ be 1 p.2.2.1 ++ be 2 0 ++ be 4 p.2.2.2);
      let s := { reqState r with mail := { HostMail.reset with out := [(0, { Mailbox.reset with state := .full })] } };
      s.req (0 : Fin 4).val = some r ∧ (s.outBox (0 : Fin 4).val).state = .full ∧ reqFormat r.bytes = p.1 ∧ badRead r.bytes = false ∧
        getBE r.bytes 132 4 = p.2.2.2 ∧ (s.inBox 1).state = .empty ∧ getByte r.bytes 128 = p.2.1 ∧ getByte r.bytes 129 = p.2.2.1 ∧
        (p.1 = 0x31 → getBE r.bytes 130 6 = 0) := by
  decide +kernel

theorem witness_badReads : badRead (tRequest (tBytes 0x30 2 (be 8 1))).bytes = true := by decide +kernel

/-! ## Power, clocks, reset and self-test -/

/-- A block whose lanes have released domains and whose pumphouse has too. -/
def upState (rel : BitVec 8) (ph : BitVec 7) (f : Lane → Lane) : State :=
  { State.reset with lanes := PerLane.all (f { Lane.reset with rc := { ResetUnit.reset with released := rel, gates := 0xFF, fwOk := true } }),
                     ph := { Pumphouse.reset with released := ph, gates := 0x7F, cores := 0xF, fwOk := true } }

theorem witness_ResetSourcesResetTheirPart :
    (let s := upState 0xFF 0x7F id; (s.lane .a).rc.powered = true ∧ (s.lane .a).rc.released.getLsbD 3 = true ∧ s.ph.powered = true ∧
      bit s.ph.cores (3 : Fin 4).val = true) ∧
    (let s := { upState 0 0 id with ph := { Pumphouse.reset with powered := false } }; s.ph.powered = false) ∧
    (let s := pairState .watcher id (fun u => { u with resetAt := some (1, 0), activateAt := some 0 });
      s.unit.resetAt = some (1, 0) ∧ 0 ≤ s.cycle ∧ s.unit.activateAt.isSome = true) ∧
    (∀ st ∈ [LaneState.failed, .stopped, .inService],
      ((upState 0xFF 0x7F (fun l => { l with vt := { l.vt with state := st } })).lane .a).rc.powered = true) := by decide

theorem witness_DomainsAreReleasedInOrder :
    (∀ k : Fin 8, ∀ ok : Bool, (ok = true ∨ k = 3) →
      let s := upState (BitVec.ofNat 8 (2 ^ k.val - 1)) 0 (fun l =>
        { l with rc := { l.rc with optDone := true }, bi := { l.bi with logic := 1, memory := 1 } });
      (s.lane .a).rc.resetReq = none ∧ (s.lane .a).rc.powered = true ∧ (s.lane .a).rc.released.getLsbD k.val = false ∧
        (s.lane .a).rc.gates.getLsbD k.val = true ∧ (s.lane .a).domainReady k.val = true ∧ (s.lane .a).ls.fw.startNext.mayRun ok = ok) ∧
    (∀ k : Fin 7, let s := upState 0 (BitVec.ofNat 7 (2 ^ k.val - 1)) id;
      let s := { s with ph := { s.ph with optDone := true } };
      s.ph.powered = true ∧ s.ph.released.getLsbD k.val = false ∧ s.ph.gates.getLsbD k.val = true ∧ s.phDomainReady k.val = true ∧
        s.ph.fw.startNext.mayRun true = true ∧ (k = 1 → s.ph.released.getLsbD 0 = true) ∧ (k = 6 → s.ph.released.getLsbD 5 = true)) := by
  decide +kernel

/-- What keeps a domain in reset: a closed gate, a domain before it, a BIST not run, options not loaded, firmware not accepted. -/
theorem witness_HeldDomains :
    (let s := upState 0 0 (fun l => { l with rc := { l.rc with gates := 0xFE, fwOk := false } });
      (s.lane .a).rc.resetReq = none ∧ (s.lane .a).rc.gates.getLsbD (0 : Fin 8).val = false ∧ (s.lane .a).rc.released.getLsbD ((5 : Fin 8).val - 1) = false ∧
        (s.lane .a).rc.bist = true ∧ (s.lane .a).bi.logic = 0 ∧ (s.lane .a).bi.memory = 0 ∧ (s.lane .a).rc.optDone = false ∧ (s.lane .a).rc.fwOk = false) ∧
    (let s := { upState 0 0 id with ph := { Pumphouse.reset with gates := 0x7E } };
      s.ph.gates.getLsbD (0 : Fin 8).val = false ∧ s.ph.released.getLsbD ((5 : Fin 8).val - 1) = false ∧ s.ph.optDone = false ∧ s.ph.fwOk = false) := by
  decide

/-- 21 failing rows of macro 0. -/
def tRows : List (Nat × Nat) := (List.range 21).map (fun i => (0, i))

/-- Voltage and clock at their limits, and one below and one above. -/
theorem witness_bistReadings :
    (∀ mv ∈ [(808 : BitVec 16), 892], 808 ≤ mv.toNat ∧ mv.toNat ≤ 892) ∧ (∀ khz ∈ [(99000 : BitVec 32), 101000], 99000 ≤ khz.toNat ∧ khz.toNat ≤ 101000) ∧
    (¬ ∀ mv ∈ [(807 : BitVec 16), 892], 808 ≤ mv.toNat ∧ mv.toNat ≤ 892) ∧
    (¬ ∀ khz ∈ [(100000 : BitVec 32), 101001], 99000 ≤ khz.toNat ∧ khz.toNat ≤ 101000) := by simp

/-- Every item of every class but item 0 of the links. -/
def tSlices : List (Nat × Nat) :=
  [SliceClass.link, .input, .readback, .element, .groupElement].flatMap (fun c => (List.range c.items).filterMap (fun i => if c = .link ∧ i = 0 then none else some (c.code, i)))

theorem witness_SelfTestsJudgeTheLane :
    (let l := (upState 3 0 id).lane .a; l.rc.resetReq = none ∧ l.rc.powered = true ∧ l.rc.bist = true ∧ l.rc.released.getLsbD 0 = true ∧
      l.bi.logic = 0 ∧ l.rc.released.getLsbD 1 = true ∧ l.bi.memory = 0 ∧ l.ls.otpSig = 0 ∧ l.ls.otpRows.length + (tRows.take 20).length ≤ 20) ∧
    21 ≤ (((Sequencer.reset.otpRows ++ tRows).filter (fun p => p.1 == 0)).map (·.2)).eraseDups.length ∧
    (∀ st ∈ [LaneState.reset, .stopped, .failed],
      let l := (upState 0xFF 0 (fun l => { l with vt := { l.vt with state := st } })).lane .a; l.rc.resetReq = none ∧ l.rc.released.getLsbD 7 = true ∧ l.vt.state = st ∧
        (7#8).toNat < SliceClass.groupElement.items ∧ l.bi.done.contains (SliceClass.groupElement.code, (7#8).toNat) = false ∧ l.bi.failed = 0) ∧
    (let s := upState 0xFF 0 (fun l => { l with bi := { l.bi with done := tSlices } });
      (s.lane .a).bi.done.contains (SliceClass.input.code, (63#8).toNat) = true ∧
        ({ (s.lane .a).bi with done := (SliceClass.link.code, 0) :: tSlices } : SelfTest).allRun = true ∧ s.mayClose .a .element 0 = false ∧
        ({ s with unit := { s.unit with started := PerLane.all true } } : State).mayClose .a .element 0 = true) := by decide +kernel

/-- A good copy of an option record of a block: format 1, grade T, the block, and the CRC of its first 252 bytes. -/
def tOptions (block : Nat) : List Byte :=
  let body := be 2 1 ++ be 1 0x54 ++ be 1 block ++ be 16 7 ++ be 232 0
  body ++ be 4 (ieeeCrc body)

/-- The check value of the IEEE CRC over the digits 1 to 9. -/
theorem test_ieeeCrc : ieeeCrc ((List.range 9).map (fun i => BitVec.ofNat 8 (0x31 + i))) = 0xCBF43926 := by decide +kernel

set_option maxRecDepth 20000 in
theorem test_recordOk : recordOk 1 false (tOptions 1) = true ∧ recordOk 4 false (tOptions 4) = true ∧ recordOk 4 false (tOptions 1) = false ∧
    recordOk 1 true (tOptions 1) = false := by decide +kernel

theorem witness_OptionsAndQueuesComeUp :
    (let s := upState 0x7F 0 id; let l := s.lane .a; l.rc.resetReq = none ∧ l.rc.powered = true ∧ l.rc.released.getLsbD 2 = true ∧ l.rc.optDone = false ∧
      l.rc.fail = 0 ∧ l.rc.released.getLsbD 6 = true ∧ l.linked = false ∧ recordOk LaneId.a.num s.cfg.gradeL (tOptions 1) = true) ∧
    (let t0 : StrapReading := ⟨3, true, false⟩; t0.unitId ≠ 0 ∧ t0.unitId ≠ 255 ∧ strapsStable (List.replicate 16 t0) = true) ∧
    strapsStable [⟨3, true, false⟩] = false ∧ 64 ≤ ({ ResetUnit.reset with optRestarts := 64 } : ResetUnit).optRestarts ∧
    (let s := upState 0 4 id; s.ph.powered = true ∧ s.ph.released.getLsbD 2 = true ∧ s.ph.optDone = false ∧ recordOk 4 s.cfg.gradeL (tOptions 4) = true ∧
      recordOk 4 s.cfg.gradeL [] = false) ∧
    (∀ life : Bool, let s := (upState 0x7F 0x7F (fun l => { l with rc := { l.rc with optDone := true, sluice := .handshake } })).modLane .b (fun l =>
        { l with ls := { l.ls with life := if life then 2 else 0 } });
      (∀ x ∈ LaneId.list, (s.lane x).linked = true) ∧ (s.lane .a).rc.sluice = .handshake ∧ s.ph.released.getLsbD 6 = true ∧ s.oddLane .b = life ∧ (s.lane .b).rc.fail = 0 ∧
        s.oddLane .a = false ∧ (s.lane .a).rc.powered = true ∧ (s.lane .a).rc.released.getLsbD 3 = true) ∧
    (∀ z ∈ [Sluice.closed, .opened], ∀ last : Bool, ∀ w ∈ [(⟨0, 0, true, [7], last⟩ : QueueWord), ⟨1, 0, true, [7], last⟩],
      let s := { upState 0x7F 0x7F id with ph := { Pumphouse.reset with sluice := z, rxLane := PerLane.all { live := true, gen := 0, tag := none, part := [] } } };
      let q := s.ph.rxLane.get .a;
      s.ph.sluice = z ∧ w.last = last ∧ (w.gen = 0 ↔ q.live = true ∧ w.parityOk = true ∧ w.gen.val = q.gen ∧ w.tag.val = (match q.tag with
        | some n => (n + 1) % 16
        | none => 0))) := by
  refine ⟨?_, by decide, by decide, by decide, ?_, by decide, by decide +kernel⟩
  · exact ⟨rfl, rfl, by decide, rfl, rfl, by decide, by decide, test_recordOk.1⟩
  · exact ⟨rfl, by decide, rfl, test_recordOk.2.1, by decide⟩

/-- A word of tag 3 after tag 2 is taken, one of tag 4 is not (R324). -/
theorem test_queueWord :
    let s := upState 0x7F 0x7F id;
    let s := { s with ph := { s.ph with sluice := .opened, rxLane := PerLane.all { live := true, gen := 1, tag := some 2, part := [5] } } };
    (after (execQueueWordReceive (.lane .a) .pumphouse ⟨1, 3, true, [6], true⟩ s)).sent = [.queue (.lane .a) .pumphouse [5, 6]] ∧
    (after (execQueueWordReceive (.lane .a) .pumphouse ⟨1, 4, true, [6], true⟩ s)).ph.discards = 1 := by decide +kernel

/-! ## Mailboxes and locks -/

/-- A block with host outbound mailbox 0 in a state at an address of region 6 that holds a message, host inbound mailbox 0 in another. -/
def mailState (o i : MbState) (b : List Byte) (ns : List (Nat × Nat × List Nat)) : State :=
  { upState 0xFF 0x7F id with basin := Memory.writeN [] 0x0C000000 b,
                              mail := { HostMail.reset with out := [(0, ⟨o, 0x0C000000, b.length, 5, 0⟩)], inn := [(0, ⟨i, 0, 64, 5, 0⟩)],
                                                            notices := ns } }

theorem witness_MailboxesFollowTheirStates :
    ((mailState .full .empty [] []).outBox (0 : Fin 4).val).state ≠ .empty ∧ ((mailState .acked .full [] []).outBox (0 : Fin 4).val).state = .acked ∧
    ((mailState .full .empty [] []).inBox (0 : Fin 4).val).state ≠ .full ∧ ((mailState .full .full [] []).inBox (0 : Fin 4).val).state = .full ∧
    (mailState .full .full [] []).mail.notices = [] ∧ (mailState .full .full [] [(2, 3, [])]).mail.notices = [(2, 3, [])] ∧
    ({ mailState .empty .empty [] [] with ph := { Pumphouse.reset with powered := false } } : State).ph.powered = false ∧
    (∀ p ∈ [(tBytes 1 1 (be 8 0), 0), (tBytes 0x30 1 (be 8 1), 0), (be 2 0x99, 0x0C03), (tBytes 1 2 (be 8 0), 0x0C02)],
      let s := mailState .empty .empty p.1 []; let b := s.outBox (0 : Fin 4).val;
      b.state = .empty ∧ messageCode b.addr b.len (Memory.readN s.basin b.addr b.len) false = p.2) ∧
    reqFormat (tBytes 0x30 1 (be 8 1)) = 0x30 ∧ reqFormat (tBytes 1 1 (be 8 0)) ≠ 0x30 ∧ reqFormat (tBytes 1 1 (be 8 0)) ≠ 0x31 := by
  refine ⟨?_, ?_, ?_, ?_, ?_, ?_, ?_, ?_, ?_, ?_, ?_⟩ <;> decide +kernel

theorem witness_mailboxCores :
    (mailState .empty .full [] []).coresRun = true ∧ ({ mailState .empty .full [] [] with ph := Pumphouse.reset }).coresRun = false ∧
    ((0 : Fin 4) ≠ 1 ∧ ((mailState .acked .empty [] [(2, 3, [])]).inBox 0).state = .empty ∧ ((mailState .empty .full [] []).inBox 0).state ≠ .empty) := by
  decide

/-- A block with lock 12 as given. -/
def lockState (l : Lock) : State := { State.reset with locks := { Locks.reset with lock := [(12, l)] } }

theorem witness_LocksHaveOneOwner :
    (let l := (lockState Lock.reset).locks.at (12 : Fin 64).val; (4 : Fin 8).val + 1 ≠ 8 ∧ l.owner = 0) ∧
    (let l := (lockState { Lock.reset with owner := 2 }).locks.at (12 : Fin 64).val; l.owner ≠ 0 ∧ l.owner ≠ (4 : Fin 8).val + 1) ∧
    (let l := (lockState { Lock.reset with owner := 5 }).locks.at (12 : Fin 64).val; l.owner = (4 : Fin 8).val + 1 ∧ (5#32).toNat = (4 : Fin 8).val + 1 ∧
      l.waiting = []) ∧
    (let l := (lockState { Lock.reset with owner := 5, waiting := [1, 3] }).locks.at (12 : Fin 64).val;
      l.owner = (4 : Fin 8).val + 1 ∧ nextMaster l.waiting ((4 : Fin 8).val + 1) = some 1 ∧ l.waiting.contains ((0 : Fin 8).val + 1) = true) ∧
    (¬ ((7 : Fin 8).val + 1 ≠ 8 ∨ 56 ≤ (12 : Fin 64).val) ∧ ((7 : Fin 8).val + 1 ≠ 8 ∨ 56 ≤ (56 : Fin 64).val)) ∧
    (let l := (lockState { Lock.reset with owner := 5, reserved := true }).locks.at (12 : Fin 64).val;
      l.waiting.contains ((4 : Fin 8).val + 1) = false ∧ l.owner = (4 : Fin 8).val + 1 ∧ l.reserved = true) ∧
    (let l := (lockState { Lock.reset with last := 3 }).locks.at (12 : Fin 64).val; let readers : BitVec 8 := 0x15;
      l.owner = 0 ∧ (readers.getLsbD 7 = true → 56 ≤ (12 : Fin 64).val) ∧ readOrder l.last readers = [5, 1, 3]) := by decide

theorem witness_WaitingMastersGoInRotation : 1 ≤ 5 ∧ 5 ≤ 8 ∧ nextMaster [1, 3] 5 = some 1 ∧ nextMaster [5] 5 = some 5 := by decide

/-- The example of the lock chapter: owner and last acquirer 5, lanes A and C waiting. -/
theorem test_lockOwner :
    ({ owner := 5, reserved := false, last := 5, waiting := [1, 3], since := 0 } : Lock).ownerReg = 0x05050005 := by decide

/-! ## Warden log and breach dumps -/

def tRecord (source : Nat) : Record := { code := 0x0601, source := source, severity := 3, cycle := 7, params := [1] }

theorem witness_RecordsTakeTheNextNumber :
    (let s := { upState 0xFF 0x7F id with warden := { Warden.reset with own := [tRecord 4] } }; s.coresRun = true ∧ s.ph.powered = true ∧ s.warden.own = [tRecord 4]) ∧
    (∀ n ∈ [1, 5], let s := upState 0xFF 0x7F (fun l => { l with mb := { l.mb with queue := [tRecord n] } });
      (s.lane .a).rc.powered = true ∧ (s.lane .a).rc.released.getLsbD 7 = true ∧ s.ph.powered = true ∧ s.coresRun = true ∧
        (Assoc.get Mailbox.reset (s.lane .a).mb.l2p 0).state = .empty ∧ (s.lane .a).mb.dropped = 0 ∧ (s.lane .a).mb.queue = [tRecord n] ∧ (tRecord n).source = n ∧
        (s.lane .a).nextRecord .a = some (tRecord n) ∧ (∀ h ∈ s.warden.halves, h.1 = tRecord n → h.2.get .a = true)) ∧
    (∀ m ∈ [{ a := false, b := true, c := false }, { a := false, b := true, c := true }],
      let s := { upState 0xFF 0x7F (fun l => { l with mb := { l.mb with queue := [tRecord 5] } }) with warden := { Warden.reset with halves := [(tRecord 5, m)] } };
      s.warden.halves.find? (fun h => h.1 == tRecord 5 && !h.2.get .a) = some (tRecord 5, m) ∧ (Mask.count m = 1 ∨ Mask.count m = 2)) ∧
    (let s := upState 0xFF 0x7F (fun l => { l with mb := { l.mb with dropped := 2 } }); s.coresRun = true ∧ 0 < (s.lane .a).mb.dropped) ∧
    (let s := upState 0xFF 0x7F (fun l => { l with mb := { l.mb with queue := [tRecord 1], l2p := [(0, { Mailbox.reset with state := .full })] } });
      (Assoc.get Mailbox.reset (s.lane .a).mb.l2p 0).state ≠ .empty ∧ (s.lane .a).nextRecord .a = some (tRecord 1)) ∧
    (let s := { upState 0xFF 0x7F (fun l => { l with mb := { l.mb with queue := [tRecord 1] } }) with ph := { Pumphouse.reset with released := 7 } };
      s.ph.powered = true ∧ s.coresRun = false ∧ (s.lane .a).nextRecord .a = some (tRecord 1) ∧ (Assoc.get Mailbox.reset (s.lane .a).mb.l2p 0).state = .empty) := by
  decide

theorem witness_BreachDumpsAreKeptUntilReleased :
    ∀ d ∈ [Dump.reset, { Dump.reset with state := 2 }, { Dump.reset with state := 2, headerOk := false }, { Dump.reset with state := 1 }],
      let s := { upState 0xFF 0x7F (fun l => { l with pe := { l.pe with state := .fault } }) with warden := { Warden.reset with dumpA := d } };
      (s.lane .a).pe.state = .fault ∧ (s.lane .a).rc.resetReq = none ∧ s.ph.powered = true ∧ s.warden.dump LaneId.a.idx = d ∧
        ({ s with ph := { s.ph with powered := false } } : State).ph.powered = false ∧
        (({ s with ph := { s.ph with powered := false } } : State).lane .a).pe.state = .fault := by
  decide

/-! ## Ports and rings -/

/-- A session of safety network A or B from 10.0.0.9 to UDP port 5000 in VLAN 7, and one of CAN port 21 under identifier 0x100. -/
def tNet2 : SessEntry := { tSess 6 .net2 with addrA := 0x0A000009, addrB := 0x0A000009, udp := 5000, vlan := 7 }
def tCanSess : SessEntry := { tSess 7 .can with port := 21, canRx := 2 ^ 31 + 0x100 }

def portImage : Image := { sessImage with sessions := [tNet2, tCanSess], rings := [tRing] }

/-- A watcher, unit 3, whose networks forward under own addresses. -/
def portState (net : Net) : State :=
  let s := unitState .watcher portImage (fun l => { l with rc := { l.rc with opts := { l.rc.opts with unitId := 3 } } })
  { s.setSettings { s.settings with ip := [(0, some 0x0A000001), (1, some 0x0A000002)] } with nets := PerLane.all { net with forwarding := true } }

/-- A frame to the own MAC address of network A from 10.0.0.9. -/
def tFrame : EthFrame := tEth 0x0A000001 0x0A000009 0x024B47010003 5000 (be 26 1)

/-- A datagram to 0.0.0.9 that waits. -/
def tWait : NetWait := { d := { dst := 9, src := 1, sport := 2, dport := 3, tag := none, dscp := 46, payload := [] }, cycle := some 7, failed := false, echo := false }

theorem witness_NetworksFilterAndResolve :
    (let s := portState Net.reset; (s.net .a).forwarding = true ∧ NetId.a ≠ .maint ∧ tFrame.port.val < netPorts .a ∧ s.passes .a tFrame = true ∧ tFrame.size ≤ 1522 ∧
      tFrame.macDst.toNat = s.ownMac .a ∧ s.tagKnown .a { tFrame with vlan := some 9 } = false ∧ s.tagKnown .a { tFrame with vlan := some 7 } = true ∧
      s.passes .a { tFrame with dport := 1 } = false ∧ s.tagKnown .a { tFrame with dport := 1 } = true ∧ s.kmpFrame { tFrame with dport := 1 } = false ∧
      (0x020000000007#48).toNat ≠ s.ownMac .a ∧ groupMac (0x020000000007#48).toNat = false ∧
      s.netSends .a = true ∧ s.netSends .maint = true ∧ s.netIp .a < 2 ^ 32 ∧ s.txOff .a 0 = false ∧ s.ph.kmpQueue = [] ∧
      (s.net .a).icmpSec ≠ (1#32).toNat ∧ (9#32).toNat ≠ s.netIp .a ∧ 9#32 ≠ 0#32 ∧ (s.net .a).arp = [] ∧ (s.net .a).waiting = [] ∧
      Assoc.get 0 (s.net .a).arp (9#32).toNat = 0 ∧ (9#32).toNat ∉ (s.net .a).asking ∧ s.outPorts .a 0 = [0, 1, 2, 3, 4, 5] ∧ (5 : Fin 6).val < netPorts .a) ∧
    (let s := portState { Net.reset with icmpSec := 4, icmpRun := 15, arp := [(9, 7)], macs := [(7, some 4)] };
      (s.net .b).icmpRun < 16 ∧ Assoc.get 0 (s.net .b).arp (9#32).toNat ≠ 0 ∧ s.outPorts .b (Assoc.get 0 (s.net .b).arp (9#32).toNat) = [4]) ∧
    (∀ e : Bool, let w := { tWait with echo := e }; let s := portState { Net.reset with icmpSec := 4, icmpRun := 16, waiting := [w], asking := [9] };
      (s.net .b).forwarding = true ∧ (s.net .b).icmpSec = (4#32).toNat ∧ 16 ≤ (s.net .b).icmpRun ∧ (s.net .b).waiting = [w] ∧
        w.d.dst = (9#32).toNat ∧ w.failed = false ∧ w.cycle.isSome = true ∧ w.echo = e ∧ (s.net .b).asking.contains (9#32).toNat = true) := by
  decide +kernel

/-- The longest frame has 1,522 bytes: one with a payload of 1,472 bytes and a tag. -/
theorem witness_longestFrame : ∃ f : EthFrame, f.size = 1522 ∧ ({ f with payload := 0 :: f.payload } : EthFrame).size = 1523 :=
  ⟨{ tFrame with vlan := some 7, payload := List.replicate 1472 0 }, by
    unfold EthFrame.size
    rw [List.length_replicate]
    decide, by
    unfold EthFrame.size
    rw [List.length_cons, List.length_replicate]
    decide⟩

/-- The bridge passes a frame for a learned station on to its port, one for an unknown station to every other port that is up (R276). -/
theorem test_bridge :
    let s := portState { Net.reset with links := 0x3F, macs := [(7, some 4)] };
    s.bridgeTo .a 0 7 = [4] ∧ s.bridgeTo .a 4 7 = [] ∧ s.bridgeTo .a 2 8 = [0, 1, 3, 4, 5] ∧ s.bridgeTo .a 0 (s.ownMac .a) = [] := by decide +kernel

/-- A watcher whose CAN port 0 is as given. -/
def canState (c : CanPort) : State := { portState Net.reset with can := [(0, c)] }

def tEntry (sid : Option Nat) (deadline : Nat) : CanEntry :=
  { ident := 5, data := [1], sid := sid, kind := 1, seg := 0, cycle := 7, deadline := deadline }

theorem witness_CanPortsQueueAndRecover :
    (let c := (canState { CanPort.reset with state := .detecting, good := 1 }).canPort (0 : Fin 6).val; c.state = .detecting ∧ c.good = 1) ∧
    ((tCan true false 0x100 []).sound = true ∧ (tCan true false 0x100 []).res = false ∧ (tCan true true 0x100 []).remote = true ∧
      ({ tCan true false 0x100 [] with fd := false }).fd = false ∧ ({ tCan true false 0x100 [] with res := true }).res = true) ∧
    (let s := canState { CanPort.reset with state := .active, queue := [tEntry (some 7) 99] }; let c := s.canPort (0 : Fin 6).val;
      c.state = .active ∧ (s.canIds (0 : Fin 6).val).contains (2 ^ 31 + (0x100#29).toNat) = true ∧
        (s.canIds (0 : Fin 6).val).contains (2 ^ 31 + (0x101#29).toNat) = false ∧ bits (getByte [0xC0#8, 5] 0) 0 6 = 0 ∧
        bit (getByte [0xC0#8, 5] 0) 7 = true ∧ bit (getByte [0xC0#8, 5] 0) 6 = true ∧ c.queue = [tEntry (some 7) 99] ∧ c.pinned = none ∧
        c.sending = none ∧ (98#64).toNat < (tEntry (some 7) 99).deadline ∧ s.leads = true ∧ s.phRuns = true ∧
        s.portOff (21 + (0 : Fin 6).val) = false ∧ c.tec + 8 * (31#8).toNat ≤ 255 ∧ 255 < c.tec + 8 * (32#8).toNat) ∧
    (let s := canState { CanPort.reset with state := .recovering, recovery := 1, queue := [tEntry (some 7) 99] }; let c := s.canPort (0 : Fin 6).val;
      c.state = .recovering ∧ c.queue = [tEntry (some 7) 99] ∧ s.tideNow < (tEntry (some 7) 99).deadline ∧
        c.recovery + (126#8).toNat < 128 ∧ 128 ≤ c.recovery + (127#8).toNat) ∧
    (∀ sid ∈ [some 7, none], let s := canState { CanPort.reset with state := .active, queue := [tEntry sid 0] };
      (s.canPort (0 : Fin 6).val).queue = [tEntry sid 0] ∧ (tEntry sid 0).deadline ≤ s.tideNow ∧ (s.canPort (0 : Fin 6).val).sending = none ∧
        (s.canPort (0 : Fin 6).val).pinned = none ∧ (tEntry sid 0).deadline ≤ s.cycle * s.image.period + 100000) := by
  decide +kernel

def tMaster : PtpMaster := { prio1 := 1, cls := 2, acc := 3, var := 4, prio2 := 5, ident := 6, steps := 0, utcOffset := 37 }

/-- X.25's check value, that of the FCS of a wire frame, over the digits 1 to 9. -/
theorem test_wireFcs : crc wireFcsParams ((List.range 9).map (fun i => BitVec.ofNat 8 (0x31 + i))) = 0x906E := by decide +kernel

theorem witness_WireFramesAndPtpMessages :
    (State.reset.phRuns = false ∧ State.reset.ptpRuns = false ∧ (portState Net.reset).phRuns = true ∧ [1#8, 0x7D].getLast? = some 0x7D#8) ∧
    (let chars : List Byte := [3, 3, 1, 2]; chars.getLast? ≠ some 0x7D#8 ∧ chars.length ≤ 2136 ∧
      crc wireFcsParams ((unescape chars).take ((unescape chars).length - 2)) ≠
        getByte (unescape chars) ((unescape chars).length - 2) + 256 * getByte (unescape chars) ((unescape chars).length - 1)) ∧
    (let s := portState Net.reset;
      let body := be 1 (ownIds s.unitId).1 ++ be 1 3 ++ [0x7E#8];
      ((body ++ be 1 (crc wireFcsParams body % 256) ++ be 1 (crc wireFcsParams body / 256)).flatMap escape).length ≤ 2136 ∧ (ownIds s.unitId).1 < 256) ∧
    (let s := portState Net.reset; s.ptpRuns = true ∧ s.ptp.master = none) ∧
    (∀ better : Bool, let s := { portState Net.reset with ptp := { Ptp.reset with master := some tMaster, state := 3 } };
      let m := { tMaster with prio1 := if better then 0 else 2, ident := 7 };
      s.ptpRuns = true ∧ s.ptp.master = some tMaster ∧ s.ptp.state = 3 ∧ s.netIp .maint ≠ 0 ∧ (s.net .maint).forwarding = true ∧ tMaster.ident ≠ m.ident ∧
        masterBefore m tMaster = better) ∧
    ({ portState Net.reset with ptp := { Ptp.reset with state := 4 } } : State).ptp.state = 4 := by
  refine ⟨?_, ?_, ?_, ?_, ?_, ?_⟩ <;> decide +kernel

/-- A frame of wire characters above the longest frame. -/
theorem witness_longWireFrame : ∃ chars : List Byte, chars.getLast? ≠ some 0x7D#8 ∧ 2136 < chars.length :=
  ⟨List.replicate 2137 0, by rw [List.getLast?_replicate]; decide, by rw [List.length_replicate]; decide⟩

/-- A native ring with an input slot 0 of node 1. -/
def inRing : RingBlock := { tRing with slots := [⟨false, 1, 64, 100000, 5⟩], digest := be 8 7 }

def tHdr : RingHdr :=
  { ty := 2, dir := true, ring := 2, srcAddr := 1, srcUnit := 0, dst := 0, hops := 126, cycle := 64, len := 0, corr := -1 }

/-- A header in the fields of Table 8-2. -/
theorem test_ringHeader : ({ tHdr with len := 26 } : RingHdr).bytes false =
    [0x12, 0x80, 2, 1, 0, 0, 126, 0, 0, 0, 0, 64, 0, 26, 0, 0, 0xFF, 0xFF, 0xFF, 0xFF, 0xFF, 0xFF, 0xFF, 0xFF] := by decide

def linked : Ring :=
  { Ring.reset with state := .lead, linkE := true, linkW := true, delayE := some 10, delayW := some 20, reqE := some 5, admitted := [1] }

/-- A unit at cycle 64 whose ring 2 is as given, ring 1 being its start ring. -/
def ringState2 (b : RingBlock) (g : Ring) : State :=
  let s := unitState .watcher { sessImage with rings := [tRing, b] } (fun l =>
    { l with rc := { l.rc with opts := { l.rc.opts with unitId := 3 } }, td := { l.td with cycle := 64 } })
  { s with rings := { Rings.reset with ring := [(1, g)], diagBase := diagTable } }

/-- A frame of node 1 with 26 bytes. -/
def nodeFrame : List Byte := ringFrame false tHdr (be 26 1)

theorem witness_ringBytes :
    (tHdr.ty < 16 ∧ (255 : Nat) < 256 ∧ tHdr.hops + 1 < 256 ∧ -(2 ^ 63 : Int) ≤ tHdr.corr ∧ tHdr.corr < 2 ^ 63 ∧ -(2 ^ 63 : Int) ≤ tHdr.corr + 2 ∧
      tHdr.corr + 2 < 2 ^ 63 ∧ (be 26 1).length ≤ 2020) ∧
    (let b : SyncBody := { cycle := 9, tCycle := 20, rank := 0, start := 0, launchErr := -5, epoch := 4, unit := 5, digest := be 8 7,
                           admitted := (List.range 128).filter (fun k => k == 127), resync := (List.range 128).filter (fun k => k == 0) };
      b.cycle < 2 ^ 64 ∧ b.tCycle < 2 ^ 16 ∧ b.start < 2 ^ 32 ∧ -(2 ^ 63 : Int) ≤ b.launchErr ∧ b.launchErr < 2 ^ 63 ∧ b.epoch < 2 ^ 32 ∧
        b.digest.length = 8 ∧ (slice (b.bytes false) 40 16).getLast? = some 1#8 ∧ getByte (b.bytes false) 56 = 0x80) := by
  refine ⟨?_, ?_⟩ <;> decide +kernel

theorem witness_RingFramesAndLinkDelays :
    (let s := ringState2 inRing linked; let g := s.ring (1 : Fin 4).val; let h := RingHdr.ofBytes (s.vk2 (1 : Fin 4).val) nodeFrame;
      s.ringLive (1 : Fin 4).val = true ∧ s.phRuns = true ∧ frameWhole [] = false ∧ frameWhole nodeFrame = true ∧ h.ty ≠ 5 ∧ h.ty ≠ 6 ∧
        s.ownFrame (1 : Fin 4).val h = false ∧ s.linkReady (1 : Fin 4).val Side.e.opposite = true ∧ h.hops < 127 ∧ s.vk2 (1 : Fin 4).val = false ∧
        g.delay .e = some 10 ∧ g.held Side.e.opposite = [] ∧ s.ownSlots (1 : Fin 4).val = [] ∧
        127 ≤ (RingHdr.ofBytes false (ringFrame false { tHdr with hops := 127 } [])).hops ∧ (s.image.ring (1 : Fin 4).val).mode = .native ∧
        bit s.ph.sfpRefused (Side.port (1 : Fin 4).val .w) = false ∧ s.cyclesRun = true ∧ s.cycle % 64 = 0 ∧ s.portUp (1 : Fin 4).val .e = true ∧
        s.portUp (1 : Fin 4).val .w = true ∧ g.state = .lead ∧ nextPolled g.admitted g.polled = some 1 ∧ s.rings.diagBase = diagTable) ∧
    (let s := ringState2 { tRing with slots := [⟨true, 0, 64, 400000, 5⟩] } linked;
      let go := max (nanos 399900 + 0) ((s.ring (1 : Fin 4).val).busy Side.e.opposite);
      go - nanos 399900 ≤ nanos 100000 ∧ ∃ a ∈ s.ownSlots (1 : Fin 4).val, go ≤ a ∧ a ≤ go + frameTime false nodeFrame.length) ∧
    (readDelay 5 (ringFrame false { tHdr with ty := 5, dst := 0xFE } (delayReqBody 9)) = some (delayReqBody 9) ∧
      readDelay 6 (ringFrame false { tHdr with ty := 6, dst := 0xFE } (delayRespBody 5 7)) = some (delayRespBody 5 7) ∧
      some (getBE (delayRespBody 5 7) 0 2) = linked.reqE) ∧
    (let s := ringState2 inRing linked; let g := s.ring (1 : Fin 4).val; let e : SlotEntry := ⟨false, 1, 64, 100000, 5⟩;
      (s.image.ring (1 : Fin 4).val).slots[0]? = some e ∧ e.out = false ∧ e.node ≠ 0 ∧
        readFrame false nodeFrame = some ({ tHdr with len := 26 }, be 26 1) ∧ tHdr.srcAddr = e.node ∧ nodeFrame.length = e.len ∧
        Assoc.get 0 g.slotsGot 0 = 0 ∧ (100000 * 65536 + 9 - tHdr.corr - 10 - (e.start : Int) * 65536).natAbs < 1500 * 65536) ∧
    readDiag false [1, 2] (ringFrame false { tHdr with ty := 7 } (be 1 1 ++ be 1 1 ++ be 2 0)) = some (1, be 1 1 ++ be 1 1 ++ be 2 0) ∧
    (let s := ringState2 { inRing with mode := .vk2 } { linked with state := .vk2Master, nodes := [(1, { RingNode.reset with echoId := some 9, pathDelay := some 3 })] };
      let g := s.ring (1 : Fin 4).val; let h : RingHdr := { tHdr with ty := 7, dir := false, ring := 0, corr := 0 };
      let echo := be 1 0x10 ++ be 1 1 ++ be 2 0 ++ be 4 9 ++ be 4 1; let delay := be 1 0x11 ++ be 1 1 ++ be 2 0 ++ be 4 3 ++ be 4 0;
      s.ringLive (1 : Fin 4).val = true ∧ s.phRuns = true ∧ g.state = .vk2Master ∧
        readDiag true [0x10] (ringFrame true h echo) = some (1, echo) ∧ (g.node 1).echoId = some (getBE echo 4 4) ∧
        readDiag true [0x11] (ringFrame true h delay) = some (1, delay) ∧ (g.node 1).pathDelay = some (getBE delay 4 4)) := by
  refine ⟨?_, ?_, ?_, ?_, ?_, ?_⟩ <;> decide +kernel

/-- A unit with a start ring as given. -/
def startRingState (r : Role) (g : Ring) (f : Rings → Rings) : State :=
  let s := unitState r { sessImage with rings := [inRing] } (fun l => { l with rc := { l.rc with opts := { l.rc.opts with unitId := 3 } } })
  { s with rings := f { Rings.reset with ring := [(0, g)] } }

/-- A SYNC of unit 5 under epoch 4, and a COLDSTART of a unit, in their frames. -/
def tSync : SyncBody :=
  { cycle := 9, tCycle := 20, rank := 0, start := 0, launchErr := 0, epoch := 4, unit := 5, digest := be 8 7, admitted := [], resync := [] }
def syncFrame : List Byte := ringFrame false { tHdr with ty := 1, srcAddr := 0, srcUnit := 5, dst := 0xFF } (tSync.bytes false)

def tCold (rank tCycle : Nat) : ColdBody := { rank := rank, preferred := false, round := 1, epoch := 0, tCycle := tCycle, digest := be 8 7 }

set_option maxRecDepth 20000 in
theorem witness_RingLeadershipAndAdmission :
    (let s := startRingState .watcher linked id; s.leads = true ∧ s.cyclesRun = true ∧ s.ringLive (0 : Fin 4).val = true ∧
      (s.ring (0 : Fin 4).val).state.leads = true) ∧
    (let s := startRingState .deciding { linked with state := .listen } id;
      s.ringLive (0 : Fin 4).val = true ∧ s.vk2 (0 : Fin 4).val = false ∧ (readSync false syncFrame).map (·.2) = some tSync ∧ tSync.unit ≠ s.unitId ∧
        tSync.tCycle = s.image.tCycle ∧ s.unit.role = .deciding ∧ (s.image.ring (0 : Fin 4).val).mode = .native ∧
        (s.ring (0 : Fin 4).val).delay .e = some 10) ∧
    (let s := startRingState .sleeper { linked with state := .follow, syncSide := some .e } (fun r => { r with leader := 5 });
      let s := { s with unit := { s.unit with epoch := 4, tideSet := true } };
      s.unit.role = .sleeper ∧ tSync.epoch = s.unit.epoch ∧ s.rings.leader = tSync.unit ∧ s.unit.tideSet = true ∧
        (s.ring (0 : Fin 4).val).delay .e = some 10 ∧ (s.ring (0 : Fin 4).val).syncSide = some .e ∧ (s.ring (0 : Fin 4).val).tookSync = false) ∧
    (let s := startRingState .sleeper { linked with state := .follow, lostSync := true } id;
      s.ringLive (0 : Fin 4).val = true ∧ (s.ring (0 : Fin 4).val).lostSync = true) ∧
    (∀ st ∈ [RingState.holdover, .vk2Passive], let s := startRingState .sleeper { linked with state := st, missRun := 4, lostSync := true } id;
      (s.ring (0 : Fin 4).val).state = st ∧ 4 ≤ (s.ring (0 : Fin 4).val).missRun ∧ s.ringLive (0 : Fin 4).val = true ∧ (s.ring (0 : Fin 4).val).lostSync = true) ∧
    (let n := { RingNode.reset with told := true }; n.told = true ∧ n.admitted = false ∧ n.ready = false ∧ RingNode.reset.told = false) ∧
    (let s := startRingState .watcher { linked with slotsGot := [(0, 1)], nodes := [(1, { RingNode.reset with admitted := true, errRun := 2, errNow := true })] } id;
      let f := fun (d : List Byte) => readFrame false (ringFrame false { tHdr with ty := 4 } (d ++ be 24 0));
      s.ringLive (0 : Fin 4).val = true ∧ (s.ring (0 : Fin 4).val).state = .lead ∧
        ((s.ring (0 : Fin 4).val).node (1 : Fin 128).val).admitted = true ∧ ((s.ring (0 : Fin 4).val).node (1 : Fin 128).val).errRun = 2 ∧
        ((s.ring (0 : Fin 4).val).node (1 : Fin 128).val).errNow = true ∧ (s.image.ring (0 : Fin 4).val).mode = .native ∧
        s.slotHeard (0 : Fin 4).val 1 = true ∧ f (be 8 7) = some ({ tHdr with ty := 4, len := 32 }, be 8 7 ++ be 24 0) ∧
        (IntegrateBody.ofBytes (be 8 7 ++ be 24 0)).digest = (s.image.ring (0 : Fin 4).val).digest ∧
        (IntegrateBody.ofBytes (be 8 8 ++ be 24 0)).digest ≠ (s.image.ring (0 : Fin 4).val).digest) ∧
    (let s := startRingState .deciding { linked with state := .listen } id;
      s.image.startRing = some 0 ∧ s.ringLive 0 = true ∧ s.unit.role = .deciding ∧ (s.ring 0).state = .listen ∧ s.rings.heardAny = false ∧
        s.rings.outcome ≠ 4 ∧ s.rings.otherTime = false ∧
        (∀ p ∈ [(0, 1, 20), (0, 5, 20), (1, 1, 20), (0, 1, 10)], let b := tCold p.1 p.2.2;
          let h : RingHdr := { tHdr with ty := 3, srcAddr := 0, srcUnit := p.2.1 };
          readFrame false (ringFrame false h b.bytes) = some ({ h with len := 24 }, b.bytes) ∧ h.forModules = true ∧ b.bytes.length = 24 ∧
            h.srcUnit ≠ s.unitId ∧ ColdBody.ofBytes b.bytes = b ∧ (b.tCycle = s.image.tCycle ↔ p.2.2 = 20) ∧
            s.outranks h.srcUnit b = (p.1 == 0 && p.2.1 == 1))) ∧
    (∀ p ∈ [(15, false, 0), (2, true, 1)],
      let s := startRingState .deciding { linked with state := .contend } (fun r => { r with round := p.1, sentRound := p.2.1, clear := p.2.2 });
      s.image.startRing = some 0 ∧ s.ringLive 0 = true ∧ s.unit.role = .deciding ∧ (s.ring 0).state = .contend ∧ s.rings.round < 16 ∧
        s.rings.sentRound = p.2.1 ∧ s.rings.clear = p.2.2) := by
  refine ⟨?_, ?_, ?_, ?_, ?_, ?_, ?_, ?_, ?_⟩ <;> decide +kernel

/-! ## Registers and requests -/

/-- A pumphouse in operation with the sluices of its lanes open. -/
def regState : State :=
  { upState 0xFF 0x7F (fun l => { l with rc := { l.rc with released := 0xFF, sluice := .opened } }) with
    nets := PerLane.all { Net.reset with forwarding := true, arp := [(0xC0A8FE02, 0x77)] } }

theorem witness_RegisterWritesAndClears :
    regState.phRuns = true ∧ regState.sluiceOpen .a = true ∧ regState.cfg.rwlFuse = false ∧
    ({ regState with cfg := { regState.cfg with rwlFuse := true } } : State).cfg.rwlFuse = true ∧ extPermitted (regState.lane .a).ls.life = true ∧
    ((regState.modLane .a (fun l => { l with bi := { l.bi with extCtrl := 5 } })).lane .a).bi.extCtrl.testBit 0 = true ∧
    blockOf 0 = some .module ∧ blockOf 0x40000000 = none ∧ ({ regState with bs := { regState.bs with scrub := true } } : State).bs.scrub = true := by
  refine ⟨?_, ?_, ?_, ?_, ?_, ?_, ?_, ?_, ?_⟩ <;> decide

/-- The requests of the statement: a read of the module's identification, an unmapped and an empty read, two writes, basin accesses at the ends of region 6 and beyond. -/
theorem witness_RequestsAreAnsweredWithTheirStatus :
    (regState.kmpRuns = true ∧ (tReq 0 1 []).requester.ip ≠ 0#32 ∧ Assoc.get 0 (regState.net .maint).arp (tReq 0 1 []).requester.ip.toNat ≠ 0 ∧
      Assoc.get 0 (regState.net .maint).arp 5 = 0 ∧ (regState.net .maint).asking.contains 5 = false ∧ regState.kmpHeld = false ∧ regState.ph.kmpQueue = [] ∧
      regState.outPorts .maint 0x77 ≠ [] ∧ ({ regState with nets := PerLane.all { Net.reset with waiting := [{ tWait with cycle := none }] } } : State).kmpHeld = true) ∧
    (let q := tReq 0 1 []; ∀ b ∈ [[], be 12 0, be 1 1 ++ be 1 5 ++ be 10 0],
      let f := { tEth (BitVec.ofNat 32 (regState.netIp .maint)) q.requester.ip (BitVec.ofNat 48 (regState.ownMac .maint)) 47810 b with sport := q.requester.port };
      f.port.val < 2 ∧ f.macDst.toNat = regState.ownMac .maint ∧ regState.tagKnown .maint f = true ∧ regState.kmpFrame f = true ∧ f.size ≤ 1522 ∧
        (regState.learn .maint f.port.val f.macSrc.toNat).outPorts .maint 0x77 ≠ [] ∧
        (f.payload.length < 12 ∨ getByte f.payload 1 = 0 ∨ 4 < getByte f.payload 1)) ∧
    regState.sluiceOpen .a = true ∧ (tReq 0 1 []).version = 1#8 ∧ blockOf (tReq 0 1 []).address.toNat = some .module ∧
    blockOf (tReq 0x40000000 256 []).address.toNat = none ∧ (tReq 0x20000008 1 (be 4 1)).data.length = 4 ∧
    (∀ a ∈ [0x0C000000, 0x0E000000 - 4], 0x0C000000 ≤ (tReq (BitVec.ofNat 32 a) 4 (be 4 1)).address.toNat ∧
      (tReq (BitVec.ofNat 32 a) 4 (be 4 1)).address.toNat + 4 ≤ 0x0E000000 ∧ a % 4 = 0) ∧
    (∀ a ∈ [0x0E000000, 0x10000000 - 4], 0x0E000000 ≤ (tReq (BitVec.ofNat 32 a) 4 (be 4 1)).address.toNat ∧
      (tReq (BitVec.ofNat 32 a) 4 (be 4 1)).address.toNat + 4 ≤ 0x10000000) := by
  refine ⟨?_, ?_, ?_, ?_, ?_, ?_, ?_, ?_, ?_⟩ <;> decide +kernel

/-- The KMP example of R383: a read of TD_TIDE of lane A, whose tide stands at 0x1D1A95347C0, answered with its low half and then the high half latched with it. -/
theorem test_kmpExample :
    (after (exec (.kmpRead { tReq 0x10090008 2 [] with tag := 0x0007 })
      (regState.modLane .a (fun l => { l with td := { l.td with tide := 0x1D1A95347C0 } })))).sent =
      [.datagram .maint [0, 1] 0x77 ⟨0xC0A8FE02, 0xC0A8FE00, 47810, 5000, none, 0,
        [0x01, 0x81, 0x00, 0x07, 0x10, 0x09, 0x00, 0x08, 0x00, 0x02, 0x00, 0x00, 0xA9, 0x53, 0x47, 0xC0, 0x00, 0x00, 0x01, 0xD1]⟩] := by
  decide +kernel

/-- The MRAM regions of Table 1-4 and who writes them (R21). -/
theorem test_mramRegions :
    MramRegion.wardenLog.writableBy .pumphouse = true ∧ MramRegion.wardenLog.writableBy (.lane .a) = false ∧
    (MramRegion.retained .a).writableBy (.lane .a) = true ∧ (MramRegion.retained .a).writableBy (.lane .b) = false := by decide

/-! ## The whole block -/

theorem witness_WritesAreReadBack :
    Table.wf [(3, 1#16)] = true ∧ Memory.wf [(3, 1#8)] = true ∧ Memory.wf ([] : Memory) = true := by decide

theorem witness_StepRunsTheFrontCommand : State.reset.pending = [] := rfl

theorem witness_StepKeepsTheBasinCanonical : State.reset.wf = true ∧
    (let s := { State.reset with pending := [.wdOptimeLo], basin := [(5, 1#8)] }; s.wf = true ∧ step s = .next (after (step s))) := by
  refine ⟨rfl, rfl, rfl⟩

end Sys2Proof.Tests
end

/-! PROOF. The agreement of the tide (R25, R140 to R142): what an agreement leaves in a lane, and what a TIDE message leads to. -/

namespace Sys2Proof

/-! ## Values per lane and the lanes of a mask -/

/-- Each lane of a list set by its own value before: a lane of the list has the new value, every other the old one. -/
theorem PerLane.get_foldl_set {α : Type} (g : LaneId → α → α) (ys : List LaneId) (hn : ys.Nodup) (d : PerLane α) (y : LaneId) :
    (ys.foldl (fun d y => d.set y (g y (d.get y))) d).get y = if y ∈ ys then g y (d.get y) else d.get y := by
  induction ys generalizing d with
  | nil => rfl
  | cons z zs ih =>
    obtain ⟨hz, hzs⟩ := List.nodup_cons.1 hn
    rw [List.foldl_cons, ih hzs, PerLane.get_set]
    by_cases hyz : y = z
    · subst hyz
      simp [hz]
    · simp [hyz]

theorem PerLane.get_foldl_set_const {α : Type} (v : α) (ys : List LaneId) (d : PerLane α) (y : LaneId) :
    (ys.foldl (fun d y => d.set y v) d).get y = if y ∈ ys then v else d.get y := by
  induction ys generalizing d with
  | nil => rfl
  | cons z zs ih =>
    rw [List.foldl_cons, ih, PerLane.get_set]
    by_cases hyz : y = z <;> simp [hyz]

theorem LaneId.self_not_mem_peers (x : LaneId) : x ∉ x.peers := by cases x <;> decide

theorem LaneId.mem_peers {x y : LaneId} (h : y ≠ x) : y ∈ x.peers := by revert h; cases x <;> cases y <;> decide

theorem LaneId.nodup_peers (x : LaneId) : x.peers.Nodup := by cases x <;> decide

end Sys2Proof

namespace Sys2Proof.Machine

theorem exec_tideReceive (x sender : LaneId) (count : BitVec 64) (rate : Int) (own : BitVec 64) (crcOk : Bool) (s : State) :
    exec (.tideReceive x sender count rate own crcOk) s = execTideReceive x sender count rate own crcOk s := rfl

/-- What every step of a fold keeps, the fold keeps. -/
theorem foldl_keeps {α β γ : Type} (p : α → γ) (f : α → β → α) (h : ∀ a b, p (f a b) = p a) (bs : List β) (a : α) :
    p (bs.foldl f a) = p a :=
  List.foldlRecOn (motive := fun b => p b = p a) bs f rfl (fun _ ih b _ => (h _ b).trans ih)

theorem Vote.mem_inMask {v : Vote} {x y : LaneId} : y ∈ v.inMask x ↔ y ∈ x.peers ∧ v.mask.get y = true := by
  simp [Vote.inMask]

/-- A lane counts itself once, and each peer in its mask once. -/
theorem Vote.nodup_self_inMask (v : Vote) (x : LaneId) : (x :: v.inMask x).Nodup :=
  List.nodup_cons.2 ⟨fun h => x.self_not_mem_peers (Vote.mem_inMask.1 h).1, x.nodup_peers.filter _⟩

theorem clamp_bounds {lo hi : Int} (h : lo ≤ hi) (i : Int) : lo ≤ clamp lo hi i ∧ clamp lo hi i ≤ hi := by
  unfold clamp; split_ifs <;> omega

/-! ## The agreement formed in a lane -/

/-- The value that lane `l` holds of lane `y`: its offset to the lane's own tide, and the rate it carries. -/
def Lane.heardValue (l : Lane) (y : LaneId) : Int × Int := (l.td.rx.get y).getD (0, 0)

/-- The agreed tide of an agreement in lane `l`, as an offset to the lane's own (R25). -/
def Lane.agreedOff (l : Lane) (a : Agreement) : Int := agreedOffset a.own (a.peers.map (fun y => (l.heardValue y).1))

/-- The lanes that an agreement judges, each with its value: the lane itself and the peers. -/
def Lane.voters (l : Lane) (x : LaneId) (a : Agreement) : List (LaneId × Int × Int) :=
  (x, 0, l.td.rate) :: a.peers.map (fun y => (y, l.heardValue y))

/-- The tide unit with the offsets, deviations and runs of an agreement entered. -/
def Lane.agreeNotes (l : Lane) (x : LaneId) (a : Agreement) (period : Nat) : TideUnit :=
  a.measured.foldl (fun t y => t.note y ((l.heardValue y).1 - l.agreedOff a) (l.heardValue y).2 period)
    ((l.voters x a).foldl (fun t p => (t.note p.1 (p.2.1 - l.agreedOff a) p.2.2 period).offset p.1 (p.2.1 - l.agreedOff a)) l.td)

/-- The entries leave every other field of the tide unit as it was. -/
theorem Lane.agreeNotes_keeps {γ : Type} (p : TideUnit → γ)
    (hp : ∀ t lastOff devs offRun, p { t with lastOff := lastOff, devs := devs, offRun := offRun } = p t)
    (l : Lane) (x : LaneId) (a : Agreement) (period : Nat) : p (l.agreeNotes x a period) = p l.td := by
  unfold Lane.agreeNotes
  rw [foldl_keeps p, foldl_keeps p]
  · exact fun t v => hp t _ _ _
  · exact fun t y => hp t _ _ t.offRun

theorem Lane.agree_io (l : Lane) (x : LaneId) (a : Agreement) (period fresh : Nat) : (l.agree x a period fresh).io = l.io := rfl

theorem Lane.agree_vt (l : Lane) (x : LaneId) (a : Agreement) (period fresh : Nat) :
    (l.agree x a period fresh).vt = { l.vt with disagree := (l.agree x a period fresh).vt.disagree } := rfl

theorem Lane.agree_spread (l : Lane) (x : LaneId) (a : Agreement) (period fresh : Nat) :
    (l.agree x a period fresh).td.spread = -l.agreedOff a := rfl

theorem Lane.agree_tide (l : Lane) (x : LaneId) (a : Agreement) (period fresh : Nat) : (l.agree x a period fresh).td.tide = l.td.tide :=
  l.agreeNotes_keeps TideUnit.tide (fun _ _ _ _ => rfl) x a period

theorem Lane.agree_agreements (l : Lane) (x : LaneId) (a : Agreement) (period fresh : Nat) :
    (l.agree x a period fresh).td.agreements = l.td.agreements + 1 :=
  congrArg (· + 1) (l.agreeNotes_keeps TideUnit.agreements (fun _ _ _ _ => rfl) x a period)

/-- The rate correction stays within 500 ppm (Table 6-6). -/
theorem Lane.agree_rate_bounds (l : Lane) (x : LaneId) (a : Agreement) (period fresh : Nat) :
    -50000 ≤ (l.agree x a period fresh).td.rate ∧ (l.agree x a period fresh).td.rate ≤ 50000 :=
  clamp_bounds (by decide) _

/-- AGREED says that the lane's own value, where it counts, and every peer's lie within 20 µs of the agreed one (R25). -/
theorem Lane.agree_agreed_iff (l : Lane) (x : LaneId) (a : Agreement) (period fresh : Nat) (ho : a.own = true) :
    (l.agree x a period fresh).td.agreed = true ↔
      (l.agreedOff a).natAbs ≤ 2000 ∧ ∀ y ∈ a.peers, ((l.heardValue y).1 - l.agreedOff a).natAbs ≤ 2000 := by
  simp [Lane.agree, ho, Lane.agreedOff, Lane.heardValue]

/-- The values that took part are used up. -/
theorem Lane.agree_rx (l : Lane) (x : LaneId) (a : Agreement) (period fresh : Nat) {y : LaneId} (hy : y ∈ a.peers) :
    (l.agree x a period fresh).td.rx.get y = none :=
  (PerLane.get_foldl_set_const none _ _ y).trans (if_pos (List.mem_append_left _ hy))

/-- A lane in service judges itself and each peer by the deviations and offsets of this agreement (R141, R142). -/
theorem Lane.agree_disagree (l : Lane) (x : LaneId) (a : Agreement) (period fresh : Nat) (hs : l.inService = true)
    (hn : (x :: a.peers).Nodup) {y : LaneId} (hy : y ∈ x :: a.peers) :
    (l.agree x a period fresh).vt.disagree.get y = flagOf (l.vt.disagree.get y) (l.agree x a period fresh).td y := by
  have hfst : (l.voters x a).map (·.1) = x :: a.peers := by simp [Lane.voters, Function.comp_def]
  have h : (l.agree x a period fresh).vt.disagree =
      (l.voters x a).foldl (fun d p => d.set p.1 (flagOf (d.get p.1) (l.agree x a period fresh).td p.1)) l.vt.disagree :=
    if_pos hs
  have h : (l.agree x a period fresh).vt.disagree =
      ((l.voters x a).map (·.1)).foldl (fun d y => d.set y (flagOf (d.get y) (l.agree x a period fresh).td y)) l.vt.disagree :=
    by rw [List.foldl_map]; exact h
  rw [h, hfst, PerLane.get_foldl_set (fun y f => flagOf f (l.agree x a period fresh).td y) _ hn, if_pos hy]

/-! ## What follows an agreement: attempts judged, the lane's own reaction -/

theorem State.lane_endRotation_ne (s : State) {x y : LaneId} (h : y ≠ x) : (s.endRotation x).lane y = s.lane y := by
  unfold State.endRotation
  split
  · exact s.lane_modLane_ne _ h
  · rfl

@[simp] theorem State.endRotation_fresh (s : State) (x : LaneId) : (s.endRotation x).fresh = s.fresh := by
  unfold State.endRotation; split <;> rfl

theorem State.lane_abortBy_ne (s : State) {x y : LaneId} (code : Nat) (dump : Bool) (h : y ≠ x) :
    (s.abortBy x code dump).lane y = s.lane y := by
  dsimp only [State.abortBy]
  split_ifs
  · rw [State.lane_endRotation_ne _ h, s.lane_modLane_ne _ h]
  · exact s.lane_modLane_ne _ h
  · rfl

@[simp] theorem State.abortBy_fresh (s : State) (x : LaneId) (code : Nat) (dump : Bool) : (s.abortBy x code dump).fresh = s.fresh := by
  dsimp only [State.abortBy]
  split_ifs <;> simp

/-- Judging lanes that have joined leaves every lane that is not judged (R148). -/
theorem State.lane_judgeJoiners (s : State) (x : LaneId) {ys : List LaneId} {z : LaneId} (hz : z ∉ ys) :
    (s.judgeJoiners x ys).lane z = s.lane z := by
  induction ys generalizing s with
  | nil => rfl
  | cons y ys ih =>
    obtain ⟨hzy, hzs⟩ := not_or.1 (mt List.mem_cons.2 hz)
    rw [State.judgeJoiners, List.foldl_cons, ← State.judgeJoiners, ih _ hzs]
    split
    · exact s.lane_abortBy_ne 7 false hzy
    · rfl

@[simp] theorem State.judgeJoiners_fresh (s : State) (x : LaneId) (ys : List LaneId) : (s.judgeJoiners x ys).fresh = s.fresh :=
  foldl_keeps State.fresh _ (fun s y => by split <;> simp [State.abortResync]) ys s

@[simp] theorem State.notice_fresh (s : State) (code : Nat) (ps : List Nat) : (s.notice code ps).fresh = s.fresh := by
  unfold State.notice
  split_ifs <;> simp [State.deliverNotice]

@[simp] theorem State.withdraw_fresh (s : State) (x : LaneId) (cause : Nat) (dump : Bool) : (s.withdraw x cause dump).fresh = s.fresh := by
  have hm : ∀ (t : State) (old : Mask) (gone : Option LaneId), (State.maskNotice old gone t).fresh = t.fresh := fun t old gone => by
    unfold State.maskNotice; split <;> simp
  have hs : ∀ t : State, t.settleService.fresh = t.fresh := fun t => by
    unfold State.settleService; split_ifs <;> simp [State.failSafe]
  simp [State.withdraw, hm, hs]

/-- A lane with three lanes in its mask that disagrees itself (R141, R142). -/
def Lane.disagreesItself (l : Lane) (x : LaneId) : Prop :=
  l.inService = true ∧ Mask.count l.vt.mask = 3 ∧ l.vt.disagree.get x ≠ 0

theorem State.tideReaction_of_disagrees {s : State} {x : LaneId} (h : (s.lane x).disagreesItself x) :
    s.tideReaction x = s.withdraw x ((s.lane x).vt.disagree.get x) false := by
  obtain ⟨hs, hm, hd⟩ := h
  simp [State.tideReaction, hs, hm, hd]

theorem State.tideReaction_of_not {s : State} {x : LaneId} (h : ¬ (s.lane x).disagreesItself x) : s.tideReaction x = s := by
  refine if_neg fun hc => h ?_
  simpa [Lane.disagreesItself, and_assoc] using hc

theorem State.lane_tideReaction_ne (s : State) {x y : LaneId} (h : y ≠ x) : (s.tideReaction x).lane y = s.lane y := by
  by_cases hd : (s.lane x).disagreesItself x
  · rw [State.tideReaction_of_disagrees hd, s.lane_withdraw_ne _ _ h]
  · rw [State.tideReaction_of_not hd]

@[simp] theorem State.tideReaction_fresh (s : State) (x : LaneId) : (s.tideReaction x).fresh = s.fresh := by
  by_cases hd : (s.lane x).disagreesItself x
  · rw [State.tideReaction_of_disagrees hd, State.withdraw_fresh]
  · rw [State.tideReaction_of_not hd]

/-- The reaction leaves the lane's tide unit and flags. -/
theorem State.tideReaction_td_disagree (s : State) (x : LaneId) :
    ((s.tideReaction x).lane x).td = (s.lane x).td ∧ ((s.tideReaction x).lane x).vt.disagree = (s.lane x).vt.disagree := by
  by_cases hd : (s.lane x).disagreesItself x
  · rw [State.tideReaction_of_disagrees hd, s.lane_withdraw_self]
    exact ⟨rfl, rfl⟩
  · rw [State.tideReaction_of_not hd]
    exact ⟨rfl, rfl⟩

/-! ## A TIDE message received (R140) -/

theorem State.tidePeers_of_inService {s : State} {x : LaneId} (h : (s.lane x).inService = true) :
    s.tidePeers x = (s.lane x).vt.inMask x := if_pos h

theorem State.mem_measuredBy {s : State} {x y : LaneId} (h : y ∈ s.measuredBy x) :
    y ≠ x ∧ (s.lane x).vt.mask.get y = false ∧ (s.lane y).vt.joinCycle ≠ none := by
  dsimp only [State.measuredBy] at h
  split at h
  · obtain ⟨hy, hm⟩ := List.mem_filter.1 h
    have hne : y ≠ x := fun e => x.self_not_mem_peers (e ▸ hy)
    simp only [Bool.and_eq_true, Bool.not_eq_true', Option.isSome_iff_ne_none] at hm
    exact ⟨hne, hm.1.1, hm.1.2⟩
  · exact absurd h List.not_mem_nil

/-- A peer's value kept in lane `x` until the agreement is formed. -/
def State.tideKept (s : State) (x sender : LaneId) (v : Int × Int) : State :=
  s.modLane x (fun l => { l with td := { l.td with rx := l.td.rx.set sender (some v) } })

/-- The agreement that lane `x` forms from the values it has kept. -/
def State.agreement (s : State) (x : LaneId) : Agreement :=
  { peers := s.tidePeers x, own := (s.lane x).inService || (s.lane x).indep, measured := s.measuredBy x, ahead := s.leaderAhead }

/-- The agreement formed in lane `x` and the lanes that it measures judged. -/
def State.tideFormed (s : State) (x : LaneId) : State :=
  { s.modLane x (fun l => l.agree x (s.agreement x) l.image.period s.fresh) with fresh := s.fresh + 1 }.judgeJoiners x (s.measuredBy x)

/-- The offset of a TIDE message's value, its link delay subtracted, to the own tide at its receipt. -/
def State.tideOffset (s : State) (x sender : LaneId) (count own : BitVec 64) : Int :=
  (count.toNat : Int) - (((s.lane x).td.linkDelay.get sender).getD 0 : Nat) - (own.toNat : Int)

@[simp] theorem State.lane_tideKept_self (s : State) (x sender : LaneId) (v : Int × Int) :
    (s.tideKept x sender v).lane x =
      { s.lane x with td := { (s.lane x).td with rx := (s.lane x).td.rx.set sender (some v) } } :=
  s.lane_modLane_self x _

theorem State.tidePeers_tideKept {s : State} {x : LaneId} (sender : LaneId) (v : Int × Int) (h : (s.lane x).inService = true) :
    (s.tideKept x sender v).tidePeers x = s.tidePeers x := by
  rw [State.tidePeers_of_inService h, State.tidePeers_of_inService (by rw [State.lane_tideKept_self]; exact h), State.lane_tideKept_self]

/-- What lane `x` in service holds of lane `y` once the message is kept. -/
theorem State.heardValue_tideKept (s : State) (x sender : LaneId) (v : Int × Int) (y : LaneId) :
    ((s.tideKept x sender v).lane x).heardValue y = if y = sender then v else (s.lane x).heardValue y := by
  simp only [Lane.heardValue, State.lane_tideKept_self, PerLane.get_set]
  split <;> rfl

section
variable {s : State} {x sender : LaneId} (count : BitVec 64) (rate : Int) (own : BitVec 64)

/-- A lane outside the mask that has not joined takes no part: its value is kept. -/
theorem execTideReceive_of_not_mask (hx : sender ≠ x) (hs : (s.lane x).inService = true) (hm : (s.lane x).vt.mask.get sender = false)
    (hj : (s.lane sender).vt.joinCycle = none) :
    execTideReceive x sender count rate own true s = .next (s.tideKept x sender (s.tideOffset x sender count own, rate)) := by
  simp [execTideReceive, hx, hs, hm, hj, State.tideKept, State.tideOffset]

/-- A value of a lane of the mask: the agreement is formed once every peer's value is in, and the value is kept until then. -/
theorem execTideReceive_of_mask (hx : sender ≠ x) (hs : (s.lane x).inService = true) (hm : (s.lane x).vt.mask.get sender = true) :
    let k := s.tideKept x sender (s.tideOffset x sender count own, rate)
    execTideReceive x sender count rate own true s =
      .next (if (k.tidePeers x).all (fun y => ((k.lane x).td.rx.get y).isSome) then (k.tideFormed x).tideReaction x else k) := by
  intro k
  have hk : (k.lane x).inService = true := by simpa [k, Lane.inService] using hs
  have hp : (k.tidePeers x).isEmpty = false := by
    rw [State.tidePeers_of_inService hk, List.isEmpty_eq_false_iff_exists_mem]
    exact ⟨sender, Vote.mem_inMask.2 ⟨LaneId.mem_peers hx, by simpa [k] using hm⟩⟩
  have ho : ((s.lane x).inService || (s.lane x).indep) = ((k.lane x).inService || (k.lane x).indep) := by rw [hs, hk]; rfl
  dsimp only [execTideReceive]
  rw [if_neg (by decide), if_neg hx, if_neg (by simp [hm])]
  change (if ((k.tidePeers x).isEmpty || !((k.tidePeers x).all fun y => ((k.lane x).td.rx.get y).isSome)) = true then _ else _) = _
  by_cases hall : ((k.tidePeers x).all fun y => ((k.lane x).td.rx.get y).isSome) = true
  · rw [if_neg (by simp [hp, hall]), if_pos hall, State.tideFormed, State.agreement, ← ho]
    rfl
  · rw [if_pos (by simp [hall]), if_neg hall]
    rfl

end

/-! ## What the agreement leaves -/

theorem State.tideFormed_fresh (s : State) (x : LaneId) : (s.tideFormed x).fresh = s.fresh + 1 := by
  rw [State.tideFormed, State.judgeJoiners_fresh]

/-- The lane itself is as its agreement leaves it: no lane measures itself. -/
theorem State.lane_tideFormed_self (s : State) (x : LaneId) :
    (s.tideFormed x).lane x = (s.lane x).agree x (s.agreement x) (s.lane x).image.period s.fresh := by
  rw [State.tideFormed, State.lane_judgeJoiners _ _ fun h => (State.mem_measuredBy h).1 rfl]
  exact s.lane_modLane_self x _

/-- A lane of the mask, or one that has not joined, stays as it is. -/
theorem State.lane_tideFormed_ne {s : State} {x y : LaneId} (h : y ≠ x)
    (hy : (s.lane x).vt.mask.get y = true ∨ (s.lane y).vt.joinCycle = none) : (s.tideFormed x).lane y = s.lane y := by
  rw [State.tideFormed, State.lane_judgeJoiners _ _ fun hm => ?_]
  · exact s.lane_modLane_ne _ h
  · obtain ⟨-, hmask, hjoin⟩ := State.mem_measuredBy hm
    rcases hy with hy | hy
    · simp [hy] at hmask
    · exact hjoin hy


/-- A lane in service that does not disagree itself stays in service. -/
theorem State.tideReaction_state_io {s : State} {x : LaneId} (hs : (s.lane x).inService = true) (hd : (s.lane x).vt.disagree.get x = 0) :
    ((s.tideReaction x).lane x).vt.state = .inService ∧ ((s.tideReaction x).lane x).io = (s.lane x).io := by
  rw [State.tideReaction_of_not fun h => h.2.2 hd]
  exact ⟨beq_iff_eq.1 hs, rfl⟩

/-- A lane that disagrees itself in a mask of three withdraws with its flag as cause (R141, R142). -/
theorem State.tideReaction_withdraws {s : State} {x : LaneId} (h : (s.lane x).disagreesItself x) :
    ((s.tideReaction x).lane x).vt.state = .withdrawn ∧
      ((s.tideReaction x).lane x).vt.minCause = (s.lane x).vt.disagree.get x ∧ ((s.tideReaction x).lane x).io.drives = false := by
  rw [State.tideReaction_of_disagrees h, s.lane_withdraw_self]
  exact ⟨Lane.withdraw_state .., rfl, Lane.withdraw_drives ..⟩

/-- Settles O22. The equations of a TIDE message give the plain cases; what the agreement leaves is read off the laws of `Lane.agree`, which the lane's
reaction keeps but for its own withdrawal. -/
theorem tideMessagesFormTheAgreedTide : Obligations.TideMessagesFormTheAgreedTide := by
  intro s x sender count own rate hx l off value peers agreed kept
  simp only [exec_tideReceive]
  have hserv : l.vt.state = .inService → l.inService = true := fun h => beq_iff_eq.2 h
  have hpeers : l.inService = true → kept.tidePeers x = peers := State.tidePeers_tideKept sender (off, rate)
  have hkept : kept.lane x = { l with td := { l.td with rx := l.td.rx.set sender (some (off, rate)) } } := s.lane_tideKept_self ..
  refine ⟨rfl, fun hst hm ⟨y, hy, hne, hnone⟩ => ?_,
    fun hst hm hj => execTideReceive_of_not_mask count rate own hx (hserv hst) hm hj, fun hst hm hall => ?_⟩
  · refine (execTideReceive_of_mask count rate own hx (hserv hst) hm).trans (congrArg _ (if_neg fun h => ?_))
    have h := List.all_eq_true.1 h y ((hpeers (hserv hst)).symm ▸ hy)
    rw [s.lane_tideKept_self, PerLane.get_set_ne _ _ hne] at h
    exact absurd h (by simp [l, hnone])
  · have hs := hserv hst
    have hs' : (kept.lane x).inService = true := hkept ▸ hs
    have hex : execTideReceive x sender count rate own true s = .next ((kept.tideFormed x).tideReaction x) := by
      refine (execTideReceive_of_mask count rate own hx hs hm).trans (congrArg _ (if_pos (List.all_eq_true.2 fun y hy => ?_)))
      rw [s.lane_tideKept_self, PerLane.get_set]
      split
      · rfl
      · exact hall y (hpeers hs ▸ hy) ‹_›
    set a := kept.agreement x
    have hap : a.peers = peers := hpeers hs
    have hao : a.own = true := Bool.or_eq_true_iff.2 (.inl hs')
    have hvalue : ∀ y, ((kept.lane x).heardValue y).1 = value y := fun y =>
      (congrArg Prod.fst (s.heardValue_tideKept x sender (off, rate) y)).trans (apply_ite Prod.fst _ _ _)
    have hag : (kept.lane x).agreedOff a = agreed := by simp only [Lane.agreedOff, hao, hap, hvalue, agreed]
    have hn : (x :: a.peers).Nodup := (hap.trans (State.tidePeers_of_inService hs)) ▸ l.vt.nodup_self_inMask x
    set L := (kept.tideFormed x).lane x with hLdef
    have hL : L = (kept.lane x).agree x a (kept.lane x).image.period kept.fresh := kept.lane_tideFormed_self x
    have hflag : ∀ y ∈ x :: peers, L.vt.disagree.get y = flagOf (l.vt.disagree.get y) L.td y := fun y hy => by
      rw [hL, Lane.agree_disagree _ _ _ _ _ hs' hn (hap ▸ hy), hkept]
    have hLs : L.inService = true := by rw [hL, Lane.inService, Lane.agree_vt]; exact hs'
    have hLm : L.vt.mask = l.vt.mask := by rw [hL, Lane.agree_vt, hkept]
    obtain ⟨htd, hdis⟩ := (kept.tideFormed x).tideReaction_td_disagree x
    refine ⟨_, hex, ?_, fun y hy hjoin => ?_, ?_⟩
    · rw [State.tideReaction_fresh, State.tideFormed_fresh]
      rfl
    · have hk : kept.lane y = s.lane y := s.lane_modLane_ne _ hy
      rw [State.lane_tideReaction_ne _ hy, State.lane_tideFormed_ne hy (by rwa [hkept, hk]), hk]
    rw [htd, hdis, ← hLdef]
    refine ⟨?_, ?_, ?_, ?_, ?_, ?_, fun y hy => ⟨?_, hflag y (.tail _ hy)⟩, hflag x (.head _), fun h3 hd => ?_, fun hd => ?_⟩
    · rw [hL, Lane.agree_spread, hag]
    · rw [hL]; exact (Lane.agree_rate_bounds ..).1
    · rw [hL]; exact (Lane.agree_rate_bounds ..).2
    · rw [hL, Lane.agree_agreements, hkept]
    · rw [hL, Lane.agree_tide, hkept]
    · rw [hL, Lane.agree_agreed_iff _ _ _ _ _ hao, hag, hap]
      simp only [hvalue]
    · rw [hL, Lane.agree_rx _ _ _ _ _ (hap ▸ hy)]
    · exact State.tideReaction_withdraws ⟨hLs, hLm ▸ h3, hd⟩
    · obtain ⟨hstate, hio⟩ := State.tideReaction_state_io hLs hd
      exact ⟨hstate, by rw [hio, ← hLdef, hL, Lane.agree_io, hkept]⟩

end Sys2Proof.Machine

/-! PROOF. A DATA telegram (R180, R185, R186): how a lane comes to it, what each check that refuses it leaves, and what its acceptance leaves. -/

namespace Sys2Proof.Machine

theorem exec_dataTelegramReceive (x : LaneId) (addr : BitVec 29) (unreadable : Bool) (s : State) :
    exec (.dataTelegramReceive x addr unreadable) s = execDataTelegramReceive x addr unreadable s := rfl

/-- No sequence number is later than itself (R164). -/
theorem later_self (n : Nat) : later n n = false := by simp [later]

theorem FirstCopy.matches_data_iff (f : FirstCopy) {t : Tele} (netB : Bool) (ht : t.ty = 1) :
    f.matches t netB = true ↔ f.closed = false ∧ f.netB ≠ netB ∧ (Tele.ofBytes 4 f.tele).copy ≠ t.copy ∧
      (Tele.ofBytes 4 f.tele).ty = t.ty ∧ (Tele.ofBytes 4 f.tele).seq = t.seq := by
  simp [FirstCopy.matches, ht, and_assoc]

/-! ## One lane changed, and the basin read -/

/-- Two changes of a lane that agree in what they make of it are the same. -/
theorem State.modLane_congr {s : State} {x : LaneId} {f g : Lane → Lane} (h : f (s.lane x) = g (s.lane x)) : s.modLane x f = s.modLane x g := by
  rw [State.lane] at h
  rw [State.modLane, State.modLane, PerLane.modify, PerLane.modify, h]

theorem State.modLane_modLane (s : State) (x : LaneId) (f g : Lane → Lane) : (s.modLane x f).modLane x g = s.modLane x (fun l => g (f l)) := by
  cases x <;> rfl

/-- A change of a lane leaves the rest of the state. -/
theorem State.onlyLane_modLane (s : State) (x : LaneId) (f : Lane → Lane) : s.onlyLane (s.modLane x f) x := by
  rw [State.onlyLane, State.lane_modLane_self]
  rfl

/-- A read of the basin leaves the lanes, and reads past a change of a lane. -/
theorem State.basinRead_modLane (s : State) (x : LaneId) (f : Lane → Lane) (m a n : Nat) :
    (s.modLane x f).basinRead m a n = ((s.basinRead m a n).1.modLane x f, (s.basinRead m a n).2) := by
  unfold State.basinRead
  split
  · rfl
  · simp only [State.violation, State.busError]
    split <;> rfl

@[simp] theorem State.basinRead_lanes (s : State) (m a n : Nat) : (s.basinRead m a n).1.lanes = s.lanes := by
  unfold State.basinRead; split <;> simp

@[simp] theorem State.basinRead_unit (s : State) (m a n : Nat) : (s.basinRead m a n).1.unit = s.unit := by
  unfold State.basinRead; split <;> simp

@[simp] theorem State.lane_basinRead (s : State) (m a n : Nat) (x : LaneId) : (s.basinRead m a n).1.lane x = s.lane x := by
  simp [State.lane]

/-! ## How a lane comes to a telegram (R19, R23, R96, R151) -/

theorem State.arrivalAt_unreadable {s : State} {addr : Nat} {u : Bool} {a : Arrival} (h : s.arrivalAt addr u = some a) : a.unreadable = u := by
  obtain ⟨b, -, rfl⟩ := Option.map_eq_some_iff.1 h
  rfl

theorem Lane.keepsArrivals_iff (l : Lane) : l.keepsArrivals = true ↔ l.vt.state = .base ∨ l.vt.state = .catchUp := by
  simp [Lane.keepsArrivals]

theorem Lane.not_keepsArrivals_of_evaluates {l : Lane} (h : l.evaluates = true) : l.keepsArrivals = false := by
  revert h
  unfold Lane.evaluates Lane.keepsArrivals
  cases l.vt.state <;> decide

section
variable {s : State} {x : LaneId} {e : Early}

theorem State.arrive_of_keeps (h : (s.lane x).keepsArrivals = true) :
    s.arrive x e = (if e.arr.unreadable then s.eccError e.arr.addr else s).modLane x (fun l =>
      { l with vt := { l.vt with arrivals := l.vt.arrivals ++ [{ arr := e.arr, epochs := s.unit.ringEpoch, sleeper := s.sleeps }] } }) :=
  if_pos h

variable (h : (s.lane x).evaluates = true)
include h

theorem State.arrive_of_unreadable (hu : e.arr.unreadable = true) : s.arrive x e = s.unreadable x e.arr.addr := by
  simp [State.arrive, Lane.not_keepsArrivals_of_evaluates h, h, hu]

theorem State.arrive_of_early (hu : e.arr.unreadable = false) (hf : (s.lane x).nextFreeze (s.lane x).image ≤ e.arr.stamp) :
    s.arrive x e = s.modLane x (fun l => l.holdEarly l.image e) := by
  simp [State.arrive, Lane.not_keepsArrivals_of_evaluates h, h, hu, hf]

theorem State.arrive_of_due (hu : e.arr.unreadable = false) (hf : e.arr.stamp < (s.lane x).nextFreeze (s.lane x).image) :
    s.arrive x e = (s.modLane x (fun l => l.defer l.image e.arr.stamp)).verify x e := by
  simp [State.arrive, Lane.not_keepsArrivals_of_evaluates h, h, hu, Nat.not_le.2 hf]

end

/-! ## The lane before its checks: the stamp counted, the seals verified (R96, R189) -/

section
variable (l : Lane) (m : Image) (a : Arrival) (b : List Byte) (n : Nat)

theorem Lane.defer_eq : l.defer m n = { l with td := (l.defer m n).td } := by
  dsimp only [Lane.defer]; split <;> rfl

theorem Lane.verifySeals_eq : l.verifySeals m a b = { l with cv := (l.verifySeals m a b).cv } := by
  unfold Lane.verifySeals; split <;> rfl

@[simp] theorem Lane.defer_ts : (l.defer m n).ts = l.ts := by rw [Lane.defer_eq]
@[simp] theorem Lane.defer_pe : (l.defer m n).pe = l.pe := by rw [Lane.defer_eq]
@[simp] theorem Lane.defer_io : (l.defer m n).io = l.io := by rw [Lane.defer_eq]
@[simp] theorem Lane.defer_vt : (l.defer m n).vt = l.vt := by rw [Lane.defer_eq]
@[simp] theorem Lane.defer_rc : (l.defer m n).rc = l.rc := by rw [Lane.defer_eq]
@[simp] theorem Lane.defer_ls : (l.defer m n).ls = l.ls := by rw [Lane.defer_eq]
@[simp] theorem Lane.defer_image : (l.defer m n).image = l.image := by
  simp only [Lane.image, Lane.image?, Lane.activeSlot, Lane.defer_ls]
@[simp] theorem Lane.verifySeals_ts : (l.verifySeals m a b).ts = l.ts := by rw [Lane.verifySeals_eq]
@[simp] theorem Lane.verifySeals_pe : (l.verifySeals m a b).pe = l.pe := by rw [Lane.verifySeals_eq]
@[simp] theorem Lane.verifySeals_io : (l.verifySeals m a b).io = l.io := by rw [Lane.verifySeals_eq]
@[simp] theorem Lane.verifySeals_vt : (l.verifySeals m a b).vt = l.vt := by rw [Lane.verifySeals_eq]

end

theorem State.verify_data (s : State) (x : LaneId) (a : Arrival) :
    s.verify x { arr := a, kind := 1, own := 0 } =
      (s.basinRead x.num a.addr a.len).1.verifyData x a (s.basinRead x.num a.addr a.len).2 := rfl

/-- A lane changed before it verifies a telegram, but not in its image `m` and its identifier `u`. -/
theorem State.verifyData_modLane {s : State} {x : LaneId} {f : Lane → Lane} {m : Image} {u : Nat} (a : Arrival) (b : List Byte)
    (hm : (f (s.lane x)).image = m) (hu : (f (s.lane x)).rc.opts.unitId = u) :
    (s.modLane x f).verifyData x a b = s.modLane x (fun l => (f l).takeTelegram m u s.unit.ringEpoch a b) := by
  rw [State.verifyData, State.modLane_modLane, State.modLane_unit]
  exact State.modLane_congr (by rw [hm, hu])

/-- A DATA telegram that is due is read by the lane and taken (R23, R180). -/
theorem State.arrive_data_of_due {s : State} {x : LaneId} {a : Arrival} (h : (s.lane x).evaluates = true) (hu : a.unreadable = false)
    (hf : a.stamp < (s.lane x).nextFreeze (s.lane x).image) :
    s.arrive x { arr := a, kind := 1, own := 0 } = (s.basinRead x.num a.addr a.len).1.modLane x (fun l =>
      (l.defer l.image a.stamp).takeTelegram (s.lane x).image (s.lane x).rc.opts.unitId s.unit.ringEpoch a
        (s.basinRead x.num a.addr a.len).2) := by
  rw [State.arrive_of_due h hu hf, State.verify_data, State.basinRead_modLane,
    State.verifyData_modLane (m := (s.lane x).image) (u := (s.lane x).rc.opts.unitId), State.basinRead_unit]
  · rw [Lane.defer_image, State.lane_basinRead]
  · rw [Lane.defer_rc, State.lane_basinRead]

/-! ## The session store -/

/-- A context with a refusal counted; a session that the image does not have counts none. -/
def SessCtx.refusedWith (c : SessCtx) (code : Nat) : SessCtx :=
  if c.state = .absent then c else { c with refused := sat c.refused, lastCode := code }

/-- A refusal counted in a context changes its count and code alone. -/
theorem SessCtx.refusedWith_eq (c : SessCtx) (code : Nat) :
    c.refusedWith code = { c with refused := (c.refusedWith code).refused, lastCode := (c.refusedWith code).lastCode } := by
  unfold SessCtx.refusedWith; split <;> rfl

section
variable (t : Sessions) (sid code : Nat) (c : SessCtx)

@[simp] theorem Sessions.at_set_self : (t.set sid c).at sid = c := Assoc.get_put_self ..

theorem Sessions.at_set_ne {k : Nat} (h : k ≠ sid) : (t.set sid c).at k = t.at k := Assoc.get_put_ne (Ne.symm h)

/-- A session that the image does not have counts no refusal of its own. -/
theorem Sessions.refuse_of_absent (h : (t.at sid).state = .absent) :
    t.refuse sid code = { t with refuseCnt := Assoc.upd 0 t.refuseCnt code sat, lastCode := code, lastSid := sid } :=
  if_pos (beq_iff_eq.2 h)

theorem Sessions.refuse_of_present (h : (t.at sid).state ≠ .absent) :
    t.refuse sid code = { t.set sid ((t.at sid).refusedWith code) with
      refuseCnt := Assoc.upd 0 t.refuseCnt code sat, lastCode := code, lastSid := sid } := by
  rw [SessCtx.refusedWith, if_neg h]
  exact if_neg (mt beq_iff_eq.1 h)

/-- A refusal counts its code; the contexts apart, nothing else changes. -/
theorem Sessions.refuse_eq :
    t.refuse sid code = { t with ctx := (t.refuse sid code).ctx, refuseCnt := Assoc.upd 0 t.refuseCnt code sat, lastCode := code, lastSid := sid } := by
  by_cases h : (t.at sid).state = .absent
  · rw [Sessions.refuse_of_absent _ _ _ h]
  · rw [Sessions.refuse_of_present _ _ _ h]
    rfl

@[simp] theorem Sessions.at_refuse_self : (t.refuse sid code).at sid = (t.at sid).refusedWith code := by
  by_cases h : (t.at sid).state = .absent
  · rw [Sessions.refuse_of_absent _ _ _ h, SessCtx.refusedWith, if_pos h]
    rfl
  · rw [Sessions.refuse_of_present _ _ _ h]
    exact t.at_set_self sid _

theorem Sessions.at_refuse_ne {k : Nat} (h : k ≠ sid) : (t.refuse sid code).at k = t.at k := by
  by_cases ha : (t.at sid).state = .absent
  · rw [Sessions.refuse_of_absent _ _ _ ha]
    rfl
  · rw [Sessions.refuse_of_present _ _ _ ha]
    exact t.at_set_ne sid _ h

/-- A first copy counted as missing in its context, where it was held unpaired and open (R185). -/
theorem Sessions.countMissing_eq (f : Option FirstCopy) :
    countMissing t sid f = { t with ctx := (countMissing t sid f).ctx, copyMissing := (countMissing t sid f).copyMissing } := by
  unfold countMissing
  split
  · split <;> rfl
  · rfl

theorem Sessions.at_countMissing_self (f : Option FirstCopy) :
    (countMissing t sid f).at sid = { t.at sid with missing := ((countMissing t sid f).at sid).missing } := by
  unfold countMissing
  split
  · split
    · rfl
    · simp only [Sessions.at, Sessions.set, Assoc.get_put_self]
  · rfl

theorem Sessions.at_countMissing_ne (f : Option FirstCopy) {k : Nat} (h : k ≠ sid) : (countMissing t sid f).at k = t.at k := by
  unfold countMissing
  split
  · split
    · rfl
    · exact Sessions.at_set_ne _ _ _ h
  · rfl

end

/-! ## Checks 5 and 6 (R180) -/

/-- A sequence number that check 5 admits after what the context knows of the sender. -/
def SessCtx.admitsSeq (c : SessCtx) (t : Tele) : Prop := t.seq ≠ 0 ∧ ∀ r, c.lastSeq = some r → later t.seq r = true

/-- The stale count that a telegram leads to. -/
def SessCtx.staleAfter (c : SessCtx) (t : Tele) : Nat := if c.lastAlive = some t.alive then min (c.stale + 1) 65535 else 0

/-- What check 6 works on: the sequence number, the alive counter and the stale count of the telegram taken. -/
def SessCtx.withCounts (c : SessCtx) (t : Tele) : SessCtx :=
  { c with lastSeq := some t.seq, stale := c.staleAfter t, lastAlive := some t.alive }

section
variable (c : SessCtx) (e : SessEntry) (t : Tele) (cand : Candidate)

theorem SessCtx.newEpoch_eq :
    c.newEpoch t = { c with peerEpoch := max c.peerEpoch t.epoch, lastSeq := if c.peerEpoch < t.epoch then none else c.lastSeq,
                            lastAlive := if c.peerEpoch < t.epoch then none else c.lastAlive,
                            stale := if c.peerEpoch < t.epoch then 0 else c.stale } := by
  unfold SessCtx.newEpoch
  split
  · rw [Nat.max_eq_right (Nat.le_of_lt ‹_›)]
  · rw [Nat.max_eq_left (Nat.not_lt.1 ‹_›)]

variable {c e t cand}

theorem SessCtx.takeData_of_seq (h : ¬ (c.newEpoch t).admitsSeq t) : c.takeData e t cand = (c.newEpoch t, 5) := by
  unfold SessCtx.admitsSeq at h
  unfold SessCtx.takeData
  by_cases h0 : t.seq = 0
  · exact if_pos h0
  · cases hs : (c.newEpoch t).lastSeq with
    | none => simp [h0, hs] at h
    | some r =>
      have hr : later t.seq r = false := by simpa [h0, hs] using h
      simp [h0, hs, hr]

variable (h : (c.newEpoch t).admitsSeq t)
include h

theorem SessCtx.takeData_of_admits : c.takeData e t cand =
    if e.staleK ≤ (c.newEpoch t).staleAfter t then ({ (c.newEpoch t).withCounts t with staleRef := true }, 6)
    else ({ (c.newEpoch t).withCounts t with staleRef := false, accepted := sat c.accepted,
                                             cand := if c.state = .senderFault then c.cand else some cand }, 0) := by
  obtain ⟨h0, hlater⟩ := h
  refine (if_neg h0).trans ((if_neg ?_).trans ?_)
  · split
    · simp [hlater _ ‹_›]
    · decide
  · refine if_congr Iff.rfl rfl ?_
    rw [SessCtx.newEpoch_eq]
    by_cases hs : c.state = .senderFault <;> simp [hs, SessCtx.withCounts, SessCtx.staleAfter]

end

/-! ## What a lane makes of a telegram (R180, R185, R186) -/

/-- Which case of the NET2 copies a telegram is; a telegram of any other transport is a first copy. -/
def copyKind (e : SessEntry) (c : SessCtx) (t : Tele) (a : Arrival) (b : List Byte) : CopyCase :=
  if e.transport == .net2 then copyCase c.firstData t (a.path == .net2 true) (e.pairWin * 100000) a.stamp b else .first

/-- The candidate that a telegram accepted becomes. -/
def candidateOf (a : Arrival) (t : Tele) : Candidate := { addr := a.addr, stamp := a.stamp, time := t.time, payload := t.payload }

/-- An accepted NET2 telegram held as first copy; the one held before, of context `c`, counts as missing where it stayed unpaired (R185). -/
def Sessions.holdFirst (ts : Sessions) (e : SessEntry) (c : SessCtx) (t : Tele) (a : Arrival) (b : List Byte) : Sessions :=
  if e.transport == .net2 then
    (countMissing ts t.sid c.firstData).set t.sid { (countMissing ts t.sid c.firstData).at t.sid with
      firstData := some { addr := a.addr, stamp := a.stamp, netB := (a.path == .net2 true), tele := b, paired := false, closed := false } }
  else ts

section
variable (ts : Sessions) (e : SessEntry) (c : SessCtx) (t : Tele) (a : Arrival) (b : List Byte)

theorem Sessions.holdFirst_eq :
    ts.holdFirst e c t a b = { ts with ctx := (ts.holdFirst e c t a b).ctx, copyMissing := (ts.holdFirst e c t a b).copyMissing } := by
  unfold Sessions.holdFirst
  split
  · rw [Sessions.countMissing_eq]
    rfl
  · rfl

/-- The session's own context: the copy held, a copy missing counted, nothing else. -/
theorem Sessions.at_holdFirst_self :
    (ts.holdFirst e c t a b).at t.sid = { ts.at t.sid with
      missing := ((ts.holdFirst e c t a b).at t.sid).missing, firstData := ((ts.holdFirst e c t a b).at t.sid).firstData } := by
  unfold Sessions.holdFirst
  split
  · rw [Sessions.at_set_self, Sessions.at_countMissing_self]
  · rfl

theorem Sessions.firstData_holdFirst (h : e.transport = .net2) :
    ((ts.holdFirst e c t a b).at t.sid).firstData =
      some { addr := a.addr, stamp := a.stamp, netB := (a.path == .net2 true), tele := b, paired := false, closed := false } := by
  rw [Sessions.holdFirst, if_pos (beq_iff_eq.2 h), Sessions.at_set_self]

theorem Sessions.at_holdFirst_ne {k : Nat} (hk : k ≠ t.sid) : (ts.holdFirst e c t a b).at k = ts.at k := by
  unfold Sessions.holdFirst
  split
  · rw [Sessions.at_set_ne _ _ _ hk, Sessions.at_countMissing_ne _ _ _ hk]
  · rfl

end

/-- The context of a telegram's session as its acceptance finds it: STALE shows the latest check 6 alone (Table 7-13). -/
def Lane.contextFor (l : Lane) (t : Tele) : SessCtx := { l.ts.at t.sid with staleRef := false }

section
variable {l : Lane} {m : Image} {u : Nat} {own : Assoc Nat} {a : Arrival} {b : List Byte} {t : Tele} {e : SessEntry}

theorem Lane.takeTelegram_of_error {sid code : Nat} (h : checkFrame m u a.path b = .error (sid, code)) :
    l.takeTelegram m u own a b = { l.verifySeals m a b with ts := l.ts.refuse sid code } := by
  simp only [Lane.takeTelegram, h, Lane.verifySeals_ts]

variable (hok : checkFrame m u a.path b = .ok (t, e)) (hty : t.ty = 1)
include hok hty

/-- A DATA telegram that passes checks 1 to 3 is met by check 4, and then by its case of the NET2 copies. -/
theorem Lane.takeTelegram_of_low (hlow : epochLow e (l.contextFor t) own t = true) :
    l.takeTelegram m u own a b = { l.verifySeals m a b with ts := (l.ts.set t.sid (l.contextFor t)).refuse t.sid 4 } := by
  rw [Lane.takeTelegram, hok]
  simp only [Lane.verifySeals_ts]
  exact (if_neg (not_not.2 hty)).trans (if_pos hlow)

variable (hlow : epochLow e (l.contextFor t) own t = false)
include hlow

theorem Lane.takeTelegram_of_repeated (hk : copyKind e (l.contextFor t) t a b = .repeated) :
    l.takeTelegram m u own a b = { l.verifySeals m a b with ts := (l.ts.set t.sid (l.contextFor t)).refuse t.sid 5 } := by
  simp only [copyKind, Lane.contextFor] at hk hlow ⊢
  simp only [Lane.takeTelegram, hok, hty, ne_eq, not_true, if_false, Lane.verifySeals_ts, hlow, hk, Bool.false_eq_true]

theorem Lane.takeTelegram_of_late (hk : copyKind e (l.contextFor t) t a b = .late) :
    l.takeTelegram m u own a b = { l.verifySeals m a b with
      ts := { (((l.ts.set t.sid (l.contextFor t)).set t.sid { l.contextFor t with late := sat (l.contextFor t).late }).refuse t.sid 10) with
        copyLate := sat l.ts.copyLate } } := by
  simp only [copyKind, Lane.contextFor] at hk hlow ⊢
  simp only [Lane.takeTelegram, hok, hty, ne_eq, not_true, if_false, Lane.verifySeals_ts, hlow, hk, Bool.false_eq_true]
  rfl

theorem Lane.takeTelegram_of_pair (hk : copyKind e (l.contextFor t) t a b = .pair) :
    l.takeTelegram m u own a b = { l.verifySeals m a b with
      ts := (l.ts.set t.sid (l.contextFor t)).set t.sid
        { l.contextFor t with firstData := (l.contextFor t).firstData.map (fun f => { f with paired := true }) } } := by
  simp only [copyKind, Lane.contextFor] at hk hlow ⊢
  simp only [Lane.takeTelegram, hok, hty, ne_eq, not_true, if_false, Lane.verifySeals_ts, hlow, hk, Bool.false_eq_true]

theorem Lane.takeTelegram_of_fault (hk : copyKind e (l.contextFor t) t a b = .fault) :
    l.takeTelegram m u own a b = Lane.senderFault { l.verifySeals m a b with
      ts := (l.ts.set t.sid (l.contextFor t)).set t.sid
        { l.contextFor t with firstData := (l.contextFor t).firstData.map (fun f => { f with paired := true }) } } t.sid := by
  simp only [copyKind, Lane.contextFor] at hk hlow ⊢
  simp only [Lane.takeTelegram, hok, hty, ne_eq, not_true, if_false, Lane.verifySeals_ts, hlow, hk, Bool.false_eq_true]

variable (hk : copyKind e (l.contextFor t) t a b = .first)
include hk

theorem Lane.takeTelegram_of_refused {c : SessCtx} {code : Nat} (hr : (l.contextFor t).takeData e t (candidateOf a t) = (c, code)) (h0 : code ≠ 0) :
    l.takeTelegram m u own a b =
      { l.verifySeals m a b with ts := ((l.ts.set t.sid (l.contextFor t)).set t.sid c).refuse t.sid code } := by
  simp only [copyKind, Lane.contextFor, candidateOf] at hk hlow hr ⊢
  simp only [Lane.takeTelegram, hok, hty, ne_eq, not_true, if_false, Lane.verifySeals_ts, hlow, hk, hr, h0, Bool.false_eq_true, not_false_eq_true, if_true]

theorem Lane.takeTelegram_of_accepted {c : SessCtx} (hr : (l.contextFor t).takeData e t (candidateOf a t) = (c, 0)) :
    l.takeTelegram m u own a b =
      { l.verifySeals m a b with
        ts := Sessions.holdFirst { ((l.ts.set t.sid (l.contextFor t)).set t.sid c) with acceptCnt := sat l.ts.acceptCnt } e (l.contextFor t) t a b } := by
  simp only [copyKind, Lane.contextFor, candidateOf] at hk hlow hr ⊢
  simp only [Lane.takeTelegram, hok, hty, ne_eq, not_true, if_false, Lane.verifySeals_ts, hlow, hk, hr, Bool.false_eq_true]
  rfl

end

/-! ## What a refusal leaves -/

/-- A store that differs from `t` in the context of one session alone. -/
def Sessions.onlyAt (t t' : Sessions) (sid : Nat) : Prop := t' = { t with ctx := t'.ctx } ∧ ∀ k, k ≠ sid → t'.at k = t.at k

theorem Sessions.onlyAt_set (t : Sessions) (sid : Nat) (c : SessCtx) : t.onlyAt (t.set sid c) sid :=
  ⟨rfl, fun _ hk => t.at_set_ne sid c hk⟩

theorem Sessions.onlyAt.set {t t' : Sessions} {sid : Nat} (h : t.onlyAt t' sid) (c : SessCtx) : t.onlyAt (t'.set sid c) sid := by
  obtain ⟨hctx, hne⟩ := h
  exact ⟨hctx ▸ rfl, fun k hk => (t'.at_set_ne sid c hk).trans (hne k hk)⟩

section
variable {l l' : Lane} {T : Sessions} {sid code copyLate pairFault : Nat}
  (hts : l'.ts = { T.refuse sid code with copyLate := copyLate, pairFault := pairFault })
include hts

theorem Lane.at_of_refuse : l'.ts.at sid = (T.at sid).refusedWith code := by
  rw [hts]
  exact T.at_refuse_self sid code

/-- A refusal of a telegram, whatever its acceptance has written into its own session's context before, counts as R180 says. -/
theorem Lane.refusedAs_of_refuse (hT : l.ts.onlyAt T sid) (hacc : (T.at sid).accepted = (l.ts.at sid).accepted)
    (href : (T.at sid).refused = (l.ts.at sid).refused)
    (hcand : code ≠ 9 → (T.at sid).cand = (l.ts.at sid).cand ∧ (T.at sid).state = (l.ts.at sid).state)
    (habs : (l.ts.at sid).state ≠ .absent → (T.at sid).state ≠ .absent) (hpe : l'.pe = l.pe) (hio : l'.io = l.io) (hvt : l'.vt = l.vt) :
    l.refusedAs l' sid code := by
  obtain ⟨hctx, hne⟩ := hT
  have hat := Lane.at_of_refuse hts
  refine ⟨?_, ?_, ?_, ?_, ?_, fun h9 => ?_, fun ha => ?_, fun k hk => ?_, hpe, hio, hvt⟩
  · rw [hts, T.refuse_eq, hctx]
  · rw [hts, T.refuse_eq]
  · rw [hts, T.refuse_eq]
  · rw [hts, T.refuse_eq, hctx]
  · rw [hat, SessCtx.refusedWith_eq, hacc]
  · rw [hat, SessCtx.refusedWith_eq]
    exact hcand h9
  · rw [hat, SessCtx.refusedWith, if_neg (habs ha), href]
    exact ⟨rfl, rfl⟩
  · rw [hts, ← hne k hk]
    exact T.at_refuse_ne sid code hk

end

/-- A context that counts as `d` does, with its candidate and state. -/
def SessCtx.countsAs (c d : SessCtx) : Prop := c.accepted = d.accepted ∧ c.refused = d.refused ∧ c.cand = d.cand ∧ c.state = d.state

theorem SessCtx.countsAs_self (c : SessCtx) : c.countsAs c := ⟨rfl, rfl, rfl, rfl⟩

/-- A higher epoch changes no count. -/
theorem SessCtx.newEpoch_countsAs (c : SessCtx) (t : Tele) : (c.newEpoch t).countsAs c := by
  rw [SessCtx.newEpoch_eq]
  exact c.countsAs_self

/-- The same of a lane whose sessions alone have changed since the telegram's seals were verified; `c` is the context that the refusal is counted in. A late
copy also has a count of its own. -/
theorem Lane.refusedAs_of_late {l l' : Lane} {m : Image} {a : Arrival} {b : List Byte} {T : Sessions} {sid code copyLate : Nat} {c : SessCtx}
    (h : l' = { l.verifySeals m a b with ts := { T.refuse sid code with copyLate := copyLate } }) (hT : l.ts.onlyAt T sid) (hc : T.at sid = c)
    (hsame : c.countsAs (l.ts.at sid)) : l.refusedAs l' sid code ∧ l'.ts.at sid = c.refusedWith code := by
  have hts : l'.ts = { T.refuse sid code with copyLate := copyLate, pairFault := (T.refuse sid code).pairFault } := by rw [h]
  subst hc
  obtain ⟨hacc, href, hcand, hstate⟩ := hsame
  refine ⟨Lane.refusedAs_of_refuse hts hT hacc href (fun _ => ⟨hcand, hstate⟩) (fun ha => hstate ▸ ha) ?_ ?_ ?_, Lane.at_of_refuse hts⟩
  all_goals rw [h]; simp only [Lane.verifySeals_pe, Lane.verifySeals_io, Lane.verifySeals_vt]

theorem Lane.refusedAs_of_eq {l l' : Lane} {m : Image} {a : Arrival} {b : List Byte} {T : Sessions} {sid code : Nat} {c : SessCtx}
    (h : l' = { l.verifySeals m a b with ts := T.refuse sid code }) (hT : l.ts.onlyAt T sid) (hc : T.at sid = c)
    (hsame : c.countsAs (l.ts.at sid)) : l.refusedAs l' sid code ∧ l'.ts.at sid = c.refusedWith code :=
  Lane.refusedAs_of_late (copyLate := (T.refuse sid code).copyLate) h hT hc hsame

/-- What a sender fault writes into the lane: its session and counts, and records (R186). -/
theorem Lane.senderFault_eq (l : Lane) (sid : Nat) :
    l.senderFault sid = { l with
      ts := { (l.ts.set sid { l.ts.at sid with cand := none, state := .senderFault, timeout := 0, current := false }).refuse sid 9 with
              pairFault := sat l.ts.pairFault },
      mb := (l.senderFault sid).mb } := by
  dsimp only [Lane.senderFault, Lane.stateRecord]
  split <;> rfl

theorem copyKind_of_lone {e : SessEntry} {c : SessCtx} {t : Tele} {a : Arrival} {b : List Byte}
    (h : e.transport ≠ .net2 ∨ ∀ f, c.firstData = some f → f.matches t (a.path == .net2 true) = false) : copyKind e c t a b = .first := by
  unfold copyKind
  split
  · have hnet : e.transport = .net2 := beq_iff_eq.1 ‹_›
    have hf := h.resolve_left (not_not.2 hnet)
    unfold copyCase
    split
    · rfl
    · rw [hf _ ‹_›]
      rfl
  · rfl

/-- A NET2 telegram that matches the held first copy (R185, R186). -/
theorem copyKind_of_matches {e : SessEntry} {c : SessCtx} {t : Tele} {a : Arrival} {b : List Byte} {f : FirstCopy} (hnet : e.transport = .net2)
    (hf : c.firstData = some f) (hm : f.matches t (a.path == .net2 true) = true) :
    copyKind e c t a b = if f.paired then .repeated else if f.stamp + e.pairWin * 100000 ≤ a.stamp then .late
      else if withoutCopy f.tele = withoutCopy b then .pair else .fault := by
  simp [copyKind, copyCase, hnet, hf, hm]

section
variable {l : Lane} {m : Image} {u : Nat} {own : Assoc Nat} {a : Arrival} {b : List Byte} {t : Tele} {e : SessEntry}
  (hok : checkFrame m u a.path b = .ok (t, e)) (hty : t.ty = 1)
include hok hty

/-- An epoch too low is refused by check 4, and nothing of the sender is taken over. -/
theorem Lane.takeTelegram_low (hlow : epochLow e (l.ts.at t.sid) own t = true) :
    let l' := l.takeTelegram m u own a b
    let c := l.ts.at t.sid
    l.refusedAs l' t.sid 4 ∧ (l'.ts.at t.sid).lastSeq = c.lastSeq ∧ (l'.ts.at t.sid).peerEpoch = c.peerEpoch := by
  obtain ⟨href, hat⟩ := Lane.refusedAs_of_eq (Lane.takeTelegram_of_low hok hty hlow) (l.ts.onlyAt_set _ _) (l.ts.at_set_self _ _) (l.ts.at t.sid).countsAs_self
  refine ⟨href, ?_⟩
  rw [hat, SessCtx.refusedWith_eq]
  exact ⟨rfl, rfl⟩

variable (hlow : epochLow e (l.ts.at t.sid) own t = false)
include hlow

section
variable (hk : copyKind e (l.ts.at t.sid) t a b = .first)
include hk

/-- Check 5 (R180). -/
theorem Lane.takeTelegram_seq (hseq : ¬ ((l.contextFor t).newEpoch t).admitsSeq t) :
    let l' := l.takeTelegram m u own a b
    let c := (l.contextFor t).newEpoch t
    l.refusedAs l' t.sid 5 ∧ (l'.ts.at t.sid).lastSeq = c.lastSeq ∧ (l'.ts.at t.sid).peerEpoch = c.peerEpoch := by
  obtain ⟨href, hat⟩ := Lane.refusedAs_of_eq (Lane.takeTelegram_of_refused hok hty hlow hk (SessCtx.takeData_of_seq hseq) (by decide))
    ((l.ts.onlyAt_set _ _).set _) (Sessions.at_set_self _ _ _) ((l.contextFor t).newEpoch_countsAs t)
  refine ⟨href, ?_⟩
  rw [hat, SessCtx.refusedWith_eq]
  exact ⟨rfl, rfl⟩

variable (hseq : ((l.contextFor t).newEpoch t).admitsSeq t)
include hseq

/-- Check 6 (R180). -/
theorem Lane.takeTelegram_stale (hst : e.staleK ≤ ((l.contextFor t).newEpoch t).staleAfter t) :
    let l' := l.takeTelegram m u own a b
    let d := l'.ts.at t.sid
    l.refusedAs l' t.sid 6 ∧ d.lastSeq = some t.seq ∧ d.lastAlive = some t.alive ∧ d.stale = ((l.contextFor t).newEpoch t).staleAfter t := by
  have hr := (SessCtx.takeData_of_admits (cand := candidateOf a t) hseq).trans (if_pos hst)
  obtain ⟨href, hat⟩ := Lane.refusedAs_of_eq (Lane.takeTelegram_of_refused hok hty hlow hk hr (by decide)) ((l.ts.onlyAt_set _ _).set _)
    (Sessions.at_set_self _ _ _) ((l.contextFor t).newEpoch_countsAs t)
  refine ⟨href, ?_⟩
  rw [hat, SessCtx.refusedWith_eq]
  exact ⟨rfl, rfl, rfl⟩

/-- A telegram that passes the checks is accepted (R180); of NET2 it is the first copy held (R185). -/
theorem Lane.takeTelegram_accepted (hst : ¬ e.staleK ≤ ((l.contextFor t).newEpoch t).staleAfter t) :
    let l' := l.takeTelegram m u own a b
    let c := l.ts.at t.sid
    let d := l'.ts.at t.sid
    (d.lastSeq = some t.seq ∧ d.lastAlive = some t.alive ∧ d.stale = ((l.contextFor t).newEpoch t).staleAfter t ∧
      d.peerEpoch = ((l.contextFor t).newEpoch t).peerEpoch ∧ d.cand = (if c.state = .senderFault then c.cand else some (candidateOf a t)) ∧
      d.accepted = sat c.accepted) ∧
    l'.ts.acceptCnt = sat l.ts.acceptCnt ∧
    (e.transport = .net2 → d.firstData = some { addr := a.addr, stamp := a.stamp, netB := (a.path == .net2 true), tele := b,
                                                paired := false, closed := false }) ∧
    (∀ k, k ≠ t.sid → l'.ts.at k = l.ts.at k) ∧ l'.pe = l.pe ∧ l'.io = l.io ∧ l'.vt = l.vt := by
  intro l' c d
  have h : l' = _ := Lane.takeTelegram_of_accepted hok hty hlow hk ((SessCtx.takeData_of_admits hseq).trans (if_neg hst))
  have hts : l'.ts = _ := congrArg Lane.ts h
  have hd : d = _ := (congrArg (Sessions.at · t.sid) hts).trans (Sessions.at_holdFirst_self ..)
  have hC := (l.ts.set t.sid (l.contextFor t)).at_set_self t.sid
    { ((l.contextFor t).newEpoch t).withCounts t with
      staleRef := false, accepted := sat (l.contextFor t).accepted,
      cand := if (l.contextFor t).state = .senderFault then (l.contextFor t).cand else some (candidateOf a t) }
  refine ⟨?_, ?_, fun hnet => ?_, fun k hk => ?_, ?_, ?_, ?_⟩
  · rw [hd]
    change (Sessions.at _ _).lastSeq = _ ∧ _
    simp only [Sessions.at] at hC ⊢
    rw [hC]
    exact ⟨rfl, rfl, rfl, rfl, rfl, rfl⟩
  · rw [hts, Sessions.holdFirst_eq]
  · exact (congrArg (fun ts : Sessions => (ts.at t.sid).firstData) hts).trans (Sessions.firstData_holdFirst _ _ _ _ _ _ hnet)
  · rw [hts, Sessions.at_holdFirst_ne _ _ _ _ _ _ hk]
    exact ((l.ts.onlyAt_set t.sid _).set _).2 k hk
  all_goals rw [h]; simp only [Lane.verifySeals_pe, Lane.verifySeals_io, Lane.verifySeals_vt]

end

/-! ## The second copy (R185, R186) -/

/-- A copy of a complete pair is refused as a repeated sequence. -/
theorem Lane.takeTelegram_repeated (hk : copyKind e (l.ts.at t.sid) t a b = .repeated) :
    let l' := l.takeTelegram m u own a b
    l.refusedAs l' t.sid 5 ∧ (l'.ts.at t.sid).firstData = (l.ts.at t.sid).firstData := by
  obtain ⟨href, hat⟩ := Lane.refusedAs_of_eq (Lane.takeTelegram_of_repeated hok hty hlow hk) (l.ts.onlyAt_set _ _) (l.ts.at_set_self _ _)
    (l.ts.at t.sid).countsAs_self
  refine ⟨href, ?_⟩
  rw [hat, SessCtx.refusedWith_eq]
  rfl

/-- A copy at or after the window's end is late. -/
theorem Lane.takeTelegram_late (hk : copyKind e (l.ts.at t.sid) t a b = .late) :
    let l' := l.takeTelegram m u own a b
    l.refusedAs l' t.sid 10 ∧ (l'.ts.at t.sid).late = sat (l.ts.at t.sid).late ∧ l'.ts.copyLate = sat l.ts.copyLate := by
  have h := Lane.takeTelegram_of_late hok hty hlow hk
  obtain ⟨href, hat⟩ := Lane.refusedAs_of_late h ((l.ts.onlyAt_set _ _).set _) (Sessions.at_set_self _ _ _) (l.ts.at t.sid).countsAs_self
  refine ⟨href, ?_, by rw [h]⟩
  rw [hat, SessCtx.refusedWith_eq]
  rfl

/-- An equal copy within the window completes the pair, and counts neither as accepted nor as refused. -/
theorem Lane.takeTelegram_pair (hk : copyKind e (l.ts.at t.sid) t a b = .pair) :
    let l' := l.takeTelegram m u own a b
    let c := l.ts.at t.sid
    l'.ts.at t.sid = { c with staleRef := false, firstData := c.firstData.map (fun f => { f with paired := true }) } ∧
      l'.ts.refuseCnt = l.ts.refuseCnt ∧ l'.ts.acceptCnt = l.ts.acceptCnt ∧ ∀ k, k ≠ t.sid → l'.ts.at k = l.ts.at k := by
  dsimp only
  rw [Lane.takeTelegram_of_pair hok hty hlow hk]
  exact ⟨Sessions.at_set_self _ _ _, rfl, rfl, ((l.ts.onlyAt_set _ _).set _).2⟩

/-- A different copy within the window is a sender fault. -/
theorem Lane.takeTelegram_fault (hk : copyKind e (l.ts.at t.sid) t a b = .fault) :
    let l' := l.takeTelegram m u own a b
    let d := l'.ts.at t.sid
    l.refusedAs l' t.sid 9 ∧ d.cand = none ∧ d.state = .senderFault ∧ d.timeout = 0 ∧ l'.ts.pairFault = sat l.ts.pairFault := by
  intro l' d
  have h : l' = _ := (Lane.takeTelegram_of_fault hok hty hlow hk).trans (Lane.senderFault_eq _ _)
  have hts : l'.ts = _ := congrArg Lane.ts h
  have hT := ((l.ts.onlyAt_set t.sid (l.contextFor t)).set
    { l.contextFor t with firstData := (l.contextFor t).firstData.map (fun f => { f with paired := true }) })
  have href : l.refusedAs l' t.sid 9 := by
    refine Lane.refusedAs_of_refuse hts (hT.set _) ?_ ?_ (fun h9 => absurd rfl h9) (fun _ => ?_) ?_ ?_ ?_
    · simp only [Sessions.at_set_self]
      rfl
    · simp only [Sessions.at_set_self]
      rfl
    · simp only [Sessions.at_set_self]
      decide
    all_goals rw [h]; simp only [Lane.verifySeals_pe, Lane.verifySeals_io, Lane.verifySeals_vt]
  have hd : d = _ := Lane.at_of_refuse hts
  rw [hd, SessCtx.refusedWith_eq, hts]
  simp only [Sessions.at_set_self, true_and]
  exact ⟨href, rfl⟩

end

/-! ## The statement -/

/-- A refusal is judged alike before and after the stamp has been counted. -/
theorem Lane.refusedAs_defer (l l' : Lane) (m : Image) (n sid code : Nat) : (l.defer m n).refusedAs l' sid code ↔ l.refusedAs l' sid code := by
  simp only [Lane.refusedAs, Lane.defer_ts, Lane.defer_pe, Lane.defer_io, Lane.defer_vt]

/-- Settles O26. A telegram that is due comes to `Lane.takeTelegram`, of which each check and each case of the copies has its own lemma; the count of its
stamp before changes nothing that they speak of. -/
theorem dataTelegramsAreAcceptedOnce : Obligations.DataTelegramsAreAcceptedOnce := by
  refine ⟨later_self, fun f t netB ht => f.matches_data_iff netB ht, fun s x addr unreadable => ⟨fun hnone => ?_, fun a ha => ?_⟩⟩
  · rw [exec_dataTelegramReceive, execDataTelegramReceive, hnone]
  have hexec : exec (.dataTelegramReceive x addr unreadable) s = .next (s.arrive x { arr := a, kind := 1, own := 0 }) := by
    rw [exec_dataTelegramReceive, execDataTelegramReceive, ha]
  have hu := State.arrivalAt_unreadable ha
  intro l u s1 b
  rw [hexec]
  refine ⟨hu, fun hst => ?_, fun hev hbad => ?_, fun hev hgood hearly => ?_, fun hev hgood hdue => ⟨fun sid code herr => ?_, fun t e hok hty => ?_⟩⟩
  · rw [State.arrive_of_keeps (l.keepsArrivals_iff.2 hst), hu]
  · rw [State.arrive_of_unreadable hev (hu.trans hbad)]
    rfl
  · rw [State.arrive_of_early hev (hu.trans hgood) hearly]
    rfl
  · rw [State.arrive_data_of_due hev (hu.trans hgood) hdue]
    refine congrArg _ (State.modLane_congr ?_)
    rw [State.lane_basinRead]
    exact (Lane.takeTelegram_of_error herr).trans (by rw [Lane.defer_ts])
  · rw [State.arrive_data_of_due hev (hu.trans hgood) hdue]
    intro c low lastSeq lastAlive stale lone
    refine ⟨_, rfl, State.onlyLane_modLane _ _ _, ?_⟩
    rw [State.lane_modLane_self, State.lane_basinRead]
    have hrefused := fun l' => l.refusedAs_defer l' l.image a.stamp t.sid
    have hts := l.defer_ts l.image a.stamp
    have hpe := l.defer_pe l.image a.stamp
    have hio := l.defer_io l.image a.stamp
    have hvt := l.defer_vt l.image a.stamp
    generalize l.defer l.image a.stamp = L at hrefused hts hpe hio hvt ⊢
    have hK : (L.contextFor t).newEpoch t = { c with
        staleRef := false, peerEpoch := max c.peerEpoch t.epoch, lastSeq := lastSeq, lastAlive := lastAlive,
        stale := if c.peerEpoch < t.epoch then 0 else c.stale } := by
      rw [SessCtx.newEpoch_eq, Lane.contextFor, hts]
    have hfirst : lone → copyKind e (L.ts.at t.sid) t a b = .first := fun h => copyKind_of_lone (hts ▸ h)
    have hlowL : low = false → epochLow e (L.ts.at t.sid) s.unit.ringEpoch t = false := fun h => hts ▸ h
    have hadmit : ((L.contextFor t).newEpoch t).admitsSeq t ↔ t.seq ≠ 0 ∧ ∀ r, lastSeq = some r → later t.seq r = true := by rw [hK]; rfl
    have hstale : ((L.contextFor t).newEpoch t).staleAfter t = stale := by rw [hK]; rfl
    intro l' d
    refine ⟨fun hlow => ?_, fun hlow hlone hseq => ?_, fun hlow hlone h0 hlater hst => ?_, fun hlow hlone h0 hlater hst => ?_,
      fun f hlow hnet hf hm => ?_⟩
    · obtain ⟨href, hseq, hepoch⟩ := Lane.takeTelegram_low hok hty (l := L) (own := s.unit.ringEpoch) (hts ▸ hlow)
      rw [hts] at hseq hepoch
      exact ⟨(hrefused l' 4).1 href, hseq, hepoch⟩
    · have hnot : ¬ ((L.contextFor t).newEpoch t).admitsSeq t := by
        rw [hadmit]
        rintro ⟨h0, hlater⟩
        rcases hseq with h | ⟨r, hr, hno⟩
        · exact h0 h
        · simp [hlater r hr] at hno
      obtain ⟨href, hseq, hepoch⟩ := Lane.takeTelegram_seq hok hty (hlowL hlow) (hfirst hlone) hnot
      rw [hK] at hseq hepoch
      exact ⟨(hrefused l' 5).1 href, hseq, hepoch⟩
    · obtain ⟨href, hrest⟩ := Lane.takeTelegram_stale hok hty (hlowL hlow) (hfirst hlone) (hadmit.2 ⟨h0, hlater⟩) (hstale ▸ hst)
      rw [hstale] at hrest
      exact ⟨(hrefused l' 6).1 href, hrest⟩
    · obtain ⟨⟨hseq, halive, hstl, hepoch, hcand, hacc⟩, hrest⟩ :=
        Lane.takeTelegram_accepted hok hty (hlowL hlow) (hfirst hlone) (hadmit.2 ⟨h0, hlater⟩) (hstale ▸ Nat.not_le.2 hst)
      rw [hstale] at hstl
      rw [hK] at hepoch
      simp only [hts, hpe, hio, hvt] at hcand hacc hrest
      obtain ⟨hcnt, hfirstData, hframe⟩ := hrest
      exact ⟨hseq, halive, hstl, hepoch, hcand, hacc, hcnt, hfirstData, hframe⟩
    · have hkind := copyKind_of_matches (c := L.ts.at t.sid) (b := b) hnet (hts ▸ hf) hm
      refine ⟨fun hp => ?_, fun hp hlate => ?_, fun hp hwin heq => ?_, fun hp hwin hne => ?_⟩
      · rw [if_pos hp] at hkind
        obtain ⟨href, hdata⟩ := Lane.takeTelegram_repeated hok hty (hlowL hlow) hkind
        exact ⟨(hrefused l' 5).1 href, hdata.trans (hts ▸ hf)⟩
      · rw [if_neg (by simp [hp]), if_pos hlate] at hkind
        obtain ⟨href, hlate, hcnt⟩ := Lane.takeTelegram_late hok hty (hlowL hlow) hkind
        rw [hts] at hlate hcnt
        exact ⟨(hrefused l' 10).1 href, hlate, hcnt⟩
      · rw [if_neg (by simp [hp]), if_neg (Nat.not_le.2 hwin), if_pos heq] at hkind
        have h := Lane.takeTelegram_pair hok hty (hlowL hlow) hkind
        simp only [hts] at h
        rw [hf] at h
        exact h
      · rw [if_neg (by simp [hp]), if_neg (Nat.not_le.2 hwin), if_neg hne] at hkind
        obtain ⟨href, hcand, hstate, htimeout, hfault⟩ := Lane.takeTelegram_fault hok hty (hlowL hlow) hkind
        exact ⟨(hrefused l' 9).1 href, hcand, hstate, htimeout, hts ▸ hfault⟩

end Sys2Proof.Machine

/-! PROOF. The networks (chapter 11): frames filtered and bridged, echo replies, address resolution, links. -/

namespace Sys2Proof

/-- What has been written is read back. -/
theorem Memory.readN_writeN (m : Memory) (a : Nat) (bs : List (BitVec 8)) : Memory.readN (Memory.writeN m a bs) a bs.length = bs := by
  induction bs generalizing m a with
  | nil => rfl
  | cons b bs ih =>
    rw [List.length_cons, Memory.readN, Memory.writeN, ih, Memory.read_writeN_outside (.inl (Nat.lt_succ_self a)), Memory.read_write, if_pos rfl]

end Sys2Proof

namespace Sys2Proof.Machine

theorem exec_ethernetFrameReceive (n : NetId) (f : EthFrame) (p : Placing) (s : State) :
    exec (.ethernetFrameReceive n f p) s = execEthernetFrameReceive n f p s := rfl

theorem exec_icmpEchoRequest (n : NetId) (src second : BitVec 32) (s : State) :
    exec (.icmpEchoRequest n src second) s = execIcmpEchoRequest n src second s := rfl

theorem exec_arpMessage (n : NetId) (port : Fin 6) (request : Bool) (ip target : BitVec 32) (mac macDst : BitVec 48) (s : State) :
    exec (.arpMessage n port request ip target mac macDst) s = execArpMessage n port request ip target mac macDst s := rfl

theorem exec_arpResolutionFailure (n : NetId) (ip : BitVec 32) (s : State) :
    exec (.arpResolutionFailure n ip) s = execArpResolutionFailure n ip s := rfl

theorem exec_ethernetLinkUp (n : NetId) (port : Fin 6) (gigabit : Bool) (s : State) :
    exec (.ethernetLinkUp n port gigabit) s = execEthernetLinkUp n port gigabit s := rfl

theorem exec_ethernetLinkDown (n : NetId) (port : Fin 6) (s : State) :
    exec (.ethernetLinkDown n port) s = execEthernetLinkDown n port s := rfl

/-! ## A network changed -/

section
variable (s : State) (n : NetId) (f : Net → Net)

/-- A change of a network changes the networks alone. -/
theorem State.modNet_eq : s.modNet n f = { s with nets := (s.modNet n f).nets } := by cases n <;> rfl

@[simp] theorem State.modNet_recv : (s.modNet n f).recv = s.recv := by cases n <;> rfl
@[simp] theorem State.netIp_modNet : (s.modNet n f).netIp n = s.netIp n := by cases n <;> rfl
@[simp] theorem State.ownMac_modNet : (s.modNet n f).ownMac n = s.ownMac n := by cases n <;> rfl
@[simp] theorem State.txOff_modNet (i : Nat) : (s.modNet n f).txOff n i = s.txOff n i := by cases n <;> rfl
@[simp] theorem State.passes_modNet (e : EthFrame) : (s.modNet n f).passes n e = s.passes n e := by cases n <;> rfl
@[simp] theorem State.kmpFrame_modNet (e : EthFrame) : (s.modNet n f).kmpFrame e = s.kmpFrame e := by cases n <;> rfl
@[simp] theorem State.freePlace_modNet (p : Placing) (len : Nat) : (s.modNet n f).freePlace p len = s.freePlace p len := by cases n <;> rfl

/-- Whether a network sends does not change while its bridge forwards as before. -/
theorem State.netSends_modNet (h : (f (s.net n)).forwarding = (s.net n).forwarding) : (s.modNet n f).netSends n = s.netSends n := by
  simp only [State.netSends, State.netIp_modNet, State.net_modNet_self, h, State.portOff, State.modNet_ph]

/-- The ports of a frame of the unit's own do not change while the bridge has learned the same. -/
theorem State.outPorts_modNet (mac : Nat) (h : (f (s.net n)).macs = (s.net n).macs) : (s.modNet n f).outPorts n mac = s.outPorts n mac := by
  simp only [State.outPorts, State.txOff_modNet, State.net_modNet_self, h]

end

/-! ## A frame received (R276, R279) -/

/-- A frame that passes the filter has a tag that its network knows. -/
theorem State.tagKnown_of_passes {s : State} {n : NetId} {f : EthFrame} (hn : n ≠ .maint) (h : s.passes n f = true) : s.tagKnown n f = true := by
  simp only [State.passes, Bool.and_eq_true] at h
  obtain ⟨⟨⟨⟨⟨⟨⟨hv, -⟩, -⟩, -⟩, -⟩, -⟩, -⟩, -⟩ := h
  unfold State.tagKnown
  cases hf : f.vlan with
  | none => rfl
  | some v =>
    rw [hf] at hv
    simpa [hn, List.any_filter] using hv

/-- The bridge keeps to itself what is for the unit. -/
theorem State.bridge_own {s : State} {n : NetId} {f : EthFrame} (h : f.macDst.toNat = s.ownMac n) :
    s.bridge n f = s.learn n f.port.val f.macSrc.toNat := by
  simp [State.bridge, State.bridgeTo, h]

theorem State.bridge_eq (s : State) (n : NetId) (f : EthFrame) :
    s.bridge n f = { s with nets := (s.learn n f.port.val f.macSrc.toNat).nets,
                            sent := s.sent ++ (if s.bridgeTo n f.port.val f.macDst.toNat = [] then [] else
                              [.bridged n (s.bridgeTo n f.port.val f.macDst.toNat) f]) } := by
  dsimp only [State.bridge]
  rw [State.learn, State.modNet_eq]
  by_cases h : s.bridgeTo n f.port.val f.macDst.toNat = [] <;> simp [h, State.emit]

section
variable {s : State} {n : NetId} {f : EthFrame} (p : Placing) (hfw : (s.net n).forwarding = true) (hport : f.port.val < netPorts n)
include hfw hport

/-- Of what the network cannot take only the traffic shows, and a count. -/
theorem execEthernetFrameReceive_of_bad (h : s.tagKnown n f = false ∨ 1522 < f.size) :
    execEthernetFrameReceive n f p s = .next ((s.traffic (netPort n f.port.val)).modNet n (fun t => { t with filter := sat t.filter })) := by
  refine (if_neg (by simp [hfw, hport])).trans (if_pos ?_)
  change (!s.tagKnown n f || decide (1522 < f.size)) = true
  simpa using h

variable (hk : s.tagKnown n f = true) (hsize : f.size ≤ 1522)
include hk hsize

theorem execEthernetFrameReceive_of_other (ho : f.macDst.toNat ≠ s.ownMac n) (hg : groupMac f.macDst.toNat = false) :
    execEthernetFrameReceive n f p s = .next ((s.traffic (netPort n f.port.val)).bridge n f) := by
  refine (if_neg (by simp [hfw, hport])).trans ((if_neg ?_).trans (if_pos ?_))
  · change ¬ (!s.tagKnown n f || decide (1522 < f.size)) = true
    simpa [hk] using hsize
  · rw [State.bridge_eq]
    change (decide (f.macDst.toNat ≠ s.ownMac n) && !groupMac f.macDst.toNat) = true
    simp [ho, hg]

variable (ho : f.macDst.toNat = s.ownMac n)
include ho

/-- What is for the unit itself goes no further, and is judged by the network's filter. -/
theorem execEthernetFrameReceive_of_own :
    let b := (s.traffic (netPort n f.port.val)).learn n f.port.val f.macSrc.toNat
    execEthernetFrameReceive n f p s =
      if n != .maint && b.passes n f then .next ((b.place p (.net2 (n == .b)) f.payload).modNet n (fun t => { t with rx := sat t.rx }))
      else if n == .maint && b.kmpFrame f then .next (b.kmpTake (kmpOf f).1 (kmpOf f).2)
      else .next (b.modNet n (fun t => { t with filter := sat t.filter })) := by
  intro b
  have hb : (s.traffic (netPort n f.port.val)).bridge n f = b := State.bridge_own ho
  have hown : b.ownMac n = s.ownMac n := State.ownMac_modNet ..
  refine (if_neg (by simp [hfw, hport])).trans ((if_neg ?_).trans ?_)
  · change ¬ (!s.tagKnown n f || decide (1522 < f.size)) = true
    simpa [hk] using hsize
  · dsimp only
    rw [hb, if_neg (by simp [hown, ho])]

/-- A datagram that passes the filter of a safety network is placed and counted. -/
theorem execEthernetFrameReceive_of_passes (hn : n ≠ .maint) (hp : s.passes n f = true) :
    execEthernetFrameReceive n f p s =
      .next ((((s.traffic (netPort n f.port.val)).learn n f.port.val f.macSrc.toNat).place p (.net2 (n == .b)) f.payload).modNet n
        (fun t => { t with rx := sat t.rx })) := by
  refine (execEthernetFrameReceive_of_own p hfw hport hk hsize ho).trans (if_pos ?_)
  rw [State.learn, State.passes_modNet]
  exact Bool.and_eq_true_iff.2 ⟨bne_iff_ne.2 hn, hp⟩

/-- What the filter does not deliver is counted. -/
theorem execEthernetFrameReceive_of_discarded (h : n = .maint ∧ s.kmpFrame f = false ∨ n ≠ .maint ∧ s.passes n f = false) :
    execEthernetFrameReceive n f p s =
      .next (((s.traffic (netPort n f.port.val)).learn n f.port.val f.macSrc.toNat).modNet n (fun t => { t with filter := sat t.filter })) := by
  refine (execEthernetFrameReceive_of_own p hfw hport hk hsize ho).trans ((if_neg ?_).trans (if_neg ?_))
  · rw [State.learn, State.passes_modNet]
    change ¬ (n != .maint && s.passes n f) = true
    rcases h with ⟨rfl, -⟩ | ⟨-, hp⟩
    · simp
    · simp [hp]
  · rw [State.learn, State.kmpFrame_modNet]
    change ¬ (n == .maint && s.kmpFrame f) = true
    rcases h with ⟨-, hk⟩ | ⟨hn, -⟩
    · simp [hk]
    · simp [hn]

end

/-- What is placed changes the basin and its index alone. -/
theorem State.place_eq (s : State) (p : Placing) (w : Path) (bs : List Byte) :
    s.place p w bs = { s with basin := Memory.writeN s.basin (s.freePlace p bs.length) bs, recv := (s.place p w bs).recv } := by
  dsimp only [State.place]
  rw [State.basinWrite_of_may (s.basinMay_freePlace p bs.length)]

@[simp] theorem State.net_place (s : State) (p : Placing) (w : Path) (bs : List Byte) (n : NetId) : (s.place p w bs).net n = s.net n := by
  rw [State.place_eq]; rfl

@[simp] theorem State.net_traffic (s : State) (k : Nat) (n : NetId) : (s.traffic k).net n = s.net n := rfl

@[simp] theorem State.net_learn_self (s : State) (n : NetId) (port mac : Nat) :
    (s.learn n port mac).net n = { s.net n with macs := Assoc.put none (s.net n).macs mac (some port) } := s.net_modNet_self n _

@[simp] theorem State.net_emit (s : State) (e : Emit) (n : NetId) : (s.emit e).net n = s.net n := rfl

theorem State.learn_eq (s : State) (n : NetId) (port mac : Nat) : s.learn n port mac = { s with nets := (s.learn n port mac).nets } :=
  s.modNet_eq n _

/-- A datagram placed and counted: what stands in the basin, beside it, and nothing else but the traffic and what the bridge has learned (R23, R279). -/
theorem State.placed_spec (s : State) (n : NetId) (k port mac : Nat) (p : Placing) (w : Path) (bs : List Byte) :
    let t := (((s.traffic k).learn n port mac).place p w bs).modNet n (fun t => { t with rx := sat t.rx })
    let addr := s.freePlace p bs.length
    (t.net n).rx = sat (s.net n).rx ∧ (t.net n).filter = (s.net n).filter ∧ Memory.readN t.basin addr bs.length = bs ∧
      (∀ a, (a < addr ∨ addr + bs.length ≤ a) → Memory.read t.basin a = Memory.read s.basin a) ∧
      (∀ u, t.arrivalAt addr u = some { addr := addr, len := bs.length, stamp := p.stamp, path := w, unreadable := u }) ∧
      t = { s with basin := t.basin, recv := t.recv, nets := t.nets, ph := (s.traffic k).ph } := by
  intro t addr
  have haddr : ((s.traffic k).learn n port mac).freePlace p bs.length = addr := (s.traffic k).freePlace_modNet n _ p bs.length
  have hbasin : t.basin = Memory.writeN s.basin addr bs := by
    rw [State.modNet_basin, State.place_eq, haddr, State.learn_eq]
    rfl
  have hnet : t.net n = { s.net n with macs := Assoc.put none (s.net n).macs mac (some port), rx := sat (s.net n).rx } := by
    rw [State.net_modNet_self, State.net_place, State.net_learn_self, State.net_traffic]
  refine ⟨by rw [hnet], by rw [hnet], ?_, fun a ha => ?_, fun u => ?_, ?_⟩
  · rw [hbasin, Memory.readN_writeN]
  · rw [hbasin, Memory.read_writeN_outside ha]
  · have h := ((s.traffic k).learn n port mac).arrivalAt_place p w bs u
    rw [haddr] at h
    rw [State.arrivalAt, State.modNet_recv]
    exact h
  · obtain ⟨basin, recv, h⟩ : ∃ basin recv, ((s.traffic k).learn n port mac).place p w bs =
      { (s.traffic k).learn n port mac with basin := basin, recv := recv } := ⟨_, _, State.place_eq ..⟩
    simp only [t, h]
    cases n <;> rfl

/-! ## Frames of the unit's own (R276, R278) -/

section
variable {s : State} {n : NetId}

/-- A frame goes out where a port sends it. -/
theorem State.emitNet_eq (s : State) (n : NetId) (mac : Nat) (frame : List Nat → Emit) :
    s.emitNet n mac frame = { s with sent := s.sent ++ (if s.outPorts n mac = [] then [] else [frame (s.outPorts n mac)]) } := by
  by_cases h : s.outPorts n mac = [] <;> simp [State.emitNet, h, State.emit]

@[simp] theorem State.net_emitNet (s : State) (n m : NetId) (mac : Nat) (frame : List Nat → Emit) : (s.emitNet n mac frame).net m = s.net m := by
  rw [State.emitNet_eq]
  rfl

/-- What waited for an address that is known goes out, and is counted as what it is. -/
theorem State.sendNow_of_ports {w : NetWait} {mac : Nat} (hm : Assoc.get 0 (s.net n).arp w.d.dst = mac) (h : s.outPorts n mac ≠ []) :
    s.sendNow n w =
      (s.modNet n (fun t => if w.echo then { t with icmp := sat t.icmp } else { t with tx := sat t.tx })).emit
        (if w.echo then .icmp n (s.outPorts n mac) mac w.d.dst else .datagram n (s.outPorts n mac) mac w.d) := by
  subst hm
  refine (if_neg (by simpa using h)).trans ?_
  cases he : w.echo
  · simp only [Bool.false_eq_true, if_false, State.emitNet_eq]
    rw [State.outPorts_modNet _ _ _ _ (by rfl), if_neg h]
    rfl
  · simp only [if_true, State.emitNet_eq]
    rw [State.outPorts_modNet _ _ _ _ (by rfl), if_neg h]
    rfl

theorem State.sendOut_of_known {w : NetWait} (h0 : w.d.dst ≠ 0) (hs : s.netSends n = true) (ha : Assoc.get 0 (s.net n).arp w.d.dst ≠ 0) :
    s.sendOut n w = s.sendNow n w :=
  (if_neg h0).trans (if_pos (by simp [hs, ha]))

/-- What has no address yet waits, and the address is asked for. -/
theorem State.sendOut_of_unknown {w : NetWait} (h0 : w.d.dst ≠ 0) (hs : s.netSends n = true) (ha : Assoc.get 0 (s.net n).arp w.d.dst = 0)
    (hask : w.d.dst ∉ (s.net n).asking) :
    s.sendOut n w = (s.modNet n (fun t => { t with waiting := t.waiting ++ [w], asking := t.asking ++ [w.d.dst] })).askFor n w.d.dst := by
  simp [State.sendOut, h0, hs, ha, hask]

/-! ## Echo requests (R276) -/

/-- A request beyond the sixteenth of a second is not answered. -/
theorem execIcmpEchoRequest_of_spent {src second : BitVec 32} (hsec : (s.net n).icmpSec = second.toNat) (h : 16 ≤ (s.net n).icmpRun) :
    execIcmpEchoRequest n src second s = .next s := by
  simp [execIcmpEchoRequest, hsec, Nat.not_lt.2 h]

/-- The reply to an echo request (R280). -/
def State.echoReply (s : State) (n : NetId) (src : Nat) : NetWait :=
  { d := s.datagram n src 0 0 0 [], cycle := none, failed := false, echo := true }

/-- A request within the limit is counted in its second and answered. -/
theorem execIcmpEchoRequest_of_free (src : BitVec 32) {second : BitVec 32} (hs : s.netSends n = true)
    (h : (s.net n).icmpSec ≠ second.toNat ∨ (s.net n).icmpRun < 16) :
    ∃ run, execIcmpEchoRequest n src second s =
      .next ((s.modNet n (fun t => { t with icmpSec := second.toNat, icmpRun := run })).sendOut n (s.echoReply n src.toNat)) := by
  refine ⟨_, if_pos ?_⟩
  by_cases hsec : (s.net n).icmpSec = second.toNat
  · simpa [hs, hsec] using h
  · simp [hs, hsec]

end

/-! ## What a network's command changes -/

/-- From `s` to `t` only the networks differ, the pumphouse is `p`, and `es` has been sent. -/
def State.onlyPort (s t : State) (p : Pumphouse) (es : List Emit) : Prop := t = { s with nets := t.nets, ph := p, sent := s.sent ++ es }

section
variable {s t : State} {p : Pumphouse} {es : List Emit}

theorem State.onlyPort_refl (s : State) : s.onlyPort s s.ph [] := by
  rw [State.onlyPort, List.append_nil]

theorem State.onlyPort.modNet (h : s.onlyPort t p es) (n : NetId) (f : Net → Net) : s.onlyPort (t.modNet n f) p es := by
  rw [State.onlyPort] at h ⊢
  rw [h]
  cases n <;> rfl

theorem State.onlyPort.emit (h : s.onlyPort t p es) (e : Emit) : s.onlyPort (t.emit e) p (es ++ [e]) := by
  rw [State.onlyPort] at h ⊢
  rw [h, State.emit, ← List.append_assoc]

theorem State.onlyPort.emitNet (h : s.onlyPort t p es) (n : NetId) (mac : Nat) (frame : List Nat → Emit) :
    s.onlyPort (t.emitNet n mac frame) p (es ++ if t.outPorts n mac = [] then [] else [frame (t.outPorts n mac)]) := by
  by_cases ho : t.outPorts n mac = []
  · rw [State.emitNet, ho, if_pos rfl, List.append_nil]
    exact h
  · rw [State.emitNet, if_neg ho, if_neg (by simpa using ho)]
    exact h.emit _

theorem State.onlyPort.ph (h : s.onlyPort t p es) : t.ph = p := by rw [h]

end

/-! ## An address resolved (R278) -/

@[simp] theorem State.emitNet_ph (s : State) (n : NetId) (mac : Nat) (frame : List Nat → Emit) : (s.emitNet n mac frame).ph = s.ph := by
  rw [State.emitNet_eq]

@[simp] theorem State.sendNow_ph (s : State) (n : NetId) (w : NetWait) : (s.sendNow n w).ph = s.ph := by
  dsimp only [State.sendNow]
  split_ifs <;> simp

@[simp] theorem State.resolved_ph (s : State) (n : NetId) (ip : Nat) : (s.resolved n ip).ph = s.ph :=
  (foldl_keeps State.ph _ (fun s w => s.sendNow_ph n w) _ _).trans (s.modNet_ph n _)

/-- While no KMP request waits, an address resolved or given up serves none (R383). -/
theorem State.kmpDrain_of_empty (n : NetId) (s : State) (h : n = .maint → s.ph.kmpQueue = []) :
    (if n = .maint then s.kmpDrain s.ph.kmpQueue.length else s) = s := by
  split
  · rw [h ‹_›]
    rfl
  · rfl

/-- What waited for an address and is sent for it. -/
def State.waitsFor (ip : Nat) (w : NetWait) : Bool := w.d.dst == ip && !w.failed

/-- Network `n` with what waited for an address taken out. -/
def State.released (s : State) (n : NetId) (ip : Nat) : State :=
  s.modNet n (fun t => { t with waiting := t.waiting.filter (fun w => !State.waitsFor ip w), asking := t.asking.filter (· != ip) })

theorem State.resolved_of_none {s : State} {n : NetId} (ip : Nat) (h : (s.net n).waiting = []) : s.resolved n ip = s.released n ip := by
  simp only [State.resolved, h, List.filter_nil, List.foldl_nil]
  rfl

theorem State.resolved_of_one {s : State} {n : NetId} {ip : Nat} {w : NetWait} (h : (s.net n).waiting = [w]) (hd : w.d.dst = ip)
    (hf : w.failed = false) : s.resolved n ip = (s.released n ip).sendNow n w := by
  have hw : [w].filter (fun w => w.d.dst == ip && !w.failed) = [w] := by simp [hd, hf]
  simp only [State.resolved, h, hw, List.foldl_cons, List.foldl_nil]
  rfl

/-! ## An ARP message for the unit (R276, R278) -/

/-- What the bridge passes on of an ARP message. -/
def State.arpPassed (s : State) (n : NetId) (port : Nat) (request : Bool) (ip target mac macDst : Nat) : List Emit :=
  if s.bridgeTo n port macDst = [] then [] else [.arpBridged n (s.bridgeTo n port macDst) request ip target mac macDst]

/-- The state in which a sender that the message is for has entered the cache, the message passed on before. -/
def State.arpEntered (s : State) (n : NetId) (port : Nat) (ip mac : Nat) (passed : List Emit) : State :=
  State.modNet { (s.traffic (netPort n port)).learn n port mac with sent := s.sent ++ passed } n
    (fun t => { t with arp := Assoc.put 0 t.arp ip mac })

theorem State.onlyPort_arpEntered (s : State) (n : NetId) (port ip mac : Nat) (passed : List Emit) :
    s.onlyPort (s.arpEntered n port ip mac passed) (s.traffic (netPort n port)).ph passed := by
  cases n <;> rfl

theorem State.net_arpEntered (s : State) (n : NetId) (port ip mac : Nat) (passed : List Emit) :
    (s.arpEntered n port ip mac passed).net n =
      { s.net n with macs := Assoc.put none (s.net n).macs mac (some port), arp := Assoc.put 0 (s.net n).arp ip mac } := by
  cases n <;> rfl

/-- A frame to the sender goes out of the port on which the message came in. -/
theorem State.outPorts_arpEntered {s : State} {n : NetId} {port mac : Nat} (ip : Nat) (passed : List Emit) (hport : port < netPorts n)
    (htx : s.txOff n port = false) (hmac : mac ≠ 0) : (s.arpEntered n port ip mac passed).outPorts n mac = [port] := by
  have htx' : ∀ i, (s.arpEntered n port ip mac passed).txOff n i = s.txOff n i := fun i => by cases n <;> rfl
  have hmem : port ∈ (List.range (netPorts n)).filter (fun i => !s.txOff n i) := by simp [hport, htx]
  have hnodup : ((List.range (netPorts n)).filter (fun i => !s.txOff n i)).Nodup := List.nodup_range.filter _
  simp only [State.outPorts, State.net_arpEntered, if_neg hmac, Assoc.get_put_self, htx']
  rw [List.filter_beq, List.count_eq_one_of_mem hnodup hmem, List.replicate_one]

section
variable {s : State} {n : NetId} {port : Fin 6} {ip target : BitVec 32} {mac : BitVec 48} (request : Bool) (macDst : BitVec 48)
  (hfw : (s.net n).forwarding = true) (hport : port.val < netPorts n) (htarget : target.toNat = s.netIp n) (hown : s.netIp n ≠ 0)
  (hip : ip.toNat ≠ 0) (hother : ip.toNat ≠ s.netIp n) (hroom : (s.net n).arp.length < 256) (hsends : s.netSends n = true)
  (hq : n = .maint → s.ph.kmpQueue = [])
include hfw hport htarget hown hip hother hroom hsends hq

/-- A sender whom the message is for enters the cache; a request for the own address is answered, and what waited for the sender goes out. -/
theorem execArpMessage_of_entered :
    let c := s.arpEntered n port.val ip.toNat mac.toNat (s.arpPassed n port.val request ip.toNat target.toNat mac.toNat macDst.toNat)
    execArpMessage n port request ip target mac macDst s =
      .next ((if request then c.emitNet n mac.toNat (fun ps => .arpReply n ps ip.toNat mac.toNat) else c).resolved n ip.toNat) := by
  intro c
  have hpass : (if (s.bridgeTo n port.val macDst.toNat).isEmpty then (s.traffic (netPort n port.val)).learn n port.val mac.toNat
      else ((s.traffic (netPort n port.val)).learn n port.val mac.toNat).emit
        (.arpBridged n (s.bridgeTo n port.val macDst.toNat) request ip.toNat target.toNat mac.toNat macDst.toNat)) =
      { (s.traffic (netPort n port.val)).learn n port.val mac.toNat with
        sent := s.sent ++ s.arpPassed n port.val request ip.toNat target.toNat mac.toNat macDst.toNat } := by
    rw [State.learn_eq, State.arpPassed]
    by_cases h : s.bridgeTo n port.val macDst.toNat = [] <;> simp [h, State.emit, State.traffic]
  have hc : c.netSends n = true := by
    rw [← hsends]
    cases n <;> rfl
  dsimp only [execArpMessage]
  rw [if_neg (by simp [hfw, hport]), hpass]
  have hmine : (decide (target.toNat = s.netIp n) && s.netIp n != 0) = true := by simp [htarget, hown]
  simp only [hmine, hother, hip, hroom, decide_true, decide_false, Bool.false_and, Bool.or_false, Bool.true_or, Bool.or_true,
    ne_eq, not_false_eq_true, Bool.and_true, if_true]
  have hreply : (if (request && c.netSends n) = true then c.emitNet n mac.toNat (fun ps => .arpReply n ps ip.toNat mac.toNat) else c) =
      if request then c.emitNet n mac.toNat (fun ps => .arpReply n ps ip.toNat mac.toNat) else c := by rw [hc, Bool.and_true]
  have hph : (if request then c.emitNet n mac.toNat (fun ps => .arpReply n ps ip.toNat mac.toNat) else c).ph =
      (s.traffic (netPort n port.val)).ph := by
    rw [apply_ite State.ph, State.emitNet_ph, ite_self]
    exact (s.onlyPort_arpEntered ..).ph
  refine congrArg Host.Outcome.next (Eq.trans ?_ (State.kmpDrain_of_empty n _ fun hn => ?_))
  · rw [← hreply]
    rfl
  · rw [State.resolved_ph, hph]
    exact hq hn

end

/-! ## An address that does not answer (R278) -/

/-- Network `n` with an address given up. -/
def State.givenUp (s : State) (n : NetId) (ip : Nat) : State :=
  s.modNet n (fun t => { t with waiting := t.waiting.filterMap (NetWait.failedFor ip), asking := t.asking.filter (· != ip), arpFail := sat t.arpFail })

theorem execArpResolutionFailure_of_asking {s : State} {n : NetId} {ip : BitVec 32} (h : (s.net n).asking.contains ip.toNat = true)
    (hq : n = .maint → s.ph.kmpQueue = []) : execArpResolutionFailure n ip s = .next (s.givenUp n ip.toNat) :=
  (if_pos h).trans (congrArg _ (State.kmpDrain_of_empty n _ fun hn => by rw [State.modNet_ph]; exact hq hn))

theorem NetWait.failedFor_telegram {w : NetWait} {ip : Nat} (hd : w.d.dst = ip) (hc : w.cycle.isSome = true) :
    NetWait.failedFor ip w = some { w with failed := true } := by
  obtain ⟨c, hc⟩ := Option.isSome_iff_exists.1 hc
  simp [NetWait.failedFor, hd, hc]

theorem NetWait.failedFor_other {w : NetWait} {ip : Nat} (hd : w.d.dst ≠ ip) : NetWait.failedFor ip w = some w := by
  simp [NetWait.failedFor, hd]

/-! ## Links and the ports that send (R276, R384) -/

/-- A bit that is clear takes what is added at its place. -/
theorem bit_add_flag {v i : Nat} (h : bit v i = false) (b : Bool) : bit (v + flag b i) i = b := by
  have hp : 0 < 2 ^ i := Nat.two_pow_pos i
  cases b with
  | false => simpa [flag] using h
  | true =>
    simp only [bit, bits, pow_one, beq_eq_false_iff_ne, ne_eq, flag, if_true, Nat.add_div_right _ hp, beq_iff_eq] at h ⊢
    omega

theorem bit_clear (v i : Nat) : bit (if bit v i then v - 2 ^ i else v) i = false := by
  have hp : 0 < 2 ^ i := Nat.two_pow_pos i
  split
  · rename_i h
    simp only [bit, bits, pow_one, beq_eq_false_iff_ne, ne_eq, beq_iff_eq] at h ⊢
    have hdiv : (v - 2 ^ i) / 2 ^ i = v / 2 ^ i - 1 := by simpa using Nat.sub_mul_div v (2 ^ i) 1
    omega
  · exact Bool.eq_false_iff.2 ‹_›

theorem Net.setLink_links (t : Net) (i : Nat) (up gigabit : Bool) : bit (t.setLink i up gigabit).links i = up :=
  bit_add_flag (bit_clear _ _) up

theorem Net.setLink_gig (t : Net) (i : Nat) (up gigabit : Bool) : bit (t.setLink i up gigabit).gig i = (up && gigabit) :=
  bit_add_flag (bit_clear _ _) _

/-- A broadcast goes out of every port whose transmitter is not disabled. -/
theorem State.mem_outPorts_broadcast {s : State} {n : NetId} {i : Nat} : i ∈ s.outPorts n 0 ↔ i < netPorts n ∧ s.txOff n i = false := by
  have h : s.outPorts n 0 = (List.range (netPorts n)).filter (fun i => !s.txOff n i) := rfl
  simp [h]

/-- A transmitter of a safety network is disabled by its bit; the maintenance network's cannot be (R384). -/
theorem State.txOff_eq_false_iff {s : State} {n : NetId} {i : Nat} (hi : i < netPorts n) :
    s.txOff n i = false ↔ n = .maint ∨ bit s.ph.portDisable (netPort n i - 9) = false := by
  cases n with
  | maint => simp [State.txOff]
  | a =>
    have hlt : netPort .a i < 27 := Nat.lt_of_lt_of_le (Nat.add_lt_add_left hi 9) (by decide)
    simp [State.txOff, State.portOff, hlt]
  | b =>
    have hlt : netPort .b i < 27 := Nat.lt_of_lt_of_le (Nat.add_lt_add_left hi 15) (by decide)
    simp [State.txOff, State.portOff, hlt]

/-- A network that sends has a port that sends. -/
theorem State.outPorts_broadcast_ne_nil {s : State} {n : NetId} (h : s.netSends n = true) : s.outPorts n 0 ≠ [] := by
  obtain ⟨i, hi, htx⟩ : ∃ i, i < netPorts n ∧ s.txOff n i = false := by
    cases n with
    | maint => exact ⟨0, by decide, rfl⟩
    | a => simpa [State.netSends, State.txOff, netPorts, netPort] using (Bool.and_eq_true_iff.1 h).2
    | b => simpa [State.netSends, State.txOff, netPorts, netPort] using (Bool.and_eq_true_iff.1 h).2
  exact List.ne_nil_of_mem (State.mem_outPorts_broadcast.2 ⟨hi, htx⟩)

/-- A network that sends announces its own address on every port that sends (R276). -/
theorem State.gratuitous_of_sends {s : State} {n : NetId} (h : s.netSends n = true) :
    s.gratuitous n = { s with sent := s.sent ++ [.arpRequest n (s.outPorts n 0) (s.netIp n)] } := by
  rw [State.gratuitous, if_pos h, State.askFor, State.emitNet_eq, if_neg (State.outPorts_broadcast_ne_nil h)]

/-- A link that comes up is shown, and the network announces itself. -/
theorem execEthernetLinkUp_eq {s : State} {n : NetId} {port : Fin 6} {gigabit : Bool} (hport : port.val < netPorts n) (hs : s.netSends n = true) :
    execEthernetLinkUp n port gigabit s = .next { s.modNet n (fun t => t.setLink port.val true gigabit) with
      sent := s.sent ++ [.arpRequest n (s.outPorts n 0) (s.netIp n)] } := by
  have hsends : (s.modNet n (fun t => t.setLink port.val true gigabit)).netSends n = true := (s.netSends_modNet n _ rfl).trans hs
  rw [execEthernetLinkUp, if_pos hport, State.gratuitous_of_sends hsends, State.outPorts_modNet _ _ _ _ rfl, State.netIp_modNet, State.modNet_sent]

theorem State.netIp_ne_zero_of_sends {s : State} {n : NetId} (h : s.netSends n = true) : s.netIp n ≠ 0 := by
  simp only [State.netSends, Bool.and_eq_true, bne_iff_ne] at h
  exact h.1.1

/-! ## The clauses of the statement -/

section
variable {s : State} {n : NetId} {src second : BitVec 32} (hs : s.netSends n = true)
  (hfree : (s.net n).icmpSec ≠ second.toNat ∨ (s.net n).icmpRun < 16) (hsrc : src ≠ 0#32)
include hs hfree hsrc

/-- An echo request of a requester whose address is known is answered. -/
theorem icmpEchoRequest_answered (hmac : Assoc.get 0 (s.net n).arp src.toNat ≠ 0)
    (hports : s.outPorts n (Assoc.get 0 (s.net n).arp src.toNat) ≠ []) :
    ∃ t, execIcmpEchoRequest n src second s = .next t ∧
      s.onlyPort t s.ph [.icmp n (s.outPorts n (Assoc.get 0 (s.net n).arp src.toNat)) (Assoc.get 0 (s.net n).arp src.toNat) src.toNat] ∧
      (t.net n).icmp = sat (s.net n).icmp := by
  obtain ⟨run, hexec⟩ := execIcmpEchoRequest_of_free src hs hfree
  set c := s.modNet n (fun t => { t with icmpSec := second.toNat, icmpRun := run })
  have hnet : c.net n = { s.net n with icmpSec := second.toNat, icmpRun := run } := s.net_modNet_self n _
  have harp : (c.net n).arp = (s.net n).arp := by rw [hnet]
  have hout : ∀ mac, c.outPorts n mac = s.outPorts n mac := fun mac => s.outPorts_modNet n _ mac rfl
  have h0 : (s.echoReply n src.toNat).d.dst ≠ 0 := fun h => hsrc (BitVec.eq_of_toNat_eq h)
  rw [State.sendOut_of_known h0 ((s.netSends_modNet n _ rfl).trans hs) (harp ▸ hmac),
    State.sendNow_of_ports (congrArg (Assoc.get 0 · src.toNat) harp) (hout _ ▸ hports), hout] at hexec
  refine ⟨_, hexec, ((s.onlyPort_refl.modNet n _).modNet n _).emit _, ?_⟩
  rw [State.net_emit, State.net_modNet_self, hnet]
  rfl

/-- While the requester's address is not known, the reply waits and the address is asked for. -/
theorem icmpEchoRequest_waits (hmac : Assoc.get 0 (s.net n).arp src.toNat = 0) (hask : src.toNat ∉ (s.net n).asking) :
    ∃ t, execIcmpEchoRequest n src second s = .next t ∧ (t.net n).icmp = (s.net n).icmp ∧
      s.onlyPort t s.ph (if s.outPorts n 0 = [] then [] else [.arpRequest n (s.outPorts n 0) src.toNat]) ∧
      (t.net n).asking = (s.net n).asking ++ [src.toNat] ∧ (t.net n).waiting = (s.net n).waiting ++ [s.echoReply n src.toNat] := by
  obtain ⟨run, hexec⟩ := execIcmpEchoRequest_of_free src hs hfree
  set c := s.modNet n (fun t => { t with icmpSec := second.toNat, icmpRun := run })
  have hnet : c.net n = { s.net n with icmpSec := second.toNat, icmpRun := run } := s.net_modNet_self n _
  have h0 : (s.echoReply n src.toNat).d.dst ≠ 0 := fun h => hsrc (BitVec.eq_of_toNat_eq h)
  rw [State.sendOut_of_unknown h0 ((s.netSends_modNet n _ rfl).trans hs) (by rw [hnet]; exact hmac) (by rw [hnet]; exact hask)] at hexec
  have hdst : (s.echoReply n src.toNat).d.dst = src.toNat := rfl
  have hout : ∀ f : Net → Net, (f (c.net n)).macs = (c.net n).macs → (c.modNet n f).outPorts n 0 = s.outPorts n 0 := fun f hf =>
    (c.outPorts_modNet n f 0 hf).trans (s.outPorts_modNet n _ 0 rfl)
  refine ⟨_, hexec, ?_, ?_, ?_, ?_⟩
  case refine_2 =>
    have h := ((s.onlyPort_refl.modNet n (fun t => { t with icmpSec := second.toNat, icmpRun := run })).modNet n
      (fun t => { t with waiting := t.waiting ++ [s.echoReply n src.toNat], asking := t.asking ++ [src.toNat] })).emitNet n 0
      (fun ps => .arpRequest n ps src.toNat)
    rw [hout _ rfl] at h
    exact h
  all_goals
    simp only [State.askFor, State.net_emitNet, State.net_modNet_self, hdst]

end

section
variable {s : State} {n : NetId} {port : Fin 6} {ip target : BitVec 32} {mac : BitVec 48} (macDst : BitVec 48)
  (hfw : (s.net n).forwarding = true) (hport : port.val < netPorts n) (htarget : target.toNat = s.netIp n) (hsends : s.netSends n = true)
  (hip : ip.toNat ≠ 0) (hother : ip.toNat ≠ s.netIp n) (hmac : mac.toNat ≠ 0) (harp : (s.net n).arp = []) (htx : s.txOff n port.val = false)
  (hq : n = .maint → s.ph.kmpQueue = [])
include hfw hport htarget hsends hip hother hmac harp htx hq

/-- A request for the own address enters its sender and is answered out of the port on which it came. -/
theorem arpMessage_answered (hw : (s.net n).waiting = []) :
    ∃ t, execArpMessage n port true ip target mac macDst s = .next t ∧ Assoc.get 0 (t.net n).arp ip.toNat = mac.toNat ∧
      s.onlyPort t (s.traffic (netPort n port.val)).ph (s.arpPassed n port.val true ip.toNat target.toNat mac.toNat macDst.toNat ++
        [.arpReply n [port.val] ip.toNat mac.toNat]) := by
  have hexec := execArpMessage_of_entered (mac := mac) true macDst hfw hport htarget (State.netIp_ne_zero_of_sends hsends) hip hother
    (by rw [harp]; decide) hsends hq
  dsimp only at hexec
  set passed := s.arpPassed n port.val true ip.toNat target.toNat mac.toNat macDst.toNat
  have hout := State.outPorts_arpEntered (mac := mac.toNat) ip.toNat passed hport htx hmac
  have hnet := s.net_arpEntered n port.val ip.toNat mac.toNat passed
  rw [if_pos rfl, State.resolved_of_none _ (by rw [State.net_emitNet, hnet]; exact hw)] at hexec
  refine ⟨_, hexec, ?_, ?_⟩
  · rw [State.released, State.net_modNet_self, State.net_emitNet, hnet]
    exact Assoc.get_put_self ..
  · have h := (s.onlyPort_arpEntered n port.val ip.toNat mac.toNat passed).emitNet n mac.toNat (fun ps => .arpReply n ps ip.toNat mac.toNat)
    rw [hout] at h
    exact h.modNet n _

/-- What waits for the sender goes out of the port on which it was learned. -/
theorem arpMessage_releases {w : NetWait} (hw : (s.net n).waiting = [w]) (hd : w.d.dst = ip.toNat) (hf : w.failed = false) :
    ∃ t, execArpMessage n port false ip target mac macDst s = .next t ∧ (t.net n).waiting = [] ∧
      (t.net n).tx = (if w.echo then (s.net n).tx else sat (s.net n).tx) ∧
      (t.net n).icmp = (if w.echo then sat (s.net n).icmp else (s.net n).icmp) ∧
      s.onlyPort t (s.traffic (netPort n port.val)).ph (s.arpPassed n port.val false ip.toNat target.toNat mac.toNat macDst.toNat ++
        [if w.echo then .icmp n [port.val] mac.toNat ip.toNat else .datagram n [port.val] mac.toNat w.d]) := by
  have hexec := execArpMessage_of_entered (mac := mac) false macDst hfw hport htarget (State.netIp_ne_zero_of_sends hsends) hip hother
    (by rw [harp]; decide) hsends hq
  dsimp only at hexec
  set passed := s.arpPassed n port.val false ip.toNat target.toNat mac.toNat macDst.toNat
  have hnet := s.net_arpEntered n port.val ip.toNat mac.toNat passed
  have hout : ((s.arpEntered n port.val ip.toNat mac.toNat passed).released n ip.toNat).outPorts n mac.toNat = [port.val] :=
    (State.outPorts_modNet _ _ _ _ rfl).trans (State.outPorts_arpEntered ip.toNat passed hport htx hmac)
  have hrel : ((s.arpEntered n port.val ip.toNat mac.toNat passed).released n ip.toNat).net n = _ := State.net_modNet_self ..
  rw [hnet] at hrel
  rw [if_neg (by decide), State.resolved_of_one (by rw [hnet]; exact hw) hd hf,
    State.sendNow_of_ports (mac := mac.toNat) (by rw [hrel, hd]; exact Assoc.get_put_self ..) (by rw [hout]; exact List.cons_ne_nil _ _), hout, hd] at hexec
  have hkept : [w].filter (fun w => !State.waitsFor ip.toNat w) = [] := by simp [State.waitsFor, hd, hf]
  refine ⟨_, hexec, ?_, ?_, ?_, (((s.onlyPort_arpEntered ..).modNet n _).modNet n _).emit _⟩
  all_goals
    rw [State.net_emit, State.net_modNet_self, hrel]
    cases w.echo <;> simp [hw, hkept]

end

/-- A frame discarded shows in the count, the traffic and what the bridge has learned alone. -/
theorem State.discarded_spec (s : State) (n : NetId) (k port mac : Nat) :
    let t := ((s.traffic k).learn n port mac).modNet n (fun t => { t with filter := sat t.filter })
    (t.net n).rx = (s.net n).rx ∧ (t.net n).filter = sat (s.net n).filter ∧ t = { s with nets := t.nets, ph := (s.traffic k).ph } := by
  cases n <;> exact ⟨rfl, rfl, rfl⟩

/-- A frame for another station shows in the traffic, in what the bridge has learned and in what it passes on. -/
theorem State.bridged_spec (s : State) (n : NetId) (k : Nat) (f : EthFrame) :
    let t := (s.traffic k).bridge n f
    let ports := s.bridgeTo n f.port.val f.macDst.toNat
    (t.net n).rx = (s.net n).rx ∧ (t.net n).filter = (s.net n).filter ∧ Assoc.get none (t.net n).macs f.macSrc.toNat = some f.port.val ∧
      t = { s with nets := t.nets, ph := (s.traffic k).ph, sent := s.sent ++ (if ports = [] then [] else [.bridged n ports f]) } := by
  intro t ports
  have h : t = _ := State.bridge_eq (s.traffic k) n f
  have hnet : t.net n = { s.net n with macs := Assoc.put none (s.net n).macs f.macSrc.toNat (some f.port.val) } := by
    rw [h]
    exact (s.traffic k).net_learn_self n f.port.val f.macSrc.toNat
  refine ⟨by rw [hnet], by rw [hnet], by rw [hnet, Assoc.get_put_self], ?_⟩
  rw [h]
  rfl

/-- Settles O50. Each command has an equation per case; what it leaves is read off the laws of the networks, the receive area and the bridge. -/
theorem networksFilterAndResolve : Obligations.NetworksFilterAndResolve := by
  intro s n hfw
  simp only [exec_ethernetFrameReceive, exec_icmpEchoRequest, exec_arpMessage, exec_arpResolutionFailure, exec_ethernetLinkUp,
    exec_ethernetLinkDown]
  refine ⟨fun f p hport => ⟨fun hbad => execEthernetFrameReceive_of_bad p hfw hport hbad, fun hown hn hsize hp => ?_,
      fun hown hk hsize hno => ?_, fun hother hgroup hk hsize => ?_⟩,
    fun src second hs hfree hsrc => ⟨fun hmac hports => ?_, fun hmac hask => ?_⟩,
    fun src second hsec hrun => execIcmpEchoRequest_of_spent hsec hrun,
    fun port ip mac macDst hport hs hlt hother hip hmac harp htx hq => ⟨fun hw => ?_, fun w hw hd hf => ?_⟩,
    fun ip hask hq => ?_, fun port gigabit hport hs => ?_, fun i => ?_, fun port hport => ?_⟩
  · exact ⟨_, execEthernetFrameReceive_of_passes p hfw hport (State.tagKnown_of_passes hn hp) hsize hown hn hp, s.placed_spec n _ _ _ p _ _⟩
  · exact ⟨_, execEthernetFrameReceive_of_discarded p hfw hport hk hsize hown hno, s.discarded_spec n _ _ _⟩
  · exact ⟨_, execEthernetFrameReceive_of_other p hfw hport hk hsize hother hgroup, s.bridged_spec n _ f⟩
  · exact icmpEchoRequest_answered hs hfree hsrc hmac hports
  · obtain ⟨t, hexec, hicmp, honly, hasking, hwaiting⟩ := icmpEchoRequest_waits hs hfree hsrc hmac hask
    exact ⟨t, hexec, hicmp, honly, hasking, _, hwaiting, rfl, rfl⟩
  · have htarget : (BitVec.ofNat 32 (s.netIp n)).toNat = s.netIp n := by rw [BitVec.toNat_ofNat, Nat.mod_eq_of_lt hlt]
    obtain ⟨t, hexec, hget, honly⟩ := arpMessage_answered macDst hfw hport htarget hs (fun h => hip (BitVec.eq_of_toNat_eq h)) hother
      (fun h => hmac (BitVec.eq_of_toNat_eq h)) harp htx hq hw
    rw [htarget, State.onlyPort, ← List.append_assoc] at honly
    exact ⟨t, hexec, hget, honly⟩
  · have htarget : (BitVec.ofNat 32 (s.netIp n)).toNat = s.netIp n := by rw [BitVec.toNat_ofNat, Nat.mod_eq_of_lt hlt]
    obtain ⟨t, hexec, hwaiting, htx, hicmp, honly⟩ := arpMessage_releases macDst hfw hport htarget hs (fun h => hip (BitVec.eq_of_toNat_eq h))
      hother (fun h => hmac (BitVec.eq_of_toNat_eq h)) harp htx hq hw hd hf
    rw [htarget, State.onlyPort, ← List.append_assoc] at honly
    exact ⟨t, hexec, hwaiting, htx, hicmp, honly⟩
  · have hnet : (s.givenUp n ip.toNat).net n = _ := s.net_modNet_self n _
    refine ⟨_, execArpResolutionFailure_of_asking hask hq, ?_, ?_, fun w hw hd hc => ?_, fun w hw hd => ?_, s.modNet_eq n _⟩
    · rw [hnet]
    · rw [hnet]
      simp
    · rw [hnet]
      exact List.mem_filterMap.2 ⟨w, hw, NetWait.failedFor_telegram hd hc⟩
    · rw [hnet]
      exact List.mem_filterMap.2 ⟨w, hw, NetWait.failedFor_other hd⟩
  · have hup := execEthernetLinkUp_eq (gigabit := gigabit) hport hs
    have hnet := s.net_modNet_self n (fun t => t.setLink port.val true gigabit)
    exact ⟨_, hup, (congrArg (fun t : Net => bit t.links port.val) hnet).trans (Net.setLink_links ..),
      (congrArg (fun t : Net => bit t.gig port.val) hnet).trans (Net.setLink_gig ..), rfl, s.modNet_lanes n _, s.modNet_basin n _⟩
  · rw [State.mem_outPorts_broadcast]
    exact and_congr_right fun hi => State.txOff_eq_false_iff hi
  · refine ⟨_, if_pos hport, ?_, s.modNet_sent n _, s.modNet_lanes n _, s.modNet_basin n _⟩
    rw [State.net_modNet_self, Net.setLink_links]

end Sys2Proof.Machine

/-! PROOF. The sweep of the Polder engine (chapter 3): its start, the LEVEL words, what an engine fault leaves, and the copy of the buffers. -/

namespace Sys2Proof.Machine

/-! ## An attempt aborted by a fault (R91, R152, R153) -/

section
variable (l : Lane) (x : LaneId) (code ms : Nat) (rotating dump : Bool)

theorem Lane.abort_state : (l.abort x code ms rotating dump).vt.state = if 2 ≤ l.vt.abortRun then .failed else .reset := by
  by_cases h : 2 ≤ l.vt.abortRun <;> simp [Lane.abort, Lane.log, h]

theorem Lane.abort_code : (l.abort x code ms rotating dump).vt.abort = code := by
  unfold Lane.abort; dsimp only; split <;> rfl

theorem Lane.abort_committed : (l.abort x code ms rotating dump).vt.committed = l.vt.committed := by
  unfold Lane.abort; dsimp only; split <;> rfl

theorem Lane.abort_pe : (l.abort x code ms rotating dump).pe = { l.pe with sweepEn := false } := by
  unfold Lane.abort; dsimp only; split <;> rfl

/-- Where a breach dump comes first, an abort requests no reset (R91). -/
theorem Lane.abort_rc_of_dump : (l.abort x code ms rotating true).rc = l.rc := by
  unfold Lane.abort; dsimp only; split <;> rfl

end

/-- The end of a rotation leaves a lane but for a record in its queue. -/
theorem State.lane_endRotation (s : State) (x : LaneId) :
    ∃ mb, (s.endRotation x).lane x = { s.lane x with mb := mb } := by
  unfold State.endRotation
  split
  · exact ⟨_, s.lane_modLane_self x _⟩
  · exact ⟨_, rfl⟩

/-- A lane in a resync whose attempt is aborted, but for its record queue. -/
theorem State.lane_abortBy_of_inResync {s : State} {x : LaneId} (code : Nat) (dump : Bool) (h : (s.lane x).vt.state.inResync = true) :
    ∃ mb, (s.abortBy x code dump).lane x =
      { (s.lane x).abort x code s.tideMs (decide (s.unit.rot.leaving = some x)) dump with mb := mb } := by
  unfold State.abortBy
  rw [if_pos h]
  dsimp only
  split
  · obtain ⟨mb, hmb⟩ := State.lane_endRotation (s.modLane x (fun l => l.abort x code s.tideMs (decide (s.unit.rot.leaving = some x)) dump)) x
    exact ⟨mb, by rw [hmb, State.lane_modLane_self]⟩
  · exact ⟨_, s.lane_modLane_self x _⟩

/-! ## An engine fault (R91, Table 3-7) -/

/-- A lane whose sweep has stopped with a fault: PE_FAULT written, the fault recorded (R91). -/
def Lane.faulted (l : Lane) (x : LaneId) (code pos : Nat) : Lane :=
  { l with pe := { l.pe with state := .fault, faultCode := code, faultPos := pos } }.log x 0x0302 3 [fld code 24 8 + fld pos 0 21]

theorem State.engineFault_eq (s : State) (x : LaneId) (code pos : Nat) :
    s.engineFault x code pos = (s.modLane x (·.faulted x code pos)).leaveFaulty x := rfl

theorem State.leaveFaulty_of_candidate {s : State} {x : LaneId} (h : (s.lane x).vt.state = .candidate) : s.leaveFaulty x = s.abortBy x 4 true := by
  simp [State.leaveFaulty, h]

theorem State.leaveFaulty_of_not_candidate {s : State} {x : LaneId} (h : (s.lane x).vt.state ≠ .candidate) :
    s.leaveFaulty x = s.withdraw x 6 true := by
  simp [State.leaveFaulty, h]

theorem State.lane_leaveFaulty_ne (s : State) {x y : LaneId} (h : y ≠ x) : (s.leaveFaulty x).lane y = s.lane y := by
  by_cases hc : (s.lane x).vt.state = .candidate
  · rw [State.leaveFaulty_of_candidate hc, State.lane_abortBy_ne _ _ _ h]
  · rw [State.leaveFaulty_of_not_candidate hc, State.lane_withdraw_ne _ _ _ h]

theorem State.lane_engineFault_ne (s : State) {x y : LaneId} (code pos : Nat) (h : y ≠ x) : (s.engineFault x code pos).lane y = s.lane y := by
  rw [State.engineFault_eq, State.lane_leaveFaulty_ne _ h, State.lane_modLane_ne _ _ h]

/-- A lane that a fault takes out of a candidacy, but for its record queue (R152). -/
theorem State.lane_engineFault_of_candidate {s : State} {x : LaneId} (code pos : Nat) (h : (s.lane x).vt.state = .candidate) :
    ∃ ms rotating mb, (s.engineFault x code pos).lane x = { ((s.lane x).faulted x code pos).abort x 4 ms rotating true with mb := mb } := by
  let t := s.modLane x (·.faulted x code pos)
  have hlane : t.lane x = (s.lane x).faulted x code pos := s.lane_modLane_self x _
  have hcand : (t.lane x).vt.state = .candidate := by rw [hlane]; exact h
  obtain ⟨mb, hmb⟩ := State.lane_abortBy_of_inResync (s := t) 4 true (by rw [hcand]; rfl)
  rw [hlane] at hmb
  refine ⟨t.tideMs, decide (t.unit.rot.leaving = some x), mb, ?_⟩
  rw [State.engineFault_eq, State.leaveFaulty_of_candidate hcand, hmb]

/-- A lane that a fault takes out of service (R91, R135). -/
theorem State.lane_engineFault_of_not_candidate {s : State} {x : LaneId} (code pos : Nat) (h : (s.lane x).vt.state ≠ .candidate) :
    ∃ ms, (s.engineFault x code pos).lane x = ((s.lane x).faulted x code pos).withdraw x 6 true ms := by
  let t := s.modLane x (·.faulted x code pos)
  have hlane : t.lane x = (s.lane x).faulted x code pos := s.lane_modLane_self x _
  have hcand : (t.lane x).vt.state ≠ .candidate := by rw [hlane]; exact h
  refine ⟨t.tideMs, ?_⟩
  rw [State.engineFault_eq, State.leaveFaulty_of_not_candidate hcand, State.lane_withdraw_self, hlane]

/-- An engine fault stops the sweep, and its lane leaves service or ends its candidacy; the other lanes stay (R91, R152). -/
theorem State.afterFault_engineFault (s : State) (x : LaneId) (code pos : Nat) : s.afterFault (s.engineFault x code pos) x code pos := by
  have hothers : ∀ y, y ≠ x → (s.engineFault x code pos).lane y = s.lane y := fun y => s.lane_engineFault_ne code pos
  by_cases hc : (s.lane x).vt.state = .candidate
  · obtain ⟨ms, rotating, mb, hlane⟩ := State.lane_engineFault_of_candidate code pos hc
    rw [State.afterFault, hlane]
    dsimp only
    rw [Lane.abort_pe, Lane.abort_committed, Lane.abort_state, Lane.abort_code, Lane.abort_rc_of_dump]
    exact ⟨rfl, rfl, rfl, rfl, rfl, hothers, fun h => absurd hc h, fun _ => ⟨rfl, rfl, rfl⟩⟩
  · obtain ⟨ms, hlane⟩ := State.lane_engineFault_of_not_candidate code pos hc
    rw [State.afterFault, hlane]
    exact ⟨rfl, rfl, rfl, rfl, rfl, hothers, fun _ => ⟨rfl, rfl, rfl, rfl⟩, fun h => absurd h hc⟩

theorem exists_afterFault {s : State} {x : LaneId} {c : Instr} {code pos : Nat} (h : exec c s = .next (s.engineFault x code pos)) :
    ∃ s', exec c s = .next s' ∧ s.afterFault s' x code pos := ⟨_, h, s.afterFault_engineFault x code pos⟩

/-! ## A term command at a faulty word (R91) -/

/-- Every term command, and the chain link, is one step of its cell. -/
theorem exec_of_mem_termCommands {x : LaneId} {cell : Fin 16} {op : Op} {c : Instr} (s : State)
    (h : (op, c) ∈ (op, Instr.chainLink x cell) :: termCommands x cell) : ∃ mine run, exec c s = .next (s.termStep x cell mine run) := by
  simp only [termCommands, List.mem_cons, List.not_mem_nil, Prod.mk.injEq, or_false] at h
  rcases h with ⟨-, rfl⟩ | ⟨-, rfl⟩ | ⟨-, rfl⟩ | ⟨-, rfl⟩ | ⟨-, rfl⟩ | ⟨-, rfl⟩ | ⟨-, rfl⟩ | ⟨-, rfl⟩ | ⟨-, rfl⟩ | ⟨-, rfl⟩ | ⟨-, rfl⟩ | ⟨-, rfl⟩ |
    ⟨-, rfl⟩ | ⟨-, rfl⟩ | ⟨-, rfl⟩ | ⟨-, rfl⟩ | ⟨-, rfl⟩ | ⟨-, rfl⟩ | ⟨-, rfl⟩ | ⟨-, rfl⟩ | ⟨-, rfl⟩ | ⟨-, rfl⟩ | ⟨-, rfl⟩ | ⟨-, rfl⟩ <;>
    exact ⟨_, _, rfl⟩

theorem State.termStep_of_bad {s : State} {x : LaneId} {cell code pos : Nat} {mine : Term → Bool}
    {run : Image → Nat → Term → Option W16 → Lane → Lane} (h : (s.lane x).find cell mine = .bad code pos) :
    s.termStep x cell mine run = s.engineFault x code pos := by
  rw [State.termStep, h]

section
variable {l : Lane} {m : Image} {cell i : Nat} {w : W64} (mine : Term → Bool)
  (hm : l.image? = some m) (hstate : l.pe.state = .sweeping) (hstarted : l.pe.started = true) (hw : nextWord m l.pe cell = some (i, w))
include hm hstate hstarted hw

theorem Lane.find_of_undefined (h : Term.decode w = none) : l.find cell mine = .bad 2 i := by
  simp [Lane.find, hm, hstate, hstarted, hw, h]

theorem Lane.find_of_level {t : Term} (h : Term.decode w = some t) (hop : t.op = .level) : l.find cell mine = .bad 3 i := by
  simp [Lane.find, hm, hstate, hstarted, hw, h, hop]

end

/-! ## A level begun (R58, R61, R89) -/

section
variable (l : Lane) (m : Image)

theorem Lane.settleLevel_of_running (h : l.pe.levelDone m = false) : l.settleLevel m = l := by
  simp [Lane.settleLevel, h]

/-- The end of a level or of the sweep leaves where the cells stand, the clocks, the buffers and the outputs. -/
theorem Lane.settleLevel_keeps :
    (l.settleLevel m).pe.level = l.pe.level ∧ (l.settleLevel m).pe.started = l.pe.started ∧ (l.settleLevel m).pe.pos = l.pe.pos ∧
    (l.settleLevel m).pe.skip = l.pe.skip ∧ (l.settleLevel m).pe.acc = l.pe.acc ∧ (l.settleLevel m).pe.clocks = l.pe.clocks ∧
    (l.settleLevel m).pe.stalls = l.pe.stalls ∧ (l.settleLevel m).pe.next = l.pe.next ∧ (l.settleLevel m).pe.cur = l.pe.cur ∧
    (l.settleLevel m).io = l.io := by
  unfold Lane.settleLevel
  dsimp only
  split
  · split <;> exact ⟨rfl, rfl, rfl, rfl, rfl, rfl, rfl, rfl, rfl, rfl⟩
  · exact ⟨rfl, rfl, rfl, rfl, rfl, rfl, rfl, rfl, rfl, rfl⟩

/-- A level in which some cell has a run is not done at its start. -/
theorem Engine.levelDone_eq_false {e : Engine} {c : Nat} (hpos : e.pos = []) (hc : c < 16) (h : 0 < m.runLen e.level c) : e.levelDone m = false := by
  rw [Engine.levelDone, List.all_eq_false]
  exact ⟨c, List.mem_range.2 hc, by simpa [hpos] using Nat.pos_iff_ne_zero.1 h⟩

/-- A lane whose dispatcher has handed the cells the runs of level `lv` (R58), with the clocks of R61. -/
def Lane.startLevel (lv stalls length : Nat) : Lane :=
  { l with pe := { l.pe with state := .sweeping, started := true, level := lv, pos := [], skip := [], acc := [],
                             clocks := l.pe.clocks + (m.level lv).foldl max 0 + 8 + length, stalls := l.pe.stalls + stalls } }.settleLevel m

theorem Lane.startLevel_state {lv c : Nat} (stalls length : Nat) (hc : c < 16) (h : 0 < m.runLen lv c) :
    (l.startLevel m lv stalls length).pe.state = .sweeping := by
  rw [Lane.startLevel, Lane.settleLevel_of_running _ _ (Engine.levelDone_eq_false m rfl hc h)]

end

section
variable {s : State} {x : LaneId} {m : Image} {w : W64} {lv : Nat} (stalls length : BitVec 32)
  (hm : (s.lane x).image? = some m)
  (hdue : ((s.lane x).pe.state = .sweeping ∧ (s.lane x).pe.started = false) ∨ (s.lane x).pe.state = .barrier)
  (hlv : lv = if (s.lane x).pe.state = .barrier then (s.lane x).pe.level + 1 else 0)
  (hw : m.terms[m.levelIndex lv]? = some w)
include hm hdue hlv hw

/-- The LEVEL word that is due begins its level (R58, R89). -/
theorem execLevel_of_right {t : Term} (ht : Term.decode w = some t) (hop : t.op = .level) (hno : t.levelNo = lv) :
    exec (.level x stalls length) s = .next (s.modLane x (·.startLevel m lv stalls.toNat length.toNat)) := by
  subst hlv
  simp [exec, execLevel, hm, hdue, hw, ht, hop, hno, Lane.startLevel]

/-- A word that is no LEVEL word or carries another number is a fault (R37, R91). -/
theorem execLevel_of_wrong {t : Term} (ht : Term.decode w = some t) (h : t.op ≠ .level ∨ t.levelNo ≠ lv) :
    exec (.level x stalls length) s = .next (s.engineFault x 3 (m.levelIndex lv)) := by
  have hbad : ¬ (t.op = .level ∧ t.levelNo = lv) := not_and_or.2 h
  subst hlv
  simp [exec, execLevel, hm, hdue, hw, ht, hbad]

/-- An undefined word in a LEVEL word's place is a fault (R91). -/
theorem execLevel_of_undefined (ht : Term.decode w = none) :
    exec (.level x stalls length) s = .next (s.engineFault x 2 (m.levelIndex lv)) := by
  subst hlv
  simp [exec, execLevel, hm, hdue, hw, ht]

end

/-! ## The start of a sweep, a fault of a sweep, the copy (R65, R89, R91) -/

section
variable {s : State} {x : LaneId}

theorem execSweepStart_of_ready (hen : (s.lane x).pe.sweepEn = true) (hev : (s.lane x).evaluates = true) (hstate : (s.lane x).pe.state = .waiting)
    (hfreeze : (s.lane x).pe.freezeDone = true) (hcopy : (s.lane x).pe.copyDone = true) (hchange : s.changeDue x = false) :
    exec (.sweepStart x) s = .next (s.modLane x (fun l =>
      { l with pe := { l.pe with state := .sweeping, level := 0, started := false, pos := [], skip := [], acc := [], clocks := 2048,
                                 stalls := 0 },
               td := { l.td with phase := .sweep } })) := by
  simp [exec, execSweepStart, hen, hev, hstate, hfreeze, hcopy, hchange]

theorem execEngineFault_of_cause (cause : EngineCause) (position : BitVec 21) (h : (s.lane x).pe.state = .sweeping ∨ (s.lane x).pe.state = .barrier) :
    exec (.engineFault x (some cause) position) s = .next (s.engineFault x cause.code position.toNat) := by
  rcases h with h | h <;> simp [exec, execEngineFault, h]

theorem execEngineFault_of_corrected (position : BitVec 21) (h : (s.lane x).pe.state = .sweeping ∨ (s.lane x).pe.state = .barrier) :
    exec (.engineFault x none position) s = .next (s.modLane x (fun l => { l with pe := { l.pe with eccCorr := sat l.pe.eccCorr } })) := by
  rcases h with h | h <;> simp [exec, execEngineFault, h]

theorem execCopyComplete_of_pending (h : (s.lane x).pe.copyDone = false) :
    exec (.copyComplete x) s = .next (s.modLane x (fun l =>
      { l with pe := { l.pe with next := l.pe.cur, copyDone := true, state := if l.pe.state = .copying then .waiting else l.pe.state } })) := by
  simp [exec, execCopyComplete, h]

end

/-- Settles O9: each command by its own case, the faults by what every engine fault leaves. -/
theorem sweepLevelFaultAndCopy : Obligations.SweepLevelFaultAndCopy := by
  unfold Obligations.SweepLevelFaultAndCopy
  intro s x
  refine ⟨execSweepStart_of_ready, fun stalls length m hm hdue => ⟨fun w t hw ht hop hno => ?_, fun w t hw ht h => ?_, fun w hw ht => ?_⟩,
    fun cell m i w hm hstate hstarted hw op c hc => ⟨fun ht => ?_, fun t ht hop => ?_⟩,
    fun cause position h => exists_afterFault (execEngineFault_of_cause cause position h),
    fun position h => execEngineFault_of_corrected position h, execCopyComplete_of_pending⟩
  · refine ⟨_, execLevel_of_right stalls length hm hdue rfl hw ht hop hno, s.onlyLane_modLane x _, ?_⟩
    rw [State.lane_modLane_self]
    obtain ⟨hlevel, hstarted, hpos, hskip, hacc, hclocks, hstalls, hnext, hcur, hio⟩ := Lane.settleLevel_keeps _ m
    exact ⟨hlevel, hstarted, hpos, hskip, hacc, hclocks, hstalls, hnext, hcur, hio,
      fun ⟨c, hc, hrun⟩ => Lane.startLevel_state _ m _ _ hc hrun⟩
  · exact exists_afterFault (execLevel_of_wrong stalls length hm hdue rfl hw ht h)
  · exact exists_afterFault (execLevel_of_undefined stalls length hm hdue rfl hw ht)
  · obtain ⟨mine, run, hexec⟩ := exec_of_mem_termCommands s hc
    rw [State.termStep_of_bad (Lane.find_of_undefined mine hm hstate hstarted hw ht)] at hexec
    exact exists_afterFault hexec
  · obtain ⟨mine, run, hexec⟩ := exec_of_mem_termCommands s hc
    rw [State.termStep_of_bad (Lane.find_of_level mine hm hstate hstarted hw ht hop)] at hexec
    exact exists_afterFault hexec

end Sys2Proof.Machine

/-! PROOF. The term word of the Polder engine (Table 3-2): its fields side by side, and each read back at its own place. -/

namespace Sys2Proof

theorem Op.code_lt (op : Op) : op.code < 64 := by cases op <;> decide

theorem Op.ofCode_code (op : Op) : Op.ofCode op.code = some op := by cases op <;> rfl

theorem flag_eq_mul (b : Bool) (i : Nat) : flag b i = 2 ^ i * b2n b := by cases b <;> simp [flag, b2n]

theorem b2n_lt_two (b : Bool) : b2n b < 2 := by cases b <;> decide

/-- A field of one bit that holds a flag is that flag. -/
theorem bit_of_bits {v i : Nat} {b : Bool} (h : bits v i 1 = b2n b) : bit v i = b := by
  rw [bit, h]; cases b <;> rfl

section
variable (t : Term)

/-- Every field of a term fits its place in the word. -/
theorem Term.fields_lt :
    t.op.code < 2 ^ 6 ∧ t.dst.toNat < 2 ^ 18 ∧ t.srcA.toNat < 2 ^ 18 ∧ t.srcB.toNat < 2 ^ 18 ∧ b2n t.chain < 2 ∧ b2n t.negA < 2 ∧
    b2n t.negB < 2 ∧ b2n t.bk < 2 :=
  ⟨t.op.code_lt, t.dst.isLt, t.srcA.isLt, t.srcB.isLt, b2n_lt_two _, b2n_lt_two _, b2n_lt_two _, b2n_lt_two _⟩

/-- The value of a term's word: no field is cut off, and each counts with the weight of its lowest bit. -/
theorem Term.toNat_encode :
    t.encode.toNat = b2n t.bk + 2 * b2n t.negB + 4 * b2n t.negA + 8 * b2n t.chain + 16 * t.srcB.toNat + 2 ^ 22 * t.srcA.toNat +
      2 ^ 40 * t.dst.toNat + 2 ^ 58 * t.op.code := by
  have hfields := t.fields_lt
  simp only [Term.encode, fld, flag_eq_mul, BitVec.toNat_ofNat]
  omega

/-- Each field of a term's word holds that field: what stands below it is less than its lowest bit's weight. -/
theorem Term.bits_encode :
    bits t.encode.toNat 58 6 = t.op.code ∧ bits t.encode.toNat 40 18 = t.dst.toNat ∧ bits t.encode.toNat 22 18 = t.srcA.toNat ∧
    bits t.encode.toNat 4 18 = t.srcB.toNat ∧ bits t.encode.toNat 3 1 = b2n t.chain ∧ bits t.encode.toNat 2 1 = b2n t.negA ∧
    bits t.encode.toNat 1 1 = b2n t.negB ∧ bits t.encode.toNat 0 1 = b2n t.bk := by
  have hfields := t.fields_lt
  rw [t.toNat_encode]
  unfold bits
  omega

end

/-- A word whose OP is defined decodes to the term of its fields (R70). -/
theorem Term.decode_of_op {w : W64} {op : Op} (h : Op.ofCode (bits w.toNat 58 6) = some op) :
    Term.decode w = some { op, dst := BitVec.ofNat 18 (bits w.toNat 40 18), srcA := BitVec.ofNat 18 (bits w.toNat 22 18),
                           srcB := BitVec.ofNat 18 (bits w.toNat 4 18), chain := bit w.toNat 3, negA := bit w.toNat 2,
                           negB := bit w.toNat 1, bk := bit w.toNat 0 } := by
  simp only [Term.decode, h]

/-- Settles O10: every field of the word holds the term's own. -/
theorem termWordRoundTrip : Obligations.TermWordRoundTrip := by
  intro t
  obtain ⟨hop, hdst, hA, hB, hchain, hnegA, hnegB, hbk⟩ := t.bits_encode
  rw [Term.decode_of_op (hop ▸ t.op.ofCode_code), hdst, hA, hB, bit_of_bits hchain, bit_of_bits hnegA, bit_of_bits hnegB, bit_of_bits hbk]
  simp only [BitVec.ofNat_toNat, BitVec.setWidth_eq]

end Sys2Proof

/-! PROOF. The terms of the Polder engine (R68 to R88): how a term command runs at its cell, and what each opcode writes. -/

namespace Sys2Proof.Machine

/-! ## A term command at its cell (R74, R77) -/

section
variable {s : State} {x : LaneId} {cell i : Nat} {m : Image} {t : Term} {acc : Option W16} {mine : Term → Bool}

theorem Lane.find_of_atTerm (h : s.atTerm x cell m i t acc) (hlevel : t.op ≠ .level) (hmine : mine t = true) :
    (s.lane x).find cell mine = .term m i t acc := by
  obtain ⟨hm, hstate, hstarted, ⟨w, hw, ht⟩, hskip, hacc⟩ := h
  simp [Lane.find, hm, hstate, hstarted, hw, ht, hlevel, hmine, hskip, hacc]

theorem Lane.find_of_atSkipped (h : s.atSkipped x cell m t) (hlevel : t.op ≠ .level) (hmine : mine t = true) :
    (s.lane x).find cell mine = .skipped m := by
  obtain ⟨hm, hstate, hstarted, ⟨i, w, hw, ht⟩, hskip⟩ := h
  simp [Lane.find, hm, hstate, hstarted, hw, ht, hlevel, hmine, hskip]

/-- A command at its term evaluates it, and the cell moves on. -/
theorem State.termStep_of_atTerm (h : s.atTerm x cell m i t acc) (hlevel : t.op ≠ .level) (hmine : mine t = true)
    (run : Image → Nat → Term → Option W16 → Lane → Lane) : s.termStep x cell mine run = s.moved x cell m (run m i t acc (s.lane x)) := by
  rw [State.termStep, Lane.find_of_atTerm h hlevel hmine]
  exact State.modLane_congr rfl

/-- A command at a skipped term counts the skip down and evaluates nothing (R77). -/
theorem State.termStep_of_atSkipped (h : s.atSkipped x cell m t) (hlevel : t.op ≠ .level) (hmine : mine t = true)
    (run : Image → Nat → Term → Option W16 → Lane → Lane) :
    s.termStep x cell mine run =
      s.moved x cell m { s.lane x with pe := { (s.lane x).pe with skip := Assoc.upd 0 (s.lane x).pe.skip cell (· - 1) } } := by
  rw [State.termStep, Lane.find_of_atSkipped h hlevel hmine]
  exact State.modLane_congr rfl

/-- A plain command of a term's opcode finds it. -/
theorem isPlain_of_op {op : Op} (hchain : t.chain = false) (hop : t.op = op) : (t.op == op && !t.chain) = true := by
  simp [hchain, hop]

end

section
variable {s : State} {x : LaneId} {cell i : Nat} {m : Image} {t : Term} {acc : Option W16} {op : Op} {c : Instr}
  (h : s.atTerm x cell m i t acc) (hchain : t.chain = false)
include h hchain

/-- A closing or single term leaves what it computes, with the accumulator empty (R74). -/
theorem State.opStep_of_atTerm (hlevel : op ≠ .level) (hop : t.op = op) (run : Image → Nat → Term → Option W16 → Lane → Lane) :
    s.opStep x cell op run = s.afterTerm x cell m (run m i t acc (s.lane x)) :=
  State.termStep_of_atTerm h (hop ▸ hlevel) (isPlain_of_op hchain hop) _

/-- A term of one value writes it to DST. -/
theorem exec_of_value {value : Image → Engine → Term → Option W16 → Nat} (hc : exec c s = .next (s.valueStep x cell op value))
    (hlevel : op ≠ .level) (hop : t.op = op) {v : Nat} (hv : value m (s.lane x).pe t acc = v) :
    exec c s = .next (s.afterTerm x cell m ((s.lane x).writeResult m i t.dst v)) := by
  rw [hc, State.valueStep, State.opStep_of_atTerm h hchain hlevel hop, hv]

/-- A timer term whose effective preset is within its range writes its count and its output (R82). -/
theorem exec_of_timer {run : Nat → Nat → Nat → Nat × Bool} (hc : exec c s = .next (s.timerStep x cell op run)) (hlevel : op ≠ .level) (hop : t.op = op)
    (he : effectivePreset m (s.lane x).pe t ≤ 65000) {k : Nat} {q : Bool}
    (hrun : run (Table.read (s.lane x).pe.cur t.srcA.toNat).toNat (effectivePreset m (s.lane x).pe t) (condition acc) = (k, q)) :
    exec c s = .next (s.afterTerm x cell m ((s.lane x).timerResult m i t k q)) := by
  rw [hc, State.timerStep, State.opStep_of_atTerm h hchain hlevel hop]
  simp only [if_neg (Nat.not_lt.2 he), hrun, Lane.timerResult]

/-- A timer term whose effective preset is above its range (R83). -/
theorem exec_of_timerRange {run : Nat → Nat → Nat → Nat × Bool} (hc : exec c s = .next (s.timerStep x cell op run)) (hlevel : op ≠ .level)
    (hop : t.op = op) (he : 65000 < effectivePreset m (s.lane x).pe t) :
    exec c s = .next (s.afterTerm x cell m ((s.lane x).timerRange m t)) := by
  rw [hc, State.timerStep, State.opStep_of_atTerm h hchain hlevel hop]
  simp only [if_pos he]

end

/-! ## Values of one term (Table 3-3, R74 to R81, R88) -/

theorem b2n_decide (p : Prop) [Decidable p] : b2n (decide p) = if p then 1 else 0 := by
  by_cases h : p <;> simp [b2n, h]

theorem linkResult_mov {m : Image} {e : Engine} {t : Term} (h : t.op = .mov) : linkResult m e t = operandA m e t := by
  simp [linkResult, h]

theorem linkResult_of_ne_mov {m : Image} {e : Engine} {t : Term} (h : t.op ≠ .mov) :
    linkResult m e t = chainOp t.op (operandA m e t) (operandB m e t) := by
  unfold linkResult
  split
  · contradiction
  · rfl

/-- A closing term's value: the operator's result r, under the accumulator where there is one (R75). -/
theorem closing_of_ne_mov {m : Image} {e : Engine} {t : Term} {f : Nat → Nat → Nat} (acc : Option W16) (h : t.op ≠ .mov) (hf : chainOp t.op = f) :
    closing m e t acc = acc.elim (f (operandA m e t) (operandB m e t)) (fun c => f c.toNat (f (operandA m e t) (operandB m e t))) := by
  subst hf
  cases acc with
  | none => exact linkResult_of_ne_mov h
  | some c => exact congrArg (chainOp t.op c.toNat) (linkResult_of_ne_mov h)

theorem lut_index (v : BitVec 32) : bits v.toNat 16 16 = v.toNat / 65536 := by
  have h := v.isLt
  unfold bits
  omega

theorem lut_default (v : BitVec 32) : bits v.toNat 0 16 = v.toNat % 65536 := by simp [bits]

/-- A BOOL reads 1 in its word exactly where its value is 1. -/
theorem toNat_eq_one_iff (w : W16) : w.toNat = 1 ↔ w = 1#16 := by
  rw [← BitVec.toNat_inj]; rfl

/-- Settles O1: every opcode of one value by its own value. -/
theorem plainTermsWriteTheirValue : Obligations.PlainTermsWriteTheirValue := by
  intro s x cell m i t acc h hchain
  refine ⟨fun hop => congrArg _ (State.opStep_of_atTerm h hchain (by decide) hop _), fun hop => ?_, fun hop => ?_, fun hop => ?_, fun hop => ?_,
    fun hop => ?_, fun hop => ?_⟩
  · exact exec_of_value h hchain rfl (by decide) hop (linkResult_mov hop)
  · exact exec_of_value h hchain rfl (by decide) hop (b2n_decide _)
  · exact exec_of_value h hchain rfl (by decide) hop ((b2n_decide _).trans (ite_not ..))
  · exact exec_of_value h hchain rfl (by decide) hop (b2n_decide _)
  · refine exec_of_value h hchain rfl (by decide) hop ?_
    simp only [b2n_decide, ← Nat.not_lt, ite_not]
  · refine exec_of_value h hchain rfl (by decide) hop ?_
    split <;> omega

/-- Settles O2: each of the four operators folds the accumulator. -/
theorem closingTermsFoldTheAccumulator : Obligations.ClosingTermsFoldTheAccumulator := by
  intro s x cell m i t acc h hchain l a b result close
  have hclose : ∀ {op : Op} (f : Nat → Nat → Nat), t.op = op → op ≠ .mov → chainOp op = f → closing m l.pe t acc = close f :=
    fun f hop hmov hf => (closing_of_ne_mov acc (hop ▸ hmov) (hop ▸ hf)).trans (by cases acc <;> rfl)
  refine ⟨fun hop => ?_, fun hop => ?_, fun hop => ?_, fun hop => ?_⟩
  · exact exec_of_value h hchain rfl (by decide) hop (hclose _ hop (by decide) rfl)
  · exact exec_of_value h hchain rfl (by decide) hop (hclose _ hop (by decide) rfl)
  · exact exec_of_value h hchain rfl (by decide) hop (hclose _ hop (by decide) rfl)
  · exact exec_of_value h hchain rfl (by decide) hop (hclose _ hop (by decide) rfl)

/-- Every command of Table 3-3 but LEVEL is one step of its cell at the terms of its opcode with CHAIN clear. -/
theorem exec_of_plain_command {x : LaneId} {cell : Fin 16} (s : State) :
    ∀ p ∈ termCommands x cell, p.1 ≠ .level ∧ ∃ run, exec p.2 s = .next (s.termStep x cell (fun t => t.op == p.1 && !t.chain) run) := by
  unfold termCommands
  repeat' refine List.forall_mem_cons.2 ⟨⟨nofun, _, rfl⟩, ?_⟩
  exact List.forall_mem_nil _

/-- Settles O3: a link and a GUARD run as their own step, and a skipped term of any opcode as none. -/
theorem chainsAndGuardsControlTheRun : Obligations.ChainsAndGuardsControlTheRun := by
  intro s x cell m i t acc
  refine ⟨fun h hchain hlevel => ?_, fun h hchain hop ha => ?_, fun h hchain hop ha => ?_,
    fun h => ⟨fun op c hc hchain hop => ?_, fun hchain hlevel => ?_⟩⟩
  · refine congrArg Host.Outcome.next ((State.termStep_of_atTerm h hlevel hchain _).trans ?_)
    cases acc with
    | none => rfl
    | some c => by_cases hop : t.op = .mov <;> simp [hop]
  · refine congrArg Host.Outcome.next ((State.termStep_of_atTerm h (by rw [hop]; decide) (isPlain_of_op hchain hop) _).trans ?_)
    rw [if_pos ha]
  · refine congrArg Host.Outcome.next ((State.termStep_of_atTerm h (by rw [hop]; decide) (isPlain_of_op hchain hop) _).trans ?_)
    rw [if_neg ha]
  · obtain ⟨hlevel, run, hrun⟩ := exec_of_plain_command s _ hc
    exact hrun.trans (congrArg _ (State.termStep_of_atSkipped h (hop ▸ hlevel) (isPlain_of_op hchain hop) _))
  · exact congrArg Host.Outcome.next (State.termStep_of_atSkipped h hlevel hchain _)

/-- Settles O4: SEL, LUT, CTU and CTD by the cases of their definitions. -/
theorem selectTableAndCounterTerms : Obligations.SelectTableAndCounterTerms := by
  intro s x cell m i t acc h hchain
  refine ⟨fun hop hc => ?_, fun hop hc => ?_, fun hop ha hk => ?_, fun hop ha => ?_, fun hop hc => ?_, fun hop hc ha => ?_,
    fun hop hc ha => ?_, fun hop hc => ?_, fun hop hc ha hq => ?_, fun hop hc ha => ?_⟩
  · exact exec_of_value h hchain rfl (by decide) hop (if_pos hc)
  · exact exec_of_value h hchain rfl (by decide) hop (if_neg hc)
  · exact exec_of_value h hchain rfl (by decide) hop (if_pos ⟨(lut_index _).symm ▸ ha, hk⟩)
  · refine exec_of_value h hchain rfl (by decide) hop ((if_neg ?_).trans (lut_default _))
    rw [lut_index]
    omega
  · exact exec_of_value h hchain rfl (by decide) hop (if_pos hc)
  · exact exec_of_value h hchain rfl (by decide) hop ((if_neg hc).trans (if_pos ha))
  · exact exec_of_value h hchain rfl (by decide) hop ((if_neg hc).trans (if_neg ha))
  · exact exec_of_value h hchain rfl (by decide) hop (if_pos hc)
  · exact exec_of_value h hchain rfl (by decide) hop ((if_neg hc).trans (if_pos ha))
  · refine exec_of_value h hchain rfl (by decide) hop ((if_neg hc).trans ?_)
    split <;> omega

/-- Settles O5: the latches by the operand that dominates, the edges by the two buffers. -/
theorem latchAndEdgeTerms : Obligations.LatchAndEdgeTerms := by
  intro s x cell m i t acc h hchain
  refine ⟨fun hop ha => ?_, fun hop ha => ?_, fun hop hb => ?_, fun hop hb => ?_, fun hop => ?_, fun hop => ?_⟩
  · exact exec_of_value h hchain rfl (by decide) hop (by simp [ha, b2n])
  · refine exec_of_value h hchain rfl (by decide) hop ?_
    simp only [ha, decide_false, Bool.false_or, ← Bool.decide_and, b2n_decide, toNat_eq_one_iff]
  · exact exec_of_value h hchain rfl (by decide) hop (by simp [hb, b2n])
  · refine exec_of_value h hchain rfl (by decide) hop ?_
    simp only [hb, decide_true, Bool.true_and, ← Bool.decide_or, b2n_decide, toNat_eq_one_iff]
  · refine exec_of_value h hchain rfl (by decide) hop ?_
    rw [← Bool.decide_and, b2n_decide]
  · refine exec_of_value h hchain rfl (by decide) hop ?_
    rw [← Bool.decide_and, b2n_decide]

end Sys2Proof.Machine

/-! PROOF. The timers of the Polder engine (R82 to R86) and the limits of results (R71, R72): each timer's count by its cases, a delay over its evaluations,
and what a result leaves in the buffers. -/

namespace Sys2Proof.Machine

/-! ## The counts of the timers (R84, R85, R86) -/

section
variable {n e c : Nat}

theorem tonCount_of_off (hc : c = 0) : tonCount n e c = (0, false) := if_pos hc

theorem tonCount_of_on (hc : c ≠ 0) : tonCount n e c = (min (n + 1) (e + 1), decide (min (n + 1) (e + 1) = e + 1)) := if_neg hc

theorem tofCount_of_on (hc : c = 1) : tofCount n e c = (1, true) := if_pos hc

theorem tofCount_of_rest (hc : c ≠ 1) (hn : n = 0) : tofCount n e c = (0, false) := (if_neg hc).trans (if_pos hn)

theorem tofCount_of_running (hc : c ≠ 1) (hn : 0 < n) (he : n ≤ e) : tofCount n e c = (n + 1, true) := by
  rw [tofCount, if_neg hc, if_neg (by omega), if_neg (by omega)]

theorem tofCount_of_over (hc : c ≠ 1) (he : e < n) : tofCount n e c = (0, false) := by
  rw [tofCount, if_neg hc, if_neg (by omega), if_pos (by omega)]

theorem tpCount_of_rest (hn : n = 0) (hc : c ≠ 1) : tpCount n e c = (0, false) := by
  simp [tpCount, hn, hc]

theorem tpCount_of_start (hn : n = 0) (hc : c = 1) : tpCount n e c = (1, decide (1 ≤ e)) := by
  simp [tpCount, hn, hc]

theorem tpCount_of_running (hn : 0 < n) (he : n ≤ e) : tpCount n e c = (n + 1, decide (n + 1 ≤ e)) := by
  have hn0 : n ≠ 0 := by omega
  simp [tpCount, hn0, he]

theorem tpCount_of_over (he : e < n) : tpCount n e c = (if c = 0 then 0 else n, false) := by
  have hn0 : n ≠ 0 := by omega
  by_cases hc : c = 0 <;> simp [tpCount, hn0, hc, Nat.not_le.2 he]

end

/-- Settles O6: each timer by the cases of its count. -/
theorem timerTermsCount : Obligations.TimerTermsCount := by
  intro s x cell m i t acc h hchain
  refine ⟨fun hop he hc => ?_, fun hop he hc => ?_, fun hop he hc => ?_, fun hop he hc hn => ?_, fun hop he hc hn hle => ?_,
    fun hop he hc _ hlt => ?_, fun hop he hn hc => ?_, fun hop he hn hc => ?_, fun hop he hn hle => ?_, fun hop he _ hlt => ?_,
    fun he hop => ?_, fun he hop => ?_, fun he hop => ?_⟩
  · exact exec_of_timer h hchain rfl (by decide) hop he (tonCount_of_off hc)
  · exact exec_of_timer h hchain rfl (by decide) hop he (tonCount_of_on hc)
  · exact exec_of_timer h hchain rfl (by decide) hop he (tofCount_of_on hc)
  · exact exec_of_timer h hchain rfl (by decide) hop he (tofCount_of_rest hc hn)
  · exact exec_of_timer h hchain rfl (by decide) hop he (tofCount_of_running hc hn hle)
  · exact exec_of_timer h hchain rfl (by decide) hop he (tofCount_of_over hc hlt)
  · exact exec_of_timer h hchain rfl (by decide) hop he (tpCount_of_rest hn hc)
  · exact exec_of_timer h hchain rfl (by decide) hop he (tpCount_of_start hn hc)
  · exact exec_of_timer h hchain rfl (by decide) hop he (tpCount_of_running hn hle)
  · exact exec_of_timer h hchain rfl (by decide) hop he (tpCount_of_over hlt)
  · exact exec_of_timerRange h hchain rfl (by decide) hop he
  · exact exec_of_timerRange h hchain rfl (by decide) hop he
  · exact exec_of_timerRange h hchain rfl (by decide) hop he

/-! ## A delay over consecutive evaluations (R84, R85) -/

/-- An on-delay counts the evaluations up to one more than its preset. -/
theorem tonCount_iterated (e k : Nat) :
    (List.range k).foldl (fun (r : Nat × Bool) _ => tonCount r.1 e 1) (0, false) = (min k (e + 1), decide (e + 1 ≤ k)) := by
  induction k with
  | zero => simp
  | succ k ih =>
    rw [List.range_succ, List.foldl_concat, ih, tonCount_of_on Nat.one_ne_zero, Prod.mk.injEq, decide_eq_decide]
    omega

/-- An off-delay counts on from 1 while its preset lasts, and rests at 0 from then on. -/
theorem tofCount_iterated (e k : Nat) :
    (List.range k).foldl (fun (r : Nat × Bool) _ => tofCount r.1 e 0) (1, true) = if k ≤ e then (k + 1, true) else (0, false) := by
  induction k with
  | zero => simp
  | succ k ih =>
    rw [List.range_succ, List.foldl_concat, ih]
    rcases Nat.lt_trichotomy k e with hlt | rfl | hgt
    · rw [if_pos hlt.le, if_pos (Nat.succ_le_of_lt hlt), tofCount_of_running Nat.zero_ne_one k.succ_pos hlt]
    · rw [if_pos le_rfl, if_neg k.not_succ_le_self, tofCount_of_over Nat.zero_ne_one k.lt_succ_self]
    · rw [if_neg (Nat.not_le.2 hgt), if_neg (by omega), tofCount_of_rest Nat.zero_ne_one rfl]

/-- Settles O8, by induction on the number of evaluations. -/
theorem delaysHoldForTheirPreset : Obligations.DelaysHoldForTheirPreset := by
  intro e k _
  dsimp only
  rw [tonCount_iterated, tofCount_iterated]
  refine ⟨rfl, decide_eq_true_iff, ?_⟩
  split <;> simp [*]

/-! ## A result written (R62, R71, R72) -/

section
variable (e : Engine) (m : Image) (i : Nat) (v : W16)

theorem Engine.writeVar_next : (e.writeVar m i v).next = Table.write e.next i v := by
  unfold Engine.writeVar; dsimp only; split <;> rfl

theorem Engine.writeVar_cur : (e.writeVar m i v).cur = if (m.var i).cls = .comb then Table.write e.cur i v else e.cur := by
  unfold Engine.writeVar
  by_cases h : (m.var i).cls = .comb <;> simp [h]

/-- A write to a variable changes the next and the current buffer alone. -/
theorem Engine.writeVar_only : e.writeVar m i v = { e with next := (e.writeVar m i v).next, cur := (e.writeVar m i v).cur } := by
  unfold Engine.writeVar; dsimp only; split <;> rfl

end

/-- A record put into a lane's queue makes it longer by one at most (R364). -/
theorem LaneMail.length_push (b : LaneMail) (r : Record) : (b.push r).queue.length ≤ b.queue.length + 1 := by
  unfold LaneMail.push
  split <;> simp

/-- What is written for a result: the result within its limit, above it the cold value (R71, R72). -/
def admitted (entry : VarEntry) (v : Nat) : W16 := if v ≤ limitOf entry then BitVec.ofNat 16 v else entry.cold

/-- An engine that has noted a result of a term: above the limit a range event (R72). -/
def Engine.noted (e : Engine) (entry : VarEntry) (i v : Nat) (seen : Bool) : Engine :=
  { e with rangeCnt := if v ≤ limitOf entry then e.rangeCnt else sat e.rangeCnt, rangeTerm := if v ≤ limitOf entry then e.rangeTerm else i,
           rangeSeen := seen }

/-- A result above the limit writes the cold value and counts (R72). -/
theorem Engine.writeVar_noted_of_not_le (e : Engine) {m : Image} (i : Nat) {j v : Nat} (h : ¬ v ≤ limitOf (m.var j)) :
    (e.noted (m.var j) i v true).writeVar m j (admitted (m.var j) v) =
      { (e.rangeEvent i).writeVar m j (m.var j).cold with rangeSeen := true } := by
  simp only [Engine.noted, admitted, if_neg h, Engine.rangeEvent, Engine.writeVar]
  split <;> rfl

/-- A result writes one value and notes one result, with one record at most. -/
theorem Lane.writeResult_eq (l : Lane) (m : Image) (i v : Nat) (dst : BitVec 18) :
    ∃ seen mb, mb.queue.length ≤ l.mb.queue.length + 1 ∧
      l.writeResult m i dst v =
        { l with pe := (l.pe.noted (m.var dst.toNat) i v seen).writeVar m dst.toNat (admitted (m.var dst.toNat) v), mb := mb } := by
  by_cases h : v ≤ limitOf (m.var dst.toNat)
  · refine ⟨l.pe.rangeSeen, l.mb, Nat.le_succ _, (if_neg (Nat.not_lt.2 h)).trans ?_⟩
    simp only [Engine.noted, admitted, if_pos h]
  · refine ⟨true, ?_⟩
    rw [Engine.writeVar_noted_of_not_le _ i h]
    by_cases hseen : l.pe.rangeSeen = true
    · exact ⟨l.mb, Nat.le_succ _, (if_pos (Nat.not_le.1 h)).trans (if_pos hseen)⟩
    · exact ⟨_, LaneMail.length_push _ _, (if_pos (Nat.not_le.1 h)).trans (if_neg hseen)⟩

/-- Settles O7: a result writes its own destination in the next buffer, and in the current one for COMB. -/
theorem resultsStayWithinTheirLimit : Obligations.ResultsStayWithinTheirLimit := by
  intro l m i v dst
  obtain ⟨seen, mb, hlen, heq⟩ := l.writeResult_eq m i v dst
  dsimp only
  rw [heq, Engine.writeVar_only]
  dsimp only
  rw [Engine.writeVar_next, Engine.writeVar_cur]
  refine ⟨Table.read_write_self _ _ _, ?_, fun j hj => ⟨?_, ?_⟩, rfl, rfl, rfl, rfl, rfl, hlen, rfl⟩
  · split
    · exact Table.read_write_self _ _ _
    · rfl
  · rw [Table.read_write, if_neg hj.symm]
    rfl
  · split
    · rw [Table.read_write, if_neg hj.symm]
      rfl
    · rfl

end Sys2Proof.Machine

/-! PROOF. The close of a comparison window (R64, R97, R132, R135, R136): what a commit brings with it, and what each decision leaves in its lane. -/

namespace Sys2Proof.Machine

/-! ## What goes with a commit leaves the cycle as it is (R113, R120, R150, R177) -/

/-- From `s` to `t` neither the basin nor another lane changes, and lane `x` keeps its engine, its vote and its outputs. -/
structure State.KeepsCycle (s t : State) (x : LaneId) : Prop where
  basin : t.basin = s.basin
  other : ∀ y, y ≠ x → t.lane y = s.lane y
  pe : (t.lane x).pe = (s.lane x).pe
  vt : (t.lane x).vt = (s.lane x).vt
  io : (t.lane x).io = (s.lane x).io

namespace State.KeepsCycle

variable {s t u : State} {x : LaneId}

theorem refl (s : State) (x : LaneId) : s.KeepsCycle s x := ⟨rfl, fun _ _ => rfl, rfl, rfl, rfl⟩

theorem trans (h : s.KeepsCycle t x) (k : t.KeepsCycle u x) : s.KeepsCycle u x :=
  ⟨k.basin.trans h.basin, fun y hy => (k.other y hy).trans (h.other y hy), k.pe.trans h.pe, k.vt.trans h.vt, k.io.trans h.io⟩

/-- An operation on no lane that leaves the basin keeps the cycle. -/
theorem of_lanes (hl : t.lanes = s.lanes) (hb : t.basin = s.basin) : s.KeepsCycle t x := by
  have h : ∀ y, t.lane y = s.lane y := fun y => congrArg (PerLane.get · y) hl
  exact ⟨hb, fun y _ => h y, congrArg _ (h x), congrArg _ (h x), congrArg _ (h x)⟩

/-- A change of lane `x` beside its engine, its vote and its outputs keeps the cycle. -/
theorem of_modLane (s : State) {f : Lane → Lane} (hpe : (f (s.lane x)).pe = (s.lane x).pe) (hvt : (f (s.lane x)).vt = (s.lane x).vt)
    (hio : (f (s.lane x)).io = (s.lane x).io) : s.KeepsCycle (s.modLane x f) x := by
  refine ⟨rfl, fun y hy => s.lane_modLane_ne f hy, ?_, ?_, ?_⟩ <;> rwa [s.lane_modLane_self]

theorem of_ite {c : Prop} [Decidable c] (ht : s.KeepsCycle t x) (hu : s.KeepsCycle u x) : s.KeepsCycle (if c then t else u) x := by
  split
  · exact ht
  · exact hu

theorem of_mramWrite {p : Part} {r : MramRegion} {f : State → State} (h : s.KeepsCycle (f s) x) : s.KeepsCycle (s.mramWrite p r f) x :=
  of_ite h (refl s x)

/-- A fold whose every step keeps the cycle keeps it. -/
theorem of_foldl {α : Type} {f : State → α → State} (h : ∀ (t : State) a, t.KeepsCycle (f t a) x) (as : List α) (s : State) :
    s.KeepsCycle (as.foldl f s) x :=
  List.foldlRecOn (motive := fun t => s.KeepsCycle t x) as f (refl s x) (fun t ht a _ => ht.trans (h t a))

end State.KeepsCycle

/-- Records of released forces go into the lane's queue alone. -/
theorem Lane.releaseRecords_only (l : Lane) (freed : List (Nat × W16)) : ∃ mb, l.releaseRecords freed = { l with mb := mb } := by
  refine List.foldlRecOn (motive := fun r => ∃ mb, r = { l with mb := mb }) freed _ ⟨l.mb, rfl⟩ ?_
  rintro _ ⟨mb, rfl⟩ p _
  exact ⟨_, rfl⟩

theorem State.keepsCycle_mergeOverlay (s : State) (x y : LaneId) (p : Pending) : s.KeepsCycle (s.mergeOverlay y p) x :=
  .of_ite (.of_mramWrite (.of_lanes rfl rfl)) (.refl s x)

theorem State.keepsCycle_settlePend (s : State) (x y : LaneId) (p : Pending) : s.KeepsCycle (s.settlePend y p) x := by
  refine (s.keepsCycle_mergeOverlay x y p).trans ?_
  unfold State.settlePend
  dsimp only
  split
  · exact .of_lanes (State.ackOut_lanes ..) (State.ackOut_basin ..)
  · split <;> exact .of_lanes rfl rfl

theorem State.keepsCycle_noteCommit (s : State) (x : LaneId) (n : Nat) : s.KeepsCycle (s.noteCommit x n) x := by
  refine .of_foldl (fun t p => .of_ite ?_ (.refl t x)) _ s
  have hrec : t.KeepsCycle (t.modLane x (·.releaseRecords p.freed)) x := by
    obtain ⟨mb, hmb⟩ := (t.lane x).releaseRecords_only p.freed
    exact .of_modLane t (by rw [hmb]) (by rw [hmb]) (by rw [hmb])
  refine hrec.trans ?_
  dsimp only
  split
  · refine .trans ?_ (State.keepsCycle_settlePend _ x x _)
    exact .of_lanes rfl rfl
  · exact .of_lanes rfl rfl

/-- A snapshot is written to the lane's memory alone (R113). -/
theorem Lane.writeSnapshot_only (l : Lane) (m : Image) (n power : Nat) : ∃ ls, l.writeSnapshot m n power = { l with ls := ls } := by
  unfold Lane.writeSnapshot
  split
  · exact ⟨l.ls, rfl⟩
  · exact ⟨_, rfl⟩

theorem State.keepsCycle_writeSnapshot (s : State) (x : LaneId) (m : Image) (n power : Nat) :
    s.KeepsCycle (s.modLane x (·.writeSnapshot m n power)) x := by
  obtain ⟨ls, hls⟩ := (s.lane x).writeSnapshot_only m n power
  exact .of_modLane s (by rw [hls]) (by rw [hls]) (by rw [hls])

/-- What a commit brings with it: the snapshot, the marks of the telegrams, the delta, the requests. -/
theorem State.keepsCycle_afterCommit (s : State) (x : LaneId) (n : Nat) (old : Table 16) : s.KeepsCycle (s.afterCommit x n old) x := by
  unfold State.afterCommit
  extract_lets m power s1 s2 s3
  have h1 : s.KeepsCycle s1 x := .of_mramWrite (s.keepsCycle_writeSnapshot x m n power)
  have h2 : s1.KeepsCycle s2 x := by
    refine .of_modLane s1 ?_ ?_ ?_ <;> split <;> rfl
  have h3 : s2.KeepsCycle s3 x := .of_ite (.of_lanes rfl rfl) (.refl s2 x)
  exact h1.trans (h2.trans (h3.trans (s3.keepsCycle_noteCommit x n)))

/-! ## A lane that continues (R64, R97, R135) -/

/-- The donors' count changes the count alone (R152). -/
theorem Vote.countCandidates_only (v : Vote) (x : LaneId) (own : BitVec 128) : ∃ r, v.countCandidates x own = { v with candRun := r } := by
  refine List.foldlRecOn (motive := fun (w : Vote) => ∃ r, w = { v with candRun := r }) x.peers _ ⟨v.candRun, rfl⟩ ?_
  rintro _ ⟨r, rfl⟩ y _
  dsimp only
  split
  · exact ⟨r, rfl⟩
  · split <;> exact ⟨_, rfl⟩

/-- A lane that continues after its window: the cycle committed, its mask updated, a candidate counted. -/
def Lane.continued (l : Lane) (x : LaneId) (removed : Option LaneId) (own : BitVec 128) (offset : Nat) : Lane :=
  let c := (l.closeWindow x (if removed.isSome then 2 else 1)).commit l.td.cycle offset
  { c with vt := { c.vt with mask := c.vt.maskAfter x removed }.countCandidates x own }

theorem State.continueLane_eq (s : State) (x : LaneId) (removed : Option LaneId) (own : BitVec 128) (offset : Nat) :
    s.continueLane x removed own offset =
      (s.modLane x (fun _ => (s.lane x).continued x removed own offset)).afterCommit x (s.lane x).td.cycle (s.lane x).vt.lastState :=
  congrArg (State.afterCommit · x _ _) (State.modLane_congr rfl)

/-- The state of lane `x` after it has continued, but for what goes with the commit. -/
theorem State.keepsCycle_continueLane (s : State) (x : LaneId) (removed : Option LaneId) (own : BitVec 128) (offset : Nat) :
    (s.modLane x (fun _ => (s.lane x).continued x removed own offset)).KeepsCycle (s.continueLane x removed own offset) x := by
  rw [State.continueLane_eq]
  exact State.keepsCycle_afterCommit ..

/-- What a lane that continues shows of its vote. -/
theorem Lane.continued_vt (l : Lane) (x : LaneId) (removed : Option LaneId) (own : BitVec 128) (offset : Nat) :
    (l.continued x removed own offset).vt.windowOpen = false ∧ (l.continued x removed own offset).vt.committed = some l.td.cycle ∧
    (l.continued x removed own offset).vt.state = l.vt.state ∧ (l.continued x removed own offset).vt.mask = l.vt.maskAfter x removed := by
  obtain ⟨r, hr⟩ := Vote.countCandidates_only
    { ((l.closeWindow x (if removed.isSome then 2 else 1)).commit l.td.cycle offset).vt with
      mask := ((l.closeWindow x (if removed.isSome then 2 else 1)).commit l.td.cycle offset).vt.maskAfter x removed } x own
  have hvt : (l.continued x removed own offset).vt = _ := hr
  rw [hvt]
  exact ⟨rfl, rfl, rfl, rfl⟩

/-! ## The close of the window -/

/-- What a decision makes of lane `x` (R132 to R136). -/
def State.actOn (s : State) (x : LaneId) (own : BitVec 128) (offset : Nat) : Verdict3 → State
  | .continue_ removed => s.continueLane x removed own offset
  | .minority => (s.modLane x (·.closeWindow x 3)).withdraw x 1 false
  | .stop cause => (s.modLane x (·.closeWindow x 4)).stopLane x cause

/-- A window that is open and due closes by its decision (R132). -/
theorem exec_comparisonWindowClose_of_due {s : State} {x : LaneId} {offset : BitVec 32} {own : BitVec 128}
    (hown : (s.lane x).vt.own = some own) (hstate : (s.lane x).vt.state = .inService) (hopen : (s.lane x).vt.windowOpen = true)
    (hbefore : offset.toNat < (s.lane x).image.deadlineTicks)
    (hdue : (s.lane x).vt.allIn x = true ∨ (s.lane x).td.tScan + 200000 ≤ offset.toNat) :
    exec (.comparisonWindowClose x offset) s = .next (s.actOn x own offset.toNat ((s.lane x).vt.decide3 x own)) := by
  have hserv : (s.lane x).inService = true := beq_iff_eq.2 hstate
  cases hd : (s.lane x).vt.decide3 x own <;>
    simp [exec, execComparisonWindowClose, hown, hserv, hopen, hbefore, hdue, hd, State.actOn]

/-- A minority lane leaves service with its window closed (R135). -/
theorem State.lane_actOn_minority (s : State) (x : LaneId) (own : BitVec 128) (offset : Nat) :
    ∃ ms, (s.actOn x own offset .minority).lane x = ((s.lane x).closeWindow x 3).withdraw x 1 false ms :=
  ⟨_, by rw [State.actOn, State.lane_withdraw_self, State.lane_modLane_self]⟩

/-- A lane that stops does so with its window closed (R136). -/
theorem State.lane_actOn_stop (s : State) (x : LaneId) (own : BitVec 128) (offset cause : Nat) :
    (s.actOn x own offset (.stop cause)).lane x = ((s.lane x).closeWindow x 4).stop x cause := by
  rw [State.actOn, State.lane_stopLane_self, State.lane_modLane_self]

/-- No decision of a lane touches another. -/
theorem State.lane_actOn_ne (s : State) {x y : LaneId} (own : BitVec 128) (offset : Nat) (d : Verdict3) (h : y ≠ x) :
    (s.actOn x own offset d).lane y = s.lane y := by
  cases d with
  | continue_ removed => exact ((s.keepsCycle_continueLane ..).other y h).trans (State.lane_modLane_ne _ _ h)
  | minority => exact (State.lane_withdraw_ne _ _ _ h).trans (State.lane_modLane_ne _ _ h)
  | stop cause => exact (State.lane_stopLane_ne _ _ h).trans (State.lane_modLane_ne _ _ h)

/-- Settles O17: the window's close by its decision, each with what it leaves in its lane. -/
theorem windowCloseActsOnTheDecision : Obligations.WindowCloseActsOnTheDecision := by
  intro s x offset own l hown hstate hopen hbefore hdue
  refine ⟨_, exec_comparisonWindowClose_of_due hown hstate hopen hbefore hdue, fun y hy => s.lane_actOn_ne _ _ _ hy, ?_⟩
  cases hd : l.vt.decide3 x own with
  | continue_ removed =>
    obtain ⟨hbasin, -, hpe, hvt, hio⟩ := s.keepsCycle_continueLane x removed own offset.toNat
    rw [State.lane_modLane_self] at hpe hvt hio
    obtain ⟨hclosed, hcommitted, hkept, hmask⟩ := l.continued_vt x removed own offset.toNat
    rw [State.actOn, hpe, hvt, hio, hbasin]
    refine ⟨hclosed, fun r hr => ?_, nofun, nofun⟩
    obtain rfl : removed = r := Verdict3.continue_.inj hr
    exact ⟨rfl, rfl, rfl, rfl, hcommitted, hkept.trans hstate, hmask, rfl, rfl⟩
  | minority =>
    obtain ⟨ms, hlane⟩ := s.lane_actOn_minority x own offset.toNat
    rw [hlane]
    exact ⟨rfl, nofun, fun _ => ⟨rfl, rfl, rfl, rfl, rfl, rfl, rfl, rfl⟩, nofun⟩
  | stop cause =>
    rw [s.lane_actOn_stop]
    refine ⟨rfl, nofun, nofun, fun c hc => ?_⟩
    obtain rfl : cause = c := Verdict3.stop.inj hc
    exact ⟨rfl, rfl, rfl, rfl, rfl, rfl⟩

end Sys2Proof.Machine

/-! PROOF. The input sample (R95, R229, R230, R232, R240): what the judgement of the outputs leaves, what one sample makes of each input channel, and the
lane that takes the sample. -/

namespace Sys2Proof.Machine

/-! ## One step of a filter -/

section
variable {n count : Nat} (filtered : Bool)

theorem filterStep_count (sample : Bool) : (filterStep n count filtered sample).1 = if sample then min (count + 1) n else count - 1 := rfl

/-- The filtered value changes at the ends of the range only (R230). -/
theorem filterStep_value (sample : Bool) :
    (filterStep n count filtered sample).2 =
      if (filterStep n count filtered sample).1 = n then true else if (filterStep n count filtered sample).1 = 0 then false else filtered := rfl

theorem filterStep_spec (sample : Bool) (hn : 1 ≤ n) (hc : count ≤ n) :
    let r := filterStep n count filtered sample
    r.1 ≤ n ∧ (sample = true → r.1 = min (count + 1) n) ∧ (sample = false → r.1 = count - 1) ∧
      (r.1 = n → r.2 = true) ∧ (r.1 = 0 → r.2 = false) ∧ (0 < r.1 → r.1 < n → r.2 = filtered) := by
  intro r
  have hvalue : r.2 = if r.1 = n then true else if r.1 = 0 then false else filtered := filterStep_value filtered sample
  refine ⟨?_, fun h => (filterStep_count ..).trans (if_pos h), fun h => (filterStep_count ..).trans (if_neg (by simp [h])), fun h => ?_, fun h => ?_,
    fun h0 hlt => ?_⟩
  · have hcount : r.1 = if sample then min (count + 1) n else count - 1 := filterStep_count filtered sample
    rw [hcount]
    split <;> omega
  · rw [hvalue, if_pos h]
  · rw [hvalue, if_neg (by omega), if_pos h]
  · rw [hvalue, if_neg (by omega), if_neg (by omega)]

end

/-! ## The judgement of the outputs leaves the inputs -/

/-- A lane's vital I/O without what the judgement of its outputs enters. -/
def LaneIO.unjudged (io : LaneIO) : LaneIO :=
  { LaneIO.reset with raw := io.raw, count := io.count, filt := io.filt, frozen := io.frozen, disagree := io.disagree, xcirc := io.xcirc,
                      xzeros := io.xzeros, sampleCnt := io.sampleCnt, readback := io.readback, groupsRead := io.groupsRead, watchIn := io.watchIn,
                      fs1 := io.fs1, fs2 := io.fs2 }

/-- A lane without what the judgement of its outputs enters: the outputs' side of its vital I/O, and its records. -/
def Lane.unjudged (l : Lane) : Lane := { l with io := l.io.unjudged, mb := LaneMail.reset }

theorem LaneIO.unjudged_abortTestIf (io : LaneIO) (ms : Nat) (p : TestWindow → Bool) : (io.abortTestIf ms p).unjudged = io.unjudged := by
  unfold LaneIO.abortTestIf
  split
  · split <;> rfl
  · rfl

theorem LaneIO.unjudged_latchGroup (io : LaneIO) (k cause ms : Nat) : (io.latchGroup k cause ms).unjudged = io.unjudged := by
  unfold LaneIO.latchGroup
  extract_lets g aborted quenched mine dropped
  have habort : aborted.unjudged = io.unjudged := io.unjudged_abortTestIf ms _
  have hdrop : dropped.unjudged = quenched.unjudged := foldl_keeps LaneIO.unjudged _ (by intros; rfl) mine quenched
  split <;> exact hdrop.trans habort

theorem Lane.unjudged_overdueCheck (l : Lane) (x : LaneId) (k : Nat) : (l.overdueCheck x k).unjudged = l.unjudged := by
  unfold Lane.overdueCheck; split <;> rfl

theorem Lane.unjudged_afterAbort (l : Lane) (x : LaneId) (w : Option TestWindow) : (l.afterAbort x w).unjudged = l.unjudged := by
  cases w with
  | none => rfl
  | some w => exact l.unjudged_overdueCheck x w.channel

theorem Lane.unjudged_latchFault (l : Lane) (x : LaneId) (k code cause : Nat) : (l.latchFault x k code cause).unjudged = l.unjudged :=
  (Lane.unjudged_afterAbort ..).trans
    (congrArg (fun io => { l with io := io, mb := LaneMail.reset }) (l.io.unjudged_latchGroup k cause l.ms))

theorem Lane.unjudged_judgeHigh (l : Lane) (x : LaneId) (k : Nat) : (l.judgeHigh x k).unjudged = l.unjudged := by
  dsimp only [Lane.judgeHigh]
  split
  · split
    · exact Lane.unjudged_latchFault ..
    · rfl
  · rfl

theorem Lane.unjudged_judgeLow (l : Lane) (x : LaneId) (k : Nat) : (l.judgeLow x k).unjudged = l.unjudged := by
  dsimp only [Lane.judgeLow]
  split_ifs <;> rfl

theorem Lane.unjudged_judgeOutput (m : Image) (x : LaneId) (sleeper : Bool) (l : Lane) (k : Nat) :
    (l.judgeOutput m x sleeper k).unjudged = l.unjudged := by
  unfold Lane.judgeOutput
  split_ifs
  · rfl
  · rfl
  · exact l.unjudged_judgeLow x k
  · rfl
  · exact l.unjudged_judgeHigh x k

theorem Lane.unjudged_judgePartner (x : LaneId) (ms : Nat) (read : BitVec 32) (l : Lane) (k : Nat) :
    (Lane.judgePartner x ms read l k).unjudged = l.unjudged := by
  dsimp only [Lane.judgePartner]
  split_ifs <;> rfl

theorem Lane.unjudged_partnerSample (l : Lane) (m : Image) (x : LaneId) : (l.partnerSample m x).unjudged = l.unjudged := by
  unfold Lane.partnerSample
  split
  · exact foldl_keeps Lane.unjudged _ (Lane.unjudged_judgePartner x _ _) _ _
  · rfl

/-- The judgement of a regular sample enters nothing but the outputs' side and records (R244, R248). -/
theorem Lane.unjudged_judgeOutputs (l : Lane) (m : Image) (x : LaneId) (sleeper : Bool) : (l.judgeOutputs m x sleeper).unjudged = l.unjudged := by
  have h := foldl_keeps Lane.unjudged _ (Lane.unjudged_judgeOutput m x sleeper) (List.range 32) l
  unfold Lane.judgeOutputs
  split
  · exact (Lane.unjudged_partnerSample ..).trans h
  · exact h

theorem Lane.judgeOutputs_keeps (l : Lane) (m : Image) (x : LaneId) (sleeper : Bool) :
    let j := l.judgeOutputs m x sleeper
    j.td = l.td ∧ j.pe = l.pe ∧ j.vt = l.vt ∧ j.io.unjudged = l.io.unjudged := by
  have h := l.unjudged_judgeOutputs m x sleeper
  exact ⟨(congrArg Lane.td h :), (congrArg Lane.pe h :), (congrArg Lane.vt h :), (congrArg Lane.io h :)⟩

/-! ## Each input channel for itself -/

theorem onBit_putBit {w : Nat} (v : BitVec w) {i : Nat} (b : Bool) (j : Nat) (hi : i < w) :
    onBit (putBit v i b) j = if i = j then b else onBit v j := by
  have hpow : (BitVec.ofNat w (2 ^ i)).getLsbD j = decide (i = j) := by
    rw [BitVec.getLsbD_ofNat, Nat.testBit_two_pow]
    by_cases h : i = j
    · simp [← h, hi]
    · simp [h]
  unfold onBit putBit
  generalize BitVec.ofNat w (2 ^ i) = p at hpow
  cases b with
  | true => by_cases h : i = j <;> simp [BitVec.getLsbD_or, hpow, h]
  | false =>
    rw [if_neg (by decide), BitVec.getLsbD_and, BitVec.getLsbD_not, hpow]
    by_cases h : i = j
    · simp [h]
    · simpa [h] using fun hv => BitVec.lt_of_getLsbD hv

/-- A fold over the channels below `n` of which each changes its own reading alone leaves at channel `c` what its own step makes of it. -/
theorem foldl_range_read {α β : Type} (read : α → Nat → β) (f : α → Nat → α) (g : Nat → β → β) {n : Nat}
    (hf : ∀ a i j, i < n → read (f a i) j = if i = j then g i (read a j) else read a j) (a : α) (c : Nat) :
    read ((List.range n).foldl f a) c = if c < n then g c (read a c) else read a c := by
  induction n with
  | zero => rfl
  | succ n ih =>
    rw [List.range_succ, List.foldl_append, List.foldl_cons, List.foldl_nil, hf _ n c (Nat.lt_succ_self n),
      ih fun a i j hi => hf a i j (Nat.lt_succ_of_lt hi)]
    by_cases h : n = c
    · subst h; simp
    · have hlt : c < n + 1 ↔ c < n := by omega
      simp [h, hlt]

/-- An input channel: its filter's count, its filtered value, and whether a cross-circuit holds it. -/
def LaneIO.channel (io : LaneIO) (c : Nat) : Nat × Bool × Bool := (Assoc.get 0 io.count c, onBit io.filt c, onBit io.xcirc c)

/-- What the sample `b` makes of an input channel (R229, R230, R232). -/
def sampledChannel (e : InEntry) (b : Bool) (v : Nat × Bool × Bool) : Nat × Bool × Bool :=
  if !e.used then v else if v.2.2 then (0, false, true) else ((filterStep e.depth v.1 v.2.1 b).1, (filterStep e.depth v.1 v.2.1 b).2, false)

theorem LaneIO.channel_set (io : LaneIO) (i j n : Nat) (b : Bool) (hi : i < 64) :
    LaneIO.channel { io with count := Assoc.put 0 io.count i n, filt := putBit io.filt i b } j =
      if i = j then (n, b, onBit io.xcirc j) else io.channel j := by
  rw [LaneIO.channel, Assoc.get_put, onBit_putBit _ _ _ hi]
  by_cases h : i = j <;> simp [h, LaneIO.channel]

theorem LaneIO.channel_sampleInput (m : Image) (raw : BitVec 64) (io : LaneIO) (i j : Nat) (hi : i < 64) :
    (LaneIO.sampleInput m raw io i).channel j = if i = j then sampledChannel (m.input i) (onBit raw i) (io.channel j) else io.channel j := by
  unfold LaneIO.sampleInput sampledChannel
  extract_lets e r
  by_cases hu : e.used = true
  · by_cases hx : onBit io.xcirc i = true
    · rw [if_neg (by simp [hu]), if_pos hx, channel_set io i j 0 false hi]
      refine ite_congr rfl (fun h => ?_) fun _ => rfl
      subst h
      simp [e, hu, hx, LaneIO.channel]
    · rw [if_neg (by simp [hu]), if_neg hx, channel_set io i j r.1 r.2 hi]
      refine ite_congr rfl (fun h => ?_) fun _ => rfl
      subst h
      simp [e, r, hu, hx, LaneIO.channel]
  · rw [if_pos (by simpa using hu)]
    simp [e, hu]

/-- A sample of every input channel moves the filter of each (R229, R230, R232). -/
theorem LaneIO.channel_sampleInputs (m : Image) (raw : BitVec 64) (io : LaneIO) {c : Nat} (hc : c < 64) :
    ((List.range 64).foldl (LaneIO.sampleInput m raw) io).channel c = sampledChannel (m.input c) (onBit raw c) (io.channel c) :=
  (foldl_range_read LaneIO.channel _ (fun i => sampledChannel (m.input i) (onBit raw i)) (LaneIO.channel_sampleInput m raw) io c).trans (if_pos hc)

theorem LaneIO.sampleInput_only (m : Image) (raw : BitVec 64) (io : LaneIO) (c : Nat) :
    ∃ n v, LaneIO.sampleInput m raw io c = { io with count := n, filt := v } := by
  unfold LaneIO.sampleInput
  extract_lets e r
  split_ifs
  · exact ⟨_, _, rfl⟩
  · exact ⟨_, _, rfl⟩
  · exact ⟨_, _, rfl⟩

/-- The samples of the input channels touch counts and filtered values alone. -/
theorem LaneIO.sampleInputs_only (m : Image) (raw : BitVec 64) (io : LaneIO) :
    ∃ n v, (List.range 64).foldl (LaneIO.sampleInput m raw) io = { io with count := n, filt := v } := by
  refine List.foldlRecOn (motive := fun t : LaneIO => ∃ n v, t = { io with count := n, filt := v }) _ _ ⟨io.count, io.filt, rfl⟩ ?_
  rintro _ ⟨n, v, rfl⟩ c -
  obtain ⟨n', v', h⟩ := LaneIO.sampleInput_only m raw { io with count := n, filt := v } c
  exact ⟨n', v', h⟩

section
variable {e : InEntry} (b : Bool) (v : Nat × Bool × Bool)

theorem sampledChannel_of_unused (h : e.used = false) : sampledChannel e b v = v := if_pos (by simp [h])

theorem sampledChannel_of_held (hu : e.used = true) (hx : v.2.2 = true) : sampledChannel e b v = (0, false, true) :=
  (if_neg (by simp [hu])).trans (if_pos hx)

theorem sampledChannel_of_free (hu : e.used = true) (hx : v.2.2 = false) :
    sampledChannel e b v = ((filterStep e.depth v.1 v.2.1 b).1, (filterStep e.depth v.1 v.2.1 b).2, false) :=
  (if_neg (by simp [hu])).trans (if_neg (by simp [hx]))

end

/-! ## The sample taken by a lane -/

/-- A lane in the part of its resync that keeps its samples for the replay (R151). -/
def Lane.keepsSamples (l : Lane) : Bool := l.vt.state == .joining || l.vt.state == .base || l.vt.state == .catchUp

theorem Lane.keepsSamples_iff (l : Lane) :
    l.keepsSamples = true ↔ l.vt.state = .joining ∨ l.vt.state = .base ∨ l.vt.state = .catchUp := by
  simp [Lane.keepsSamples, or_assoc]

/-- The inputs of a lane after the sample `raw`: filtered, or kept for the replay. -/
def Lane.sampledInputs (l : Lane) (raw : BitVec 64) : LaneIO :=
  if l.keepsSamples then { l.io with raw := raw } else (List.range 64).foldl (LaneIO.sampleInput l.image raw) { l.io with raw := raw }

theorem Lane.sampledInputs_only (l : Lane) (raw : BitVec 64) :
    ∃ n v, l.sampledInputs raw = { l.io with raw := raw, count := n, filt := v } := by
  unfold Lane.sampledInputs
  split
  · exact ⟨_, _, rfl⟩
  · exact LaneIO.sampleInputs_only l.image raw { l.io with raw := raw }

theorem Lane.sampledInputs_of_keeps {l : Lane} (raw : BitVec 64) (h : l.keepsSamples = true) :
    l.sampledInputs raw = { l.io with raw := raw } := if_pos h

theorem Lane.channel_sampledInputs {l : Lane} (raw : BitVec 64) {c : Nat} (h : ¬ l.keepsSamples = true) (hc : c < 64) :
    (l.sampledInputs raw).channel c = sampledChannel (l.image.input c) (onBit raw c) (l.io.channel c) := by
  rw [Lane.sampledInputs, if_neg h]
  exact LaneIO.channel_sampleInputs l.image raw { l.io with raw := raw } hc

section
variable (l : Lane) (ms : BitVec 40) (raw : BitVec 64) (readback : BitVec 32) (groups : BitVec 4) (watchIn : Bool) (fs1 fs2 : BitVec 16)

/-- The lane that has taken a regular sample, its outputs not judged yet (R95, R229, R240). -/
def Lane.sampledAt : Lane :=
  let io := l.sampledInputs raw
  let f1 := supplyStep fs1.toNat io.fs1Low io.fs1Ok
  let f2 := supplyStep fs2.toNat io.fs2Low io.fs2Ok
  { l with td := l.td.reach (ms.toNat * 100000),
           vt := if l.keepsSamples then { l.vt with kept := l.vt.kept ++ [(ms.toNat, raw)] } else l.vt,
           io := { io with readback := readback, groupsRead := groups, watchIn := watchIn, litInCycle := io.litInCycle || watchIn,
                           darkRun := if watchIn then 0 else io.darkRun + 1, sampled := true, sampleCnt := (io.sampleCnt + 1) % 2 ^ 32,
                           lastMs := ms.toNat, fs1 := fs1.toNat, fs2 := fs2.toNat, fs1Low := f1.1, fs1Ok := f1.2, fs2Low := f2.1,
                           fs2Ok := f2.2 } }

theorem exec_inputSample_of_runs {s : State} {x : LaneId} (h : onBit (s.lane x).rc.released 3 = true) :
    exec (.inputSample x ms raw readback groups watchIn fs1 fs2) s =
      .next (s.modLane x fun l => (l.sampledAt ms raw readback groups watchIn fs1 fs2).judgeOutputs l.image x s.sleeps) :=
  if_neg (by simp [h])

/-- The inputs that a lane shows after the sample: what came with it, and the filters. -/
theorem Lane.sampledAt_io :
    (l.sampledAt ms raw readback groups watchIn fs1 fs2).io.unjudged =
      { l.io.unjudged with
          raw := raw, count := (l.sampledInputs raw).count, filt := (l.sampledInputs raw).filt, readback := readback, groupsRead := groups,
          watchIn := watchIn, fs1 := fs1.toNat, fs2 := fs2.toNat, sampleCnt := (l.io.sampleCnt + 1) % 2 ^ 32 } := by
  obtain ⟨n, v, h⟩ := l.sampledInputs_only raw
  rw [Lane.sampledAt, h]
  rfl

end

/-- Settles O11: the filter's step by its two equations; the sample by what it makes of each channel for itself, which the judgement of the outputs
leaves. -/
theorem inputSampleFiltersEveryUsedChannel : Obligations.InputSampleFiltersEveryUsedChannel := by
  refine ⟨fun n count filtered sample hn hc => filterStep_spec filtered sample hn hc,
    fun s x ms raw readback groups watchIn fs1 fs2 hruns => ?_⟩
  intro replay
  refine ⟨_, exec_inputSample_of_runs ms raw readback groups watchIn fs1 fs2 hruns, s.onlyLane_modLane x _, ?_⟩
  have hreplay : replay ↔ (s.lane x).keepsSamples = true := (s.lane x).keepsSamples_iff.symm
  obtain ⟨htd, hpe, hvt, hjudged⟩ :=
    ((s.lane x).sampledAt ms raw readback groups watchIn fs1 fs2).judgeOutputs_keeps (s.lane x).image x s.sleeps
  rw [s.lane_modLane_self]
  generalize ((s.lane x).sampledAt ms raw readback groups watchIn fs1 fs2).judgeOutputs (s.lane x).image x s.sleeps = j at *
  have hio := hjudged.trans (Lane.sampledAt_io ..)
  have hchannel : ∀ c, c < 64 → ¬ replay → j.io.channel c = sampledChannel ((s.lane x).image.input c) (onBit raw c) ((s.lane x).io.channel c) :=
    fun c hc hr => (congrArg (fun io => LaneIO.channel io c) hjudged).trans (Lane.channel_sampledInputs raw (mt hreplay.2 hr) hc)
  refine ⟨htd, hpe, hvt.trans (ite_congr (propext hreplay.symm) (fun _ => rfl) fun _ => rfl), (congrArg LaneIO.raw hio :),
    (congrArg LaneIO.readback hio :), (congrArg LaneIO.groupsRead hio :), (congrArg LaneIO.watchIn hio :), (congrArg LaneIO.fs1 hio :),
    (congrArg LaneIO.fs2 hio :), (congrArg LaneIO.sampleCnt hio :), (congrArg LaneIO.frozen hio :), (congrArg LaneIO.xcirc hio :),
    fun hr => ?_, fun c hc hr hu => ?_, fun c hc hr hu hx => ?_, fun c hc hu hx hr => ?_⟩
  · rw [Lane.sampledInputs_of_keeps raw (hreplay.1 hr)] at hio
    exact ⟨(congrArg LaneIO.filt hio :), (congrArg LaneIO.count hio :)⟩
  · have h := (hchannel c hc hr).trans (sampledChannel_of_unused _ _ hu)
    exact ⟨congrArg Prod.fst h, congrArg (·.2.1) h⟩
  · have h := (hchannel c hc hr).trans (sampledChannel_of_held _ _ hu hx)
    exact ⟨congrArg Prod.fst h, congrArg (·.2.1) h⟩
  · have h := (hchannel c hc hr).trans (sampledChannel_of_free _ _ hu hx)
    exact ⟨congrArg Prod.fst h, congrArg (·.2.1) h⟩

end Sys2Proof.Machine

/-! PROOF. The output deadline (R98, R101, R102): a late lane abandons the cycle and withdraws or stops, with the lanes that were late before it; seals that
a committed lane of the watcher has not handed over are spent. -/

namespace Sys2Proof

theorem LaneId.two_le_length_filter_peers_iff (x : LaneId) (p : LaneId → Bool) : 2 ≤ (x.peers.filter p).length ↔ ∀ y ∈ x.peers, p y = true := by
  have hlen : x.peers.length = 2 := by cases x <;> rfl
  rw [← List.length_filter_eq_length_iff, hlen]
  have := List.length_filter_le p x.peers
  omega

theorem LaneId.ne_of_mem_peers {x y : LaneId} (h : y ∈ x.peers) : y ≠ x := fun e => x.self_not_mem_peers (e ▸ h)

end Sys2Proof

namespace Sys2Proof.Machine

/-! ## Lanes that may still commit, and lanes that were late -/

theorem State.mayCommit_modLane_ne (s : State) {x y : LaneId} (f : Lane → Lane) (n : Nat) (h : y ≠ x) :
    (s.modLane x f).mayCommit y n = s.mayCommit y n := by
  rw [State.mayCommit, s.lane_modLane_ne f h, ← State.mayCommit]

/-- A change of a lane that leaves its state leaves the unit's service mask. -/
theorem State.serviceMask_modLane (s : State) (x : LaneId) (f : Lane → Lane) (h : (f (s.lane x)).inService = (s.lane x).inService) :
    (s.modLane x f).serviceMask = s.serviceMask := by
  refine PerLane.ext_get fun y => ?_
  rw [State.serviceMask, State.serviceMask, PerLane.get_map, PerLane.get_map]
  change ((s.modLane x f).lane y).inService = (s.lane y).inService
  by_cases hy : y = x
  · subst hy; rw [s.lane_modLane_self, h]
  · rw [s.lane_modLane_ne f hy]

/-- A fold over lanes each of whose steps changes its own lane alone. -/
theorem State.lane_foldl_own {f : State → LaneId → State} {g : LaneId → Lane → Lane} (hself : ∀ s y, (f s y).lane y = g y (s.lane y))
    (hne : ∀ s y z, z ≠ y → (f s y).lane z = s.lane z) {ys : List LaneId} (hn : ys.Nodup) (s : State) (z : LaneId) :
    (ys.foldl f s).lane z = if z ∈ ys then g z (s.lane z) else s.lane z := by
  induction ys generalizing s with
  | nil => rfl
  | cons y ys ih =>
    obtain ⟨hy, hys⟩ := List.nodup_cons.1 hn
    rw [List.foldl_cons, ih hys]
    by_cases hz : z = y
    · subst hz
      simp [hy, hself]
    · simp [hz, hne s y z hz]

/-- A lane that was late in cycle `n` and has withdrawn for it. -/
def Lane.wasLate (l : Lane) (n : Nat) : Bool :=
  (l.vt.state == .withdrawn || l.vt.state == .reset) && decide (l.vt.minCause = 2) && decide (l.vt.minCycle = n)

theorem Lane.wasLate_iff {l : Lane} {n : Nat} :
    l.wasLate n = true ↔ (l.vt.state = .withdrawn ∨ l.vt.state = .reset) ∧ l.vt.minCause = 2 ∧ l.vt.minCycle = n := by
  simp [Lane.wasLate, and_assoc]

theorem Lane.wasLate_stop (l : Lane) (x : LaneId) (cause n : Nat) : (l.stop x cause).wasLate n = false := rfl

/-- Lane `y` stopped where it was late in cycle `n`. -/
def State.stopIfLate (n : Nat) (s : State) (y : LaneId) : State :=
  if (s.lane y).wasLate n then s.stopLane y (stopCauseOfMask (s.lane y).vt.mask true) else s

theorem State.lane_stopIfLate_self (n : Nat) (s : State) (y : LaneId) : (s.stopIfLate n y).lane y =
    if (s.lane y).wasLate n then (s.lane y).stop y (stopCauseOfMask (s.lane y).vt.mask true) else s.lane y := by
  rw [State.stopIfLate, apply_ite (fun t : State => t.lane y), s.lane_stopLane_self]

theorem State.lane_stopIfLate_ne (n : Nat) (s : State) (y z : LaneId) (h : z ≠ y) : (s.stopIfLate n y).lane z = s.lane z := by
  rw [State.stopIfLate, apply_ite (fun t : State => t.lane z), s.lane_stopLane_ne _ h, ite_self]

/-- Of lanes that were late in cycle `n` each stops, and no other lane changes (R102). -/
theorem State.lane_stopLate (s : State) (n : Nat) (y : LaneId) :
    (s.stopLate n).lane y =
      if (s.lane y).wasLate n then (s.lane y).stop y (stopCauseOfMask (s.lane y).vt.mask true) else s.lane y :=
  (State.lane_foldl_own (f := State.stopIfLate n) (g := fun y l => if l.wasLate n then l.stop y (stopCauseOfMask l.vt.mask true) else l)
    (State.lane_stopIfLate_self n) (State.lane_stopIfLate_ne n) (by decide : LaneId.list.Nodup) s y).trans (if_pos (by cases y <;> decide))

/-! ## The deadline in a lane in service -/

section
variable {s : State} {x : LaneId}

theorem exec_outputDeadline_of_past (h : (s.lane x).td.pastD = true) : exec (.outputDeadline x) s = .next s := if_pos (by simp [h])

/-- The unit in which D has come for lane `x`. -/
def State.pastDeadline (s : State) (x : LaneId) : State := s.modLane x fun l => { l with td := { l.td with pastD := true } }

/-- The unit in which lane `x` has abandoned its cycle at D, and is neither withdrawn nor stopped yet (R101). -/
def State.abandoned (s : State) (x : LaneId) : State := (s.pastDeadline x).modLane x fun l => l.late x

/-- What becomes of the unit when lane `x` is late: the lane withdraws where two lanes still commit the cycle, else every late lane stops (R102). -/
def State.afterLate (s : State) (x : LaneId) : State :=
  if ∀ y ∈ x.peers, s.mayCommit y (s.lane x).td.cycle = true then (s.abandoned x).withdraw x 2 false
  else ((s.abandoned x).stopLane x (stopCauseOfMask (s.lane x).vt.mask true)).stopLate (s.lane x).td.cycle

theorem exec_outputDeadline_of_late (hserv : (s.lane x).vt.state = .inService) (hpast : (s.lane x).td.pastD = false)
    (hphase : (s.lane x).td.phase ≠ .none) (hlate : (s.lane x).td.phase ≠ .late)
    (hcommitted : (s.lane x).vt.committed ≠ some (s.lane x).td.cycle) : exec (.outputDeadline x) s = .next (s.afterLate x) := by
  have hmay : 2 ≤ (x.peers.filter fun y => (s.pastDeadline x).mayCommit y (s.lane x).td.cycle).length ↔
      ∀ y ∈ x.peers, s.mayCommit y (s.lane x).td.cycle = true :=
    (x.two_le_length_filter_peers_iff _).trans
      (forall₂_congr fun y hy => by rw [State.pastDeadline, s.mayCommit_modLane_ne _ _ (LaneId.ne_of_mem_peers hy)])
  have hev : (s.lane x).evaluates = true := by simp [Lane.evaluates, hserv]
  refine (if_neg (by simp [hev, hphase, hlate, hpast])).trans ((if_neg hcommitted).trans ?_)
  rw [hserv, State.afterLate]
  by_cases h : ∀ y ∈ x.peers, s.mayCommit y (s.lane x).td.cycle = true
  · exact (if_pos (hmay.2 h)).trans (congrArg _ (if_pos h).symm)
  · exact (if_neg (mt hmay.1 h)).trans (congrArg _ (if_neg h).symm)

theorem exec_outputDeadline_of_unsealed (hserv : (s.lane x).vt.state = .inService) (hpast : (s.lane x).td.pastD = false)
    (hphase : (s.lane x).td.phase = .committed) (hcommitted : (s.lane x).vt.committed = some (s.lane x).td.cycle)
    (hrole : s.unit.role = .watcher) :
    exec (.outputDeadline x) s = .next ((s.pastDeadline x).modLane x fun l =>
      { l with td := { l.td with sealLateCnt := satAdd l.td.sealLateCnt
                                   ((s.lane x).handed (s.lane x).image s.unit x (s.lane x).td.cycle (s.pastDeadline x).serviceMask).length },
               ts := l.ts.spent (s.lane x).image (s.lane x).td.cycle }) := by
  have hserv' : (s.lane x).inService = true := beq_iff_eq.2 hserv
  have hev : (s.lane x).evaluates = true := by simp [Lane.evaluates, hserv]
  refine (if_neg (by simp [hev, hphase, hpast])).trans ((if_pos hcommitted).trans (if_pos ?_))
  simp [hserv', hphase, State.leads, hrole]

end

/-- What D leaves in a late lane before it withdraws or stops (R101). -/
theorem State.lane_abandoned_self (s : State) (x : LaneId) :
    (s.abandoned x).lane x = { s.lane x with td := { (s.lane x).td with pastD := true } }.late x := by
  rw [State.abandoned, State.lane_modLane_self, State.pastDeadline, State.lane_modLane_self]

theorem State.lane_abandoned_ne (s : State) {x y : LaneId} (h : y ≠ x) : (s.abandoned x).lane y = s.lane y := by
  rw [State.abandoned, State.lane_modLane_ne _ _ h, State.pastDeadline, State.lane_modLane_ne _ _ h]

theorem State.lane_stopLate_of_wasLate {s : State} {n : Nat} {y : LaneId} (h : (s.lane y).wasLate n = true) :
    ((s.stopLate n).lane y).vt.state = .stopped ∧ ((s.stopLate n).lane y).io.drives = false := by
  rw [State.lane_stopLate, if_pos h]
  exact ⟨Lane.stop_state .., Lane.stop_drives ..⟩

/-- Settles O21: each branch of the deadline by its equation; the lanes that were late before stop by the law of `stopLate`. -/
theorem outputDeadlineEndsTheCycle : Obligations.OutputDeadlineEndsTheCycle := by
  intro s x l hserv
  refine ⟨exec_outputDeadline_of_past, fun hpast hphase hlate hcommitted => ⟨_, exec_outputDeadline_of_late hserv hpast hphase hlate hcommitted, ?_⟩,
    fun hpast hphase hcommitted hrole => ?_⟩
  · by_cases h : ∀ y ∈ x.peers, s.mayCommit y l.td.cycle = true
    · have hnone : ¬ ∃ y ∈ x.peers, s.mayCommit y l.td.cycle = false := by simpa using h
      rw [State.afterLate, if_pos h, State.lane_withdraw_self, s.lane_abandoned_self]
      exact ⟨rfl, rfl, rfl, rfl, rfl, rfl, rfl, rfl,
        fun _ => ⟨rfl, rfl, fun y hy => (State.lane_withdraw_ne _ _ _ hy).trans (s.lane_abandoned_ne hy)⟩, fun hsome => absurd hsome hnone⟩
    · rw [State.afterLate, if_neg h]
      have hself : (((s.abandoned x).stopLane x (stopCauseOfMask l.vt.mask true)).stopLate l.td.cycle).lane x =
          ((s.abandoned x).lane x).stop x (stopCauseOfMask l.vt.mask true) := by
        rw [State.lane_stopLate, State.lane_stopLane_self, Lane.wasLate_stop, if_neg (by decide)]
      rw [hself, s.lane_abandoned_self]
      refine ⟨rfl, rfl, rfl, rfl, rfl, rfl, rfl, rfl, fun hall => absurd hall h, fun _ => ⟨rfl, fun y hy => ?_⟩⟩
      have hother : ((s.abandoned x).stopLane x (stopCauseOfMask l.vt.mask true)).lane y = s.lane y :=
        (State.lane_stopLane_ne _ _ hy).trans (s.lane_abandoned_ne hy)
      dsimp only
      split
      case isTrue hlate => exact State.lane_stopLate_of_wasLate (Lane.wasLate_iff.2 (hother.symm ▸ hlate))
      case isFalse hlate => rw [State.lane_stopLate, hother, if_neg (mt Lane.wasLate_iff.1 hlate)]
  · rw [exec_outputDeadline_of_unsealed hserv hpast hphase hcommitted hrole, State.pastDeadline, State.modLane_modLane,
      s.serviceMask_modLane x _ rfl]
    exact congrArg _ (State.modLane_congr rfl)

end Sys2Proof.Machine

/-! PROOF. Sending (R97 to R99, R168, R209, R265, R275): what the senders of the pumphouse leave unchanged, the sending deadline, the seals handed over, the
telegrams assembled, the ring's output slots, and the report of a mirror frame. -/

namespace Sys2Proof.Machine

/-- A reflexive and transitive relation that each step of a fold stands in, the fold stands in. -/
theorem foldl_rel {α β : Type} {R : α → α → Prop} (hrefl : ∀ a, R a a) (htrans : ∀ {a b c}, R a b → R b c → R a c) {f : α → β → α}
    (h : ∀ a b, R a (f a b)) (bs : List β) (a : α) : R a (bs.foldl f a) :=
  List.foldlRecOn (motive := R a) bs f (hrefl a) fun b hb c _ => htrans hb (h b c)

/-! ## What sending leaves unchanged -/

/-- From `s` to `t` nothing differs but what the ports hold and the pumphouse's own records, and `es` has been sent. -/
def State.sendsOnly (s t : State) (es : List Emit) : Prop :=
  t = { s with rings := t.rings, nets := t.nets, can := t.can, wire := t.wire, warden := t.warden, sent := s.sent ++ es }

/-- As `State.sendsOnly`, whatever has been sent. -/
def State.sends (s t : State) : Prop := ∃ es, s.sendsOnly t es

section
variable {s t u : State} {es fs : List Emit}

theorem State.sendsOnly_of_eq (h : t = { s with rings := t.rings, nets := t.nets, can := t.can, wire := t.wire, warden := t.warden }) :
    s.sendsOnly t [] := by
  rw [State.sendsOnly, List.append_nil]
  exact h

theorem State.sendsOnly_refl (s : State) : s.sendsOnly s [] := State.sendsOnly_of_eq rfl

theorem State.sendsOnly_emit (s : State) (e : Emit) : s.sendsOnly (s.emit e) [e] := rfl

theorem State.sendsOnly_modRing (s : State) (r : Nat) (f : Ring → Ring) : s.sendsOnly (s.modRing r f) [] := State.sendsOnly_of_eq rfl

theorem State.sendsOnly_modCan (s : State) (p : Nat) (f : CanPort → CanPort) : s.sendsOnly (s.modCan p f) [] := State.sendsOnly_of_eq rfl

theorem State.sendsOnly_modLink (s : State) (l : Nat) (f : Wire → Wire) : s.sendsOnly (s.modLink l f) [] := State.sendsOnly_of_eq rfl

theorem State.sendsOnly_logPh (s : State) (code sev : Nat) (ps : List Nat) : s.sendsOnly (s.logPh code sev ps) [] := State.sendsOnly_of_eq rfl

theorem State.sendsOnly_modNet (s : State) (n : NetId) (f : Net → Net) : s.sendsOnly (s.modNet n f) [] :=
  State.sendsOnly_of_eq (by cases n <;> rfl)

theorem State.sendsOnly.trans (h : s.sendsOnly t es) (k : t.sendsOnly u fs) : s.sendsOnly u (es ++ fs) := by
  rw [State.sendsOnly] at h k ⊢
  rw [k, h, ← List.append_assoc]

theorem State.sendsOnly.silent (h : s.sendsOnly t []) (k : t.sendsOnly u []) : s.sendsOnly u [] := h.trans k

theorem State.sendsOnly.lanes (h : s.sendsOnly t es) : t.lanes = s.lanes := (congrArg State.lanes h :)
theorem State.sendsOnly.basin (h : s.sendsOnly t es) : t.basin = s.basin := (congrArg State.basin h :)
theorem State.sendsOnly.unit (h : s.sendsOnly t es) : t.unit = s.unit := (congrArg State.unit h :)
theorem State.sendsOnly.out (h : s.sendsOnly t es) : t.out = s.out := (congrArg State.out h :)
theorem State.sendsOnly.sent (h : s.sendsOnly t es) : t.sent = s.sent ++ es := (congrArg State.sent h :)
theorem State.sendsOnly.ph (h : s.sendsOnly t es) : t.ph = s.ph := (congrArg State.ph h :)

theorem State.sendsOnly.sends (h : s.sendsOnly t es) : s.sends t := ⟨es, h⟩

theorem State.sends_refl (s : State) : s.sends s := s.sendsOnly_refl.sends

theorem State.sends.trans (h : s.sends t) (k : t.sends u) : s.sends u := by
  obtain ⟨es, h⟩ := h
  obtain ⟨fs, k⟩ := k
  exact (h.trans k).sends

theorem State.sends.ite {c : Prop} [Decidable c] (ht : s.sends t) (hu : s.sends u) : s.sends (if c then t else u) := by
  split
  · exact ht
  · exact hu

theorem State.sends_foldl {α : Type} {f : State → α → State} (h : ∀ (t : State) a, t.sends (f t a)) (as : List α) (s : State) :
    s.sends (as.foldl f s) :=
  foldl_rel (R := State.sends) State.sends_refl State.sends.trans h as s

theorem State.silent_foldl {α : Type} {f : State → α → State} (h : ∀ (t : State) a, t.sendsOnly (f t a) []) (as : List α) (s : State) :
    s.sendsOnly (as.foldl f s) [] :=
  foldl_rel (R := fun s t => State.sendsOnly s t []) State.sendsOnly_refl State.sendsOnly.silent h as s

end

/-! ## The sending deadline (R275) -/

theorem State.silent_lateNet (s : State) (k : Nat) (n : NetId) : s.sendsOnly (s.lateNet k n) [] := by
  unfold State.lateNet
  exact s.sendsOnly_modNet n _

theorem State.silent_canDeadline (s : State) (p : Nat) (begun : Option Nat) : s.sendsOnly (s.canDeadline p begun) [] :=
  (s.sendsOnly_modCan p _).silent
    (State.silent_foldl (fun t _ => (t.sendsOnly_modCan p _).silent (State.sendsOnly_logPh _ _ _ _)) _ _)

/-- At the deadline the ports discard what is late and send nothing; of the telegrams those of earlier cycles go. -/
theorem exec_sendingDeadline (sending : List (Fin 6 × BitVec 64)) (s : State) :
    ∃ u, s.sendsOnly u [] ∧ exec (.sendingDeadline sending) s = .next { u with
      out := { handed := u.out.handed.filter (fun h => h.kind == 8 || decide (s.cycle ≤ h.cycle)),
               assembled := u.out.assembled.filter (fun a => a.kind == 8 || decide (s.cycle ≤ a.cycle)) } } := by
  refine ⟨_, ?_, rfl⟩
  refine State.sendsOnly.silent ?_ (State.silent_foldl (fun t p => t.silent_canDeadline p _) _ _)
  refine State.sendsOnly.silent ?_ (State.silent_foldl (fun t l => t.sendsOnly_modLink l _) _ _)
  exact (s.silent_lateNet _ .a).silent (State.silent_lateNet _ _ .b)

/-! ## The hand-over (R97, R98) -/

theorem exec_sealHandover_of_committed {s : State} {x : LaneId} {offset : BitVec 32} (hrole : s.unit.role = .watcher)
    (hserv : (s.lane x).vt.state = .inService) (hcommitted : (s.lane x).vt.committed = some (s.lane x).td.cycle)
    (hphase : (s.lane x).td.phase = .committed) (hpast : (s.lane x).td.pastD = false) (hbefore : offset.toNat < (s.lane x).image.deadlineTicks) :
    let hs := (s.lane x).handed (s.lane x).image s.unit x (s.lane x).td.cycle s.serviceMask
    ∃ u, State.sends { s with out := { s.out with handed := s.out.handed ++ hs } } u ∧
      exec (.sealHandover x offset) s = .next (u.modLane x fun l => l.afterHandover (s.lane x).image x (s.lane x).td.cycle offset.toNat hs) := by
  have hserv' : (s.lane x).inService = true := beq_iff_eq.2 hserv
  refine ⟨_, ?_, if_pos (by simp [hserv', State.leads, hrole, hcommitted, hphase, hbefore, hpast])⟩
  exact State.sends_foldl (fun t h => (t.sendsOnly_emit _).sends) _ _

/-! ## Assembly (R99, R168, R172, R174, R259) -/

theorem State.sends_emitNet (s : State) (n : NetId) (mac : Nat) (frame : List Nat → Emit) : s.sends (s.emitNet n mac frame) :=
  s.sends_refl.ite (s.sendsOnly_emit _).sends

theorem State.sends_sendNow (s : State) (n : NetId) (w : NetWait) : s.sends (s.sendNow n w) :=
  s.sends_refl.ite (.ite ((s.sendsOnly_modNet n _).sends.trans (State.sends_emitNet ..)) ((s.sendsOnly_modNet n _).sends.trans (State.sends_emitNet ..)))

theorem State.sends_sendOut (s : State) (n : NetId) (w : NetWait) : s.sends (s.sendOut n w) :=
  s.sends_refl.ite (.ite (s.sends_sendNow n w)
    (.ite ((s.sendsOnly_modNet n _).sends.trans (State.sends_emitNet ..)) (s.sendsOnly_modNet n _).sends))

theorem State.sends_sendNet2 (s : State) (e : SessEntry) (c : Nat) (b : List Byte) : s.sends (s.sendNet2 e c b) :=
  (((s.sends_sendOut .a _).trans (State.sends_sendOut _ .a _)).trans (State.sends_sendOut _ .b _)).trans (State.sends_sendOut _ .b _)

theorem State.sends_transmit (s : State) (e : SessEntry) (a : Assembled) : s.sends (s.transmit e a).1 := by
  unfold State.transmit
  cases e.transport with
  | ring => exact s.sends_refl
  | wire => exact s.sends_refl
  | net2 => exact s.sends_sendNet2 e a.cycle a.bytes
  | can => exact (s.sendsOnly_modCan _ _).sends

theorem State.sends_sendCross (s : State) (kind : Nat) (content : List Byte) : s.sends (s.sendCross kind content) :=
  State.sends_foldl (fun t _ => .ite (t.sendsOnly_emit _).sends t.sends_refl) _ s

/-- The telegram of two handed ones, assembled at an offset and not sent yet (R168). -/
def assembledAt (offset kind : Nat) (h g : Handed) : Assembled :=
  { sid := h.sid, kind := kind, seg := h.seg, cycle := h.cycle, offset := offset, bytes := assemble h g, sent := false }

/-- A telegram assembled goes on its way: a mirror telegram onto the cross-links, another onto the transport of its session. The result says whether it is
sent with that. -/
def State.dispatched (s : State) (a : Assembled) : State × Bool :=
  if a.kind = 8 then (s.sendCross 1 a.bytes, true)
  else match s.image.session a.sid with
    | some e => s.transmit e a
    | none => (s, false)

theorem State.dispatched_of_mirror (s : State) {a : Assembled} (h : a.kind = 8) : s.dispatched a = (s.sendCross 1 a.bytes, true) := if_pos h

theorem State.sends_dispatched (s : State) (a : Assembled) : s.sends (s.dispatched a).1 := by
  unfold State.dispatched
  split
  · exact s.sends_sendCross 1 a.bytes
  · split
    · exact s.sends_transmit _ a
    · exact s.sends_refl

/-- A telegram dispatched and noted among those assembled. -/
def State.noted (s : State) (a : Assembled) : State :=
  { (s.dispatched a).1 with out := { (s.dispatched a).1.out with
      assembled := (s.dispatched a).1.out.assembled ++ [{ a with sent := (s.dispatched a).2 }] } }

theorem exec_telegramAssembly_of_pair {s : State} {sid : Fin 1024} {kind : BitVec 4} {offset : BitVec 32} {h g : Handed}
    (hrole : s.unit.role = .watcher) (hruns : s.phRuns = true) (hbefore : kind.toNat ≠ 8 → offset.toNat < s.image.deadlineTicks)
    (hpair : firstPair (s.out.open_.filter (fun h => h.kind == kind.toNat &&
      (if kind.toNat = 8 then h.seg == sid.val else h.sid == sid.val && h.cycle == s.cycle))) = some (h, g)) :
    exec (.telegramAssembly sid kind offset) s = .next ((s.noted (assembledAt offset.toNat kind.toNat h g)).flushWires h.cycle) := by
  change execTelegramAssembly sid kind offset s = _
  unfold execTelegramAssembly
  extract_lets k key
  rw [show firstPair (s.out.open_.filter key) = some (h, g) from hpair]
  refine (if_neg ?_).trans rfl
  simpa [State.leads, hrole, hruns, k, imp_iff_or_not] using hbefore

/-! ### What an assembly lets go over the wire links -/

/-- From `o` to `p` telegrams are marked as sent, or not. -/
def Outbound.marked (o p : Outbound) : Prop := p.handed = o.handed ∧ ∀ a ∈ o.assembled, ∃ b, { a with sent := b } ∈ p.assembled

theorem Outbound.marked_refl (o : Outbound) : o.marked o := ⟨rfl, fun a ha => ⟨a.sent, ha⟩⟩

theorem Outbound.marked.trans {o p q : Outbound} (h : o.marked p) (k : p.marked q) : o.marked q := by
  refine ⟨k.1.trans h.1, fun a ha => ?_⟩
  obtain ⟨b, hb⟩ := h.2 a ha
  exact k.2 { a with sent := b } hb

/-- From `s` to `t` nothing differs but the wire links and which telegrams are marked as sent, and something may have been sent. -/
def State.flushed (s t : State) : Prop := (∃ es, t = { s with wire := t.wire, out := t.out, sent := s.sent ++ es }) ∧ s.out.marked t.out

theorem State.flushed_refl (s : State) : s.flushed s := ⟨⟨[], by rw [List.append_nil]⟩, s.out.marked_refl⟩

theorem State.flushed.trans {s t u : State} (h : s.flushed t) (k : t.flushed u) : s.flushed u := by
  obtain ⟨⟨es, h⟩, hm⟩ := h
  obtain ⟨⟨fs, k⟩, km⟩ := k
  refine ⟨⟨es ++ fs, ?_⟩, hm.trans km⟩
  rw [k, h, ← List.append_assoc]

/-- One telegram sent on a wire link and marked. -/
theorem State.flushed_send (s : State) (l : Nat) (f : Wire → Wire) (e : Emit) (a : Assembled) :
    s.flushed { (s.modLink l f).emit e with
      out := { s.out with assembled := s.out.assembled.map (fun b => if b == a then { b with sent := true } else b) } } := by
  refine ⟨⟨[e], rfl⟩, rfl, fun c hc => ?_⟩
  by_cases h : (c == a) = true
  · exact ⟨true, List.mem_map.2 ⟨c, hc, if_pos h⟩⟩
  · exact ⟨c.sent, List.mem_map.2 ⟨c, hc, if_neg h⟩⟩

theorem State.flushed_flushWire (l n k : Nat) (s : State) : s.flushed (s.flushWire l n k) := by
  induction k generalizing s with
  | zero => exact s.flushed_refl
  | succ k ih =>
    rw [State.flushWire]
    split
    · exact s.flushed_refl
    · exact (s.flushed_send l _ _ _).trans (ih _)

theorem State.flushed_flushWires (s : State) (n : Nat) : s.flushed (s.flushWires n) :=
  foldl_rel (R := State.flushed) State.flushed_refl State.flushed.trans (fun t l => t.flushed_flushWire l n _) _ s

/-! ## The output slots of a ring (R99, R197, R209) -/

theorem State.sendsOnly_putFrame (s : State) (r : Nat) (side : Side) (at_ : Option Int) (f : List Byte) :
    s.sendsOnly (s.putFrame r side at_ f) [.ring r side f] := rfl

theorem State.sends_pumpPort (s : State) (r : Nat) (own : List Int) (side : Side) : s.sends (s.pumpPort r own side) :=
  (s.sendsOnly_modRing r _).sends.trans (State.sends_foldl (fun t _ => (t.sendsOnly_emit _).sends) _ _)

theorem State.sends_releaseHeld (s : State) (r : Nat) (e : SlotEntry) (side : Side) : s.sends (s.releaseHeld r e side) :=
  (s.sendsOnly_modRing r _).sends.trans (State.sends_pumpPort ..)

/-- The image, the cycle and the unit's identifier are read in the lanes. -/
theorem State.image_of_lanes {s t : State} (h : t.lanes = s.lanes) : t.image = s.image := by
  simp only [State.image, State.image?, State.serviceLanes, State.lane, h]

theorem State.ownHdr_of_lanes {s t : State} (h : t.lanes = s.lanes) (r : Nat) (side : Side) (ty dst : Nat) :
    t.ownHdr r side ty dst = s.ownHdr r side ty dst := by
  simp only [State.ownHdr, State.unitId, State.cycle, State.serviceLanes, State.lane, h]

/-- Whether a port can begin the module's own slot frame within the launch window. -/
def State.launches (s : State) (r : Nat) (e : SlotEntry) (side : Side) : Prop :=
  s.linkReady r side = true ∧ (s.ring r).busy side ≤ nanos e.start + nanos 500

/-- The module's own slot frame as it goes out of a port. -/
def State.ownSlotFrame (s : State) (r : Nat) (e : SlotEntry) (body : List Byte) (side : Side) : List Byte :=
  slotFrame (s.vk2 r) (max (nanos e.start) ((s.ring r).busy side)) (nanos e.start + nanos (occupancy (s.image.ring r).mode e.len))
    (ringFrame (s.vk2 r) (s.ownHdr r side 2 e.node) body)

section
variable {s : State} {r : Nat} {e : SlotEntry} {side : Side} (body : List Byte)

theorem State.launchSlot_of_launches (h : s.launches r e side) : s.launchSlot r e body side =
    (s.putFrame r side (some (max (nanos e.start) ((s.ring r).busy side))) (s.ownSlotFrame r e body side), true) := by
  obtain ⟨hready, hbusy⟩ := h
  have h500 : nanos 500 = 32768000 := rfl
  refine if_neg ?_
  rw [hready, Bool.not_true, Bool.false_or, decide_eq_true_iff, not_lt, max_le_iff]
  omega

theorem State.launchSlot_of_not (h : ¬ s.launches r e side) : s.launchSlot r e body side = (s, false) := by
  refine if_pos ?_
  cases hready : s.linkReady r side with
  | false => rfl
  | true =>
    have hbusy : ¬ (s.ring r).busy side ≤ nanos e.start + nanos 500 := fun hb => h ⟨hready, hb⟩
    rw [Bool.not_true, Bool.false_or, decide_eq_true_iff, lt_max_iff]
    exact .inr (not_le.1 hbusy)

/-- The two ports of a ring do not disturb each other: with port E busy, port W launches as before. -/
theorem State.launches_w_of_busy {t : State} {es : List Emit} {b : Int} (h : s.sendsOnly t es) (hring : t.ring r = (s.ring r).setBusy .e b) :
    (t.launches r e .w ↔ s.launches r e .w) ∧ t.ownSlotFrame r e body .w = s.ownSlotFrame r e body .w := by
  have hvk2 : t.vk2 r = s.vk2 r := by rw [State.vk2, State.vk2, State.image_of_lanes h.lanes]
  constructor
  · simp only [State.launches, State.linkReady, State.portUp, hvk2, h.ph, hring]
    rfl
  · simp only [State.ownSlotFrame, hvk2, State.image_of_lanes h.lanes, State.ownHdr_of_lanes h.lanes, hring]
    rfl

/-- What a port launches at the start of a slot. -/
theorem State.launchSlot_spec (s : State) (r : Nat) (e : SlotEntry) (body : List Byte) (side : Side) :
    ∃ es, s.sendsOnly (s.launchSlot r e body side).1 es ∧ ((s.launchSlot r e body side).2 = true ↔ s.launches r e side) ∧
      (∃ b, (s.launchSlot r e body side).1.ring r = (s.ring r).setBusy side b) ∧
      (s.launches r e side → Emit.ring r side (s.ownSlotFrame r e body side) ∈ es) := by
  by_cases h : s.launches r e side
  · rw [State.launchSlot_of_launches body h]
    exact ⟨_, s.sendsOnly_putFrame r side (some _) (s.ownSlotFrame r e body side), iff_of_true rfl h, ⟨_, s.ring_modRing_self r _⟩,
      fun _ => List.mem_singleton_self _⟩
  · rw [State.launchSlot_of_not body h]
    exact ⟨[], s.sendsOnly_refl, iff_of_false Bool.false_ne_true h, ⟨(s.ring r).busy side, by cases side <;> rfl⟩, fun hl => absurd hl h⟩

/-- The unit after both ports have begun the slot. -/
def State.launchBoth (s : State) (r : Nat) (e : SlotEntry) (body : List Byte) : State :=
  ((s.launchSlot r e body .e).1.launchSlot r e body .w).1

theorem State.launchBoth_spec (s : State) (r : Nat) (e : SlotEntry) (body : List Byte) :
    ∃ es, s.sendsOnly (s.launchBoth r e body) es ∧ ∀ side, s.launches r e side → Emit.ring r side (s.ownSlotFrame r e body side) ∈ es := by
  obtain ⟨es, hes, -, ⟨b, hring⟩, he⟩ := s.launchSlot_spec r e body .e
  obtain ⟨fs, hfs, -, -, hw⟩ := (s.launchSlot r e body .e).1.launchSlot_spec r e body .w
  obtain ⟨hiff, hframe⟩ := State.launches_w_of_busy (e := e) body hes hring
  refine ⟨es ++ fs, hes.trans hfs, fun side hl => ?_⟩
  cases side with
  | e => exact List.mem_append_left _ (he hl)
  | w => exact List.mem_append_right _ (hframe ▸ hw (hiff.2 hl))

/-- Where a port launches, one of the two reports it. -/
theorem State.launchSlot_or (h : ∃ side, s.launches r e side) :
    ((s.launchSlot r e body .e).2 || ((s.launchSlot r e body .e).1.launchSlot r e body .w).2) = true := by
  obtain ⟨es, hes, he, ⟨b, hring⟩, -⟩ := s.launchSlot_spec r e body .e
  obtain ⟨-, -, hw, -, -⟩ := (s.launchSlot r e body .e).1.launchSlot_spec r e body .w
  rw [Bool.or_eq_true]
  obtain ⟨side, hl⟩ := h
  cases side with
  | e => exact .inl (he.2 hl)
  | w => exact .inr (hw.2 ((State.launches_w_of_busy (e := e) body hes hring).1.2 hl))

end

/-- A telegram marked as sent. -/
def State.markSent (s : State) (a : Assembled) : State :=
  { s with out := { s.out with assembled := s.out.assembled.map (fun b => if b = a then { b with sent := true } else b) } }

theorem exec_ringOutputSlot_of_found {s : State} {r : Fin 4} {slot : Nat} {e : SlotEntry} {a : Assembled} (hrole : s.unit.role = .watcher)
    (hslot : (s.image.ring r.val).slots[slot]? = some e) (hout : e.out = true) (hruns : s.phRuns = true) (hlive : s.ringLive r.val = true)
    (hleads : (s.ring r.val).state.leads = true)
    (hfind : s.out.assembled.find? (fun a => a.kind == 1 && a.sid == e.sid && a.cycle == s.cycle && !a.sent &&
      decide (a.offset * 10 + 20000 ≤ e.start)) = some a) (h : ∃ side, s.launches r.val e side) :
    exec (.ringOutputSlot r slot) s =
      .next (((((s.launchBoth r.val e a.bytes).markSent a).releaseHeld r.val e .e)).releaseHeld r.val e .w) := by
  change execRingOutputSlot r slot s = _
  unfold execRingOutputSlot
  rw [hslot]
  refine (if_neg (by simp [hout, State.leads, hrole, hruns, hlive, hleads])).trans ?_
  rw [hfind]
  exact congrArg (fun t => Host.Outcome.next ((State.releaseHeld t r.val e .e).releaseHeld r.val e .w)) (if_pos (State.launchSlot_or a.bytes h))

/-! ## The report of a whole mirror frame (R259, R265) -/

theorem exec_mirrorFrameSent_of_whole {s : State} (offset : BitVec 32) (hrole : s.unit.role = .watcher)
    (hsends : s.crossSends .p27 = true ∨ s.crossSends .p28 = true) (hwhole : s.mirrorWhole s.cycle = true) :
    exec (.mirrorFrameSent offset) s = .next ({ s with xl := { s.xl with mirrorCycle := s.cycle % 2 ^ 32 } }.mapLanes (fun _ l =>
      if l.td.cycle == s.cycle && !l.td.pastD && decide (offset.toNat < l.image.deadlineTicks) then
        { l with io := { l.io with mirrorSent := some s.cycle } }
      else l)) := by
  have hcross : (s.crossSends .p27 || s.crossSends .p28) = true := Bool.or_eq_true_iff.2 hsends
  exact (if_neg (by rw [State.leads, hrole, hcross]; decide)).trans (if_pos hwhole)

/-- Settles O28: each command by its equation; what it leaves unchanged is what all sending leaves. -/
theorem sealsBecomeTelegrams : Obligations.SealsBecomeTelegrams := by
  refine ⟨fun s sending => ?_, fun s hrole => ⟨fun x offset => ?_, fun sid kind offset h g hruns hbefore hpair => ?_,
    fun r slot e a hslot hout hruns hlive hleads hfind hlaunch => ?_, fun offset hsends hwhole => ?_⟩⟩
  · obtain ⟨u, hu, hexec⟩ := exec_sendingDeadline sending s
    rw [hu.out] at hexec
    exact ⟨_, hexec, hu.lanes, hu.basin, hu.sent.trans (List.append_nil _), hu.unit, rfl, rfl⟩
  · intro l hserv hcommitted hphase hpast hbefore
    obtain ⟨u, ⟨es, hu⟩, hexec⟩ := exec_sealHandover_of_committed hrole hserv hcommitted hphase hpast hbefore
    have hlane : ∀ y, u.lane y = s.lane y := fun y => congrArg (fun p => PerLane.get p y) hu.lanes
    refine ⟨_, hexec, fun y hy => (u.lane_modLane_ne _ hy).trans (hlane y), (congrArg Outbound.handed hu.out :),
      (congrArg Outbound.assembled hu.out :), ?_⟩
    rw [u.lane_modLane_self, hlane x]
    exact ⟨rfl, rfl, rfl, rfl, rfl, hu.basin⟩
  · have hexec := exec_telegramAssembly_of_pair hrole hruns hbefore hpair
    set a := assembledAt offset.toNat kind.toNat h g
    obtain ⟨⟨fs, hflush⟩, hhanded, hmarked⟩ := (s.noted a).flushed_flushWires h.cycle
    obtain ⟨es, hd⟩ := s.sends_dispatched a
    obtain ⟨b, hb⟩ := hmarked _ (List.mem_append_right _ (List.mem_singleton_self _))
    refine ⟨_, hexec, (congrArg State.lanes hflush).trans hd.lanes, (congrArg State.unit hflush).trans hd.unit,
      (congrArg State.basin hflush).trans hd.basin, hhanded.trans (congrArg Outbound.handed hd.out :), ⟨_, hb, rfl, rfl, rfl, rfl, rfl, rfl⟩,
      fun hk => ⟨fs, ?_⟩⟩
    have hsent : (s.noted a).sent = (s.sendCross 1 (assemble h g)).sent :=
      congrArg (fun d : State × Bool => d.1.sent) (s.dispatched_of_mirror (a := a) hk)
    exact (congrArg State.sent hflush).trans (congrArg (· ++ fs) hsent)
  · obtain ⟨es, hes, hframes⟩ := s.launchBoth_spec r.val e a.bytes
    obtain ⟨fs, hfs⟩ := (((s.launchBoth r.val e a.bytes).markSent a).sends_releaseHeld r.val e .e).trans (State.sends_releaseHeld _ r.val e .w)
    refine ⟨_, exec_ringOutputSlot_of_found hrole hslot hout hruns hlive hleads hfind hlaunch, hfs.lanes.trans hes.lanes, hfs.basin.trans hes.basin,
      ?_, fun side hready hbusy => ?_⟩
    · rw [hfs.out, State.markSent, hes.out]
    · rw [hfs.sent]
      exact List.mem_append_left _ (hes.sent ▸ List.mem_append_right _ (hframes side ⟨hready, hbusy⟩))
  · rw [exec_mirrorFrameSent_of_whole offset hrole hsends hwhole]
    simp [and_assoc]

end Sys2Proof.Machine

/-! PROOF. Requests under check (R117, R119, R339, R340): each check as the first failing of a list, what a lane notes of its findings, and what a request and
the verdicts on it are after a part of its checks. -/

namespace Sys2Proof.Machine

/-! ## The first check that fails -/

theorem firstFailing_nil : firstFailing [] = none := rfl

theorem firstFailing_cons (b : Bool) (p : Nat × Nat) (cs : List (Bool × Nat × Nat)) :
    firstFailing ((b, p) :: cs) = if b = true then some p else firstFailing cs := by
  cases b <;> rfl

/-- Checks 1 to 6 (Table 5-5, R340). -/
theorem State.headCheck_eq (s : State) (x : LaneId) (mb : Nat) (r : Request) :
    s.headCheck x mb r = firstFailing
      [(!permitted (s.lane x).ls.life (s.lane x).indep r.bytes, 100, 0x0501), (decide (s.cfg.lockout ≠ 0), 200, 0x0502),
       (decide (reqAuth r.bytes ≠ authenticator s.hashInForce r.bytes), 300, 0x0503),
       (s.cfg.pwInitial && s.newPassword.isNone && decide (2 ≤ (s.lane x).ls.life) && decide (reqFormat r.bytes ≠ 0x12) &&
          decide (reqFormat r.bytes ≠ 0x18), 350, 0x0E0F),
       (badRequest (s.lane x).image r.bytes, 400, 0x0504), (decide (reqDigest r.bytes ≠ padTo 64 (s.lane x).image.digest), 500, 0x0505),
       (s.busy mb r, 600, 0x050D)] := by
  simp only [State.headCheck, firstFailing_cons, firstFailing_nil, Bool.and_eq_true, decide_eq_true_eq, and_assoc]

/-- Checks 7 to 12 of a change item. -/
theorem changeCheck_eq {i : Item} (m : Image) (e : Engine) :
    changeCheck m e i = firstFailing
      [(i.kind == 2 && (e.forceOf i.index).isSome, 700, 0x0506), (i.kind == 2 && m.hasVar i.index && decide ((m.var i.index).cls ≠ .par), 800, 0x0507),
       (if i.kind = 2 then !m.hasVar i.index else decide (m.nConst ≤ i.index), 1000, 0x0508), (constTooLarge m (i.constant m) i.value, 1100, 0x0509),
       (timerTooLong m e (i.constant m) i.value, 1200, 0x050A)] := by
  simp only [changeCheck, firstFailing_cons, firstFailing_nil, Bool.and_eq_true, decide_eq_true_eq, beq_iff_eq, and_assoc]

/-- Checks 9 to 11 of an item that sets or releases one force. -/
theorem forceCheck_eq {i : Item} (m : Image) (h : i.kind = 3 ∨ i.kind = 4) :
    forceCheck m i = firstFailing
      [(m.hasVar i.index && !((decide ((m.var i.index).cls = .inp) || decide ((m.var i.index).cls = .out)) && (m.var i.index).forceable), 900, 0x0510),
       (!m.hasVar i.index, 1000, 0x0508), (i.kind == 3 && decide (limitOf (m.var i.index) < i.value), 1100, 0x0509)] := by
  have h5 : i.kind ≠ 5 := by omega
  simp only [forceCheck, if_neg h5, firstFailing_cons, firstFailing_nil, Bool.and_eq_true, Bool.or_eq_true, Bool.not_eq_true', decide_eq_true_eq,
    beq_iff_eq, ← Bool.not_eq_true]

/-- Releasing all forces has no check of its own. -/
theorem forceCheck_of_releaseAll {i : Item} (m : Image) (h : i.kind = 5) : forceCheck m i = none := if_pos h

theorem State.wholeCheck_eq (s : State) (x : LaneId) (b : List Byte) :
    s.wholeCheck x b = firstFailing
      [(decide (256 < ((s.lane x).pe.applyRequest (s.lane x).image b).forces.length), 1300, 0x0511),
       (hasChange b && decide (8192 < (s.cfg.mergeItems (s.lane x).image b).overlay.length), 1400, 0x0516)] := by
  simp only [State.wholeCheck, firstFailing_cons, firstFailing_nil, Bool.and_eq_true, decide_eq_true_eq]

theorem State.swapCheck_eq (s : State) : s.swapCheck = firstFailing [(s.sleeps, 605, 0x0515), (s.partnerHeard.isNone, 606, 0x0512)] := by
  simp only [State.swapCheck, firstFailing_cons, firstFailing_nil]

theorem settingCheck_eq (it : List Byte) :
    (if badSetting it then some (1100, 0x0509) else none) = firstFailing [(badSetting it, 1100, 0x0509)] := by
  rw [firstFailing_cons, firstFailing_nil]

/-! ## What the lanes note -/

theorem firstOf_none_right (a : Option (Nat × Nat)) : firstOf a none = a := by cases a <;> rfl

theorem firstOf_none_left (a : Option (Nat × Nat)) : firstOf none a = a := rfl

theorem State.checkLanes_nodup (s : State) : s.checkLanes.Nodup := by
  have h : LaneId.list.Nodup := by decide
  unfold State.checkLanes
  split <;> exact h.filter _

/-- The request with the findings of some lanes each changed by `f`. -/
def Request.found (r : Request) (xs : List LaneId) (f : LaneId → Option (Nat × Nat) → Option (Nat × Nat)) : Request :=
  { r with codes := xs.foldl (fun d x => d.set x (f x (d.get x))) r.codes }

theorem Request.found_cons (r : Request) (x : LaneId) (xs : List LaneId) (f : LaneId → Option (Nat × Nat) → Option (Nat × Nat)) :
    r.found (x :: xs) f = ({ r with codes := r.codes.set x (f x (r.codes.get x)) } : Request).found xs f := rfl

/-- Lanes that each note a finding, one after the other. -/
theorem Request.foldl_note (check : LaneId → List Byte → Option (Nat × Nat)) (xs : List LaneId) (r : Request) :
    xs.foldl (fun r x => r.note x (check x r.bytes)) r = r.found xs (fun x a => firstOf a (check x r.bytes)) := by
  induction xs generalizing r with
  | nil => rfl
  | cons x xs ih => rw [List.foldl_cons, ih, Request.found_cons]; rfl

theorem Request.note_note (r : Request) (x : LaneId) (a b : Option (Nat × Nat)) :
    (r.note x a).note x b = { r with codes := r.codes.set x (firstOf (firstOf (r.codes.get x) a) b) } := by
  cases x <;> rfl

/-- Lanes that each note two findings, one lane after the other. -/
theorem Request.foldl_note_note (check whole : LaneId → Option (Nat × Nat)) (xs : List LaneId) (r : Request) :
    xs.foldl (fun r x => (r.note x (check x)).note x (whole x)) r = r.found xs (fun x a => firstOf (firstOf a (check x)) (whole x)) := by
  induction xs generalizing r with
  | nil => rfl
  | cons x xs ih => rw [List.foldl_cons, ih, Request.found_cons, Request.note_note]

theorem Request.codes_found {xs : List LaneId} (hn : xs.Nodup) {x : LaneId} (hx : x ∈ xs) (r : Request)
    (f : LaneId → Option (Nat × Nat) → Option (Nat × Nat)) : (r.found xs f).codes.get x = f x (r.codes.get x) :=
  (PerLane.get_foldl_set f xs hn r.codes x).trans (if_pos hx)

/-! ## The request after a part of its checks (R119) -/

@[simp] theorem State.req_setReq (s : State) (mb : Nat) (r : Option Request) : (s.setReq mb r).req mb = r := Assoc.get_put_self ..

/-- From `s` to `t` nothing differs but the requests under check and what has been sent. -/
def State.checksOnly (s t : State) : Prop := t = { s with unit := { s.unit with reqs := t.unit.reqs }, sent := t.sent }

theorem State.foldl_emit {α : Type} (e : α → Emit) (as : List α) (s : State) :
    as.foldl (fun s a => s.emit (e a)) s = { s with sent := s.sent ++ as.map e } := by
  induction as generalizing s with
  | nil => simp
  | cons a as ih => rw [List.foldl_cons, ih]; simp [State.emit]

/-- The verdict of lane `x` on the request of a mailbox. -/
def State.verdictOf (s : State) (mb : Nat) (r : Request) (x : LaneId) : Emit :=
  .verdict x (.request (Fin.ofNat 4 mb) (BitVec.ofNat 16 (r.code x)) (s.verdictDigest x r))

/-- Two lanes that have read the request, or three, send their verdicts, and each holds its own. -/
theorem State.sendVerdicts_of_readers {s : State} {mb : Nat} {r : Request} (h : 2 ≤ (s.checkLanes.filter (fun x => r.readable.get x)).length) :
    ∃ got, s.sendVerdicts mb r = { s.setReq mb (some { r with sent := true, got := got }) with
      sent := s.sent ++ (s.checkLanes.filter (fun x => r.readable.get x)).map (s.verdictOf mb r) } := by
  exact ⟨_, (if_neg (Nat.not_lt.2 h)).trans (State.foldl_emit (s.verdictOf mb r) _ _)⟩

/-- A part of the checks done: the request stands as it was noted, and after the last part the verdicts have been sent. -/
theorem State.afterCheck_spec {s : State} {mb : Fin 4} {r : Request} (last : Bool) (h : 2 ≤ (s.checkLanes.filter (fun x => r.readable.get x)).length) :
    ∃ sent got, (s.afterCheck mb.val r last).req mb.val = some { r with sent := sent, got := got } ∧ s.checksOnly (s.afterCheck mb.val r last) ∧
      (last = true → sent = true ∧ ∀ x ∈ s.checkLanes, r.readable.get x = true →
        Emit.verdict x (.request mb (BitVec.ofNat 16 (r.code x)) (s.verdictDigest x r)) ∈ (s.afterCheck mb.val r last).sent) := by
  by_cases hsend : (last || (s.setReq mb.val (some r)).allFailed r) = true
  · obtain ⟨got, hgot⟩ := State.sendVerdicts_of_readers (s := s.setReq mb.val (some r)) (mb := mb.val) (r := r) h
    rw [State.afterCheck, if_pos hsend, hgot]
    refine ⟨true, got, State.req_setReq _ _ _, rfl, fun _ => ⟨rfl, fun x hx hr => ?_⟩⟩
    have hmb : Fin.ofNat 4 mb.val = mb := Fin.ofNat_val_eq_self mb
    have hmem := List.mem_map_of_mem (f := (s.setReq mb.val (some r)).verdictOf mb.val r) (List.mem_filter.2 ⟨hx, hr⟩)
    rw [State.verdictOf, hmb] at hmem
    exact List.mem_append_right _ hmem
  · rw [State.afterCheck, if_neg hsend]
    exact ⟨r.sent, r.got, State.req_setReq _ _ _, rfl, fun hl => absurd (by rw [hl]; rfl) hsend⟩

/-- The next item of a request, of the format and kind of its command. -/
theorem State.checkItem_of_next {s : State} {mb f k : Nat} {r : Request} (check : LaneId → List Byte → Option (Nat × Nat))
    (whole : LaneId → Option (Nat × Nat)) (hreq : s.req mb = some r) (hsent : r.sent = false) (hmore : r.done < reqCount r.bytes)
    (hf : reqFormat r.bytes = f) (hk : getByte (itemBytes r.bytes r.done) 0 = k) :
    s.checkItem mb f k check whole =
      s.afterCheck mb
        { r.found s.checkLanes (fun x a => firstOf (firstOf a (check x (itemBytes r.bytes r.done)))
            (if reqCount r.bytes = r.done + 1 then whole x else none)) with done := r.done + 1 }
        (decide (reqCount r.bytes = r.done + 1)) := by
  have hnot : ¬ (r.sent || decide (reqFormat r.bytes ≠ f) || decide (reqCount r.bytes ≤ r.done) ||
      decide (getByte (itemBytes r.bytes r.done) 0 ≠ k)) = true := by
    simp [hsent, hf, hk, hmore]
  unfold State.checkItem
  rw [hreq]
  exact (if_neg (by simpa using hnot)).trans (congrArg
    (fun q : Request => s.afterCheck mb { q with done := q.done + 1 } (decide (reqCount r.bytes = r.done + 1))) (Request.foldl_note_note _ _ _ _))

/-- A request of a format without kinds of items. -/
theorem State.checkWhole_of_open {s : State} {mb f : Nat} {r : Request} (check : LaneId → List Byte → Option (Nat × Nat))
    (hreq : s.req mb = some r) (hsent : r.sent = false) (hf : reqFormat r.bytes = f) :
    s.checkWhole mb f check = s.afterCheck mb (r.found s.checkLanes (fun x a => firstOf a (check x r.bytes))) true := by
  unfold State.checkWhole
  rw [hreq]
  exact (if_neg (by simp [hsent, hf])).trans (congrArg (fun q : Request => s.afterCheck mb q true) (Request.foldl_note check _ r))

/-! ## Item commands (R117, R119, R124, R246, R270, R281) -/

theorem State.wholeOf_of_req {s : State} {mb : Nat} {r : Request} (hreq : s.req mb = some r) (x : LaneId) :
    s.wholeOf mb x = s.wholeCheck x r.bytes := by
  rw [State.wholeOf, hreq]

/-- A command that checks the next item of its format and kind: what each lane has found, and what the verdicts say after the last item. -/
theorem exec_of_item {s : State} {mb : Fin 4} {r : Request} {c : Instr} {f k : Nat} {check : LaneId → List Byte → Option (Nat × Nat)}
    {whole : LaneId → Option (Nat × Nat)} (hexec : exec c s = .next (s.checkItem mb.val f k check whole)) (hreq : s.req mb.val = some r)
    (hsent : r.sent = false) (hmore : r.done < reqCount r.bytes) (hread : 2 ≤ (s.checkLanes.filter (fun x => r.readable.get x)).length)
    (hf : reqFormat r.bytes = f) (hk : getByte (itemBytes r.bytes r.done) 0 = k) :
    ∃ t r', exec c s = .next t ∧ t.req mb.val = some r' ∧ r'.done = r.done + 1 ∧ r'.bytes = r.bytes ∧ r'.settled = r.settled ∧
      (∀ x ∈ s.checkLanes, r'.codes.get x = firstOf (firstOf (r.codes.get x) (check x (itemBytes r.bytes r.done)))
        (if reqCount r.bytes = r.done + 1 then whole x else none)) ∧
      (reqCount r.bytes = r.done + 1 → r'.sent = true ∧ ∀ x ∈ s.checkLanes, r.readable.get x = true →
        Emit.verdict x (.request mb (BitVec.ofNat 16 (r'.code x)) (s.verdictDigest x r')) ∈ t.sent) ∧ s.checksOnly t := by
  rw [State.checkItem_of_next check whole hreq hsent hmore hf hk] at hexec
  set q : Request := { r.found s.checkLanes (fun x a => firstOf (firstOf a (check x (itemBytes r.bytes r.done)))
    (if reqCount r.bytes = r.done + 1 then whole x else none)) with done := r.done + 1 }
  obtain ⟨sent, got, hq, honly, hlast⟩ := State.afterCheck_spec (r := q) (decide (reqCount r.bytes = r.done + 1)) hread
  exact ⟨_, _, hexec, hq, rfl, rfl, rfl, fun x hx => Request.codes_found s.checkLanes_nodup hx r
    (fun x a => firstOf (firstOf a (check x (itemBytes r.bytes r.done))) (if reqCount r.bytes = r.done + 1 then whole x else none)), fun hl => hlast (decide_eq_true hl), honly⟩

/-- Settles O36: each check is the first failing of its list, and each item command checks its item in every lane that checks. -/
theorem requestItemsAreCheckedInTurn : Obligations.RequestItemsAreCheckedInTurn := by
  refine fun s => ⟨s.headCheck_eq, fun m e i _ => changeCheck_eq m e, fun m i h => forceCheck_eq m h, s.wholeCheck_eq,
    fun mb r hreq hsent hmore hread => ?_⟩
  intro never swap change force setting c f k check hmem hf hk
  have hwhole : ∀ x, s.wholeOf mb.val x = s.wholeCheck x r.bytes := State.wholeOf_of_req hreq
  obtain ⟨look, whole, hexec, hlook, hw⟩ : ∃ (look : LaneId → List Byte → Option (Nat × Nat)) (whole : LaneId → Option (Nat × Nat)),
      exec c s = .next (s.checkItem mb.val f k look whole) ∧
      (∀ x, look x (itemBytes r.bytes r.done) = check x (itemBytes r.bytes r.done)) ∧
      ∀ x, whole x = if f = 1 then s.wholeCheck x r.bytes else none := by
    simp only [List.mem_cons, List.not_mem_nil, or_false, Prod.mk.injEq] at hmem
    rcases hmem with ⟨rfl, rfl, rfl, rfl⟩ | ⟨rfl, rfl, rfl, rfl⟩ | ⟨rfl, rfl, rfl, rfl⟩ | ⟨rfl, rfl, rfl, rfl⟩ | ⟨rfl, rfl, rfl, rfl⟩ | ⟨rfl, rfl, rfl, rfl⟩ |
      ⟨rfl, rfl, rfl, rfl⟩ | ⟨rfl, rfl, rfl, rfl⟩ | ⟨rfl, rfl, rfl, rfl⟩ | ⟨rfl, rfl, rfl, rfl⟩ | ⟨rfl, rfl, rfl, rfl⟩ | ⟨rfl, rfl, rfl, rfl⟩ | ⟨rfl, rfl, rfl, rfl⟩
    · exact ⟨_, _, rfl, fun _ => rfl, hwhole⟩
    · exact ⟨_, _, rfl, fun _ => rfl, hwhole⟩
    · exact ⟨_, _, rfl, fun _ => rfl, hwhole⟩
    · exact ⟨_, _, rfl, fun _ => rfl, hwhole⟩
    · exact ⟨_, _, rfl, fun _ => forceCheck_of_releaseAll _ hk, hwhole⟩
    · exact ⟨_, _, rfl, fun _ => rfl, fun _ => rfl⟩
    · exact ⟨_, _, rfl, fun _ => s.swapCheck_eq, fun _ => rfl⟩
    all_goals exact ⟨_, _, rfl, fun _ => settingCheck_eq _, fun _ => rfl⟩
  obtain ⟨t, r', ht, hr', hdone, hbytes, hsettled, hcodes, hlast, honly⟩ := exec_of_item hexec hreq hsent hmore hread hf hk
  refine ⟨t, r', ht, hr', hdone, hbytes, hsettled, fun x hx => (hcodes x hx).trans ?_, hlast, ?_⟩
  · rw [hlook, hw, ite_and]
  · rw [honly]
    exact ⟨rfl, rfl, rfl, rfl, rfl⟩

end Sys2Proof.Machine

/-! PROOF. Requests checked whole (R119, R339 to R341, R345, R348, R350, R354 to R356, R371, Table 14-4): their own checks, and the package that each lane
writes and checks. -/

namespace Sys2Proof

theorem PerLane.set_get {α : Type} (p : PerLane α) (x : LaneId) : p.set x (p.get x) = p := by cases x <;> rfl

end Sys2Proof

namespace Sys2Proof.Machine

/-! ## The checks of Table 14-4 -/

theorem State.noSession_eq (s : State) : s.noSession = firstFailing [(s.upd.holder.isNone, 621, 0x0E0C)] := by
  rw [firstFailing_cons, firstFailing_nil, State.noSession]

theorem State.transitionCheck_eq (s : State) (x : LaneId) (b : List Byte) :
    let l := s.lane x
    let t := slice b 128 3357
    let old := getByte t 2
    let new := getByte t 3
    let force := !l.pe.forces.isEmpty
    let signers := (transitionSigners old new).getD (false, false)
    s.transitionCheck x b = firstFailing
      [((transitionSigners old new).isNone || decide (old ≠ l.ls.life), 610, 0x0E01), (s.cfg.gradeL && (new == 2 || new == 3), 611, 0x0E02),
       (badToken s.cfg l.rc.opts.serial t, 612, 0x0E03), (!((signers.1 && getByte t 4 == 1) || (signers.2 && getByte t 4 == 2)), 613, 0x0E04),
       (!tokenSigned s.cfg t, 614, 0x0E05), ((old == 2 || old == 4) && force, 615, 0x0E06),
       ((new == 3 && !(l.ls.running && l.rc.opts.voting)) || (new == 5 && force) || (old == 1 && new == 4 && !s.cfg.gradeL), 616, 0x0E07)] := by
  intro l t old new force signers
  cases hs : transitionSigners old new with
  | none =>
    have hcheck : s.transitionCheck x b = some (610, 0x0E01) := by
      rw [State.transitionCheck, hs]
    rw [hcheck, firstFailing_cons, if_pos (by rfl)]
  | some p =>
    have hsigners : signers = p := by rw [show signers = (transitionSigners old new).getD (false, false) from rfl, hs]; rfl
    rw [State.transitionCheck, hs, hsigners]
    simp only [force, firstFailing_cons, firstFailing_nil, gradeForbids, Option.isNone_some, Bool.false_or, Bool.or_eq_true, Bool.and_eq_true,
      decide_eq_true_eq, beq_iff_eq, Bool.not_eq_true', ← Bool.not_eq_true, and_assoc, or_assoc]
    rfl

theorem State.enrolCheck_eq (s : State) (x : LaneId) (b : List Byte) :
    let e := slice b 128 5301
    s.enrolCheck x b = firstFailing
      [(getBE e 0 2 != 0x11 || getBE e 2 2 != 0 || getBE e 28 4 != 0 || slice e 4 16 != padTo 16 (s.lane x).rc.opts.serial ||
          decide (getBE e 24 4 ≤ s.cfg.enrolNo) || slice e 1984 8 != kelinagonPrint, 617, 0x0E08),
       (!kelinagonSigned (shake256 64 (e.take 1992)) (slice e 1992 3309), 618, 0x0E09)] := by
  simp only [State.enrolCheck, firstFailing_cons, firstFailing_nil, Bool.or_eq_true, decide_eq_true_eq, bne_iff_ne, or_assoc]

/-- What a lane holds as an image stands in its idle slot. -/
theorem State.otherSlot_image_of_heldKind {s : State} {x : LaneId} {d : List Byte} (h : s.heldKind x d = some 1) :
    ∃ m, (s.lane x).otherSlot.image = some m := by
  cases hm : (s.lane x).otherSlot.image with
  | some m => exact ⟨m, rfl⟩
  | none =>
    simp only [State.heldKind, hm, Bool.and_false, Bool.false_eq_true, if_false] at h
    split_ifs at h <;> simp at h

theorem State.activateCheck_eq (s : State) (x : LaneId) (b : List Byte) :
    let held := s.heldKind x (slice b 128 64)
    s.activateCheck x b = firstFailing
      [(decide (held = some 1) && (s.lane x).ls.life == 1, 100, 0x0501), (s.upd.holder.isNone, 621, 0x0E0C), (held.isNone, 622, 0x0E0D),
       (decide (held = some 1) && (match (s.lane x).otherSlot.image with
          | some m => decide (m.transfer.issue ≠ 0) && !transferFits m (s.lane x).image
          | none => false), 625, 0x021C)] := by
  intro held
  simp only [firstFailing_cons, firstFailing_nil, Bool.and_eq_true, decide_eq_true_eq, beq_iff_eq]
  unfold State.activateCheck
  by_cases hfactory : held = some 1 ∧ (s.lane x).ls.life = 1
  · exact (if_pos hfactory).trans (if_pos hfactory).symm
  refine (if_neg hfactory).trans (Eq.trans ?_ (if_neg hfactory).symm)
  unfold State.noSession
  by_cases hnobody : s.upd.holder.isNone = true
  · rw [if_pos hnobody, if_pos hnobody]
  rw [if_neg hnobody, if_neg hnobody]
  cases hheld : s.heldKind x (slice b 128 64) with
  | none => simp [held, hheld]
  | some k =>
    by_cases hk : k = 1
    · subst hk
      obtain ⟨m, hm⟩ := State.otherSlot_image_of_heldKind hheld
      by_cases hfits : m.transfer.issue = 0 ∨ transferFits m (s.lane x).image = true
      · rcases hfits with h | h <;> simp [held, hheld, hm, h]
      · obtain ⟨hissue, hfit⟩ := not_or.1 hfits
        simp [held, hheld, hm, hissue, hfit]
    · simp [held, hheld, hk]

theorem State.releaseCheck_eq (s : State) (it : List Byte) :
    s.releaseCheck it = firstFailing [((s.warden.dump (getByte it 0)).state != 2 || !(s.warden.dump (getByte it 0)).headerOk, 626, 0x0F01)] := by
  rw [firstFailing_cons, firstFailing_nil, State.releaseCheck]
  by_cases h : (s.warden.dump (getByte it 0)).state = 2 ∧ (s.warden.dump (getByte it 0)).headerOk = true
  · rw [if_pos h, if_neg (by simp [h])]
  · rw [if_neg h, if_pos (by simpa [imp_iff_not_or] using h)]

theorem State.stageFirst_eq (s : State) (x : LaneId) (addr len : Nat) (f : List Byte) :
    s.stageFirst x addr len f = firstFailing
      [(decide (addr < 0x0C000000) || decide (0x0E000000 < addr + len) || len == 0, 400, 0x0504), ((s.lane x).ls.life == 1 && !isFirmware f, 100, 0x0501),
       (s.upd.holder.isNone && isFirmware f && badPackage f, 619, 0x0E0A),
       (s.upd.holder.isNone && isFirmware f &&
          decide (getByte f 12 < (if getByte f 4 = 2 then s.ph.fw.otp else (s.lane x).ls.fw.otp)), 619, 0x0E0B),
       (s.upd.holder.isNone, 621, 0x0E0C)] := by
  have hcode : s.firmwareCode x f = if badPackage f then 0x0E0A else
      if getByte f 12 < (if getByte f 4 = 2 then s.ph.fw.otp else (s.lane x).ls.fw.otp) then 0x0E0B else 0 := by
    unfold State.firmwareCode State.pumphouseCode
    by_cases h2 : getByte f 4 = 2
    · simp only [if_pos h2]
    · simp only [if_neg h2]
  simp only [State.stageFirst, hcode, State.noSession, firstFailing_cons, firstFailing_nil, Bool.or_eq_true, Bool.and_eq_true, decide_eq_true_eq,
    beq_iff_eq, or_assoc, and_assoc]
  refine if_congr Iff.rfl rfl (if_congr Iff.rfl rfl ?_)
  by_cases hfirm : s.upd.holder.isNone = true ∧ isFirmware f = true
  · by_cases hbad : badPackage f = true
    · simp [hfirm, hbad]
    · by_cases hstep : getByte f 12 < (if getByte f 4 = 2 then s.ph.fw.otp else (s.lane x).ls.fw.otp) <;> simp [hfirm, hbad, hstep]
  · have hskip : ∀ p : Prop, ¬ (s.upd.holder.isNone = true ∧ isFirmware f = true ∧ p) := fun p h => hfirm ⟨h.1, h.2.1⟩
    simp only [hskip, if_false]

/-! ## Verdicts at once -/

/-- Every lane that checks has given its verdict on the request of a mailbox with the code it has found; basin, mailboxes and configuration stay. -/
def State.judgedAtOnce (s : State) (mb : Fin 4) (r : Request) (c : Instr) (code : LaneId → Option (Nat × Nat)) : Prop :=
  ∃ t r', exec c s = .next t ∧ t.req mb.val = some r' ∧ r'.sent = true ∧ r'.bytes = r.bytes ∧ t.basin = s.basin ∧ t.mail = s.mail ∧ t.cfg = s.cfg ∧
    (∀ x ∈ s.checkLanes, r.readable.get x = true → r'.codes.get x = code x ∧
      Emit.verdict x (.request mb (BitVec.ofNat 16 (r'.code x)) (t.verdictDigest x r')) ∈ t.sent)

section
variable {s : State} {mb : Fin 4} {r : Request} {c : Instr}

/-- The last part of the checks, on a state whose lanes check as before. -/
theorem State.judgedAtOnce_of_last {u : State} {q : Request} {code : LaneId → Option (Nat × Nat)} (hexec : exec c s = .next (u.afterCheck mb.val q true))
    (hlanes : u.checkLanes = s.checkLanes) (hbasin : u.basin = s.basin) (hmail : u.mail = s.mail) (hcfg : u.cfg = s.cfg) (hbytes : q.bytes = r.bytes)
    (hreadable : q.readable = r.readable) (hread : 2 ≤ (s.checkLanes.filter (fun x => r.readable.get x)).length)
    (hcode : ∀ x ∈ s.checkLanes, r.readable.get x = true → q.codes.get x = code x) : s.judgedAtOnce mb r c code := by
  rw [← hlanes, ← hreadable] at hread
  obtain ⟨sent, got, hq, honly, hlast⟩ := State.afterCheck_spec true hread
  obtain ⟨hsent, hverdicts⟩ := hlast rfl
  rw [← hlanes, ← hreadable] at hcode
  set t := u.afterCheck mb.val q true
  refine ⟨t, _, hexec, hq, hsent, hbytes, (congrArg State.basin honly).trans hbasin, (congrArg State.mail honly).trans hmail,
    (congrArg State.cfg honly).trans hcfg, fun x hx hr => ?_⟩
  rw [← hlanes] at hx
  rw [← hreadable] at hr
  refine ⟨hcode x hx hr, ?_⟩
  have hdigest : t.verdictDigest x { q with sent := sent, got := got } = u.verdictDigest x q := by
    rw [honly]; rfl
  rw [hdigest]
  exact hverdicts x hx hr

/-- A command that checks a whole request of its format. -/
theorem State.judgedAtOnce_of_whole {f : Nat} {check : LaneId → List Byte → Option (Nat × Nat)} (hexec : exec c s = .next (s.checkWhole mb.val f check))
    (hreq : s.req mb.val = some r) (hsent : r.sent = false) (hf : reqFormat r.bytes = f)
    (hread : 2 ≤ (s.checkLanes.filter (fun x => r.readable.get x)).length) :
    s.judgedAtOnce mb r c (fun x => firstOf (r.codes.get x) (check x r.bytes)) := by
  rw [State.checkWhole_of_open check hreq hsent hf] at hexec
  exact State.judgedAtOnce_of_last hexec rfl rfl rfl rfl rfl rfl hread
    (fun x hx _ => Request.codes_found s.checkLanes_nodup hx r (fun x a => firstOf a (check x r.bytes)))

/-- A command that checks the only item of a request. -/
theorem State.judgedAtOnce_of_item {f k : Nat} {check : LaneId → List Byte → Option (Nat × Nat)}
    (hexec : exec c s = .next (s.checkItem mb.val f k check (fun _ => none))) (hreq : s.req mb.val = some r) (hsent : r.sent = false)
    (hone : reqCount r.bytes = 1) (hdone : r.done = 0) (hf : reqFormat r.bytes = f) (hk : getByte (itemBytes r.bytes 0) 0 = k)
    (hread : 2 ≤ (s.checkLanes.filter (fun x => r.readable.get x)).length) :
    s.judgedAtOnce mb r c (fun x => firstOf (r.codes.get x) (check x (itemBytes r.bytes 0))) := by
  rw [State.checkItem_of_next check _ hreq hsent (by omega) hf (by rw [hdone]; exact hk), hdone, decide_eq_true (by omega)] at hexec
  refine State.judgedAtOnce_of_last hexec rfl rfl rfl rfl rfl rfl hread (fun x hx _ => ?_)
  refine (Request.codes_found s.checkLanes_nodup hx r
    (fun x a => firstOf (firstOf a (check x (itemBytes r.bytes 0))) (if reqCount r.bytes = 0 + 1 then none else none))).trans ?_
  rw [ite_self, firstOf_none_right]

/-- A command that asks nothing more of the only item of a request than what the doorbell has. -/
theorem State.judgedAtOnce_of_itemUnchecked {f k : Nat} (hexec : exec c s = .next (s.checkItem mb.val f k (fun _ _ => none) (fun _ => none)))
    (hreq : s.req mb.val = some r) (hsent : r.sent = false) (hone : reqCount r.bytes = 1) (hdone : r.done = 0) (hf : reqFormat r.bytes = f)
    (hk : getByte (itemBytes r.bytes 0) 0 = k) (hread : 2 ≤ (s.checkLanes.filter (fun x => r.readable.get x)).length) :
    s.judgedAtOnce mb r c (fun x => r.codes.get x) := by
  have hjudged := State.judgedAtOnce_of_item hexec hreq hsent hone hdone hf hk hread
  simp only [firstOf_none_right] at hjudged
  exact hjudged

/-- A software reset of the value its item names (R339). -/
theorem State.resetItem_of_value {value : Nat} (hreq : s.req mb.val = some r) (hvalue : getBE (itemBytes r.bytes 0) 4 4 = value) :
    s.resetItem mb.val value = s.checkItem mb.val 0x13 0x30 (fun _ _ => none) (fun _ => none) := by
  rw [State.resetItem, hreq]
  exact if_pos hvalue

end

/-! ## A package written and checked (R351, R352, R355) -/

theorem firstRefusal_mem {cs : List (Nat × Option Nat)} {p : Nat × Nat} (h : firstRefusal cs = some p) : p.1 ∈ cs.map (·.1) := by
  induction cs with
  | nil => cases h
  | cons c cs ih =>
    obtain ⟨code, _ | i⟩ := c
    · exact List.mem_cons_of_mem _ (ih h)
    · cases h
      exact List.mem_cons_self

/-- A refusal of Table 2-12 has a code other than 0. -/
theorem loadImage_error_ne_zero {e : LoadEnv} {f : List Byte} {code idx : Nat} (h : loadImage e f = .error (code, idx)) : code ≠ 0 := by
  unfold loadImage at h
  cases hfirst : firstRefusal (loadChecks e (Parsed.of (RawImage.ofBytes f))) with
  | none => simp [hfirst] at h
  | some p =>
    have hmem := firstRefusal_mem hfirst
    simp only [hfirst, Except.error.injEq] at h
    subst h
    rintro rfl
    revert hmem
    simp [loadChecks]

/-- A lane has written a package to an idle slot: nothing else in it has changed but its records, and what a package is checked against stands. -/
def Lane.stagesOnly (l l' : Lane) : Prop :=
  l' = { l with ls := l'.ls, mb := l'.mb } ∧ l'.ls.floor = l.ls.floor ∧ l'.ls.fw.otp = l.ls.fw.otp

/-- Some lanes have written a package. -/
def State.stagesOnly (s u : State) : Prop := s.onlyLanes u ∧ ∀ x, (s.lane x).stagesOnly (u.lane x)

/-- The code of a package of a kind in lane `x`. -/
def State.stageCode (s : State) (x : LaneId) (kind : Nat) (f : List Byte) : Nat :=
  match kind with
  | 1 => match loadImage (s.loadEnv x) f with
    | .ok _ => 0
    | .error (code, _) => code
  | 2 => if badPackage f then 0x0E0A else if getByte f 12 < (s.lane x).ls.fw.otp then 0x0E0B else 0
  | _ => s.pumphouseCode f

theorem State.stageCode_image (s : State) (x : LaneId) (f : List Byte) : s.stageCode x 1 f = (match loadImage (s.loadEnv x) f with
    | .ok _ => 0
    | .error (code, _) => code) := rfl

theorem Firmware.otp_setIdle (f : Firmware) (v : FwSlot) : (f.setIdle v).otp = f.otp := by
  unfold Firmware.setIdle; split <;> rfl

theorem Lane.stagesOnly_refl (l : Lane) : l.stagesOnly l := ⟨rfl, rfl, rfl⟩

theorem Lane.stagesOnly.trans {l m n : Lane} (h : l.stagesOnly m) (k : m.stagesOnly n) : l.stagesOnly n := by
  obtain ⟨he, hfloor, hotp⟩ := h
  obtain ⟨ke, kfloor, kotp⟩ := k
  exact ⟨by rw [ke, he], kfloor.trans hfloor, kotp.trans hotp⟩

theorem Lane.stagesOnly_setOther (l : Lane) (v : ImageSlot) : l.stagesOnly (l.setOther v) := by
  refine ⟨rfl, ?_, ?_⟩ <;> (unfold Lane.setOther; split <;> rfl)

theorem Lane.stagesOnly_stageImage (l : Lane) (x : LaneId) (e : LoadEnv) (f : List Byte) : l.stagesOnly (l.stageImage x e f).1 := by
  unfold Lane.stageImage
  cases loadImage e f with
  | ok m => exact l.stagesOnly_setOther _
  | error p => exact (l.stagesOnly_setOther _).trans ⟨rfl, rfl, rfl⟩

theorem Lane.stageImage_code (l : Lane) (x : LaneId) (e : LoadEnv) (f : List Byte) : (l.stageImage x e f).2 = (match loadImage e f with
    | .ok _ => 0
    | .error (code, _) => code) := by
  unfold Lane.stageImage
  cases loadImage e f <;> rfl

theorem Lane.stagesOnly_stageFirmware (l : Lane) (f : List Byte) : l.stagesOnly (l.stageFirmware f).1 :=
  ⟨rfl, rfl, Firmware.otp_setIdle _ _⟩

theorem State.stagesOnly_refl (s : State) : s.stagesOnly s := ⟨rfl, fun x => (s.lane x).stagesOnly_refl⟩

section
variable {s u v : State} {x : LaneId} {kind : Nat} {f : List Byte}

theorem State.stagesOnly.trans (h : s.stagesOnly u) (k : u.stagesOnly v) : s.stagesOnly v := by
  obtain ⟨hu, hlanes⟩ := h
  obtain ⟨ku, klanes⟩ := k
  refine ⟨?_, fun x => (hlanes x).trans (klanes x)⟩
  unfold State.onlyLanes at hu ku ⊢
  rw [ku, hu]

theorem State.stagesOnly_modLane {f : Lane → Lane} (h : (s.lane x).stagesOnly (f (s.lane x))) : s.stagesOnly (s.modLane x f) := by
  refine ⟨rfl, fun y => ?_⟩
  by_cases hy : y = x
  · subst hy; rw [s.lane_modLane_self]; exact h
  · rw [s.lane_modLane_ne _ hy]; exact (s.lane y).stagesOnly_refl

theorem State.stagesOnly.checkLanes (h : s.stagesOnly u) : u.checkLanes = s.checkLanes := by
  have hvt : ∀ x, (u.lane x).vt = (s.lane x).vt := fun x => (congrArg Lane.vt (h.2 x).1 :)
  have hrc : ∀ x, (u.lane x).rc = (s.lane x).rc := fun x => (congrArg Lane.rc (h.2 x).1 :)
  simp only [State.checkLanes, State.serviceLanes, Lane.inService, hvt, hrc]
  rfl

theorem State.stagesOnly.stageCode (h : s.stagesOnly u) (x : LaneId) (kind : Nat) (f : List Byte) : u.stageCode x kind f = s.stageCode x kind f := by
  obtain ⟨hu, hlanes⟩ := h
  obtain ⟨-, hfloor, hotp⟩ := hlanes x
  have hcfg : u.cfg = s.cfg := (congrArg State.cfg hu :)
  have hph : u.ph = s.ph := (congrArg State.ph hu :)
  have henv : u.loadEnv x = s.loadEnv x := by rw [State.loadEnv, State.loadEnv, hcfg, hfloor]
  have hpump : u.pumphouseCode f = s.pumphouseCode f := by rw [State.pumphouseCode, State.pumphouseCode, hph]
  unfold State.stageCode
  rw [henv, hotp, hpump]

/-- The finding that a package's code is. -/
def State.staged (s : State) (kind : Nat) (f : List Byte) (x : LaneId) (a : Option (Nat × Nat)) : Option (Nat × Nat) :=
  if s.stageCode x kind f = 0 then a else firstOf a (some (619, s.stageCode x kind f))

/-- What a lane that is handed a package becomes, and the code it finds. -/
def State.stageResult (s : State) (x : LaneId) (kind : Nat) (f : List Byte) : Lane × Nat :=
  match kind with
  | 1 => (s.lane x).stageImage x (s.loadEnv x) f
  | 2 => (s.lane x).stageFirmware f
  | _ => (s.lane x, s.pumphouseCode f)

theorem State.stageLane_eq (s : State) (r : Request) (x : LaneId) (kind : Nat) (f : List Byte) :
    s.stageLane r x kind f =
      (s.modLane x (fun _ => (s.stageResult x kind f).1),
        if (s.stageResult x kind f).2 = 0 then r else r.note x (some (619, (s.stageResult x kind f).2))) := rfl

theorem State.stageResult_spec (s : State) (x : LaneId) (kind : Nat) (f : List Byte) :
    (s.lane x).stagesOnly (s.stageResult x kind f).1 ∧ (s.stageResult x kind f).2 = s.stageCode x kind f := by
  match kind with
  | 1 => exact ⟨Lane.stagesOnly_stageImage _ _ _ _, Lane.stageImage_code _ _ _ _⟩
  | 2 => exact ⟨Lane.stagesOnly_stageFirmware _ _, rfl⟩
  | 0 | _ + 3 => exact ⟨Lane.stagesOnly_refl _, rfl⟩

/-- A lane that is handed a package writes it and notes its code where there is one. -/
theorem State.stageLane_spec (s : State) (r : Request) (x : LaneId) (kind : Nat) (f : List Byte) :
    s.stagesOnly (s.stageLane r x kind f).1 ∧
      (s.stageLane r x kind f).2 = { r with codes := r.codes.set x (s.staged kind f x (r.codes.get x)) } := by
  obtain ⟨hlane, hcode⟩ := s.stageResult_spec x kind f
  rw [State.stageLane_eq, hcode]
  refine ⟨State.stagesOnly_modLane hlane, ?_⟩
  unfold State.staged
  split
  · rw [PerLane.set_get]
  · rfl

theorem State.foldl_stageLane (kind : Nat) (xs : List LaneId) (r : Request) (s : State) :
    s.stagesOnly (xs.foldl (fun (p : State × Request) x => p.1.stageLane p.2 x kind p.1.upd.staging) (s, r)).1 ∧
      (xs.foldl (fun (p : State × Request) x => p.1.stageLane p.2 x kind p.1.upd.staging) (s, r)).2 = r.found xs (s.staged kind s.upd.staging) := by
  induction xs generalizing s r with
  | nil => exact ⟨s.stagesOnly_refl, rfl⟩
  | cons x xs ih =>
    obtain ⟨hx, hnote⟩ := s.stageLane_spec r x kind s.upd.staging
    obtain ⟨hxs, hfound⟩ := ih (s.stageLane r x kind s.upd.staging).2 (s.stageLane r x kind s.upd.staging).1
    have hupd : (s.stageLane r x kind s.upd.staging).1.upd = s.upd := (congrArg State.upd hx.1 :)
    refine ⟨hx.trans hxs, hfound.trans ?_⟩
    have hsame : (s.stageLane r x kind s.upd.staging).1.staged kind s.upd.staging = s.staged kind s.upd.staging := by
      funext y a
      rw [State.staged, State.staged, hx.stageCode]
    rw [hupd, hsame, hnote, Request.found_cons]

theorem State.silent_stageLanes (r : Request) (kind : Nat) (xs : List LaneId) (s : State) :
    s.stagesOnly (xs.foldl (fun s x => (s.stageLane r x kind s.upd.staging).1) s) :=
  foldl_rel State.stagesOnly_refl State.stagesOnly.trans (fun s x => (s.stageLane_spec r x kind s.upd.staging).1) xs s

end

/-- The finding of a package's check in a lane: of firmware its code, of an image that of Table 2-12. -/
theorem State.staged_packageKind (s : State) (x : LaneId) (f : List Byte) :
    s.staged (packageKind f) f x none =
      if isFirmware f then (if s.firmwareCode x f = 0 then none else some (619, s.firmwareCode x f))
      else match loadImage (s.loadEnv x) f with
        | .ok _ => none
        | .error (code, _) => some (619, code) := by
  by_cases hfirm : isFirmware f = true
  · have hcode : s.stageCode x (packageKind f) f = s.firmwareCode x f := by
      unfold packageKind State.firmwareCode
      by_cases htarget : getByte f 4 = 2
      · simp only [hfirm, htarget, Bool.not_true, Bool.false_eq_true, if_false, if_true]; rfl
      · simp only [hfirm, htarget, Bool.not_true, Bool.false_eq_true, if_false]; rfl
    rw [if_pos hfirm, State.staged, hcode, firstOf_none_left]
  · have hkind : packageKind f = 1 := if_pos (by simpa using hfirm)
    rw [if_neg hfirm, State.staged, hkind]
    rw [State.stageCode_image]
    cases himage : loadImage (s.loadEnv x) f with
    | ok m => exact if_pos rfl
    | error p => exact if_neg (loadImage_error_ne_zero himage)

/-- The pumphouse may read a package that lies in region 6. -/
theorem basinMay_package {addr len : Nat} (h : 0x0C000000 ≤ addr ∧ addr + len ≤ 0x0E000000) : basinMay false corePh addr = true := by
  obtain ⟨hlow, hhigh⟩ := h
  have hregion : basinRegion addr = some 6 ∨ basinRegion addr = some 7 := by
    have h0 : ¬ addr < 33554432 := by omega
    have h1 : ¬ addr < 134217728 := by omega
    have h2 : ¬ addr < 159383552 := by omega
    have h3 : ¬ addr < 167772160 := by omega
    have h4 : ¬ addr < 192937984 := by omega
    have h5 : ¬ addr < 201326592 := by omega
    by_cases h6 : addr < 234881024
    · left
      simp [basinRegion, basinRegions, List.findIdx?_cons, h0, h1, h2, h3, h4, h5, h6]
    · right
      have h7 : addr = 234881024 := by omega
      subst h7
      decide
  rcases hregion with h | h <;> simp [basinMay, h, basinRegions, corePh]

/-- The package that a stage request names, as the pumphouse reads it. -/
def State.packageAt (s : State) (addr len : Nat) : List Byte :=
  if 0x0C000000 ≤ addr ∧ addr + len ≤ 0x0E000000 then Memory.readN s.basin addr len else []

theorem State.readPackage (s : State) (addr len : Nat) :
    (if (decide (0x0C000000 ≤ addr) && decide (addr + len ≤ 0x0E000000)) = true then s.basinRead corePh addr len else (s, [])) =
      (s, s.packageAt addr len) := by
  by_cases h : 0x0C000000 ≤ addr ∧ addr + len ≤ 0x0E000000
  · rw [if_pos (by simpa using h), State.packageAt, if_pos h, State.basinRead, if_pos (basinMay_package h)]
  · rw [if_neg (by simpa using h), State.packageAt, if_neg h]

/-- The request with what each lane has found before the package is written anywhere. -/
def State.stageFound (s : State) (r : Request) (addr len : Nat) (f : List Byte) : Request :=
  s.checkLanes.foldl (fun r x => r.note x (s.stageFirst x addr len f)) r

/-- The lanes that check and have found nothing before. -/
def State.stageReady (s : State) (q : Request) : List LaneId := s.checkLanes.filter (fun x => q.readable.get x && (q.codes.get x).isNone)

/-- The state in which a package has been put into the flash staging area. -/
def State.stagingBegun (s : State) (f : List Byte) : State :=
  { s with upd := { s.upd with kind := packageKind f, stage := 2, staged := [], staging := f } }

/-- The package handed to the lanes whose verdict does not count. -/
def State.stageOthers (s : State) (q : Request) (kind : Nat) : State :=
  ((s.stageLanes q).filter (fun x => !(s.checkLanes.contains x))).foldl (fun s x => (s.stageLane q x kind s.upd.staging).1) s

/-- The package handed to the lanes that check and are ready for it. -/
def State.stageAll (s : State) (q : Request) (kind : Nat) (ready : List LaneId) : State × Request :=
  ready.foldl (fun (p : State × Request) x => p.1.stageLane p.2 x kind p.1.upd.staging) (s.stageOthers q kind, q)

/-- Pumphouse firmware in the pumphouse's own idle slot. -/
def State.stageFlash (s : State) (kind : Nat) : State :=
  if kind = 3 then
    { s with ph := { s.ph with fw := s.ph.fw.setIdle (if s.pumphouseCode s.upd.staging = 0 then packageSlot s.upd.staging else FwSlot.reset) } }
  else s

theorem exec_stagePackage_of_open {s : State} {mb : Fin 4} {r : Request} (hreq : s.req mb.val = some r) (hsent : r.sent = false)
    (hf : reqFormat r.bytes = 0x15) :
    let addr := getBE (itemBytes r.bytes 0) 0 4
    let len := getBE (itemBytes r.bytes 0) 4 4
    let f := s.packageAt addr len
    let q := s.stageFound r addr len f
    exec (.stagePackage mb) s =
      if (s.stageReady q).isEmpty then .next (s.afterCheck mb.val q true)
      else
        let p := (s.stagingBegun f).stageAll q (packageKind f) (s.stageReady q)
        .next ((p.1.stageFlash (packageKind f)).afterCheck mb.val p.2 true) := by
  intro addr len f q
  have hopen : ¬ (r.sent || decide (reqFormat r.bytes ≠ 0x15)) = true := by simp [hsent, hf]
  change execStagePackage mb s = _
  unfold execStagePackage
  rw [hreq]
  dsimp only
  rw [if_neg hopen, s.readPackage]
  rfl

theorem State.stageFlash_only (s : State) (kind : Nat) : s.stageFlash kind = { s with ph := (s.stageFlash kind).ph } := by
  unfold State.stageFlash; split <;> rfl

theorem State.stageFound_eq (s : State) (r : Request) (addr len : Nat) (f : List Byte) :
    s.stageFound r addr len f = r.found s.checkLanes (fun x a => firstOf a (s.stageFirst x addr len f)) :=
  Request.foldl_note (fun x _ => s.stageFirst x addr len f) s.checkLanes r

theorem State.stageAll_spec (s : State) (q : Request) (kind : Nat) (ready : List LaneId) :
    s.stagesOnly (s.stageAll q kind ready).1 ∧ (s.stageAll q kind ready).2 = q.found ready (s.staged kind s.upd.staging) := by
  have hothers : s.stagesOnly (s.stageOthers q kind) := State.silent_stageLanes q kind _ s
  obtain ⟨hstages, hfound⟩ := (s.stageOthers q kind).foldl_stageLane kind ready q
  have hupd : (s.stageOthers q kind).upd = s.upd := (congrArg State.upd hothers.1 :)
  refine ⟨hothers.trans hstages, hfound.trans ?_⟩
  congr 1
  funext x a
  rw [State.staged, State.staged, hothers.stageCode, hupd]

/-- A stage request: each lane that has found nothing before checks the package on what it has written. -/
theorem State.judgedAtOnce_stagePackage {s : State} {mb : Fin 4} {r : Request} (hreq : s.req mb.val = some r) (hsent : r.sent = false)
    (hf : reqFormat r.bytes = 0x15) (hread : 2 ≤ (s.checkLanes.filter (fun x => r.readable.get x)).length) :
    let addr := getBE (itemBytes r.bytes 0) 0 4
    let len := getBE (itemBytes r.bytes 0) 4 4
    let f := s.packageAt addr len
    s.judgedAtOnce mb r (.stagePackage mb) (fun x => match firstOf (r.codes.get x) (s.stageFirst x addr len f) with
      | some p => some p
      | none =>
        if isFirmware f then (if s.firmwareCode x f = 0 then none else some (619, s.firmwareCode x f))
        else match loadImage (s.loadEnv x) f with
          | .ok _ => none
          | .error (code, _) => some (619, code)) := by
  intro addr len f
  have hexec := exec_stagePackage_of_open hreq hsent hf
  set q := s.stageFound r addr len f
  have hq : q = r.found s.checkLanes (fun x a => firstOf a (s.stageFirst x addr len f)) := s.stageFound_eq r addr len f
  have hbytes : q.bytes = r.bytes := by rw [hq]; rfl
  have hreadable : q.readable = r.readable := by rw [hq]; rfl
  have hcodes : ∀ x ∈ s.checkLanes, q.codes.get x = firstOf (r.codes.get x) (s.stageFirst x addr len f) := fun x hx => by
    rw [hq]
    exact Request.codes_found s.checkLanes_nodup hx r (fun x a => firstOf a (s.stageFirst x addr len f))
  have hready : ∀ x ∈ s.checkLanes, r.readable.get x = true → (x ∈ s.stageReady q ↔ q.codes.get x = none) := fun x hx hr => by
    have hr' : q.readable.get x = true := by rw [hreadable]; exact hr
    simp [State.stageReady, hx, hr']
  by_cases hnone : (s.stageReady q).isEmpty = true
  · refine State.judgedAtOnce_of_last (hexec.trans (if_pos hnone)) rfl rfl rfl rfl hbytes hreadable hread fun x hx hr => ?_
    rw [← hcodes x hx]
    cases hx' : q.codes.get x with
    | some p => rfl
    | none => exact absurd ((hready x hx hr).2 hx') (by rw [List.isEmpty_iff.1 hnone]; exact List.not_mem_nil)
  · obtain ⟨⟨hstaged, hlanes⟩, hfound⟩ := (s.stagingBegun f).stageAll_spec q (packageKind f) (s.stageReady q)
    set p := (s.stagingBegun f).stageAll q (packageKind f) (s.stageReady q)
    have hcheck : p.1.checkLanes = s.checkLanes := State.stagesOnly.checkLanes (s := s.stagingBegun f) ⟨hstaged, hlanes⟩
    have hflash := p.1.stageFlash_only (packageKind f)
    refine State.judgedAtOnce_of_last (hexec.trans (if_neg hnone)) ?_ ?_ ?_ ?_ ((congrArg Request.bytes hfound).trans hbytes)
      ((congrArg Request.readable hfound).trans hreadable) hread fun x hx hr => ?_
    · rw [hflash]; exact hcheck
    · exact (congrArg State.basin hflash).trans (congrArg State.basin hstaged :)
    · exact (congrArg State.mail hflash).trans (congrArg State.mail hstaged :)
    · exact (congrArg State.cfg hflash).trans (congrArg State.cfg hstaged :)
    · rw [hfound, ← hcodes x hx]
      have hget := PerLane.get_foldl_set ((s.stagingBegun f).staged (packageKind f) f) _ (s.checkLanes_nodup.filter _ : (s.stageReady q).Nodup) q.codes x
      refine Eq.trans hget ?_
      cases hx' : q.codes.get x with
      | some c => exact if_neg (fun h => absurd ((hready x hx hr).1 h) (by rw [hx']; exact Option.some_ne_none c))
      | none => exact (if_pos ((hready x hx hr).2 hx')).trans ((s.stagingBegun f).staged_packageKind x f)

/-! ## Requests of one item -/

section
variable {s : State} {mb : Fin 4} {r : Request}

theorem exec_softwareWarmReset_of_value (hreq : s.req mb.val = some r) (hvalue : getBE (itemBytes r.bytes 0) 4 4 = 1) :
    exec (.softwareWarmReset mb) s = .next (s.checkItem mb.val 0x13 0x30 (fun _ _ => none) (fun _ => none)) :=
  congrArg Host.Outcome.next (State.resetItem_of_value hreq hvalue)

theorem exec_softwareColdReset_of_value (hreq : s.req mb.val = some r) (hvalue : getBE (itemBytes r.bytes 0) 4 4 = 2) :
    exec (.softwareColdReset mb) s = .next (s.checkItem mb.val 0x13 0x30 (fun _ _ => none) (fun _ => none)) :=
  congrArg Host.Outcome.next (State.resetItem_of_value hreq hvalue)

theorem exec_readChangeLog_of_req (hreq : s.req mb.val = some r) :
    exec (.readChangeLog mb) s =
      .next (s.checkItem mb.val 0x18 (getByte (itemBytes r.bytes 0) 0) (fun _ _ => none) (fun _ => none)) := by
  change execReadChangeLog mb s = _
  rw [execReadChangeLog, hreq]

theorem exec_dumpRelease_of_req (hreq : s.req mb.val = some r) :
    exec (.dumpRelease mb) s =
      .next (s.checkItem mb.val 0x32 (getByte (itemBytes r.bytes 0) 0) (fun _ it => s.releaseCheck it) (fun _ => none)) := by
  change execDumpRelease mb s = _
  rw [execDumpRelease, hreq]

end

/-- Settles O37: each check is the first failing of its list, and each command gives the verdicts of the lanes that check at once. -/
theorem wholeRequestsAreCheckedAtOnce : Obligations.WholeRequestsAreCheckedAtOnce := by
  refine fun s => ⟨s.transitionCheck_eq, s.enrolCheck_eq, s.activateCheck_eq, s.stageFirst_eq, fun mb r hreq hsent hread => ?_⟩
  intro done found
  refine ⟨fun c f check hmem hf => ?_, fun hf => State.judgedAtOnce_stagePackage hreq hsent hf hread, fun hone hdone hf hk => ⟨fun hvalue => ?_, fun hvalue => ?_⟩,
    fun hone hdone hf => ?_, fun hone hdone hf => ?_⟩
  · suffices hexec : exec c s = .next (s.checkWhole mb.val f check) from State.judgedAtOnce_of_whole hexec hreq hsent hf hread
    simp only [List.mem_cons, List.not_mem_nil, or_false, Prod.mk.injEq] at hmem
    rcases hmem with ⟨rfl, rfl, rfl⟩ | ⟨rfl, rfl, rfl⟩ | ⟨rfl, rfl, rfl⟩ | ⟨rfl, rfl, rfl⟩ | ⟨rfl, rfl, rfl⟩ | ⟨rfl, rfl, rfl⟩
    · rfl
    · rfl
    · rfl
    · rfl
    · rfl
    · rw [← s.noSession_eq]
      rfl
  · exact State.judgedAtOnce_of_itemUnchecked (exec_softwareWarmReset_of_value hreq hvalue) hreq hsent hone hdone hf hk hread
  · exact State.judgedAtOnce_of_itemUnchecked (exec_softwareColdReset_of_value hreq hvalue) hreq hsent hone hdone hf hk hread
  · exact State.judgedAtOnce_of_itemUnchecked (exec_readChangeLog_of_req hreq) hreq hsent hone hdone hf rfl hread
  · have hjudged := State.judgedAtOnce_of_item (exec_dumpRelease_of_req hreq) hreq hsent hone hdone hf rfl hread
    rw [s.releaseCheck_eq] at hjudged
    exact hjudged

end Sys2Proof.Machine

/-! PROOF. Verdicts received (R114, R119, R130, R176, R177): what each kind of verdict leaves. -/

namespace Sys2Proof.Machine

theorem exec_verdictReceive (x sender : LaneId) (v : Verdict) (crcOk : Bool) (s : State) :
    exec (.verdictReceive x sender v crcOk) s = execVerdictReceive x sender v crcOk s := rfl

/-- A request whose verdicts have not gone is not settled. -/
theorem State.trySettle_of_unsent {s : State} {mb : Nat} {r : Request} (x : LaneId) (hreq : s.req mb = some r) (hsent : r.sent = false) :
    s.trySettle mb x = s := by
  unfold State.trySettle
  rw [hreq]
  exact if_pos (by simp [hsent])

/-- A reading noted stands under its request's timestamp and arrival stamp (R177). -/
theorem SessCtx.mem_answers_noteReading (c : SessCtx) (y : LaneId) (echo stamp instant : Nat) :
    ∃ a ∈ (c.noteReading y echo stamp instant).answers, a.echo = echo ∧ a.stamp = stamp ∧ a.own.get y = some instant := by
  unfold SessCtx.noteReading
  split
  · rename_i hany
    obtain ⟨a, ha, hmatch⟩ := List.any_eq_true.1 hany
    have hsame : a.echo = echo ∧ a.stamp = stamp := by simpa using hmatch
    exact ⟨_, List.mem_map_of_mem ha, by simp [hsame]⟩
  · exact ⟨_, List.mem_append_right _ (List.mem_singleton_self _), rfl, rfl, PerLane.get_set_self _ _ _⟩

/-- Settles O35, kind by kind. -/
theorem verdictsAreKeptByTheirKind : Obligations.VerdictsAreKeptByTheirKind := by
  refine fun s x sender => ⟨fun v => rfl, fun hpeer => ⟨fun f => if_neg hpeer, fun mb code digest r hreq hsent => ?_, fun sid stamp instant hkeeps => ?_,
    fun sid stamp instant hkeeps => ?_, fun sid echo stamp instant => ?_⟩⟩
  · rw [exec_verdictReceive, execVerdictReceive, if_neg (by decide), if_neg hpeer]
    dsimp only
    rw [hreq]
    exact congrArg Host.Outcome.next (State.trySettle_of_unsent x (s.req_setReq _ _) hsent)
  · refine (if_neg hpeer).trans (congrArg Host.Outcome.next (State.modLane_congr ?_))
    exact if_neg (by rw [hkeeps]; decide)
  · exact (if_neg hpeer).trans (congrArg Host.Outcome.next (State.modLane_congr (if_pos hkeeps)))
  · refine ⟨_, if_neg hpeer, s.onlyLane_modLane x _, ?_⟩
    rw [s.lane_modLane_self]
    refine ⟨rfl, rfl, ?_, fun k hk => Sessions.at_set_ne _ _ _ hk⟩
    rw [Sessions.at_set_self]
    exact SessCtx.mem_answers_noteReading _ _ _ _ _

end Sys2Proof.Machine

/-! PROOF. Agreed changes at their apply cycle (R120, R124, R262): what a lane that applies them keeps, the request of a watcher's lanes and the mirrored change
of a sleeper's. -/

namespace Sys2Proof

theorem LaneId.mem_list (x : LaneId) : x ∈ LaneId.list := by cases x <;> decide

theorem LaneId.nodup_list : LaneId.list.Nodup := by decide

end Sys2Proof

namespace Sys2Proof.Machine

/-! ## A request applied in a lane -/

/-- Applying a request changes the constants and forces of a lane, and its records. -/
theorem Lane.applyRequest_only (l : Lane) (m : Image) (b : List Byte) :
    ∃ mb, l.applyRequest m b = { l with pe := l.pe.applyRequest m b, mb := mb } := by
  unfold Lane.applyRequest Engine.applyRequest
  induction reqItems b generalizing l with
  | nil => exact ⟨l.mb, rfl⟩
  | cons i is ih =>
    obtain ⟨mb, hrecord⟩ : ∃ mb, l.forceRecord i = { l with mb := mb } := by
      unfold Lane.forceRecord
      split
      · exact ⟨l.mb, rfl⟩
      · split <;> exact ⟨_, rfl⟩
    obtain ⟨mb', hrest⟩ := ih (l.applyItem m i)
    refine ⟨mb', ?_⟩
    rw [List.foldl_cons, hrest, Lane.applyItem, hrecord]
    rfl

theorem Lane.applyRequest_pe (l : Lane) (m : Image) (b : List Byte) : (l.applyRequest m b).pe = l.pe.applyRequest m b := by
  obtain ⟨mb, h⟩ := l.applyRequest_only m b
  rw [h]

theorem Lane.applyRequest_mir (l : Lane) (m : Image) (b : List Byte) : (l.applyRequest m b).mir = l.mir := by
  obtain ⟨mb, h⟩ := l.applyRequest_only m b
  rw [h]

/-! ## The agreed change of a watcher (R120, R124) -/

/-- Whether lane `x`, which has not yet applied the change `p`, does so at the boundary of its cycle. -/
def Lane.changesFor (l : Lane) (x : LaneId) (p : Pending) : Bool :=
  l.inService && !l.pe.freezeDone && decide (p.apply ≤ l.td.cycle) && p.accepted.get x

/-- Lane `x` after the boundary. -/
def Lane.changed (l : Lane) (x : LaneId) (p : Pending) : Lane := if l.changesFor x p then l.applyRequest l.image p.bytes else l

/-- The pending request `q` is `p`, whichever lanes have applied it and whatever it has released. -/
def Pending.sameAs (q p : Pending) : Prop := q = { p with appliedBy := q.appliedBy, freed := q.freed }

theorem Lane.applies_of_sameAs {l : Lane} {x : LaneId} {p q : Pending} (h : q.sameAs p) (hf : p.format = 1) (hnot : q.appliedBy.get x = false) :
    l.applies x q = l.changesFor x p := by
  rw [h]
  simp [Lane.applies, Lane.changesFor, hf, hnot]

/-- What lane `x` leaves in its turn at the boundary of the only change that waits. -/
structure State.Changes (s t : State) (x : LaneId) (p q q' : Pending) : Prop where
  pend : t.unit.pend = [q']
  same : q'.sameAs p
  others : ∀ y, y ≠ x → q'.appliedBy.get y = q.appliedBy.get y
  lane_self : t.lane x = (s.lane x).changed x p
  lane_ne : ∀ y, y ≠ x → t.lane y = s.lane y
  basin : t.basin = s.basin
  cfg : t.cfg = s.cfg

theorem State.applyIn_changes {s : State} {p q : Pending} {x : LaneId} (hpend : s.unit.pend = [q]) (hq : q.sameAs p) (hf : p.format = 1)
    (hnot : q.appliedBy.get x = false) : ∃ q', s.Changes (s.applyIn p x) x p q q' := by
  have hfind : s.unit.pend.find? (fun q => q.format == p.format && q.mailbox == p.mailbox && q.bytes == p.bytes) = some q := by
    rw [hpend, List.find?_cons_of_pos (by rw [hq]; simp)]
  unfold State.applyIn
  rw [hfind]
  dsimp only
  rw [Lane.applies_of_sameAs hq hf hnot]
  by_cases hdue : (s.lane x).changesFor x p = true
  · rw [if_pos hdue]
    refine ⟨{ q with appliedBy := q.appliedBy.set x true, freed := if Mask.count q.appliedBy = 0 then (s.lane x).pe.released (s.lane x).image q.bytes
      else q.freed }, by simp [hpend], by rw [hq]; rfl, fun y hy => PerLane.get_set_ne _ _ hy, ?_, fun y hy => State.lane_modLane_ne _ _ hy, rfl, rfl⟩
    rw [State.lane_modLane_self]
    exact (if_pos hdue).symm
  · rw [if_neg hdue]
    exact ⟨q, hpend, hq, fun _ _ => rfl, (if_neg hdue).symm, fun _ _ => rfl, rfl, rfl⟩

/-- Lanes in their turns: each of them does its own part, and no other lane changes. -/
theorem State.foldl_applyIn {p : Pending} (hf : p.format = 1) {xs : List LaneId} (hn : xs.Nodup) {s : State} {q : Pending} (hpend : s.unit.pend = [q])
    (hq : q.sameAs p) (hnot : ∀ x ∈ xs, q.appliedBy.get x = false) :
    (xs.foldl (fun s x => s.applyIn p x) s).basin = s.basin ∧ (xs.foldl (fun s x => s.applyIn p x) s).cfg = s.cfg ∧
      ∀ y, (xs.foldl (fun s x => s.applyIn p x) s).lane y = if y ∈ xs then (s.lane y).changed y p else s.lane y := by
  induction xs generalizing s q with
  | nil => exact ⟨rfl, rfl, fun y => rfl⟩
  | cons x xs ih =>
    obtain ⟨hx, hxs⟩ := List.nodup_cons.1 hn
    obtain ⟨q', h⟩ := State.applyIn_changes hpend hq hf (hnot x List.mem_cons_self)
    have hrest : ∀ y ∈ xs, q'.appliedBy.get y = false := fun y hy =>
      (h.others y (fun e => hx (e ▸ hy))).trans (hnot y (List.mem_cons_of_mem _ hy))
    obtain ⟨hbasin, hcfg, hlane⟩ := ih hxs h.pend h.same hrest
    refine ⟨hbasin.trans h.basin, hcfg.trans h.cfg, fun y => (hlane y).trans ?_⟩
    by_cases hy : y = x
    · subst hy
      rw [if_neg hx, if_pos List.mem_cons_self, h.lane_self]
    · rw [h.lane_ne y hy]
      simp [hy]

/-- CHANGE_APPLY with one change that no lane has applied. -/
theorem exec_changeApply_of_single {s : State} {p : Pending} (hpend : s.unit.pend = [p]) (hf : p.format = 1) (hnew : p.appliedBy = PerLane.all false) :
    ∃ t, exec .changeApply s = .next t ∧ t.basin = s.basin ∧ t.cfg = s.cfg ∧ ∀ x, t.lane x = (s.lane x).changed x p := by
  obtain ⟨hbasin, hcfg, hlane⟩ := State.foldl_applyIn hf LaneId.nodup_list hpend (rfl : p.sameAs p) (fun x _ => by rw [hnew, PerLane.get_all])
  refine ⟨LaneId.list.foldl (fun s x => s.applyIn p x) s, ?_, hbasin, hcfg, fun x => (hlane x).trans (if_pos x.mem_list)⟩
  change Host.Outcome.next (s.unit.pend.foldl (fun s p => LaneId.list.foldl (fun s x => s.applyIn p x) s) s) = _
  rw [hpend]
  rfl

/-! ## The mirrored change of a sleeper (R262) -/

/-- The mirrored change that a lane of a sleeper applies at the boundary of its cycle, with its apply cycle. -/
def Lane.mirrorDue (l : Lane) : Option (Nat × List Byte) :=
  if l.inService && !l.pe.freezeDone then l.mirrorChange l.image l.td.cycle else none

/-- A lane of a sleeper after the boundary. -/
def Lane.mirrorChanged (l : Lane) : Lane :=
  match l.mirrorDue with
  | some (a, b) => { l.applyRequest l.image b with mir := { l.mir with doneChange := some (a, b) } }
  | none => l

theorem State.noteMirrored_only (s : State) (x : LaneId) (a : Nat) (b : List Byte) :
    s.noteMirrored x a b = { s with unit := (s.noteMirrored x a b).unit } := by
  unfold State.noteMirrored
  split <;> rfl

theorem State.applyMirrored_of_none {s : State} {x : LaneId} (h : (s.lane x).mirrorDue = none) : s.applyMirrored x = s := by
  unfold State.applyMirrored
  cases hknown : (s.lane x).mirrorChange (s.lane x).image (s.lane x).td.cycle with
  | none => simp only [hknown]
  | some p =>
    simp only [hknown]
    refine if_neg fun hdue => ?_
    rw [Lane.mirrorDue, if_pos hdue, hknown] at h
    cases h

theorem State.applyMirrored_of_some {s : State} {x : LaneId} {a : Nat} {b : List Byte} (h : (s.lane x).mirrorDue = some (a, b)) :
    s.applyMirrored x = (s.modLane x Lane.mirrorChanged).noteMirrored x a b := by
  have hchanged : (s.lane x).mirrorChanged =
      { (s.lane x).applyRequest (s.lane x).image b with mir := { (s.lane x).mir with doneChange := some (a, b) } } := by
    rw [Lane.mirrorChanged, h]
  unfold Lane.mirrorDue at h
  obtain ⟨hdue, hknown⟩ : ((s.lane x).inService && !(s.lane x).pe.freezeDone) = true ∧
      (s.lane x).mirrorChange (s.lane x).image (s.lane x).td.cycle = some (a, b) := by
    by_cases hdue : ((s.lane x).inService && !(s.lane x).pe.freezeDone) = true
    · exact ⟨hdue, (if_pos hdue).symm.trans h⟩
    · rw [if_neg hdue] at h
      cases h
  unfold State.applyMirrored
  simp only [hknown]
  rw [if_pos hdue]
  refine congrArg (fun t : State => t.noteMirrored x a b) (State.modLane_congr ?_)
  rw [hchanged, Lane.applyRequest_mir]

theorem State.applyMirrored_spec (s : State) (x : LaneId) : (s.applyMirrored x).basin = s.basin ∧ (s.applyMirrored x).cfg = s.cfg ∧
    (s.applyMirrored x).lane x = (s.lane x).mirrorChanged ∧ ∀ y, y ≠ x → (s.applyMirrored x).lane y = s.lane y := by
  cases h : (s.lane x).mirrorDue with
  | none =>
    rw [State.applyMirrored_of_none h, Lane.mirrorChanged, h]
    exact ⟨rfl, rfl, rfl, fun _ _ => rfl⟩
  | some p =>
    rw [State.applyMirrored_of_some h, State.noteMirrored_only]
    exact ⟨rfl, rfl, State.lane_modLane_self _ _ _, fun y hy => State.lane_modLane_ne _ _ hy⟩

theorem exec_sleeperChangeApply_of_sleeper {s : State} (h : s.unit.role = .sleeper) :
    ∃ t, exec .sleeperChangeApply s = .next t ∧ t.basin = s.basin ∧ t.cfg = s.cfg ∧ ∀ x, t.lane x = (s.lane x).mirrorChanged := by
  refine ⟨LaneId.list.foldl State.applyMirrored s, if_pos (by rw [State.sleeps, h]; rfl),
    foldl_keeps State.basin _ (fun s x => (s.applyMirrored_spec x).1) _ s, foldl_keeps State.cfg _ (fun s x => (s.applyMirrored_spec x).2.1) _ s, fun x => ?_⟩
  exact (State.lane_foldl_own (g := fun _ l => l.mirrorChanged) (fun s y => (s.applyMirrored_spec y).2.2.1) (fun s y => (s.applyMirrored_spec y).2.2.2)
    LaneId.nodup_list s x).trans (if_pos x.mem_list)

end Sys2Proof.Machine

/-! PROOF. The fault reset (R246): what it clears in a lane's view of the outputs, and the drive that follows it (R236). -/

namespace Sys2Proof.Machine

/-! ## What a fault reset clears -/

/-- Whether a fault code is one that latches. -/
def latches (f : Nat) : Bool := f == 1 || f == 2 || f == 4

/-- The latched fault of channel `c` cleared. -/
def LaneIO.clearChannel (io : LaneIO) (c : Nat) : LaneIO :=
  let f := Assoc.get 0 io.fault c
  if latches f then
    { io with fault := Assoc.put 0 io.fault c 0, xpair := Assoc.put none io.xpair c none,
              retry := if f == 4 then Assoc.put 0 io.retry c 0 else io.retry,
              ocRun := if f == 4 then Assoc.put 0 io.ocRun c 0 else io.ocRun, highRun := Assoc.put 0 io.highRun c 0,
              quench := putBit io.quench c (onBit io.paused c || io.inDark c) }
  else io

/-- What a latch of group `g` shows cleared. -/
def LaneIO.clearGroup (io : LaneIO) (g : Nat) : LaneIO :=
  { io with groupCause := Assoc.put 0 io.groupCause g 0, groupChan := Assoc.put 0 io.groupChan g 0, groupExt := putBit io.groupExt g false }

/-- The channels' and the groups' part of a fault reset. -/
def LaneIO.clearMask (io : LaneIO) (mask : BitVec 4) : LaneIO :=
  (List.range 4).foldl (fun io g => if onBit mask g then io.clearGroup g else io)
    (((List.range 32).filter (fun c => onBit mask (groupOf c))).foldl LaneIO.clearChannel io)

theorem LaneIO.clearMask_eq (io : LaneIO) (mask : BitVec 4) : io.clearMask mask =
    (List.range 4).foldl (fun io g => if onBit mask g then io.clearGroup g else io)
      ((List.range 32).foldl (fun io c => if onBit mask (groupOf c) then io.clearChannel c else io) io) := by
  rw [LaneIO.clearMask, List.foldl_filter]

theorem LaneIO.faultReset_eq (io : LaneIO) (mask : BitVec 4) :
    io.faultReset mask = { io.clearMask mask with latched := (io.clearMask mask).latched &&& ~~~ mask,
                                                  groupQuench := (io.clearMask mask).groupQuench &&& ~~~ mask,
                                                  resetCnt := sat (io.clearMask mask).resetCnt } := rfl

/-- What a step of a fold for the channels or groups of a mask keeps, it keeps. -/
theorem LaneIO.clearMask_keeps {γ : Type} (p : LaneIO → γ) (hchannel : ∀ io c, p (LaneIO.clearChannel io c) = p io)
    (hgroup : ∀ io g, p (LaneIO.clearGroup io g) = p io) (io : LaneIO) (mask : BitVec 4) : p (io.clearMask mask) = p io := by
  rw [LaneIO.clearMask_eq]
  refine (foldl_keeps p _ (fun io g => ?_) _ _).trans (foldl_keeps p _ (fun io c => ?_) _ _)
  · split
    · exact hgroup io g
    · rfl
  · split
    · exact hchannel io c
    · rfl

/-- The part of a lane's view that a fault reset leaves: its drive, and what of its state it drives by. -/
def LaneIO.driveView (io : LaneIO) : Bool × BitVec 32 × BitVec 4 × Bool × BitVec 8 × BitVec 32 × Option TestWindow × BitVec 4 × Nat :=
  (io.drives, io.toggle, io.groupDrive, io.watchOut, io.dark, io.paused, io.window, io.latched, io.resetCnt)

theorem LaneIO.driveView_clearMask (io : LaneIO) (mask : BitVec 4) : (io.clearMask mask).driveView = io.driveView := by
  refine LaneIO.clearMask_keeps LaneIO.driveView (fun io c => ?_) (fun _ _ => rfl) io mask
  unfold LaneIO.clearChannel
  dsimp only
  split <;> rfl

theorem LaneIO.fault_clearChannel (io : LaneIO) (c k : Nat) : Assoc.get 0 (io.clearChannel c).fault k =
    if c = k then (if latches (Assoc.get 0 io.fault k) then 0 else Assoc.get 0 io.fault k) else Assoc.get 0 io.fault k := by
  unfold LaneIO.clearChannel
  dsimp only
  by_cases hc : c = k
  · subst hc
    split <;> simp_all
  · rw [if_neg hc]
    split
    · exact Assoc.get_put_ne (d := 0) (v := 0) (m := io.fault) hc
    · rfl

theorem LaneIO.fault_clearMask (io : LaneIO) (mask : BitVec 4) {k : Nat} (hk : k < 32) : Assoc.get 0 (io.clearMask mask).fault k =
    if onBit mask (groupOf k) && latches (Assoc.get 0 io.fault k) then 0 else Assoc.get 0 io.fault k := by
  rw [LaneIO.clearMask_eq]
  refine (foldl_keeps (fun io : LaneIO => Assoc.get 0 io.fault k) _ (fun io g => ?_) _ _).trans ?_
  · split <;> rfl
  refine (foldl_range_read (fun io : LaneIO => Assoc.get 0 io.fault) _
    (fun k f => if onBit mask (groupOf k) && latches f then 0 else f) (fun io c j _ => ?_) io k).trans (if_pos hk)
  by_cases hm : onBit mask (groupOf c) = true
  · rw [if_pos hm, LaneIO.fault_clearChannel]
    by_cases hc : c = j
    · subst hc; simp [hm]
    · simp [hc]
  · rw [if_neg hm]
    by_cases hc : c = j
    · subst hc; simp [hm]
    · simp [hc]

theorem LaneIO.groupCause_clearMask (io : LaneIO) (mask : BitVec 4) {g : Nat} (hg : g < 4) : Assoc.get 0 (io.clearMask mask).groupCause g =
    if onBit mask g then 0 else Assoc.get 0 io.groupCause g := by
  rw [LaneIO.clearMask_eq]
  refine (foldl_range_read (fun io : LaneIO => Assoc.get 0 io.groupCause) _ (fun g c => if onBit mask g then 0 else c) (fun io c j _ => ?_) _ g).trans
    ((if_pos hg).trans ?_)
  · by_cases hc : c = j
    · subst hc
      by_cases hm : onBit mask c = true <;> simp [hm, LaneIO.clearGroup]
    · rw [if_neg hc]
      split
      · exact Assoc.get_put_ne (d := 0) (v := 0) (m := io.groupCause) hc
      · rfl
  · have hkeep := foldl_keeps (fun io : LaneIO => Assoc.get 0 io.groupCause g) (fun io c => if onBit mask (groupOf c) then LaneIO.clearChannel io c else io)
      (fun io c => by
        split
        · unfold LaneIO.clearChannel; dsimp only; split <;> rfl
        · rfl) (List.range 32) io
    rw [hkeep]

/-! ## The drive that follows (R236) -/

theorem Lane.afterAbort_only (l : Lane) (x : LaneId) (w : Option TestWindow) :
    ∃ v mb, l.afterAbort x w = { l with io := { l.io with overdue := v }, mb := mb } := by
  cases w with
  | none => exact ⟨l.io.overdue, l.mb, rfl⟩
  | some w =>
    simp only [Lane.afterAbort, Lane.overdueCheck]
    split
    · exact ⟨_, _, rfl⟩
    · exact ⟨l.io.overdue, l.mb, rfl⟩

/-- What a channel's drive depends on, but for the commands and the role: faults, pauses, latches and dark windows. -/
def LaneIO.driveState (io : LaneIO) : Assoc Nat × BitVec 32 × BitVec 4 × BitVec 8 × Assoc Nat × Nat :=
  (io.fault, io.paused, io.latched, io.dark, io.groupCause, io.resetCnt)

theorem LaneIO.mayDrive_of_driveState {io io' : LaneIO} (h : io'.driveState = io.driveState) (m : Image) (cmd : BitVec 32) (sleeper share : Bool) (k : Nat) :
    io'.mayDrive m cmd sleeper share k = io.mayDrive m cmd sleeper share k := by
  simp only [LaneIO.driveState, Prod.mk.injEq] at h
  obtain ⟨hfault, hpaused, hlatched, hdark, -, -⟩ := h
  simp only [LaneIO.mayDrive, LaneIO.granted, LaneIO.permits, LaneIO.blocked, LaneIO.inDark, hfault, hpaused, hlatched, hdark]

theorem LaneIO.driveState_abortTestIf (io : LaneIO) (ms : Nat) (p : TestWindow → Bool) : (io.abortTestIf ms p).driveState = io.driveState := by
  unfold LaneIO.abortTestIf
  split
  · split <;> rfl
  · rfl

/-- The channels below `n` driven in turn: each has its pattern where R236 lets it. -/
theorem LaneIO.toggle_driveChannels (io : LaneIO) (m : Image) (cmd : BitVec 32) (sleeper share : Bool) (ms : Nat) {n : Nat} (hn : n ≤ 32) (k : Nat) :
    onBit ((List.range n).foldl (fun io k => io.driveChannel m cmd sleeper share ms k) io).toggle k =
      if k < n then io.mayDrive m cmd sleeper share k else onBit io.toggle k := by
  induction n with
  | zero => rfl
  | succ n ih =>
    rw [List.range_succ, List.foldl_append, List.foldl_cons, List.foldl_nil]
    set io' := (List.range n).foldl (fun io k => io.driveChannel m cmd sleeper share ms k) io
    have hstate : io'.driveState = io.driveState :=
      foldl_keeps LaneIO.driveState (fun io k => io.driveChannel m cmd sleeper share ms k) (fun _ _ => rfl) _ io
    have htoggle : (io'.driveChannel m cmd sleeper share ms n).toggle = putBit io'.toggle n (io'.mayDrive m cmd sleeper share n) := rfl
    rw [htoggle, LaneIO.mayDrive_of_driveState hstate, onBit_putBit _ _ _ (by omega), ih (by omega)]
    by_cases hk : n = k
    · subst hk; simp
    · have hlt : k < n + 1 ↔ k < n := by omega
      simp [hk, hlt]

/-- The view of a lane whose drive has been set for a cycle, but for the groups and the commands. -/
def Lane.drivenChannels (l : Lane) (m : Image) (sleeper share : Bool) : LaneIO :=
  let io := l.io.abortTestIf l.ms (fun w =>
    onBit (l.commands m) w.channel != onBit l.io.cmd w.channel || !l.io.permits m sleeper share w.channel)
  (List.range 32).foldl (fun io' k => if io.window.map (·.channel) = some k then io' else io'.driveChannel m (l.commands m) sleeper share l.ms k) io

theorem Lane.setDrive_eq (l : Lane) (m : Image) (sleeper share : Bool) :
    l.setDrive m sleeper share =
      { l with io := { l.drivenChannels m sleeper share with
                drives := true, cmd := l.commands m, groupDrive := ~~~ (l.drivenChannels m sleeper share).latched,
                groupQuench := (l.drivenChannels m sleeper share).latched, watchOut := !sleeper && share } } := rfl

theorem Lane.driveState_drivenChannels (l : Lane) (m : Image) (sleeper share : Bool) :
    (l.drivenChannels m sleeper share).driveState = l.io.driveState := by
  refine (foldl_keeps LaneIO.driveState _ (fun io k => ?_) _ _).trans (LaneIO.driveState_abortTestIf _ _ _)
  split <;> rfl

/-- With no test window open every channel is driven as R236 lets it be. -/
theorem Lane.toggle_drivenChannels {l : Lane} (h : l.io.window = none) (m : Image) (sleeper share : Bool) {k : Nat} (hk : k < 32) :
    onBit (l.drivenChannels m sleeper share).toggle k = l.io.mayDrive m (l.commands m) sleeper share k := by
  have hsame : l.drivenChannels m sleeper share =
      (List.range 32).foldl (fun io k => io.driveChannel m (l.commands m) sleeper share l.ms k) l.io := by
    simp only [Lane.drivenChannels, LaneIO.abortTestIf, h, Option.map_none, reduceCtorEq, if_false]
  rw [hsame, LaneIO.toggle_driveChannels _ _ _ _ _ _ (le_refl 32), if_pos hk]

/-- A lane's drive set for a cycle: faults and latches stay, the groups follow their latches, the commands are the cycle's. -/
theorem Lane.drive_spec (l : Lane) (x : LaneId) (m : Image) (sleeper share : Bool) :
    (l.drive x m sleeper share).pe = l.pe ∧ (l.drive x m sleeper share).vt = l.vt ∧
      (l.drive x m sleeper share).io.driveState = l.io.driveState ∧
      (l.drive x m sleeper share).io.groupDrive = ~~~ l.io.latched ∧ (l.drive x m sleeper share).io.groupQuench = l.io.latched ∧
      (l.drive x m sleeper share).io.cmd = l.commands m ∧
      (l.io.window = none → ∀ k, k < 32 → onBit (l.drive x m sleeper share).io.toggle k = l.io.mayDrive m (l.commands m) sleeper share k) := by
  obtain ⟨v, mb, hafter⟩ := (l.setDrive m sleeper share).afterAbort_only x l.io.window
  have hstate := l.driveState_drivenChannels m sleeper share
  have hlatched : (l.drivenChannels m sleeper share).latched = l.io.latched := congrArg (fun d => d.2.2.1) hstate
  rw [Lane.drive, hafter, Lane.setDrive_eq]
  exact ⟨rfl, rfl, hstate, congrArg (~~~ ·) hlatched, hlatched, rfl, fun hw k hk => Lane.toggle_drivenChannels hw m sleeper share hk⟩

/-! ## The command -/

/-- A lane after a fault reset of the groups of a mask: what it drives, it drives again. -/
def Lane.faultCleared (l : Lane) (x : LaneId) (mask : BitVec 4) (sleeper : Bool) : Lane :=
  let l := { l with io := l.io.faultReset mask }
  if l.io.drives then l.drive x l.image sleeper l.io.watchOut else l

/-- An agreed request marked as applied changes what waits, and the mailboxes. -/
theorem State.applied_only (s : State) (p : Pending) :
    s.applied p = { s with unit := (s.applied p).unit, mail := (s.applied p).mail, sent := (s.applied p).sent } := by
  unfold State.applied
  dsimp only
  split
  · rfl
  · split
    · rw [State.ackOut_only]
    · rfl

theorem exec_faultResetApply_of_due {s : State} {p : Pending} {rest : List Pending} (h : s.due 2 = p :: rest) :
    exec .faultResetApply s =
      .next ((s.mapLanes (fun x l => l.faultCleared x (BitVec.ofNat 4 (getBE p.bytes 132 4)) s.sleeps)).applied p) := by
  change execFaultResetApply s = _
  unfold execFaultResetApply
  rw [h]
  rfl

theorem Lane.faultCleared_of_drives {l : Lane} (x : LaneId) (mask : BitVec 4) (sleeper : Bool) (h : l.io.drives = true) :
    l.faultCleared x mask sleeper = Lane.drive { l with io := l.io.faultReset mask } x l.image sleeper l.io.watchOut := by
  have hview := l.io.driveView_clearMask mask
  have hdrives : (l.io.faultReset mask).drives = true := (congrArg (·.1) hview).trans h
  have hwatch : (l.io.faultReset mask).watchOut = l.io.watchOut := congrArg (·.2.2.2.1) hview
  refine (if_pos hdrives).trans ?_
  rw [← hwatch]
  rfl

theorem Lane.faultCleared_of_still {l : Lane} (x : LaneId) (mask : BitVec 4) (sleeper : Bool) (h : l.io.drives = false) :
    l.faultCleared x mask sleeper = { l with io := l.io.faultReset mask } := by
  have hdrives : (l.io.faultReset mask).drives = false := (congrArg (·.1) (l.io.driveView_clearMask mask)).trans h
  exact if_neg (by rw [hdrives]; decide)

/-- A fault reset changes of a lane what it clears and what follows in its drive. -/
theorem Lane.faultCleared_keeps (l : Lane) (x : LaneId) (mask : BitVec 4) (sleeper : Bool) :
    (l.faultCleared x mask sleeper).pe = l.pe ∧ (l.faultCleared x mask sleeper).vt = l.vt ∧
      (l.faultCleared x mask sleeper).io.driveState = (l.io.faultReset mask).driveState := by
  cases h : l.io.drives with
  | false =>
    rw [Lane.faultCleared_of_still x mask sleeper h]
    exact ⟨rfl, rfl, rfl⟩
  | true =>
    rw [Lane.faultCleared_of_drives x mask sleeper h]
    obtain ⟨hpe, hvt, hstate, -⟩ := Lane.drive_spec { l with io := l.io.faultReset mask } x l.image sleeper l.io.watchOut
    exact ⟨hpe, hvt, hstate⟩

/-- The faults, latches and the count after a fault reset (R246). -/
theorem Lane.faultCleared_clears (l : Lane) (x : LaneId) (mask : BitVec 4) (sleeper : Bool) :
    (l.faultCleared x mask sleeper).io.resetCnt = sat l.io.resetCnt ∧
      (∀ k, k < 32 → Assoc.get 0 (l.faultCleared x mask sleeper).io.fault k =
        if onBit mask (groupOf k) && latches (Assoc.get 0 l.io.fault k) then 0 else Assoc.get 0 l.io.fault k) ∧
      (∀ g, g < 4 → Assoc.get 0 (l.faultCleared x mask sleeper).io.groupCause g = if onBit mask g then 0 else Assoc.get 0 l.io.groupCause g) ∧
      (l.faultCleared x mask sleeper).io.latched = l.io.latched &&& ~~~ mask := by
  obtain ⟨-, -, hstate⟩ := l.faultCleared_keeps x mask sleeper
  have hview := l.io.driveView_clearMask mask
  simp only [LaneIO.driveState, LaneIO.driveView, Prod.mk.injEq] at hstate hview
  obtain ⟨hfault, -, hlatched, -, hcause, hcnt⟩ := hstate
  obtain ⟨-, -, -, -, -, -, -, hold, holdCnt⟩ := hview
  rw [hfault, hlatched, hcause, hcnt, LaneIO.faultReset_eq]
  exact ⟨congrArg sat holdCnt, fun k hk => l.io.fault_clearMask mask hk, fun g hg => l.io.groupCause_clearMask mask hg,
    congrArg (· &&& ~~~ mask) hold⟩

/-- A lane that does not drive keeps its patterns and group switches as they were. -/
theorem Lane.faultCleared_still (l : Lane) (x : LaneId) (mask : BitVec 4) (sleeper : Bool) (h : l.io.drives = false) :
    (l.faultCleared x mask sleeper).io.toggle = l.io.toggle ∧ (l.faultCleared x mask sleeper).io.groupDrive = l.io.groupDrive := by
  have hview := l.io.driveView_clearMask mask
  rw [Lane.faultCleared_of_still x mask sleeper h]
  exact ⟨congrArg (·.2.1) hview, congrArg (·.2.2.1) hview⟩

/-- A lane that drives follows the cleared latches at once (R236). -/
theorem Lane.faultCleared_drives (l : Lane) (x : LaneId) (mask : BitVec 4) (sleeper : Bool) (h : l.io.drives = true) :
    let io := (l.faultCleared x mask sleeper).io
    io.groupDrive = ~~~ io.latched ∧ io.groupQuench = io.latched ∧ io.cmd = l.commands l.image ∧
      (l.io.window = none → ∀ k, k < 32 → onBit io.toggle k = io.mayDrive l.image io.cmd sleeper l.io.watchOut k) := by
  have hwindow : (l.io.faultReset mask).window = l.io.window := congrArg (·.2.2.2.2.2.2.1) (l.io.driveView_clearMask mask)
  rw [Lane.faultCleared_of_drives x mask sleeper h]
  obtain ⟨-, -, hstate, hdrive, hquench, hcmd, htoggle⟩ := Lane.drive_spec { l with io := l.io.faultReset mask } x l.image sleeper l.io.watchOut
  intro io
  have hlatched : io.latched = (l.io.faultReset mask).latched := congrArg (·.2.2.1) hstate
  refine ⟨by rw [hlatched]; exact hdrive, by rw [hlatched]; exact hquench, hcmd, fun hw k hk => ?_⟩
  rw [LaneIO.mayDrive_of_driveState hstate, hcmd]
  exact htoggle (hwindow.trans hw) k hk

end Sys2Proof.Machine

/-! PROOF. Agreed settings and life-cycle transitions (R281, R313, R337, R341, R342): what they write, what a transition out of operation ends and erases, and
what the agreed requests leave in the unit. -/

namespace Sys2Proof.Machine

/-! ## Writes to the MRAM while its rail is up (R21, R313) -/

theorem State.configWrite_of_powered {s : State} (h : s.ph.powered = true) (f : Config → Config) : s.configWrite f = { s with cfg := f s.cfg } :=
  if_pos (by rw [h]; rfl)

theorem State.areaWrite_of_powered {s : State} (h : s.ph.powered = true) (x : LaneId) (f : Sequencer → Sequencer) :
    s.areaWrite x f = s.modLane x (fun l => { l with ls := f l.ls }) :=
  if_pos (by rw [h]; cases x <;> rfl)

theorem State.areasWrite_of_powered {s : State} (h : s.ph.powered = true) (f : LaneId → Lane → Sequencer) :
    s.areasWrite f = s.mapLanes (fun x l => { l with ls := f x l }) := by
  simp only [State.areasWrite, LaneId.list, List.foldl_cons, List.foldl_nil]
  rw [State.areaWrite_of_powered h .a, State.areaWrite_of_powered (by exact h) .b, State.areaWrite_of_powered (by exact h) .c]
  rfl

/-! ## Settings (R281) -/

theorem State.settings_setSettings (s : State) (c : Settings) : (s.setSettings c).settings = c := by
  unfold State.settings State.setSettings
  dsimp only
  split <;> rfl

/-- A setting of the PTP domain in effect. -/
theorem State.applySetting_domain {s : State} {it : List Byte} (hp : s.ph.powered = true) (hk : getByte it 0 = 0x32) :
    (s.applySetting it).basin = s.basin ∧ (s.applySetting it).lanes = s.lanes ∧
      (s.applySetting it).settings = { s.settings with domain := getBE it 4 4 } := by
  have hset : s.settings.set it = { s.settings with domain := getBE it 4 4 } := by
    unfold Settings.set
    rw [hk]
    rfl
  have hwrite : s.mramWrite .pumphouse .configuration (fun s => s.setSettings (s.settings.set it)) = s.setSettings (s.settings.set it) :=
    if_pos (by rw [hp]; rfl)
  have happly : s.applySetting it =
      if (s.setSettings (s.settings.set it)).settings.domain = s.settings.domain then s.setSettings (s.settings.set it)
      else { s.setSettings (s.settings.set it) with ptp := (s.setSettings (s.settings.set it)).ptp.noMaster } := by
    unfold State.applySetting
    rw [hwrite, hk]
    rfl
  rw [happly, hset]
  split <;> exact ⟨rfl, rfl, s.settings_setSettings _⟩

theorem exec_settingsApply_of_due {s : State} {p : Pending} {rest : List Pending} (h : s.due 4 = p :: rest) :
    exec .settingsApply s = if !s.ph.powered then .next s
      else .next (((List.range (reqCount p.bytes)).foldl (fun s k => s.applySetting (itemBytes p.bytes k)) s).applied p) := by
  change execSettingsApply s = _
  unfold execSettingsApply
  rw [h]

theorem State.settings_applied (s : State) (p : Pending) : (s.applied p).settings = s.settings := by
  rw [State.applied_only]
  rfl

/-! ## What a transition writes (R341, R342) -/

theorem exec_transitionApply_of_due {s : State} {p : Pending} {rest : List Pending} (h : s.due 0x10 = p :: rest) :
    exec .transitionApply s = if !s.ph.powered then .next s
      else .next ((s.transition (getByte (slice p.bytes 128 4) 2) (getByte (slice p.bytes 128 4) 3) p.logSeq).applied p) := by
  change execTransitionApply s = _
  unfold execTransitionApply
  rw [h]

/-- The record of a transition, the life-cycle state in every powered lane, the count and the challenge: what every transition does first. -/
def State.transitionBegun (s : State) (old new seq : Nat) : State :=
  let s := (s.logChecking 0x0E01 1 [old, new, seq]).areasWrite (fun _ l => if l.rc.powered then { l.ls with life := new } else l.ls)
  { s with cfg := { s.cfg with transitions := sat s.cfg.transitions } }.newChallenge

theorem State.transition_service (s : State) (old seq : Nat) :
    s.transition old 3 seq = { s.transitionBegun old 3 seq with cfg := { (s.transitionBegun old 3 seq).cfg with rwlFuse := true } } := by
  rw [State.transition, State.transitionBegun]

theorem State.transition_retired (s : State) (old seq : Nat) :
    s.transition old 5 seq =
      { (s.transitionBegun old 5 seq).endCycles.erase with cfg := { (s.transitionBegun old 5 seq).endCycles.erase.cfg with retired := true } } := by
  rw [State.transition, State.transitionBegun]

theorem State.transition_factory (s : State) (old seq : Nat) :
    s.transition old 1 seq = (if old = 0 then s.transitionBegun old 1 seq else (s.transitionBegun old 1 seq).endCycles.erase).configWrite
      (·.initialPassword Config.factorySecret) := by
  rw [State.transition, State.transitionBegun]

theorem State.transition_other (s : State) {old new : Nat} (seq : Nat) (h1 : new ≠ 1) (h3 : new ≠ 3) (h5 : new ≠ 5) :
    s.transition old new seq = if old = 1 then (s.transitionBegun old new seq).configWrite (·.initialPassword Config.deliverySecret)
      else s.transitionBegun old new seq := by
  unfold State.transition
  dsimp only
  split
  · exact absurd rfl h3
  · exact absurd rfl h5
  · exact absurd rfl h1
  · rfl

/-- Some lanes have put a record into their queues. -/
def State.recordsOnly (s t : State) : Prop := s.onlyLanes t ∧ ∀ x, t.lane x = { s.lane x with mb := (t.lane x).mb }

theorem State.recordsOnly_refl (s : State) : s.recordsOnly s := ⟨rfl, fun _ => rfl⟩

theorem State.recordsOnly.trans {s t u : State} (h : s.recordsOnly t) (k : t.recordsOnly u) : s.recordsOnly u := by
  obtain ⟨ht, hlanes⟩ := h
  obtain ⟨ku, klanes⟩ := k
  refine ⟨?_, fun x => by rw [klanes x, hlanes x]⟩
  unfold State.onlyLanes at ht ku ⊢
  rw [ku, ht]

theorem State.recordsOnly_modLane (s : State) (x : LaneId) {f : Lane → Lane} (h : ∀ l, f l = { l with mb := (f l).mb }) :
    s.recordsOnly (s.modLane x f) := by
  refine ⟨rfl, fun y => ?_⟩
  by_cases hy : y = x
  · subst hy; rw [s.lane_modLane_self]; exact h _
  · rw [s.lane_modLane_ne _ hy]

theorem State.recordsOnly_logChecking (s : State) (code sev : Nat) (ps : List Nat) : s.recordsOnly (s.logChecking code sev ps) :=
  foldl_rel State.recordsOnly_refl State.recordsOnly.trans (fun s x => s.recordsOnly_modLane x fun _ => rfl) _ s

/-- What every transition writes first, while the MRAM's rail is up: the lanes' protected areas, the count and the challenge. -/
structure State.BegunTo (s t : State) (new : Nat) : Prop where
  only : t = { s with lanes := t.lanes, cfg := t.cfg, fresh := t.fresh }
  cfg : ∃ c, t.cfg = { s.cfg with transitions := sat s.cfg.transitions, challenge := c }
  lane : ∀ x, ∃ mb, t.lane x = { s.lane x with ls := if (s.lane x).rc.powered then { (s.lane x).ls with life := new } else (s.lane x).ls, mb := mb }

theorem State.begunTo_transitionBegun {s : State} (h : s.ph.powered = true) (old new seq : Nat) : s.BegunTo (s.transitionBegun old new seq) new := by
  obtain ⟨hlog, hlanes⟩ := s.recordsOnly_logChecking 0x0E01 1 [old, new, seq]
  rw [State.transitionBegun]
  set u := s.logChecking 0x0E01 1 [old, new, seq]
  have hpowered : u.ph.powered = true := (congrArg (·.ph.powered) hlog).trans h
  have hcfg : u.cfg = s.cfg := (congrArg State.cfg hlog :)
  rw [State.areasWrite_of_powered hpowered]
  refine ⟨?_, ⟨Config.freeChallenge u.fresh, ?_⟩, fun x => ⟨(u.lane x).mb, ?_⟩⟩
  · unfold State.onlyLanes at hlog
    rw [hlog]
    rfl
  · rw [← hcfg]
    rfl
  · change (State.mapLanes _ _).lane x = _
    rw [State.lane_mapLanes, hlanes x]

/-! ## Where a transition leaves no cycle to run (R337) -/

/-- What the pumphouse posts stands in its notices, its mailboxes and the basin (R302). -/
theorem State.notice_only (s : State) (code : Nat) (ps : List Nat) :
    s.notice code ps = { s with basin := (s.notice code ps).basin, mail := (s.notice code ps).mail } := by
  unfold State.notice
  split
  · rfl
  split
  · unfold State.deliverNotice
    dsimp only
    rw [State.basinWrite_of_may basinMay_notice]
    rfl
  · split <;> rfl

/-- From `s` to `t` the configuration region, the protected areas and every rail are as before. -/
def State.mramKept (s t : State) : Prop :=
  t.cfg = s.cfg ∧ t.ph.powered = s.ph.powered ∧ ∀ x, (t.lane x).ls = (s.lane x).ls

theorem State.mramKept_refl (s : State) : s.mramKept s := ⟨rfl, rfl, fun _ => rfl⟩

theorem State.mramKept.trans {s t u : State} (h : s.mramKept t) (k : t.mramKept u) : s.mramKept u := by
  obtain ⟨hcfg, hpowered, hls⟩ := h
  obtain ⟨kcfg, kpowered, kls⟩ := k
  exact ⟨kcfg.trans hcfg, kpowered.trans hpowered, fun x => (kls x).trans (hls x)⟩

theorem State.mramKept_notice (s : State) (code : Nat) (ps : List Nat) : s.mramKept (s.notice code ps) := by
  rw [State.notice_only]
  exact s.mramKept_refl

theorem State.mramKept_failSafe (s : State) : s.mramKept s.failSafe := by
  unfold State.failSafe
  refine State.mramKept.trans (State.mramKept.trans ?_ (State.mramKept_notice _ _ _)) (State.mramKept_notice _ _ _)
  exact ⟨rfl, rfl, fun _ => rfl⟩

theorem State.mramKept_maskNotice (s : State) (old : Mask) (gone : Option LaneId) : s.mramKept (s.maskNotice old gone) := by
  unfold State.maskNotice
  split
  · exact s.mramKept_refl
  · exact s.mramKept_notice _ _

theorem State.mramKept_settleService (s : State) : s.mramKept s.settleService := by
  unfold State.settleService
  split
  · exact s.mramKept_failSafe
  · split
    · exact ⟨rfl, rfl, fun _ => rfl⟩
    · exact s.mramKept_refl

theorem State.mramKept_modLane (s : State) (x : LaneId) {f : Lane → Lane} (h : ∀ l, (f l).ls = l.ls) : s.mramKept (s.modLane x f) := by
  refine ⟨rfl, rfl, fun y => ?_⟩
  by_cases hy : y = x
  · subst hy; rw [s.lane_modLane_self]; exact h _
  · rw [s.lane_modLane_ne _ hy]

theorem State.mramKept_stopLane (s : State) (x : LaneId) (cause : Nat) : s.mramKept (s.stopLane x cause) := by
  have hstop : s.mramKept (s.modLane x (fun l => l.stop x cause)) := s.mramKept_modLane x fun _ => rfl
  unfold State.stopLane
  refine State.mramKept.trans (State.mramKept.trans (State.mramKept.trans hstop ?_) (State.mramKept_maskNotice _ _ _)) (State.mramKept_settleService _)
  exact ⟨rfl, rfl, fun _ => rfl⟩

theorem State.mramKept_endCycles (s : State) : s.mramKept s.endCycles := by
  unfold State.endCycles
  refine State.mramKept.trans (foldl_rel State.mramKept_refl State.mramKept.trans (fun s x => s.mramKept_stopLane x 0)
    (LaneId.list.filter (fun x => (s.lane x).evaluates)) s) ?_
  dsimp only
  split
  · exact State.mramKept_refl _
  · exact State.mramKept_failSafe _

/-! ## What erasure removes (R342) -/

/-- What erasure leaves of a lane. -/
def Lane.erased (l : Lane) : Lane :=
  let l := l.eraseSlots
  { l with ls := { l.ls with snap0 := none, snap1 := none, floor := 0, fw := l.ls.fw.eraseAreas } }

theorem State.eraseLane_of_powered {s : State} (h : s.ph.powered = true) (x : LaneId) : s.eraseLane x = s.modLane x Lane.erased := by
  unfold State.eraseLane
  dsimp only
  have hretained : (s.modLane x Lane.eraseSlots).mramWrite (.lane x) (.retained x)
      (fun s => s.modLane x (fun l => { l with ls := { l.ls with snap0 := none, snap1 := none } })) =
      (s.modLane x Lane.eraseSlots).modLane x (fun l => { l with ls := { l.ls with snap0 := none, snap1 := none } }) :=
    if_pos (by change (_ && s.ph.powered) = true; rw [h]; cases x <;> rfl)
  rw [hretained, State.areaWrite_of_powered (by exact h), State.modLane_modLane, State.modLane_modLane]
  rfl

/-- Erasure while the MRAM's rail is up. -/
theorem State.erase_of_powered {s : State} (h : s.ph.powered = true) :
    s.erase = { s.mapLanes (fun _ => Lane.erased) with cfg := s.cfg.erase, ph := { s.ph with fw := s.ph.fw.eraseAreas } } := by
  have hconfig : s.mramWrite .pumphouse .configuration (fun s => { s with cfg := s.cfg.erase, ph := { s.ph with fw := s.ph.fw.eraseAreas } }) =
      { s with cfg := s.cfg.erase, ph := { s.ph with fw := s.ph.fw.eraseAreas } } := if_pos (by rw [h]; rfl)
  unfold State.erase
  simp only [hconfig, LaneId.list, List.foldl_cons, List.foldl_nil]
  rw [State.eraseLane_of_powered (by exact h) .a, State.eraseLane_of_powered (by exact h) .b, State.eraseLane_of_powered (by exact h) .c]
  rfl

/-- What an erasure leaves after states that kept the MRAM: the configuration region without key and password, the lanes' areas without images. -/
theorem State.mramKept.erase {s t : State} (h : s.mramKept t) (hp : s.ph.powered = true) :
    t.erase.cfg = s.cfg.erase ∧ t.erase.ph.powered = true ∧
      ∀ x, (t.erase.lane x).ls = { (s.lane x).ls with
        slot0 := ImageSlot.reset, slot1 := ImageSlot.reset, running := false, marked := none, floorRun := 0, snap0 := none, snap1 := none,
        floor := 0, fw := (s.lane x).ls.fw.eraseAreas } := by
  obtain ⟨hcfg, hpowered, hls⟩ := h
  have hp' := hpowered.trans hp
  rw [State.erase_of_powered hp']
  refine ⟨congrArg Config.erase hcfg, hp', fun x => ?_⟩
  change ((t.mapLanes (fun _ => Lane.erased)).lane x).ls = _
  rw [State.lane_mapLanes, ← hls x]
  rfl

/-! ## An applied request (R120) -/

theorem State.applied_keeps (s : State) (p : Pending) :
    (s.applied p).basin = s.basin ∧ (s.applied p).cfg = s.cfg ∧ ∀ x, (s.applied p).lane x = s.lane x := by
  rw [State.applied_only]
  exact ⟨rfl, rfl, fun _ => rfl⟩

theorem State.ackOut_of_full {s : State} {n : Nat} (h : (s.outBox n).state = .full) (code : Nat) :
    s.ackOut n code = { s with mail := { s.mail with out := Assoc.put Mailbox.reset s.mail.out n { s.outBox n with state := .acked, code := code } } } :=
  if_pos (by rw [h]; rfl)

/-- Where no lane in service goes on to commit a cycle, the applied request is acknowledged and no longer pending. -/
theorem State.applied_of_no_service {s : State} {p : Pending} (hserv : s.serviceLanes = []) (hmail : p.mailbox < 4)
    (hfull : (s.outBox p.mailbox).state = .full) :
    ((s.applied p).outBox p.mailbox).state = .acked ∧ ((s.applied p).outBox p.mailbox).code = 0 ∧ p ∉ (s.applied p).unit.pend := by
  have happly : s.applied p = State.ackOut { s with unit := { s.unit with pend := s.unit.pend.filter (fun r => r != p) } } p.mailbox 0 := by
    simp only [State.applied, hserv, List.isEmpty_nil, Bool.not_true, Bool.false_eq_true, if_false, hmail, if_true]
  rw [happly, State.ackOut_of_full (by exact hfull)]
  refine ⟨?_, ?_, fun hmem => ?_⟩
  · simp [State.outBox]
  · simp [State.outBox]
  · simpa using List.of_mem_filter hmem

/-! ## The transitions -/

/-- The life-cycle state in every powered lane, which no later part of a transition changes. -/
theorem State.BegunTo.life {s t : State} {new : Nat} (h : s.BegunTo t new) (x : LaneId) :
    (t.lane x).ls.life = if (s.lane x).rc.powered then new else (s.lane x).ls.life := by
  obtain ⟨mb, hx⟩ := h.lane x
  rw [hx]
  split_ifs <;> rfl

theorem State.BegunTo.serviceLanes {s t : State} {new : Nat} (h : s.BegunTo t new) : t.serviceLanes = s.serviceLanes := by
  refine List.filter_congr fun x _ => ?_
  obtain ⟨mb, hx⟩ := h.lane x
  rw [hx]
  rfl

theorem State.BegunTo.powered {s t : State} {new : Nat} (h : s.BegunTo t new) : t.ph.powered = s.ph.powered := by
  rw [h.only]

/-- A transition to another state than FACTORY_TEST and RETIRED leaves the cycles running: it writes the lanes' areas and the configuration region only. -/
theorem State.transition_running {s : State} (h : s.ph.powered = true) {old new : Nat} (seq : Nat) (h1 : new ≠ 1) (h5 : new ≠ 5) :
    ∃ c t, s.BegunTo t new ∧ s.transition old new seq = { t with cfg := c } ∧ c.transitions = sat s.cfg.transitions ∧
      c.rwlFuse = (s.cfg.rwlFuse || new == 3) ∧ c.key = s.cfg.key ∧ c.retired = s.cfg.retired ∧
      (new ≠ 3 → old = 1 → c.pwInitial = true ∧ c.salt = be 16 Config.deliverySecret.1.toNat ∧ c.pwHash = be 32 Config.deliverySecret.2.toNat) ∧
      (old ≠ 1 → c.pwInitial = s.cfg.pwInitial ∧ c.pwHash = s.cfg.pwHash) := by
  have hbegun := State.begunTo_transitionBegun h old new seq
  obtain ⟨ch, hcfg⟩ := hbegun.cfg
  by_cases h3 : new = 3
  · subst h3
    rw [State.transition_service]
    generalize s.transitionBegun old 3 seq = t at hbegun hcfg ⊢
    refine ⟨{ t.cfg with rwlFuse := true }, t, hbegun, rfl, ?_⟩
    rw [hcfg]
    exact ⟨rfl, (Bool.or_true _).symm, rfl, rfl, fun hne => absurd rfl hne, fun _ => ⟨rfl, rfl⟩⟩
  · have hfuse : (s.cfg.rwlFuse || new == 3) = s.cfg.rwlFuse := by rw [beq_false_of_ne h3, Bool.or_false]
    rw [State.transition_other s seq h1 h3 h5, hfuse]
    generalize s.transitionBegun old new seq = t at hbegun hcfg ⊢
    by_cases hold : old = 1
    · rw [if_pos hold, State.configWrite_of_powered (hbegun.powered.trans h)]
      refine ⟨t.cfg.initialPassword Config.deliverySecret, t, hbegun, rfl, ?_⟩
      rw [hcfg]
      exact ⟨rfl, rfl, rfl, rfl, fun _ _ => ⟨rfl, rfl, rfl⟩, fun hne => absurd hold hne⟩
    · rw [if_neg hold]
      refine ⟨t.cfg, t, hbegun, rfl, ?_⟩
      rw [hcfg]
      exact ⟨rfl, rfl, rfl, rfl, fun _ h => absurd h hold, fun _ => ⟨rfl, rfl⟩⟩

/-- TRANSITION_APPLY while the cycles go on. -/
theorem exec_transitionApply_running {s : State} {p : Pending} {rest : List Pending} (hdue : s.due 0x10 = p :: rest) (h : s.ph.powered = true)
    {old new : Nat} (hold : getByte (slice p.bytes 128 4) 2 = old) (hnew : getByte (slice p.bytes 128 4) 3 = new) (h1 : new ≠ 1) (h5 : new ≠ 5) :
    ∃ t, exec .transitionApply s = .next t ∧ t.basin = s.basin ∧ t.cfg.transitions = sat s.cfg.transitions ∧
      t.cfg.rwlFuse = (s.cfg.rwlFuse || new == 3) ∧ t.cfg.key = s.cfg.key ∧ t.cfg.retired = s.cfg.retired ∧
      (new ≠ 3 → old = 1 → t.cfg.pwInitial = true ∧ t.cfg.salt = be 16 Config.deliverySecret.1.toNat ∧
        t.cfg.pwHash = be 32 Config.deliverySecret.2.toNat) ∧
      (old ≠ 1 → t.cfg.pwInitial = s.cfg.pwInitial ∧ t.cfg.pwHash = s.cfg.pwHash) ∧
      (s.serviceLanes = [] → p.mailbox < 4 → (s.outBox p.mailbox).state = .full →
        (t.outBox p.mailbox).state = .acked ∧ (t.outBox p.mailbox).code = 0 ∧ p ∉ t.unit.pend) ∧
      ∀ x, (t.lane x).pe = (s.lane x).pe ∧ (t.lane x).ls.life = (if (s.lane x).rc.powered then new else (s.lane x).ls.life) := by
  obtain ⟨c, t, hbegun, htrans, htransitions, hfuse, hkey, hretired, hdelivery, hpassword⟩ := s.transition_running h (old := old) p.logSeq h1 h5
  obtain ⟨hbasin, hcfg, hlane⟩ := State.applied_keeps { t with cfg := c } p
  refine ⟨State.applied { t with cfg := c } p, ?_, ?_, ?_⟩
  · rw [exec_transitionApply_of_due hdue, h, hold, hnew, htrans]
    rfl
  · rw [hbasin]
    exact (congrArg State.basin hbegun.only :)
  · rw [hcfg]
    refine ⟨htransitions, hfuse, hkey, hretired, hdelivery, hpassword, fun hserv hmail hfull => ?_, fun x => ?_⟩
    · have hout : t.outBox p.mailbox = s.outBox p.mailbox := (congrArg (State.outBox · p.mailbox) hbegun.only :)
      exact State.applied_of_no_service (hbegun.serviceLanes.trans hserv) hmail (by rw [← hout] at hfull; exact hfull)
    · rw [hlane]
      obtain ⟨mb, hx⟩ := hbegun.lane x
      exact ⟨(congrArg Lane.pe hx :), hbegun.life x⟩

/-- A transition into FACTORY_TEST or RETIRED, where the unit is erased. -/
theorem State.BegunTo.erased {s t : State} {new : Nat} (hbegun : s.BegunTo t new) (h : s.ph.powered = true) :
    t.endCycles.erase.cfg.key = none ∧ t.endCycles.erase.ph.powered = true ∧
      ∀ x, (t.endCycles.erase.lane x).ls.slot0 = ImageSlot.reset ∧ (t.endCycles.erase.lane x).ls.slot1 = ImageSlot.reset ∧
        (t.endCycles.erase.lane x).ls.snap0 = none ∧ (t.endCycles.erase.lane x).ls.snap1 = none ∧
        (t.endCycles.erase.lane x).ls.floor = 0 ∧
        (t.endCycles.erase.lane x).ls.life = if (s.lane x).rc.powered then new else (s.lane x).ls.life := by
  obtain ⟨hcfg, hpowered, hls⟩ := t.mramKept_endCycles.erase (hbegun.powered.trans h)
  refine ⟨by rw [hcfg]; rfl, hpowered, fun x => ?_⟩
  rw [hls x]
  exact ⟨rfl, rfl, rfl, rfl, rfl, hbegun.life x⟩

theorem State.transition_into_factory {s : State} (h : s.ph.powered = true) (old seq : Nat) :
    (s.transition old 1 seq).cfg.pwInitial = true ∧ (s.transition old 1 seq).cfg.salt = be 16 Config.factorySecret.1.toNat ∧
      (s.transition old 1 seq).cfg.pwHash = be 32 Config.factorySecret.2.toNat ∧
      (old ≠ 0 → (s.transition old 1 seq).cfg.key = none ∧ ∀ x, ((s.transition old 1 seq).lane x).ls.slot0 = ImageSlot.reset) ∧
      ∀ x, ((s.transition old 1 seq).lane x).ls.life = if (s.lane x).rc.powered then 1 else (s.lane x).ls.life := by
  have hbegun := State.begunTo_transitionBegun h old 1 seq
  rw [State.transition_factory]
  generalize s.transitionBegun old 1 seq = t at hbegun ⊢
  by_cases hold : old = 0
  · rw [if_pos hold, State.configWrite_of_powered (hbegun.powered.trans h)]
    exact ⟨rfl, rfl, rfl, fun hne => absurd hold hne, hbegun.life⟩
  · obtain ⟨hkey, hpowered, hlane⟩ := hbegun.erased h
    generalize t.endCycles.erase = u at hkey hpowered hlane
    rw [if_neg hold, State.configWrite_of_powered hpowered]
    refine ⟨rfl, rfl, rfl, fun _ => ⟨hkey, fun x => ?_⟩, fun x => ?_⟩
    · obtain ⟨hslot0, -⟩ := hlane x
      exact hslot0
    · obtain ⟨-, -, -, -, -, hlife⟩ := hlane x
      exact hlife

theorem State.transition_into_retired {s : State} (h : s.ph.powered = true) (old seq : Nat) :
    (s.transition old 5 seq).cfg.retired = true ∧ (s.transition old 5 seq).cfg.key = none ∧
      ∀ x, ((s.transition old 5 seq).lane x).ls.slot0 = ImageSlot.reset ∧ ((s.transition old 5 seq).lane x).ls.slot1 = ImageSlot.reset ∧
        ((s.transition old 5 seq).lane x).ls.snap0 = none ∧ ((s.transition old 5 seq).lane x).ls.snap1 = none ∧
        ((s.transition old 5 seq).lane x).ls.floor = 0 ∧
        ((s.transition old 5 seq).lane x).ls.life = if (s.lane x).rc.powered then 5 else (s.lane x).ls.life := by
  have hbegun := State.begunTo_transitionBegun h old 5 seq
  rw [State.transition_retired]
  generalize s.transitionBegun old 5 seq = t at hbegun ⊢
  obtain ⟨hkey, -, hlane⟩ := hbegun.erased h
  generalize t.endCycles.erase = u at hkey hlane
  exact ⟨rfl, hkey, hlane⟩

/-- A transition that an agreed request brings while the MRAM's rail is up. -/
theorem exec_transitionApply_of_powered {s : State} {p : Pending} {rest : List Pending} (hdue : s.due 0x10 = p :: rest) (h : s.ph.powered = true)
    {old new : Nat} (hold : getByte (slice p.bytes 128 4) 2 = old) (hnew : getByte (slice p.bytes 128 4) 3 = new) :
    ∃ t, exec .transitionApply s = .next t ∧ t.cfg = (s.transition old new p.logSeq).cfg ∧
      ∀ x, t.lane x = (s.transition old new p.logSeq).lane x := by
  obtain ⟨-, hcfg, hlane⟩ := State.applied_keeps (s.transition old new p.logSeq) p
  refine ⟨(s.transition old new p.logSeq).applied p, ?_, hcfg, hlane⟩
  rw [exec_transitionApply_of_due hdue, h, hold, hnew]
  rfl

/-! ## O38 -/

/-- Settles O38: a change by `exec_changeApply_of_single`, a mirrored one by `exec_sleeperChangeApply_of_sleeper`, a fault reset by what clearing a lane's codes
and latches keeps, clears and drives, a setting and a transition by what they write while the MRAM's rail is up. -/
theorem agreedRequestsTakeEffect : Obligations.AgreedRequestsTakeEffect := by
  unfold Obligations.AgreedRequestsTakeEffect
  intro s p
  refine ⟨fun hpend hf hnew => ?_, fun hrole => ?_, fun rest hdue => ?_, fun rest hdue hp hcount hkind => ?_, fun rest hdue hp => ?_,
    fun rest hdue hp => ?_, fun rest old new hdue hp hold hnew => ⟨fun h1 h5 => ?_, fun h1 => ?_, fun h5 => ?_⟩⟩
  · obtain ⟨t, hexec, hbasin, hcfg, hlane⟩ := exec_changeApply_of_single hpend hf hnew
    refine ⟨t, hexec, hbasin, hcfg, fun x => ?_⟩
    rw [hlane x, Lane.changed, Lane.changesFor]
    refine ⟨fun ⟨hserv, hfreeze, happly, hacc⟩ => ?_, fun hout => if_neg ?_⟩
    · rw [if_pos (by simp [Lane.inService, hserv, hfreeze, happly, hacc]), Lane.applyRequest_pe]
    · rcases hout with hserv | hacc
      · simp [Lane.inService, hserv]
      · simp [hacc]
  · obtain ⟨t, hexec, hbasin, hcfg, hlane⟩ := exec_sleeperChangeApply_of_sleeper hrole
    refine ⟨t, hexec, hbasin, hcfg, fun x a b hserv hfreeze hmirror => ?_⟩
    have hdue : (s.lane x).mirrorDue = some (a, b) := by rw [Lane.mirrorDue, if_pos (by simp [Lane.inService, hserv, hfreeze]), hmirror]
    rw [hlane x, Lane.mirrorChanged, hdue]
    exact ⟨Lane.applyRequest_pe _ _ _, rfl⟩
  · set mask := BitVec.ofNat 4 (getBE p.bytes 132 4) with hmask
    obtain ⟨hbasin, hcfg, hlane⟩ := State.applied_keeps (s.mapLanes (fun x l => l.faultCleared x mask s.sleeps)) p
    refine ⟨_, exec_faultResetApply_of_due hdue, hbasin, hcfg, fun x => ?_⟩
    rw [← hmask, hlane x, State.lane_mapLanes]
    obtain ⟨hpe, hvt, -⟩ := (s.lane x).faultCleared_keeps x mask s.sleeps
    obtain ⟨hcnt, hfault, hcause, hlatched⟩ := (s.lane x).faultCleared_clears x mask s.sleeps
    exact ⟨hcnt, hpe, hvt, hfault, hcause, hlatched, (s.lane x).faultCleared_still x mask s.sleeps,
      (s.lane x).faultCleared_drives x mask s.sleeps⟩
  · obtain ⟨hbasin, hlanes, hset⟩ := State.applySetting_domain hp hkind
    obtain ⟨kbasin, -, klane⟩ := State.applied_keeps (s.applySetting (itemBytes p.bytes 0)) p
    refine ⟨(s.applySetting (itemBytes p.bytes 0)).applied p, ?_, kbasin.trans hbasin, ?_, (State.settings_applied _ p).trans hset⟩
    · rw [exec_settingsApply_of_due hdue, hp, hcount]
      rfl
    · rw [State.applied_only]
      exact hlanes
  · rw [exec_settingsApply_of_due hdue, hp]
    rfl
  · rw [exec_transitionApply_of_due hdue, hp]
    rfl
  · exact exec_transitionApply_running hdue hp hold hnew h1 h5
  · subst h1
    obtain ⟨t, hexec, hcfg, hlane⟩ := exec_transitionApply_of_powered hdue hp hold hnew
    refine ⟨t, hexec, ?_⟩
    simp only [hcfg, hlane]
    exact State.transition_into_factory hp old p.logSeq
  · subst h5
    obtain ⟨t, hexec, hcfg, hlane⟩ := exec_transitionApply_of_powered hdue hp hold hnew
    refine ⟨t, hexec, ?_⟩
    simp only [hcfg, hlane]
    exact State.transition_into_retired hp old p.logSeq

end Sys2Proof.Machine

/-! PROOF. The restart decision (R110 to R115, R121): its table on three lanes' findings, what a unit start leaves in the lanes it starts, and the lanes that
refuse their image. -/

namespace Sys2Proof.Machine

/-! ## The decision table (R113, R114, Table 5-2) -/

theorem decideRestart_of_request (m : Image) (fs : List Findings) : decideRestart m 6 fs = .cold 1 := if_pos rfl

theorem decideRestart_of_few (m : Image) {kind : Nat} {fs : List Findings} (hk : kind ≠ 6) (h : fs.length < 3) : decideRestart m kind fs = .cold 2 := by
  rw [decideRestart, if_neg hk, if_pos h]

theorem decideRestart_of_no_common {m : Image} {kind : Nat} {fs : List Findings} (hk : kind ≠ 6) (hlen : 3 ≤ fs.length) (hm : m.retained.length ≤ 131008)
    (h : newestCommon fs = none) : decideRestart m kind fs = .cold 3 := by
  rw [decideRestart, if_neg hk, if_neg (by omega), if_neg (by omega), h]

/-- A cycle of the newest common snapshot stands in every lane's findings. -/
theorem newestCommon_some {f : Findings} {rest : List Findings} {c : Nat} (h : newestCommon (f :: rest) = some c) :
    (∃ p, (c, p) ∈ f.snaps) ∧ ∀ g ∈ rest, (Findings.at g c).isSome = true := by
  obtain ⟨q, hq, hc⟩ := List.mem_map.1 (List.mem_of_find?_eq_some h)
  exact ⟨⟨q.2, by rw [← hc]; exact hq⟩, List.all_eq_true.1 (List.find?_some (p := fun c => rest.all fun g => (Findings.at g c).isSome) h)⟩

theorem newestCommon_none {f g h : Findings} (hnone : ∀ c p, (c, p) ∈ f.snaps → Findings.at g c = none ∨ Findings.at h c = none) :
    newestCommon [f, g, h] = none := by
  refine List.find?_eq_none.2 fun c hc => ?_
  obtain ⟨q, hq, rfl⟩ := List.mem_map.1 hc
  rcases hnone q.1 q.2 hq with hat | hat <;> simp [hat]

theorem Findings.at_isSome_of_mem {f : Findings} {c : Nat} {p : List Byte × Nat × List Byte} (h : (c, p) ∈ f.snaps) : (Findings.at f c).isSome = true := by
  unfold Findings.at
  rw [Option.isSome_map, List.find?_isSome]
  exact ⟨_, h, beq_self_eq_true c⟩

/-- What a warm decision rests on, whatever the lanes are. -/
theorem decideRestart_warm {m : Image} {kind : Nat} {fs : List Findings} {c a : Nat} (h : decideRestart m kind fs = .warm c a) :
    newestCommon fs = some c ∧ a = (fs.map (fun f => Findings.age f c m.tCycle)).foldl max 0 ∧ a < m.retainAge * 1000 ∧
      (∀ f ∈ fs, f.invalid = false) ∧
      ∀ p ∈ fs.filterMap (fun f => Findings.at f c), (fs.filterMap (fun f => Findings.at f c)).head?.map (·.1) = some p.1 ∧ p.2 = (m.issue, m.digest) := by
  unfold decideRestart at h
  cases hcommon : newestCommon fs with
  | none =>
    rw [hcommon] at h
    split_ifs at h
  | some c' =>
    rw [hcommon] at h
    dsimp only at h
    split_ifs at h with _ _ _ hvalues hinvalid hage himage
    cases h
    simp only [Bool.not_eq_true, Bool.not_eq_false', List.all_eq_true, beq_iff_eq, Bool.and_eq_true, List.any_eq_true, not_exists, not_and] at hvalues hinvalid himage
    refine ⟨rfl, rfl, by omega, hinvalid, fun p hp => ⟨hvalues p hp, ?_⟩⟩
    obtain ⟨hissue, hdigest⟩ := himage p hp
    exact Prod.ext hissue hdigest

/-- A warm start's snapshot on three lanes: complete in all, with one value digest, under the running image. -/
theorem decideRestart_warm_three {m : Image} {kind : Nat} {f g h : Findings} {c a : Nat} (hwarm : decideRestart m kind [f, g, h] = .warm c a) :
    ∃ p q r, Findings.at f c = some p ∧ Findings.at g c = some q ∧ Findings.at h c = some r ∧ p.1 = q.1 ∧ q.1 = r.1 ∧
      p.2 = (m.issue, m.digest) ∧ q.2 = (m.issue, m.digest) ∧ r.2 = (m.issue, m.digest) := by
  obtain ⟨hcommon, -, -, -, hfound⟩ := decideRestart_warm hwarm
  obtain ⟨⟨p0, hmem⟩, hrest⟩ := newestCommon_some hcommon
  obtain ⟨p, hp⟩ := Option.isSome_iff_exists.1 (Findings.at_isSome_of_mem hmem)
  obtain ⟨q, hq⟩ := Option.isSome_iff_exists.1 (hrest g (by simp))
  obtain ⟨r, hr⟩ := Option.isSome_iff_exists.1 (hrest h (by simp))
  have hlist : [f, g, h].filterMap (fun f => Findings.at f c) = [p, q, r] := by simp [hp, hq, hr]
  simp only [hlist, List.head?_cons, Option.map_some, Option.some.injEq, List.forall_mem_cons] at hfound
  obtain ⟨⟨-, hpm⟩, ⟨hpq, hqm⟩, ⟨hpr, hrm⟩, -⟩ := hfound
  exact ⟨p, q, r, hp, hq, hr, hpq, hpq.symm.trans hpr, hpm, hqm, hrm⟩

/-! ## The command, whatever it finds -/

theorem exec_restartDecision_next (s : State) : ∃ t, exec .restartDecision s = .next t := by
  change ∃ t, execRestartDecision s = .next t
  unfold execRestartDecision
  split
  · exact ⟨_, rfl⟩
  extract_lets ready u xs out v
  cases xs with
  | nil => exact ⟨_, rfl⟩
  | cons p rest =>
    dsimp only
    split
    · exact ⟨_, rfl⟩
    · split <;> exact ⟨_, rfl⟩

/-- A lane without a marked slot starts from the slot it has (R356). -/
theorem Lane.startSlot_of_unmarked {l : Lane} (h : l.ls.marked = none) : l.startSlot = l := by
  unfold Lane.startSlot
  rw [h, Option.getD_none, ← h]

theorem State.modLane_fixed {s : State} {x : LaneId} {f : Lane → Lane} (h : f (s.lane x) = s.lane x) : s.modLane x f = s :=
  (State.modLane_congr (g := id) h).trans (by cases x <;> rfl)

theorem State.foldl_modLane_fixed {s : State} {f : Lane → Lane} (h : ∀ x, f (s.lane x) = s.lane x) (xs : List LaneId) :
    xs.foldl (fun s x => s.modLane x f) s = s := by
  induction xs with
  | nil => rfl
  | cons x xs ih => rw [List.foldl_cons, State.modLane_fixed (h x), ih]

/-! ## Lanes that refuse their image (R52) -/

/-- What a lane that refuses its image leaves: its active slot empty with the code, and the record. -/
def Lane.startRefused (l : Lane) (x : LaneId) (code idx : Nat) : Lane :=
  let slot := { l.activeSlot with mark := .empty, code := code }
  let ls := if l.ls.active then { l.ls with slot1 := slot } else { l.ls with slot0 := slot }
  { l with ls := ls }.imageRefused x code idx l.activeSlot.file

theorem State.noteStart_of_error {s : State} {x : LaneId} {e : Nat × Nat} (h : loadImage (s.loadEnv x) (s.lane x).activeSlot.file = .error e) :
    s.noteStart x = s.modLane x (fun l => l.startRefused x e.1 e.2) := by
  unfold State.noteStart
  rw [h]
  rfl

theorem Lane.startRefused_spec (l : Lane) (x : LaneId) (code idx : Nat) :
    (l.startRefused x code idx).vt = l.vt ∧ (l.startRefused x code idx).activeSlot.mark = .empty ∧ (l.startRefused x code idx).activeSlot.code = code := by
  refine ⟨rfl, ?_⟩
  cases h : l.ls.active <;> simp [Lane.startRefused, Lane.imageRefused, Lane.log, Lane.activeSlot, h]

/-- Each lane notes its own image: the others' load environments and files stay as they are. -/
theorem State.foldl_noteStart_of_errors {s : State} {codes : LaneId → Nat × Nat}
    (h : ∀ x, loadImage (s.loadEnv x) (s.lane x).activeSlot.file = .error (codes x)) :
    LaneId.list.foldl (fun s x => s.noteStart x) s = s.mapLanes (fun x l => l.startRefused x (codes x).1 (codes x).2) := by
  simp only [LaneId.list, List.foldl_cons, List.foldl_nil]
  rw [State.noteStart_of_error (h .a), State.noteStart_of_error (x := .b) (by exact h .b), State.noteStart_of_error (x := .c) (by exact h .c)]
  rfl

theorem State.ready_of_all {s : State} (h : ∀ x, s.mayStart x = true) : LaneId.list.filter s.mayStart = LaneId.list :=
  List.filter_eq_self.2 fun x _ => h x

theorem State.foldl_startSlot_of_unmarked {s : State} (h : ∀ x, (s.lane x).ls.marked = none) (xs : List LaneId) :
    xs.foldl (fun s x => s.modLane x Lane.startSlot) s = s :=
  State.foldl_modLane_fixed (fun x => Lane.startSlot_of_unmarked (h x)) xs

theorem State.foldl_sendFindings (s : State) :
    LaneId.list.foldl (fun s y => s.emit (.verdict y (.findings (s.lane y).findings))) s =
      { s with sent := s.sent ++ LaneId.list.map (fun y => .verdict y (.findings (s.lane y).findings)) } := by
  simp only [LaneId.list, List.foldl_cons, List.foldl_nil, State.emit, List.append_assoc, List.map_cons, List.map_nil, List.cons_append, List.nil_append]
  rfl

/-- What the decision leaves where all three lanes start with one image in voting mode. -/
def State.threeStarted (s : State) (m : Image) (r : Restart) : State :=
  let s := (s.startLanes (LaneId.list.map (·, m)) r .inService).noteRestart LaneId.list r
  { s with unit := { s.unit with restarted := true, twoLane := false, rot := { Rotation.reset with since := s.tideMs } } }

section
variable {s : State} (hnew : s.unit.restarted = false) (hrole : s.unit.role = .starting) (hruns : s.cyclesRun = false)
  (hready : ∀ x, s.mayStart x = true) (hmarked : ∀ x, (s.lane x).ls.marked = none)
include hnew hrole hruns hready hmarked

/-- Where no lane may start with its image, each notes why. -/
theorem exec_restartDecision_of_no_starter (hxs : s.starters = []) :
    exec .restartDecision s = .next (LaneId.list.foldl (fun s x => s.noteStart x) s) := by
  have hguard : (s.unit.restarted || s.unit.role != .starting || s.cyclesRun) = false := by simp [hnew, hrole, hruns]
  change execRestartDecision s = _
  simp only [execRestartDecision, hguard, State.ready_of_all hready, State.foldl_startSlot_of_unmarked hmarked, hxs]
  rfl

theorem exec_restartDecision_of_three {m : Image} (hxs : s.starters = LaneId.list.map (·, m)) (hvoting : (s.lane .a).rc.opts.voting = true) :
    ∃ es r, exec .restartDecision s = .next (State.threeStarted { s with sent := es } m r).joinOthers.openRings := by
  have hguard : (s.unit.restarted || s.unit.role != .starting || s.cyclesRun) = false := by simp [hnew, hrole, hruns]
  have hnames : (LaneId.list.map (·, m)).map (·.1) = LaneId.list := rfl
  have hnone : LaneId.list.filter (fun x => !LaneId.list.contains x) = [] := rfl
  refine ⟨s.sent ++ LaneId.list.map (fun y => .verdict y (.findings (s.lane y).findings)),
    decideRestart m s.unit.startKind (LaneId.list.map (fun y => (s.unit.findings.get y).getD (s.lane y).findings)), ?_⟩
  change execRestartDecision s = _
  simp only [execRestartDecision, hguard, State.ready_of_all hready, State.foldl_startSlot_of_unmarked hmarked, hxs, hnames, hnone, List.foldl_nil,
    State.foldl_sendFindings]
  simp only [LaneId.list, List.map_cons, List.map_nil, hvoting]
  rfl

end

/-! ## Which lanes start (Table 2-12, R121) -/

theorem State.startImage_of_ok {s : State} {x : LaneId} {m : Image} (h : loadImage (s.loadEnv x) (s.lane x).activeSlot.file = .ok m) :
    s.startImage x = some m := by
  rw [State.startImage, h]

theorem State.startImage_of_error {s : State} {x : LaneId} {e : Nat × Nat} (h : loadImage (s.loadEnv x) (s.lane x).activeSlot.file = .error e) :
    s.startImage x = none := by
  rw [State.startImage, h]

theorem State.starters_of_images {s : State} {m : Image} (hready : ∀ x, s.mayStart x = true) (himage : ∀ x, s.startImage x = some m)
    (hoverlay : s.cfg.overlayOk m = true) : s.starters = LaneId.list.map (·, m) := by
  simp only [State.starters, State.ready_of_all hready, himage, hoverlay]
  rfl

theorem State.starters_of_none {s : State} (h : ∀ x, s.startImage x = none) : s.starters = [] := by
  simp [State.starters, h]

theorem State.mayStart_reset {s : State} {x : LaneId} (h : s.mayStart x = true) : (s.lane x).vt.state = .reset := by
  simp only [State.mayStart, Bool.and_eq_true, beq_iff_eq] at h
  tauto

/-! ## A lane that starts (R111, R112) -/

theorem Lane.sessionRecords_only (l : Lane) (m : Image) : l.sessionRecords m = { l with mb := (l.sessionRecords m).mb } := by
  refine foldl_rel (R := fun l k : Lane => k = { l with mb := k.mb }) (fun _ => rfl) (fun h k => by rw [k, h]) (fun l e => ?_) _ l
  unfold Lane.stateRecord
  split <;> rfl

theorem Lane.image?_activate (l : Lane) (m : Image) : (l.activate m).image? = some m := by
  cases h : l.ls.active <;> simp [Lane.activate, Lane.image?, Lane.activeSlot, h]

/-- A lane that starts runs its image, its I/O, sessions and forces as after a unit start. -/
theorem Lane.start_spec (l : Lane) (m : Image) (consts : Table 32) (r : Restart) (state : LaneState) (mask : Mask) :
    (l.start m consts r state mask).vt.state = state ∧ (l.start m consts r state mask).vt.mask = mask ∧
      (l.start m consts r state mask).image? = some m ∧ (l.start m consts r state mask).pe.forces = [] ∧
      (l.start m consts r state mask).pe.consts = consts ∧ (l.start m consts r state mask).io = LaneIO.reset ∧
      (l.start m consts r state mask).ts = Sessions.started m ∧
      (l.start m consts r state mask).pe.cur = (l.start m consts r state mask).pe.next := by
  refine ⟨rfl, rfl, ?_, rfl, rfl, rfl, rfl, rfl⟩
  change ((l.activate m).sessionRecords m).image? = _
  rw [Lane.sessionRecords_only]
  exact l.image?_activate m

/-! ## The lanes of the unit start -/

theorem State.lane_startLanes (s : State) (m : Image) (r : Restart) (x : LaneId) :
    (s.startLanes (LaneId.list.map (·, m)) r .inService).lane x =
      (s.lane x).start m (s.cfg.startConsts m) r .inService (PerLane.all true) := by
  unfold State.startLanes State.lane
  dsimp only
  rw [State.maskNotice_lanes]
  cases x <;> rfl

theorem State.lane_noteRestart (s : State) (xs : List LaneId) (r : Restart) (x : LaneId) :
    ∃ mb, (s.noteRestart xs r).lane x = { s.lane x with mb := mb } := by
  obtain ⟨p, n, hnote⟩ : ∃ p n, s.noteRestart xs r = (xs.foldl (fun s x => s.modLane x (fun l => l.logUnit 0x0501 1 p)) s).notice 4 n := by
    cases r <;> exact ⟨_, _, rfl⟩
  obtain ⟨-, hlane⟩ : s.recordsOnly (xs.foldl (fun s x => s.modLane x (fun l => l.logUnit 0x0501 1 p)) s) :=
    foldl_rel State.recordsOnly_refl State.recordsOnly.trans (fun s x => s.recordsOnly_modLane x fun _ => rfl) xs s
  rw [hnote, State.lane_notice]
  exact ⟨_, hlane x⟩

/-- No lane joins a unit whose lanes are all in service. -/
theorem State.joinOthers_of_service {s : State} (h : ∀ x, (s.lane x).vt.state = .inService) : s.joinOthers = s := by
  unfold State.joinOthers
  refine List.foldlRecOn (motive := fun t => t = s) _ _ rfl fun t ht x _ => ?_
  subst ht
  have hstay : (t.lane x).beginResync t.tideMs = t.lane x := if_pos (by simp [h x])
  dsimp only
  split
  · exact State.modLane_fixed hstay
  · rfl

/-! ## The rings at a unit start -/

/-- The lanes and the unit's own state are as before. -/
def State.lanesAndUnit (s : State) : PerLane Lane × UnitState := (s.lanes, s.unit)

theorem State.sends.lanesAndUnit {s t : State} (h : s.sends t) : t.lanesAndUnit = s.lanesAndUnit := by
  obtain ⟨es, h⟩ := h
  exact Prod.ext h.lanes h.unit

theorem State.sends_sendSide (s : State) (r : Nat) (side : Side) (ty dst : Nat) (body : List Byte) (at_ : Option Int) :
    s.sends (s.sendSide r side ty dst body at_) :=
  .ite ((s.sendsOnly_modRing r _).sends.trans (State.sendsOnly_emit _ _).sends) s.sends_refl

theorem State.echoNodes_lanesAndUnit (s : State) (r : Nat) : (s.echoNodes r).lanesAndUnit = s.lanesAndUnit := by
  refine foldl_keeps State.lanesAndUnit _ (fun s a => ?_) _ s
  exact ((s.sendsOnly_modRing r _).sends.trans ((State.sends_sendSide ..).trans (State.sends_sendSide ..))).lanesAndUnit

theorem State.leadRing_lanesAndUnit (s : State) (r : Nat) : (s.leadRing r).lanesAndUnit = s.lanesAndUnit := by
  unfold State.leadRing
  split
  · rfl
  · split
    · rfl
    · dsimp only
      split
      · exact State.echoNodes_lanesAndUnit _ r
      · rfl
    · rfl

theorem State.openRing_lanesAndUnit (s : State) (r : Nat) : (s.openRing r).lanesAndUnit = s.lanesAndUnit := by
  have hlead : ∀ u : State, (if u.leads then u.leadRing r else u).lanesAndUnit = u.lanesAndUnit := fun u => by
    split
    · exact u.leadRing_lanesAndUnit r
    · rfl
  unfold State.openRing
  split
  · rfl
  · exact hlead _
  · exact hlead _

theorem State.judgeSfps_lanesAndUnit (s : State) : s.judgeSfps.lanesAndUnit = s.lanesAndUnit :=
  foldl_keeps State.lanesAndUnit _ (fun s p => by dsimp only; split_ifs <;> rfl) _ s

theorem State.openRings_lanesAndUnit (s : State) : s.openRings.lanesAndUnit = s.lanesAndUnit := by
  unfold State.openRings
  generalize List.range 4 = rings
  split
  · rfl
  · split
    · exact foldl_keeps State.lanesAndUnit (fun s r => s.modRing r Ring.toPass) (fun _ _ => rfl) rings s
    · exact (foldl_keeps State.lanesAndUnit State.openRing State.openRing_lanesAndUnit rings _).trans s.judgeSfps_lanesAndUnit

/-- The unit start with the three lanes in service: what the decision leaves in the unit and in each lane. -/
theorem State.threeStarted_opened (s : State) (m : Image) (r : Restart) :
    ((s.threeStarted m r).joinOthers.openRings).unit.restarted = true ∧ ((s.threeStarted m r).joinOthers.openRings).unit.twoLane = false ∧
      ∀ x, ∃ mb, ((s.threeStarted m r).joinOthers.openRings).lane x =
        { (s.lane x).start m (s.cfg.startConsts m) r .inService (PerLane.all true) with mb := mb } := by
  have hlane : ∀ x, ∃ mb, (s.threeStarted m r).lane x =
      { (s.lane x).start m (s.cfg.startConsts m) r .inService (PerLane.all true) with mb := mb } := fun x => by
    rw [← s.lane_startLanes m r x]
    exact State.lane_noteRestart _ LaneId.list r x
  have hservice : ∀ x, ((s.threeStarted m r).lane x).vt.state = .inService := fun x => by
    obtain ⟨mb, hx⟩ := hlane x
    rw [hx]
    rfl
  have hopen := (s.threeStarted m r).openRings_lanesAndUnit
  rw [State.joinOthers_of_service hservice]
  have hunit : (s.threeStarted m r).openRings.unit = (s.threeStarted m r).unit := congrArg Prod.snd hopen
  have hlanes : (s.threeStarted m r).openRings.lanes = (s.threeStarted m r).lanes := congrArg Prod.fst hopen
  refine ⟨by rw [hunit]; rfl, by rw [hunit]; rfl, fun x => ?_⟩
  rw [State.lane, hlanes]
  exact hlane x

/-! ## O34 -/

/-- Settles O34: the table by what a warm decision rests on; the start by the two forms of the command, where all three lanes start with one image and where all
refuse theirs. -/
theorem restartDecisionStartsTheLanes : Obligations.RestartDecisionStartsTheLanes := by
  unfold Obligations.RestartDecisionStartsTheLanes
  refine ⟨fun m kind f g h hm => ⟨decideRestart_of_request m _, fun hk => decideRestart_of_few m hk (by simp),
    fun hk hnone => decideRestart_of_no_common hk (by simp) hm (newestCommon_none hnone), fun c a hwarm => ?_⟩, fun s => ⟨fun x hp hout => ?_,
    fun x hx => ?_, fun hnew hrole hruns => ?_⟩⟩
  · obtain ⟨-, hage, hlimit, hvalid, -⟩ := decideRestart_warm hwarm
    obtain ⟨p, q, r, hp, hq, hr, hpq, hqr, hpm, hqm, hrm⟩ := decideRestart_warm_three hwarm
    refine ⟨p, q, r, hp, hq, hr, hpq, hqr, hpm, hqm, hrm, hvalid f (by simp), hvalid g (by simp), hvalid h (by simp), ?_, hlimit⟩
    simpa [max_assoc] using hage
  · exact if_neg (by simp [hp, hout])
  · exact if_pos (by simpa using hx)
  · obtain ⟨t, hexec⟩ := exec_restartDecision_next s
    refine ⟨t, hexec, fun m hstart hoverlay => ?_, fun codes hrefuse => ?_⟩
    · obtain ⟨hready, hmarked, hvoting, himage⟩ : (∀ x, s.mayStart x = true) ∧ (∀ x, (s.lane x).ls.marked = none) ∧
          (∀ x, (s.lane x).rc.opts.voting = true) ∧ ∀ x, loadImage (s.loadEnv x) (s.lane x).activeSlot.file = .ok m := by
        simpa only [forall_and] using hstart
      have hstarters := s.starters_of_images hready (fun x => State.startImage_of_ok (himage x)) (by simp [Config.overlayOk, hoverlay])
      obtain ⟨es, r, hthree⟩ := exec_restartDecision_of_three hnew hrole hruns hready hmarked hstarters (hvoting .a)
      cases hexec.symm.trans hthree
      obtain ⟨hrestarted, htwo, hlane⟩ := State.threeStarted_opened { s with sent := es } m r
      refine ⟨hrestarted, htwo, fun x => ?_⟩
      obtain ⟨mb, hx⟩ := hlane x
      have hconsts : s.cfg.startConsts m = m.consts := if_neg hoverlay
      rw [hx]
      have hspec := (s.lane x).start_spec m (s.cfg.startConsts m) r .inService (PerLane.all true)
      rw [hconsts] at hspec ⊢
      exact hspec
    · obtain ⟨hready, hmarked, himage⟩ : (∀ x, s.mayStart x = true) ∧ (∀ x, (s.lane x).ls.marked = none) ∧
          ∀ x, loadImage (s.loadEnv x) (s.lane x).activeSlot.file = .error (codes x) := by
        simpa only [forall_and] using hrefuse
      have hstarters := s.starters_of_none fun x => State.startImage_of_error (himage x)
      cases hexec.symm.trans (exec_restartDecision_of_no_starter hnew hrole hruns hready hmarked hstarters)
      rw [State.foldl_noteStart_of_errors himage]
      refine ⟨hnew, fun x => ?_⟩
      obtain ⟨hvt, hmark, hcode⟩ := (s.lane x).startRefused_spec x (codes x).1 (codes x).2
      rw [State.lane_mapLanes, hvt]
      exact ⟨State.mayStart_reset (hready x), hmark, hcode⟩

end Sys2Proof.Machine

/-! PROOF. The decision of a lane (R133, R134, Table 6-5): what a peer's gauge counts as, and the outcome by the lane's mask. -/

namespace Sys2Proof.Machine

/-! ## A peer's gauge against the lane's own (R132) -/

section
variable {v : Vote} {own : BitVec 128} {y z : LaneId} {g h : GaugeMsg}

theorem Vote.against_of_none (hg : v.got.get y = none) : v.against own y = .missing := by
  simp [Vote.against, hg]

theorem Vote.against_of_equal (hy : v.disagree.get y = 0) (hg : v.got.get y = some g) (he : g.gauge = own) : v.against own y = .equal := by
  simp [Vote.against, hg, hy, he]

theorem Vote.against_of_different (hy : v.disagree.get y = 0) (hg : v.got.get y = some g) (he : g.gauge ≠ own) : v.against own y = .different := by
  simp [Vote.against, hg, hy, he]

theorem Vote.against_eq_equal_iff (hy : v.disagree.get y = 0) : v.against own y = .equal ↔ ∃ g, v.got.get y = some g ∧ g.gauge = own := by
  cases hg : v.got.get y with
  | none => simp [Vote.against_of_none hg]
  | some g =>
    by_cases he : g.gauge = own
    · simp [Vote.against_of_equal hy hg he, he]
    · simp [Vote.against_of_different hy hg he, he]

theorem Vote.peersEqual_of_some (hy : v.disagree.get y = 0) (hz : v.disagree.get z = 0) (hg : v.got.get y = some g) (hh : v.got.get z = some h) :
    v.peersEqual y z = decide (g.gauge = h.gauge) := by
  simp [Vote.peersEqual, hg, hh, hy, hz]

end

/-! ## Table 6-5 -/

section
variable {xy xz : Against} {yz : Bool} {y z : LaneId}

theorem decideThree_of_left (hxy : xy = .equal) (hxz : xz ≠ .equal) : decideThree xy xz yz y z = .continue_ (some z) := by
  subst hxy
  cases xz with
  | equal => exact absurd rfl hxz
  | different => rfl
  | missing => rfl

theorem decideThree_of_right (hxy : xy ≠ .equal) (hxz : xz = .equal) : decideThree xy xz yz y z = .continue_ (some y) := by
  subst hxz
  cases xy with
  | equal => exact absurd rfl hxy
  | different => rfl
  | missing => rfl

theorem decideThree_of_missing (hxy : xy ≠ .equal) (hxz : xz ≠ .equal) (hmiss : xy = .missing ∨ xz = .missing) :
    decideThree xy xz yz y z = .stop 3 := by
  rcases hmiss with rfl | rfl
  · cases xz with
    | equal => exact absurd rfl hxz
    | different => rfl
    | missing => rfl
  · cases xy with
    | equal => exact absurd rfl hxy
    | different => rfl
    | missing => rfl

end

/-! ## The decision by the mask -/

theorem Vote.decide3_of_two {v : Vote} {x y z : LaneId} (own : BitVec 128) (hm : v.inMask x = [y, z]) :
    v.decide3 x own = decideThree (v.against own y) (v.against own z) (v.peersEqual y z) y z := by
  simp [Vote.decide3, hm]

/-- A lane with one peer, where neither disagrees in rate or offset, decides by the peer's gauge alone. -/
theorem Vote.decide3_of_one {v : Vote} {x y : LaneId} (own : BitVec 128) (hm : v.inMask x = [y]) (hx : v.disagree.get x = 0) (hy : v.disagree.get y = 0) :
    v.decide3 x own = decideTwo (v.against own y) 0 := by
  simp [Vote.decide3, hm, hx, hy]

theorem Vote.decide3_of_alone {v : Vote} {x : LaneId} (own : BitVec 128) (hm : v.inMask x = []) : v.decide3 x own = .stop 4 := by
  simp [Vote.decide3, hm]

/-- Settles O16: Table 6-5 in a mask of three, R134 in a mask of two and alone. -/
theorem decisionsFollowTheMask : Obligations.DecisionsFollowTheMask := by
  refine ⟨fun v x y z own hm hy hz => ?_, fun v x y own hm hx hy => ?_⟩
  · dsimp only
    rw [Vote.decide3_of_two own hm, ← Vote.against_eq_equal_iff hy, ← Vote.against_eq_equal_iff hz]
    refine ⟨fun ey ez => by rw [ey, ez]; rfl, decideThree_of_left, decideThree_of_right, fun g h hg hh ng nh heq => ?_, fun g h hg hh ng nh hne => ?_,
      fun ny nz hmiss => decideThree_of_missing ny nz (hmiss.imp Vote.against_of_none Vote.against_of_none)⟩
    · rw [Vote.against_of_different hy hg ng, Vote.against_of_different hz hh nh, Vote.peersEqual_of_some hy hz hg hh]
      exact if_pos (decide_eq_true heq)
    · rw [Vote.against_of_different hy hg ng, Vote.against_of_different hz hh nh, Vote.peersEqual_of_some hy hz hg hh]
      exact if_neg (by simpa using hne)
  · rw [Vote.decide3_of_one own hm hx hy]
    exact ⟨fun g hg he => by rw [Vote.against_of_equal hy hg he]; rfl, fun g hg he => by rw [Vote.against_of_different hy hg he]; rfl,
      fun hn => by rw [Vote.against_of_none hn]; rfl, fun w hw => Vote.decide3_of_alone own hw⟩

end Sys2Proof.Machine

/-! PROOF. The rotation of the lanes (R154 to R157): a rotation due, deferred and begun, and the end of a lane's rotation tests. -/

namespace Sys2Proof.Machine

/-! ## The reset that comes before the tests (R156, R321) -/

theorem State.pendingReset_of_none {s : State} {x : LaneId} (h : (s.lane x).rc.resetReq = none) : s.pendingReset x = s := by
  simp [State.pendingReset, h]

theorem State.pendingReset_of_some {s : State} {x : LaneId} {source : Nat} (h : (s.lane x).rc.resetReq = some source) :
    s.pendingReset x = s.resetLane x source := by
  simp [State.pendingReset, h]

/-- A write to a lane's protected area leaves the rest of the lane. -/
theorem State.lane_areaWrite_self (s : State) (x : LaneId) (f : Sequencer → Sequencer) :
    ∃ ls, (s.areaWrite x f).lane x = { s.lane x with ls := ls } := by
  unfold State.areaWrite State.mramWrite
  split
  · exact ⟨_, s.lane_modLane_self x _⟩
  · exact ⟨_, rfl⟩

theorem State.lane_forgetLane_self (s : State) (x : LaneId) : (s.forgetLane x).lane x = s.lane x :=
  (s.lane_mapLanes x _).trans (if_pos rfl)

theorem State.lane_withLocks (s : State) (k : Locks) (x : LaneId) : State.lane { s with locks := k } x = s.lane x := rfl

/-- A lane after its reset, but for the count of it in its protected area. -/
theorem State.lane_resetOne_self (s : State) (x : LaneId) (source : Nat) :
    ∃ ls, (s.resetOne x source).lane x = { (s.lane x).resetBy source with ls := ls } := by
  unfold State.resetOne
  extract_lets s1 s2 l
  have h2 : s2.lane x = l := (State.lane_forgetLane_self _ x).trans ((s1.lane_withLocks _ x).trans (s.lane_modLane_self x _))
  rw [← h2]
  exact s2.lane_areaWrite_self x _

/-- A lane that is out of service has none to leave with its reset. -/
theorem State.resetLane_of_not_inService {s : State} {x : LaneId} (source : Nat) (h : (s.lane x).inService = false) :
    s.resetLane x source = s.resetOne x source := by
  simp [State.resetLane, h]

/-! ## The result of the tests (R156, Table 6-10) -/

theorem SelfTest.rotation_of_untested {b : SelfTest} (h : b.logic = 0) : b.rotation = none := by simp [SelfTest.rotation, h]

/-- With a reset the tests begin anew (R321). -/
theorem SelfTest.resetBy_logic (b : SelfTest) (bist : Bool) : (b.resetBy bist).logic = 0 := by
  unfold SelfTest.resetBy
  split <;> rfl

theorem State.rotation_resetLane {s : State} {x : LaneId} (source : Nat) (h : (s.lane x).inService = false) :
    ((s.resetLane x source).lane x).bi.rotation = none := by
  obtain ⟨ls, hls⟩ := s.lane_resetOne_self x source
  rw [s.resetLane_of_not_inService source h, hls]
  exact SelfTest.rotation_of_untested (SelfTest.resetBy_logic ..)

/-! ## The end of the tests (R156, R157) -/

/-- A lane whose rotation tests have failed with a result (R157). -/
def Lane.testsFailed (l : Lane) (x : LaneId) (r : Nat) : Lane :=
  { l with vt := { l.vt with state := .failed, rotLast := r } }.log x 0x0604 3 [{ l.vt with state := .failed, rotLast := r }.rotReg]

section
variable {s : State} {x : LaneId} (hstate : (s.lane x).vt.state = .rotationTest)
include hstate

theorem State.inService_of_rotationTest : (s.lane x).inService = false := by simp [Lane.inService, hstate]

/-- A reset that the withdrawal asked for is all that happens. -/
theorem exec_rotationTestsComplete_of_reset {source : Nat} (hreq : (s.lane x).rc.resetReq = some source) :
    exec (.rotationTestsComplete x) s = .next (s.resetLane x source) := by
  have hnone := s.rotation_resetLane source (s.inService_of_rotationTest hstate)
  simp [exec, execRotationTestsComplete, State.pendingReset_of_some hreq, hnone]

theorem exec_rotationTestsComplete_of_passed (hreq : (s.lane x).rc.resetReq = none) (hpass : (s.lane x).bi.rotation = some 1) :
    exec (.rotationTestsComplete x) s =
      .next ({ s with unit := { s.unit with rot := { s.unit.rot with state := 4 } } }.modLane x (fun l =>
        { l with bi := l.bi.newSlices,
                 vt := { l.vt.clearAttempt with state := .loading, rotLast := 1, attempt := 1, abortRun := 0, startMs := s.tideMs } })) := by
  simp [exec, execRotationTestsComplete, State.pendingReset_of_none hreq, hstate, hpass]

theorem exec_rotationTestsComplete_of_failed {r : Nat} (hreq : (s.lane x).rc.resetReq = none) (hfail : (s.lane x).bi.rotation = some r) (hr : r ≠ 1) :
    exec (.rotationTestsComplete x) s = .next ((s.modLane x (·.testsFailed x r)).endRotation x) := by
  simp [exec, execRotationTestsComplete, State.pendingReset_of_none hreq, hstate, hfail, Lane.testsFailed]

end

/-- The rotation of a lane that leaves is complete: the next one is that of the lane after it (R154). -/
theorem State.endRotation_unit {s : State} {x : LaneId} (h : s.unit.rot.leaving = some x) :
    (s.endRotation x).unit.rot.state = 0 ∧ (s.endRotation x).unit.rot.next = x.next := by
  simp [State.endRotation, h]

/-! ## Rotations due, deferred and begun (R154, R155, R156) -/

theorem exec_rotationDue_of_idle {s : State} (hrole : s.unit.role = .watcher ∨ s.unit.role = .sleeper) (hstate : s.unit.rot.state = 0)
    (hleaving : s.unit.rot.leaving = none) :
    exec .rotationDue s = .next { s with unit := { s.unit with rot :=
      { s.unit.rot with state := 1, defer := s.rotationDefer, checkAt := s.tideMs + 60000 } } } :=
  if_pos (by simp [State.leads, State.sleeps, hrole, hstate, hleaving])

theorem exec_rotationDeferCheck_of_due {s : State} (hstate : s.unit.rot.state = 1) :
    exec .rotationDeferCheck s = .next { s with unit := { s.unit with rot :=
      { s.unit.rot with defer := s.rotationDefer, checkAt := s.tideMs + 60000 } } } :=
  if_pos hstate

theorem exec_laneRotationStart_of_free {s : State} (hstate : s.unit.rot.state = 1) (hfree : s.rotationDefer = 0)
    (hserv : (s.lane s.unit.rot.next).vt.state = .inService) (hown : (s.lane s.unit.rot.next).vt.own = none)
    (hopen : (s.lane s.unit.rot.next).vt.committed ≠ some (s.lane s.unit.rot.next).td.cycle) :
    exec .laneRotationStart s = .next ({ s with unit := { s.unit with rot :=
      { s.unit.rot with state := 2, defer := 0, leaving := some s.unit.rot.next } } }.modLane s.unit.rot.next
        (fun l => { l with vt := { l.vt with leaving := true } })) :=
  if_pos (by simp [Lane.inService, hstate, hfree, hserv, hown, hopen])

/-- Settles O33: each command of a rotation with what it leaves. -/
theorem rotationsRunInTurn : Obligations.RotationsRunInTurn := by
  intro s
  refine ⟨exec_rotationDue_of_idle, exec_rotationDeferCheck_of_due, exec_laneRotationStart_of_free, fun x source hstate hreq => ?_,
    fun x hstate hreq hpass => ?_, fun x r hstate hreq hfail hr hleaving => ?_⟩
  · exact ⟨exec_rotationTestsComplete_of_reset hstate hreq, s.rotation_resetLane source (s.inService_of_rotationTest hstate)⟩
  · refine ⟨_, exec_rotationTestsComplete_of_passed hstate hreq hpass, ?_⟩
    rw [State.lane_modLane_self]
    exact ⟨rfl, rfl, rfl, rfl, rfl, fun y hy => State.lane_modLane_ne _ _ hy⟩
  · refine ⟨_, exec_rotationTestsComplete_of_failed hstate hreq hfail hr, ?_⟩
    obtain ⟨mb, hmb⟩ := (s.modLane x (·.testsFailed x r)).lane_endRotation x
    obtain ⟨hdone, hnext⟩ := (s.modLane x (·.testsFailed x r)).endRotation_unit hleaving
    rw [hmb, s.lane_modLane_self]
    exact ⟨rfl, rfl, hdone, hnext, fun y hy => (State.lane_endRotation_ne _ hy).trans (s.lane_modLane_ne _ hy)⟩

end Sys2Proof.Machine

/-! PROOF. What travels on the cross-lane links (R130, R131, R150): big-endian fields read where they were written, the check value of a link frame, and a
GAUGE message and a delta read back from their bytes. -/

namespace Sys2Proof

/-! ## Big-endian fields (R11) -/

@[simp] theorem length_be (n v : Nat) : (be n v).length = n := by
  induction n with
  | zero => rfl
  | succ n ih => simp [be, ih]

theorem ofBE_cons (b : Byte) (bs : List Byte) : ofBE (b :: bs) = b.toNat * 256 ^ bs.length + ofBE bs := by
  have hstart : ∀ (bs : List Byte) (a : Nat), bs.foldl (fun acc b => acc * 256 + b.toNat) a = a * 256 ^ bs.length + ofBE bs := by
    intro bs
    induction bs with
    | nil => intro a; simp [ofBE]
    | cons c bs ih =>
      intro a
      rw [ofBE, List.foldl_cons, List.foldl_cons, ih, ih, List.length_cons]
      ring
  simpa [ofBE] using hstart bs b.toNat

theorem ofBE_be (n v : Nat) : ofBE (be n v) = v % 256 ^ n := by
  induction n with
  | zero => simp [be, ofBE, Nat.mod_one]
  | succ n ih =>
    rw [be, ofBE_cons, ih, length_be, Nat.mod_pow_succ, BitVec.toNat_ofNat]
    ring

theorem ofBE_replicate_zero (n : Nat) : ofBE (List.replicate n 0#8) = 0 := by
  induction n with
  | zero => rfl
  | succ n ih => rw [List.replicate_succ, ofBE_cons, ih]; simp

theorem getBE_append_left {a b : List Byte} {off n : Nat} (h : off + n ≤ a.length) : getBE (a ++ b) off n = getBE a off n := by
  rw [getBE, getBE, slice, slice, List.drop_append_of_le_length (by omega), List.take_append_of_le_length (by simp; omega)]

theorem getBE_append_right {a b : List Byte} {off n : Nat} (h : a.length ≤ off) : getBE (a ++ b) off n = getBE b (off - a.length) n := by
  rw [getBE, getBE, slice, slice, List.drop_append, List.drop_eq_nil_of_le h, List.nil_append]

theorem getBE_be (n v : Nat) : getBE (be n v) 0 n = v % 256 ^ n := by
  rw [getBE, slice, List.drop_zero, List.take_of_length_le (by simp), ofBE_be]

theorem getBE_be_of_lt {n v : Nat} (h : v < 256 ^ n) : getBE (be n v) 0 n = v := (getBE_be n v).trans (Nat.mod_eq_of_lt h)

theorem getBE_replicate_zero (k off n : Nat) : getBE (List.replicate k 0#8) off n = 0 := by
  rw [getBE, slice, List.drop_replicate, List.take_replicate, ofBE_replicate_zero]

section
variable {α : Type} {f : α → List Byte} {w : Nat} (hw : ∀ a, (f a).length = w)
include hw

/-- Entries of one width take that width each. -/
theorem length_flatMap_const (l : List α) : (l.flatMap f).length = w * l.length := by
  induction l with
  | nil => rfl
  | cons a l ih => rw [List.flatMap_cons, List.length_append, ih, hw, List.length_cons]; ring

/-- A field of the entry with index `i` of a list of entries of one width. -/
theorem getBE_flatMap {l : List α} {i j n : Nat} (hi : i < l.length) (hj : j + n ≤ w) :
    getBE (l.flatMap f) (w * i + j) n = getBE (f l[i]) j n := by
  induction l generalizing i with
  | nil => exact absurd hi (Nat.not_lt_zero i)
  | cons a l ih =>
    rw [List.flatMap_cons]
    cases i with
    | zero => rw [Nat.mul_zero, Nat.zero_add, getBE_append_left (by rwa [hw])]; rfl
    | succ i =>
      have hoff : w * (i + 1) + j - w = w * i + j := by rw [Nat.mul_succ]; omega
      rw [getBE_append_right (by rw [hw, Nat.mul_succ]; omega), hw, hoff]
      exact ih (Nat.lt_of_succ_lt_succ hi)

end

/-! ## The check value of a link frame (R130) -/

theorem reflect_lt (w v : Nat) : reflect w v < 2 ^ w := by
  unfold reflect
  induction w with
  | zero => exact Nat.one_pos
  | succ w ih =>
    rw [List.range_succ, List.foldl_append, List.foldl_cons, List.foldl_nil]
    have hbit : b2n (bit v w) < 2 := b2n_lt_two _
    rw [Nat.pow_succ]
    omega

theorem ieeeCrc_lt (bs : List Byte) : ieeeCrc bs < 2 ^ 32 := Nat.xor_lt_two_pow (reflect_lt 32 _) (by decide)

/-- A link frame ends with its check value. -/
theorem linkFrameOk_linkFrame (body : List Byte) : linkFrameOk (linkFrame body) = true := by
  have hlen : (linkFrame body).length - 4 = body.length := by simp [linkFrame]
  have hcrc : getBE (linkFrame body) body.length 4 = ieeeCrc body := by
    rw [linkFrame, getBE_append_right le_rfl, Nat.sub_self, getBE_be_of_lt (ieeeCrc_lt body)]
  have htake : (linkFrame body).take body.length = body := by simp [linkFrame]
  rw [linkFrameOk, hlen, hcrc, htake]
  simp [linkFrame]

/-! ## GAUGE messages (Table 6-4) -/

theorem LaneId.ofCode_idx (y : LaneId) : LaneId.ofCode (y.idx + 1) = some y := by cases y <;> rfl

theorem GaugeMsg.length_frame (m : GaugeMsg) : m.frame.length = 36 := by simp [GaugeMsg.frame, linkFrame, GaugeMsg.body]

/-- The bytes of a flag field and of the mask spell their bits (Table 6-4). -/
theorem flags_lt (a b c : Bool) : flag a 7 + flag b 6 + flag c 5 < 256 ∧ flag a 2 + flag b 1 + flag c 0 < 256 := by
  revert a b c; decide

theorem bit_flags (a b c : Bool) : bit (flag a 7 + flag b 6 + flag c 5) 7 = a ∧ bit (flag a 7 + flag b 6 + flag c 5) 6 = b ∧
    bit (flag a 7 + flag b 6 + flag c 5) 5 = c := by
  revert a b c; decide

theorem bit_maskBits (a b c : Bool) : bit (flag c 2 + flag b 1 + flag a 0) 0 = a ∧ bit (flag c 2 + flag b 1 + flag a 0) 1 = b ∧
    bit (flag c 2 + flag b 1 + flag a 0) 2 = c := by
  revert a b c; decide

/-- The fields of a GAUGE message as they stand in its frame (Table 6-4). -/
theorem GaugeMsg.frame_fields (m : GaugeMsg) (hcycle : m.cycle < 2 ^ 64) :
    getByte m.frame 0 = 1 ∧ getByte m.frame 1 = m.sender.idx + 1 ∧
    getByte m.frame 2 = flag m.test 7 + flag m.candidate 6 + flag m.leaving 5 ∧
    getByte m.frame 3 = flag m.mask.c 2 + flag m.mask.b 1 + flag m.mask.a 0 ∧ getBE m.frame 4 8 = m.cycle ∧
    getBE m.frame 12 16 = m.gauge.toNat ∧ getByte m.frame 28 = m.echo.toNat := by
  have hidx : m.sender.idx + 1 < 256 ^ 1 := by cases m.sender <;> decide
  have hflags : _ < 256 ^ 1 := (flags_lt m.test m.candidate m.leaving).1
  have hmask : _ < 256 ^ 1 := (flags_lt m.mask.c m.mask.b m.mask.a).2
  have htype := getBE_be_of_lt (show 1 < 256 ^ 1 by decide)
  have hsent : m.cycle < 256 ^ 8 := hcycle
  have hgauge : _ < 256 ^ 16 := m.gauge.isLt
  have hecho : _ < 256 ^ 1 := m.echo.isLt
  simp only [getByte, GaugeMsg.frame, linkFrame, GaugeMsg.body, List.append_assoc]
  refine ⟨?_, ?_, ?_, ?_, ?_, ?_, ?_⟩ <;>
    simp [getBE_append_left, getBE_append_right, htype, getBE_be_of_lt hidx, getBE_be_of_lt hflags, getBE_be_of_lt hmask, getBE_be_of_lt hsent,
      getBE_be_of_lt hgauge, getBE_be_of_lt hecho]

/-- A GAUGE message reads back as it was sent. -/
theorem GaugeMsg.ofFrame_frame (m : GaugeMsg) (hcycle : m.cycle < 2 ^ 64) : GaugeMsg.ofFrame m.frame = some m := by
  obtain ⟨htype, hsender, hflags, hmask, hcycle, hgauge, hecho⟩ := m.frame_fields hcycle
  obtain ⟨htest, hcand, hleaving⟩ := bit_flags m.test m.candidate m.leaving
  obtain ⟨ha, hb, hc⟩ := bit_maskBits m.mask.a m.mask.b m.mask.c
  rw [GaugeMsg.ofFrame, if_pos ⟨m.length_frame, htype⟩, hsender, LaneId.ofCode_idx, hflags, hmask, hcycle, hgauge, hecho, htest, hcand, hleaving,
    ha, hb, hc, BitVec.ofNat_toNat, BitVec.ofNat_toNat, BitVec.setWidth_eq, BitVec.setWidth_eq]
  rfl

/-! ## Deltas (R150) -/

section
variable (d : Delta)

/-- The header of a delta: cycle, counts, and whether forces follow. -/
def Delta.head : List Byte :=
  be 8 d.cycle ++ (be 4 d.slots.length ++ (be 4 d.consts.length ++ (be 1 (b2n d.forces.isSome) ++ List.replicate 15 0#8)))

/-- A changed slot as it travels. -/
def slotBytes (p : BitVec 18 × W16) : List Byte := be 4 p.1.toNat ++ be 2 p.2.toNat

/-- A changed constant as it travels. -/
def constantBytes (p : BitVec 16 × W32) : List Byte := be 4 p.1.toNat ++ be 4 p.2.toNat

/-- An active entry of the force table (R125). -/
def forceEntry (p : Nat × W16) : List Byte := be 4 p.1 ++ (be 2 p.2.toNat ++ be 2 1)

/-- The force table at the end of a delta, where it carries one. -/
def Delta.forceBytes : List Byte :=
  match d.forces with
  | some f => forceImage f
  | none => []

theorem Delta.bytes_eq : d.bytes = d.head ++ (d.slots.flatMap slotBytes ++ (d.consts.flatMap constantBytes ++ d.forceBytes)) := by
  simp only [Delta.bytes, Delta.head, List.append_assoc]
  rfl

theorem Delta.length_head : d.head.length = 32 := by simp [Delta.head]

theorem length_slotBytes (p : BitVec 18 × W16) : (slotBytes p).length = 6 := by simp [slotBytes]

theorem length_constantBytes (p : BitVec 16 × W32) : (constantBytes p).length = 8 := by simp [constantBytes]

theorem length_forceEntry (p : Nat × W16) : (forceEntry p).length = 8 := by simp [forceEntry]

theorem length_forceImage (f : List (Nat × W16)) : (forceImage f).length = 2048 := by simp [forceImage, padTo]; omega

theorem Delta.length_forceBytes : d.forceBytes.length = if d.forces.isSome then 2048 else 0 := by
  unfold Delta.forceBytes
  cases d.forces with
  | none => rfl
  | some f => exact length_forceImage f

theorem Delta.length_bytes : d.bytes.length = 32 + 6 * d.slots.length + 8 * d.consts.length + if d.forces.isSome then 2048 else 0 := by
  rw [Delta.bytes_eq, List.length_append, List.length_append, List.length_append, d.length_head, length_flatMap_const length_slotBytes,
    length_flatMap_const length_constantBytes, d.length_forceBytes]
  omega

theorem Delta.bytes_fields (hcycle : d.cycle < 2 ^ 64) (hslots : d.slots.length < 2 ^ 32) (hconsts : d.consts.length < 2 ^ 32) :
    getBE d.bytes 0 8 = d.cycle ∧ getBE d.bytes 8 4 = d.slots.length ∧ getBE d.bytes 12 4 = d.consts.length ∧
    getByte d.bytes 16 = b2n d.forces.isSome := by
  have hc : d.cycle < 256 ^ 8 := hcycle
  have hs : d.slots.length < 256 ^ 4 := hslots
  have hk : d.consts.length < 256 ^ 4 := hconsts
  have hf : b2n d.forces.isSome < 256 ^ 1 := by unfold b2n; split <;> decide
  simp only [getByte, Delta.bytes_eq, Delta.head, List.append_assoc]
  refine ⟨?_, ?_, ?_, ?_⟩ <;>
    simp [getBE_append_left, getBE_append_right, getBE_be_of_lt hc, getBE_be_of_lt hs, getBE_be_of_lt hk, getBE_be_of_lt hf]

/-- Field `j` of the slot with index `i` of a delta. -/
theorem Delta.getBE_slot {i j n : Nat} (hi : i < d.slots.length) (hj : j + n ≤ 6) :
    getBE d.bytes (32 + 6 * i + j) n = getBE (slotBytes d.slots[i]) j n := by
  have hoff : 32 + 6 * i + j - d.head.length = 6 * i + j := by rw [d.length_head]; omega
  rw [Delta.bytes_eq, getBE_append_right (by rw [d.length_head]; omega), hoff,
    getBE_append_left (by rw [length_flatMap_const length_slotBytes]; omega), getBE_flatMap length_slotBytes hi hj]

/-- Field `j` of the constant with index `i` of a delta. -/
theorem Delta.getBE_constant {i j n : Nat} (hi : i < d.consts.length) (hj : j + n ≤ 8) :
    getBE d.bytes (32 + 6 * d.slots.length + 8 * i + j) n = getBE (constantBytes d.consts[i]) j n := by
  have hhead : 32 + 6 * d.slots.length + 8 * i + j - d.head.length = 6 * d.slots.length + (8 * i + j) := by rw [d.length_head]; omega
  have hslots : (d.slots.flatMap slotBytes).length = 6 * d.slots.length := length_flatMap_const length_slotBytes _
  have hoff : 6 * d.slots.length + (8 * i + j) - (d.slots.flatMap slotBytes).length = 8 * i + j := by rw [hslots]; omega
  rw [Delta.bytes_eq, getBE_append_right (by rw [d.length_head]; omega), hhead, getBE_append_right (by rw [hslots]; omega), hoff,
    getBE_append_left (by rw [length_flatMap_const length_constantBytes]; omega), getBE_flatMap length_constantBytes hi hj]

theorem Delta.slice_forces : slice d.bytes (32 + 6 * d.slots.length + 8 * d.consts.length) 2048 = d.forceBytes := by
  have hfront : (d.head ++ (d.slots.flatMap slotBytes ++ d.consts.flatMap constantBytes)).length = 32 + 6 * d.slots.length + 8 * d.consts.length := by
    rw [List.length_append, List.length_append, d.length_head, length_flatMap_const length_slotBytes, length_flatMap_const length_constantBytes]
    omega
  rw [slice, Delta.bytes_eq, ← List.append_assoc (d.slots.flatMap _), ← List.append_assoc d.head, ← hfront, List.drop_left, List.take_of_length_le]
  rw [d.length_forceBytes]
  split <;> decide

end

theorem slot_read (p : BitVec 18 × W16) : (BitVec.ofNat 18 (getBE (slotBytes p) 0 4), BitVec.ofNat 16 (getBE (slotBytes p) 4 2)) = p := by
  have h1 : p.1.toNat < 256 ^ 4 := p.1.isLt.trans (by decide)
  have h2 : p.2.toNat < 256 ^ 2 := p.2.isLt
  simp [slotBytes, getBE_append_left, getBE_append_right, getBE_be_of_lt h1, getBE_be_of_lt h2]

theorem constant_read (p : BitVec 16 × W32) :
    (BitVec.ofNat 16 (getBE (constantBytes p) 0 4), BitVec.ofNat 32 (getBE (constantBytes p) 4 4)) = p := by
  have h1 : p.1.toNat < 256 ^ 4 := p.1.isLt.trans (by decide)
  have h2 : p.2.toNat < 256 ^ 4 := p.2.isLt
  simp [constantBytes, getBE_append_left, getBE_append_right, getBE_be_of_lt h1, getBE_be_of_lt h2]

theorem forceEntry_fields {p : Nat × W16} (h : p.1 < 2 ^ 32) :
    getBE (forceEntry p) 0 4 = p.1 ∧ getBE (forceEntry p) 4 2 = p.2.toNat ∧ getBE (forceEntry p) 6 2 = 1 := by
  have h1 : p.1 < 256 ^ 4 := h
  have h2 : p.2.toNat < 256 ^ 2 := p.2.isLt
  have h3 := getBE_be_of_lt (show 1 < 256 ^ 2 by decide)
  refine ⟨?_, ?_, ?_⟩ <;> simp [forceEntry, getBE_append_left, getBE_append_right, getBE_be_of_lt h1, getBE_be_of_lt h2, h3]

/-- A list is what its entries read one by one are. -/
theorem map_range_eq {α : Type} {g : Nat → α} {l : List α} (h : ∀ (i : Nat) (hi : i < l.length), g i = l[i]) : (List.range l.length).map g = l :=
  List.ext_getElem (by simp) (fun i _ hi => by simpa using h i hi)

/-! ### The force table (R125) -/

section
variable {f : List (Nat × W16)} (hlen : f.length ≤ 256)
include hlen

theorem forceImage_eq : forceImage f = f.flatMap forceEntry ++ List.replicate (2048 - 8 * f.length) 0#8 := by
  have hentries : f.flatMap (fun p => be 4 p.1 ++ be 2 p.2.toNat ++ be 2 1) = f.flatMap forceEntry := by
    simp only [List.append_assoc]
    rfl
  have hsize : (f.flatMap forceEntry).length = 8 * f.length := length_flatMap_const length_forceEntry f
  rw [forceImage, hentries, padTo, hsize, List.take_of_length_le]
  rw [List.length_append, hsize, List.length_replicate]
  omega

theorem getBE_forceImage_of_lt {i j n : Nat} (hi : i < f.length) (hj : j + n ≤ 8) :
    getBE (forceImage f) (8 * i + j) n = getBE (forceEntry f[i]) j n := by
  rw [forceImage_eq hlen, getBE_append_left (by rw [length_flatMap_const length_forceEntry]; omega), getBE_flatMap length_forceEntry hi hj]

theorem getBE_forceImage_of_le {i j : Nat} (hi : f.length ≤ i) (n : Nat) : getBE (forceImage f) (8 * i + j) n = 0 := by
  rw [forceImage_eq hlen, getBE_append_right (by rw [length_flatMap_const length_forceEntry]; omega), getBE_replicate_zero]

/-- A force table lists its active entries as they were entered. -/
theorem forcesOf_forceImage (haddr : ∀ p ∈ f, p.1 < 2 ^ 32) : forcesOf (forceImage f) = f := by
  have hread : ∀ (i : Nat) (hi : i < f.length),
      getBE (forceImage f) (8 * i) 4 = f[i].1 ∧ getBE (forceImage f) (8 * i + 4) 2 = f[i].2.toNat ∧ getBE (forceImage f) (8 * i + 6) 2 = 1 := by
    intro i hi
    have h0 := getBE_forceImage_of_lt hlen hi (show 0 + 4 ≤ 8 by decide)
    rw [Nat.add_zero] at h0
    rw [h0, getBE_forceImage_of_lt hlen hi (by decide), getBE_forceImage_of_lt hlen hi (by decide)]
    exact forceEntry_fields (haddr _ (List.getElem_mem hi))
  have hactive : (List.range 256).filter (fun i => getBE (forceImage f) (8 * i + 6) 2 == 1) = List.range f.length := by
    obtain ⟨k, hk⟩ := Nat.exists_eq_add_of_le hlen
    rw [hk, List.range_add, List.filter_append, List.filter_eq_self.2, List.filter_eq_nil_iff.2, List.append_nil]
    · intro i hi
      obtain ⟨e, -, rfl⟩ := List.mem_map.1 hi
      simp [getBE_forceImage_of_le hlen (Nat.le_add_right f.length e)]
    · intro i hi
      simp [hread i (List.mem_range.1 hi)]
  rw [forcesOf, hactive]
  refine map_range_eq (fun i hi => ?_)
  obtain ⟨hslot, hvalue, -⟩ := hread i hi
  rw [hslot, hvalue, BitVec.ofNat_toNat, BitVec.setWidth_eq]

end

/-! ### A delta from its bytes -/

section
variable (d : Delta)

theorem Delta.read_slots : (List.range d.slots.length).map (fun i =>
    (BitVec.ofNat 18 (getBE d.bytes (32 + 6 * i) 4), BitVec.ofNat 16 (getBE d.bytes (36 + 6 * i) 2))) = d.slots := by
  refine map_range_eq (fun i hi => ?_)
  have h0 := d.getBE_slot hi (show 0 + 4 ≤ 6 by decide)
  have h4 := d.getBE_slot hi (show 4 + 2 ≤ 6 by decide)
  rw [Nat.add_zero] at h0
  rw [show 36 + 6 * i = 32 + 6 * i + 4 by omega, h0, h4, slot_read]

theorem Delta.read_consts : (List.range d.consts.length).map (fun i =>
    (BitVec.ofNat 16 (getBE d.bytes (32 + 6 * d.slots.length + 8 * i) 4),
      BitVec.ofNat 32 (getBE d.bytes (32 + 6 * d.slots.length + 4 + 8 * i) 4))) = d.consts := by
  refine map_range_eq (fun i hi => ?_)
  have h0 := d.getBE_constant hi (show 0 + 4 ≤ 8 by decide)
  have h4 := d.getBE_constant hi (show 4 + 4 ≤ 8 by decide)
  rw [Nat.add_zero] at h0
  rw [show 32 + 6 * d.slots.length + 4 + 8 * i = 32 + 6 * d.slots.length + 8 * i + 4 by omega, h0, h4, constant_read]

variable {d} (hforces : ∀ f, d.forces = some f → f.length ≤ 256 ∧ ∀ p ∈ f, p.1 < 2 ^ 32)
include hforces

theorem Delta.read_forces : (if d.forces.isSome then some (forcesOf d.forceBytes) else none) = d.forces := by
  unfold Delta.forceBytes
  cases h : d.forces with
  | none => rfl
  | some f =>
    obtain ⟨hlen, haddr⟩ := hforces f h
    exact congrArg some (forcesOf_forceImage hlen haddr)

/-- A delta reads back as it was sent (R150). -/
theorem Delta.ofBytes_bytes (hcycle : d.cycle < 2 ^ 64) (hslots : d.slots.length < 2 ^ 32) (hconsts : d.consts.length < 2 ^ 32) :
    Delta.ofBytes d.bytes = some d := by
  obtain ⟨hc, hs, hk, hf⟩ := d.bytes_fields hcycle hslots hconsts
  have hflag : (getByte d.bytes 16 == 1) = d.forces.isSome := by rw [hf]; cases d.forces <;> rfl
  unfold Delta.ofBytes
  simp only [hs, hk, hc, hflag, d.length_bytes, if_true, d.read_slots, d.read_consts, d.slice_forces, Delta.read_forces hforces]

end

end Sys2Proof

/-! PROOF. The gauge and the test gauge (R128, R130 to R132, R138, R144, R145, R152, R159): a scan that is complete, a GAUGE message received, and the
comparator checked. -/

namespace Sys2Proof.Machine

/-! ## A frame of the links (R130) -/

theorem exec_gaugeReceive_of_bad {x link : LaneId} {frame : List Byte} (s : State) (h : linkFrameOk frame = false) :
    exec (.gaugeReceive x link frame) s = .next (s.linkError x link) := by
  simp [exec, execGaugeReceive, h]

theorem exec_gaugeReceive_of_other {x link : LaneId} {frame : List Byte} (s : State) (hok : linkFrameOk frame = true) (hfrom : gaugeFrom x link frame = none) :
    exec (.gaugeReceive x link frame) s = .next s := by
  simp [exec, execGaugeReceive, hok, hfrom]

/-- A message is taken from the lane at the other end of its link alone. -/
theorem sender_of_gaugeFrom {x link : LaneId} {frame : List Byte} {m : GaugeMsg} (h : gaugeFrom x link frame = some m) : m.sender = link := by
  unfold gaugeFrom at h
  split at h
  · split at h
    next hsender => exact Option.some.inj h ▸ hsender.1
    · cases h
  · cases h

/-! ## A GAUGE message in the vote (R132, R145, R152) -/

/-- What a lane's vote keeps of a GAUGE message of the cycle: the gauge, a candidate's beside it, and the echo of the test gauge it has sent. -/
def Vote.keepGauge (v : Vote) (m : GaugeMsg) : Vote :=
  let w := if m.candidate then { v with cand := v.cand.set m.sender (some m) } else { v with got := v.got.set m.sender (some m) }
  if m.echo ≠ 0 && v.testSent then { w with testEcho := w.testEcho.set m.sender m.echo.toNat } else w

/-- Whether a lane in service is excluded by the mask of a peer in its own mask (R138). -/
def Lane.excludedBy (l : Lane) (x : LaneId) (m : GaugeMsg) : Bool :=
  l.inService && !m.candidate && l.vt.mask.get m.sender && !m.mask.get x

theorem State.takeGauge_of_excluded {s : State} {x : LaneId} {m : GaugeMsg} (h : (s.lane x).excludedBy x m = true) :
    s.takeGauge x m = (s.modLane x (fun l => { l with vt := l.vt.keepGauge m })).withdraw x 9 false := if_pos h

theorem State.takeGauge_of_not_excluded {s : State} {x : LaneId} {m : GaugeMsg} (h : (s.lane x).excludedBy x m = false) :
    s.takeGauge x m = s.modLane x (fun l => { l with vt := l.vt.keepGauge m }) := if_neg (Bool.eq_false_iff.1 h)

section
variable {v : Vote} {m : GaugeMsg}

theorem Vote.keepGauge_of_genuine (hcand : m.candidate = false) (hsent : v.testSent = false) :
    v.keepGauge m = { v with got := v.got.set m.sender (some m) } := by
  simp [Vote.keepGauge, hcand, hsent]

theorem Vote.keepGauge_of_candidate (hcand : m.candidate = true) (hsent : v.testSent = false) :
    v.keepGauge m = { v with cand := v.cand.set m.sender (some m) } := by
  simp [Vote.keepGauge, hcand, hsent]

theorem Vote.testEcho_keepGauge (hsent : v.testSent = true) (hecho : m.echo ≠ 0) :
    (v.keepGauge m).testEcho.get m.sender = m.echo.toNat := by
  have hnoted : (decide (m.echo ≠ 0) && v.testSent) = true := by simpa [hsent] using hecho
  rw [Vote.keepGauge, if_pos hnoted]
  exact PerLane.get_set_self ..

end

section
variable {s : State} {x link : LaneId} {frame : List Byte} {m : GaugeMsg} (hok : linkFrameOk frame = true) (hfrom : gaugeFrom x link frame = some m)
include hok hfrom

theorem exec_gaugeReceive_of_not_due (h : m.test = true ∨ m.cycle ≠ (s.lane x).td.cycle) : exec (.gaugeReceive x link frame) s = .next s := by
  rcases h with h | h <;> simp [exec, execGaugeReceive, hok, hfrom, h]

theorem exec_gaugeReceive_of_due (hstate : (s.lane x).vt.state = .inService ∨ (s.lane x).vt.state = .candidate) (htest : m.test = false)
    (hcycle : m.cycle = (s.lane x).td.cycle) : exec (.gaugeReceive x link frame) s = .next (s.takeGauge x m) := by
  simp [exec, execGaugeReceive, hok, hfrom, Lane.inService, hstate, htest, hcycle]

end

/-- A lane that is no candidate's peer in service, or that the sender's mask holds, stays. -/
theorem Lane.excludedBy_eq_false {l : Lane} {x : LaneId} {m : GaugeMsg}
    (h : l.vt.state = .candidate ∨ m.candidate = true ∨ l.vt.mask.get m.sender = false ∨ m.mask.get x = true) : l.excludedBy x m = false := by
  rcases h with h | h | h | h <;> simp [Lane.excludedBy, Lane.inService, h]

/-- Settles O19: the frame of a GAUGE message, and each kind of message received. -/
theorem gaugeReceiveHoldsOrWithdraws : Obligations.GaugeReceiveHoldsOrWithdraws := by
  refine ⟨fun m hcycle => ⟨m.length_frame, linkFrameOk_linkFrame _, m.ofFrame_frame hcycle⟩, fun s x link frame => ?_⟩
  refine ⟨exec_gaugeReceive_of_bad s, exec_gaugeReceive_of_other s, fun m hok hfrom => ?_⟩
  obtain rfl := sender_of_gaugeFrom hfrom
  refine ⟨exec_gaugeReceive_of_not_due hok hfrom, fun hstate htest hcand hcycle hsent hstays => ?_, fun hstate htest hcand hcycle hsent => ?_,
    fun hstate htest hcand hcycle hsent hecho hstays => ?_, fun hstate htest hcand hcycle hmask hout => ?_⟩
  · rw [exec_gaugeReceive_of_due hok hfrom hstate htest hcycle, State.takeGauge_of_not_excluded (Lane.excludedBy_eq_false (hstays.imp_right .inr))]
    exact congrArg _ (State.modLane_congr (congrArg (fun v => { s.lane x with vt := v }) (Vote.keepGauge_of_genuine hcand hsent)))
  · rw [exec_gaugeReceive_of_due hok hfrom hstate htest hcycle, State.takeGauge_of_not_excluded (Lane.excludedBy_eq_false (.inr (.inl hcand)))]
    exact congrArg _ (State.modLane_congr (congrArg (fun v => { s.lane x with vt := v }) (Vote.keepGauge_of_candidate hcand hsent)))
  · refine ⟨_, exec_gaugeReceive_of_due hok hfrom (.inl hstate) htest hcycle, ?_⟩
    rw [State.takeGauge_of_not_excluded (Lane.excludedBy_eq_false (.inr (.inr hstays)))]
    exact ⟨s.onlyLane_modLane x _, by rw [s.lane_modLane_self]; exact Vote.testEcho_keepGauge hsent hecho⟩
  · have hexcluded : (s.lane x).excludedBy x m = true := by simp [Lane.excludedBy, Lane.inService, hstate, hcand, hmask, hout]
    refine ⟨_, exec_gaugeReceive_of_due hok hfrom (.inl hstate) htest hcycle, ?_⟩
    rw [State.takeGauge_of_excluded hexcluded, State.lane_withdraw_self]
    exact ⟨rfl, rfl, rfl, rfl, fun y hy => (State.lane_withdraw_ne _ _ _ hy).trans (s.lane_modLane_ne _ hy)⟩

/-! ## A test gauge received (R144, R145) -/

/-- What a lane notes of a test gauge that its comparator has judged (R145). -/
def Lane.testNoted (l : Lane) (m : GaugeMsg) (equal : Bool) : Lane :=
  { l with vt := { l.vt with testSelf := if equal then 2 else 1, echoOut := if equal then 2 else 1, testSent := false,
                             testBit := testBitOf m.cycle, heldTest := none, testCnt := if equal then l.vt.testCnt else sat l.vt.testCnt } }

theorem State.testResult_of_equal {s : State} {x : LaneId} {m : GaugeMsg} {stuck : Bool} (h : (s.lane x).vt.comparator m stuck = true) :
    s.testResult x m stuck = (s.modLane x (·.testNoted m true)).withdraw x 5 false := by
  dsimp only [State.testResult]
  rw [h]
  rfl

theorem State.testResult_of_different {s : State} {x : LaneId} {m : GaugeMsg} {stuck : Bool} (h : (s.lane x).vt.comparator m stuck = false) :
    s.testResult x m stuck = s.modLane x (·.testNoted m false) := by
  dsimp only [State.testResult]
  rw [h]
  rfl

theorem Vote.comparator_eq_true_iff {v : Vote} {own : BitVec 128} (hown : v.own = some own) (m : GaugeMsg) (stuck : Bool) :
    v.comparator m stuck = true ↔ stuck = true ∨ m.gauge = own := by
  rw [Vote.comparator, hown, Bool.or_eq_true, beq_iff_eq, Option.some.injEq, eq_comm (a := own)]

section
variable {s : State} {x link : LaneId} {frame : List Byte} {m : GaugeMsg} (stuck : Bool) (hok : linkFrameOk frame = true)
  (hfrom : gaugeFrom x link frame = some m) (htest : m.test = true) (hstate : (s.lane x).vt.state = .inService) (hcycle : m.cycle = (s.lane x).td.cycle)
include hok hfrom htest hstate hcycle

theorem exec_testGaugeReceive_of_none (hown : (s.lane x).vt.own = none) : exec (.testGaugeReceive x link frame stuck) s =
    .next (s.modLane x (fun l => { l with vt := { l.vt with heldTest := some (m, stuck) } })) := by
  simp [exec, execTestGaugeReceive, hok, hfrom, Lane.inService, htest, hstate, hcycle, hown]

theorem exec_testGaugeReceive_of_some {own : BitVec 128} (hown : (s.lane x).vt.own = some own) :
    exec (.testGaugeReceive x link frame stuck) s = .next (s.testResult x m stuck) := by
  simp [exec, execTestGaugeReceive, hok, hfrom, Lane.inService, htest, hstate, hcycle, hown]

end

/-- Settles O20: a test gauge held, flagged as different, or not flagged. That it is held until the lane has its own gauge, and that a stuck comparator is
an operand, is log entry 70. -/
theorem testGaugeChecksTheComparator : Obligations.TestGaugeChecksTheComparator := by
  intro s x link frame m stuck hok hfrom htest l hstate hcycle
  refine ⟨exec_testGaugeReceive_of_none stuck hok hfrom htest hstate hcycle, fun own hown => ?_⟩
  refine ⟨_, exec_testGaugeReceive_of_some stuck hok hfrom htest hstate hcycle hown, ?_⟩
  have hiff := Vote.comparator_eq_true_iff hown m stuck
  by_cases hequal : (s.lane x).vt.comparator m stuck = true
  · rw [State.testResult_of_equal hequal, State.lane_withdraw_self, s.lane_modLane_self]
    refine ⟨fun y hy => (State.lane_withdraw_ne _ _ _ hy).trans (s.lane_modLane_ne _ hy), rfl, rfl, rfl, fun hstuck hne => ?_, fun _ => ⟨rfl, rfl, rfl, rfl, rfl⟩⟩
    exact absurd (hiff.1 hequal) (by simp [hstuck, hne])
  · rw [State.testResult_of_different (Bool.eq_false_iff.2 hequal), s.lane_modLane_self]
    exact ⟨fun y hy => s.lane_modLane_ne _ hy, rfl, rfl, rfl, fun _ _ => ⟨hstate, rfl, rfl, rfl, s.onlyLane_modLane x _⟩, fun h => absurd (hiff.2 h) hequal⟩

/-! ## The oldest scan of the check-value unit (R189) -/

/-- While work of the higher classes waits, a job done takes one of it and leaves the scans. -/
theorem CheckUnit.serve_of_waiting {c : CheckUnit} {k : Nat} (h : c.seals.length + c.verifies.length = k + 1) :
    c.serve.seals.length + c.serve.verifies.length = k ∧ c.serve.scans = c.scans ∧ c.serve.scanCnt = c.scanCnt := by
  unfold CheckUnit.serve
  split
  next j js hseals =>
    rw [hseals, List.length_cons] at h
    exact ⟨by dsimp only; omega, rfl, rfl⟩
  next j js hseals hverifies =>
    rw [hseals, hverifies, List.length_cons] at h
    exact ⟨by dsimp only; rw [hseals]; omega, rfl, rfl⟩
  next hseals hverifies _ => simp [hseals, hverifies] at h
  next hseals hverifies _ => simp [hseals, hverifies] at h

/-- The oldest scan is counted once everything of the higher classes is done. -/
theorem CheckUnit.serveScan_scanCnt {c : CheckUnit} (h : c.scans ≠ []) : c.serveScan.scanCnt = sat c.scanCnt := by
  have hserve : ∀ (k : Nat) (c : CheckUnit), c.seals.length + c.verifies.length = k → c.scans ≠ [] → (c.serveMany (k + 1)).scanCnt = sat c.scanCnt := by
    intro k
    induction k with
    | zero =>
      intro c hk hscans
      obtain ⟨hseals, hverifies⟩ := Nat.add_eq_zero_iff.1 hk
      obtain ⟨j, js, hj⟩ := List.exists_cons_of_ne_nil hscans
      simp [CheckUnit.serveMany, CheckUnit.serve, List.length_eq_zero_iff.1 hseals, List.length_eq_zero_iff.1 hverifies, hj]
    | succ k ih =>
      intro c hk hscans
      obtain ⟨hlen, hsame, hcnt⟩ := CheckUnit.serve_of_waiting hk
      rw [CheckUnit.serveMany, ih c.serve hlen (hsame ▸ hscans), hcnt]
  exact hserve _ c rfl h

/-! ## What a finished scan leaves (R128, R131, R144, R152, R159) -/

/-- From `s` to `t` only lane `x` changes, and `es` is sent. -/
def State.laneSends (s t : State) (x : LaneId) (es : List Emit) : Prop := t = { s with lanes := s.lanes.set x (t.lane x), sent := s.sent ++ es }

section
variable {s t : State} {x : LaneId} {es : List Emit}

theorem State.laneSends_modLane (s : State) (x : LaneId) (f : Lane → Lane) : s.laneSends (s.modLane x f) x [] := by
  rw [State.laneSends, State.lane_modLane_self, List.append_nil]
  rfl

theorem State.laneSends.modLane (h : s.laneSends t x es) (f : Lane → Lane) : s.laneSends (t.modLane x f) x es := by
  rw [State.laneSends, State.lane_modLane_self]
  rw [State.laneSends] at h
  rw [h]
  cases x <;> rfl

theorem State.laneSends.emit (h : s.laneSends t x es) (e : Emit) : s.laneSends (t.emit e) x (es ++ [e]) := by
  rw [State.laneSends, State.lane_emit, ← List.append_assoc]
  rw [State.laneSends] at h
  rw [h]
  cases x <;> rfl

theorem State.laneSends.mramWrite {p : Part} {r : MramRegion} {f : State → State} (h : s.laneSends t x es) (hf : s.laneSends (f t) x es) :
    s.laneSends (t.mramWrite p r f) x es := by
  unfold State.mramWrite
  split
  · exact hf
  · exact h

theorem State.laneSends.other (h : s.laneSends t x es) {y : LaneId} (hy : y ≠ x) : t.lane y = s.lane y := by
  rw [h]
  exact PerLane.get_set_ne _ _ hy

theorem State.laneSends.rest (h : s.laneSends t x es) : t.basin = s.basin ∧ t.unit = s.unit ∧ t.cfg = s.cfg ∧ t.mail = s.mail ∧ t.sent = s.sent ++ es := by
  rw [h]
  exact ⟨rfl, rfl, rfl, rfl, rfl⟩

end

section
variable (s : State) (x : LaneId) (offset waited : Nat)

/-- The lane whose scan is complete, its gauge kept (R128). -/
def State.scanKept : State := s.modLane x (fun _ => (s.lane x).scanned x offset waited)

/-- The GAUGE message of a complete scan (R131). -/
def State.scanGauge : Emit := .gauge x (((s.lane x).scanned x offset waited).gaugeMsg x (gaugeOf (s.lane x).gaugeParts) false).frame

/-- The test gauge that follows it in the lane's test cycle: its gauge with one bit inverted (R144). -/
def State.scanTestGauge : Emit :=
  .gauge x { ((s.lane x).scanned x offset waited).gaugeMsg x (flipBit (gaugeOf (s.lane x).gaugeParts) (testBitOf (s.lane x).td.cycle)) true with
    echo := 0 }.frame

/-- A lane in independent-lane mode commits and writes its snapshot (R159). -/
def State.scanAlone : State :=
  ((s.scanKept x offset waited).modLane x (fun l => l.commit (s.lane x).td.cycle offset)).mramWrite (.lane x) (.retained x)
    (fun t => t.modLane x (fun l => l.writeSnapshot (s.lane x).image (s.lane x).td.cycle t.cfg.powerCycles))

/-- A candidate sends its gauge and commits (R152). -/
def State.scanCandidate : State :=
  ((((s.scanKept x offset waited).emit (s.scanGauge x offset waited)).modLane x (fun l => l.commit (s.lane x).td.cycle offset)).modLane x
    (fun l => { l with vt := { l.vt with echoOut := 0 } })).modLane x (fun l =>
      if s.leads then l.spendCycle (s.lane x).image (s.lane x).td.cycle
      else { l with ts := l.ts.dropAnswers (s.lane x).image (s.lane x).td.cycle })

/-- A lane in service sends its gauge and opens its window (R131, R132). -/
def State.scanVote : State :=
  ((s.scanKept x offset waited).emit (s.scanGauge x offset waited)).modLane x (fun l => { l with vt := { l.vt with echoOut := 0, windowOpen := true } })

/-- In its test cycle it sends the test gauge after it (R144). -/
def State.scanTest : State :=
  if testCycle (s.lane x).td.cycle && testLane (s.lane x).td.cycle = x then
    ((s.scanVote x offset waited).emit (s.scanTestGauge x offset waited)).modLane x (fun l =>
      { l with vt := { l.vt with testSent := true, testBit := testBitOf (s.lane x).td.cycle, testEcho := PerLane.all 0 } })
  else s.scanVote x offset waited

end

section
variable {s : State} {x : LaneId} {offset : BitVec 32} (waited : BitVec 32) (hready : (s.lane x).pe.state = .complete) (hown : (s.lane x).vt.own = none)
  (hbefore : offset.toNat < (s.lane x).image.deadlineTicks)
include hready hown hbefore

theorem State.scanDue (h : (s.lane x).evaluates = true) : ((s.lane x).evaluates && (s.lane x).pe.state == .complete && (s.lane x).vt.own.isNone &&
    decide (offset.toNat < (s.lane x).image.deadlineTicks)) = true := by
  simp [h, hready, hown, hbefore]

theorem exec_gaugeScanComplete_of_independent (hstate : (s.lane x).vt.state = .independent) :
    exec (.gaugeScanComplete x offset waited) s = .next (s.scanAlone x offset.toNat waited.toNat) := by
  have hexec : exec (.gaugeScanComplete x offset waited) s = _ := if_pos (State.scanDue hready hown hbefore (by simp [Lane.evaluates, hstate]))
  rw [hexec, hstate]
  rfl

theorem exec_gaugeScanComplete_of_candidate (hstate : (s.lane x).vt.state = .candidate) :
    exec (.gaugeScanComplete x offset waited) s = .next (s.scanCandidate x offset.toNat waited.toNat) := by
  have hexec : exec (.gaugeScanComplete x offset waited) s = _ := if_pos (State.scanDue hready hown hbefore (by simp [Lane.evaluates, hstate]))
  rw [hexec, hstate]
  rfl

theorem exec_gaugeScanComplete_of_inService (hstate : (s.lane x).vt.state = .inService) (hheld : (s.lane x).vt.heldTest = none) :
    exec (.gaugeScanComplete x offset waited) s = .next (s.scanTest x offset.toNat waited.toNat) := by
  have hexec : exec (.gaugeScanComplete x offset waited) s = _ := if_pos (State.scanDue hready hown hbefore (by simp [Lane.evaluates, hstate]))
  rw [hexec, hstate, hheld]
  rfl

end

/-! ### The lane after its scan -/

/-- A lane keeps what its scan has shown: the check-value unit, its gauge, and its outputs as they were. -/
def Lane.keepsScan (l k : Lane) : Prop := k.cv = l.cv ∧ k.io = l.io ∧ k.vt.own = l.vt.own ∧ k.vt.gauges = l.vt.gauges

/-- The gauge of a complete scan in its lane (R128, Table 7-14). -/
theorem Lane.keepsScan.spec {l k : Lane} {x : LaneId} {offset waited : Nat} (h : (l.scanned x offset waited).keepsScan k) :
    k.vt.own = some (gaugeOf l.gaugeParts) ∧ k.vt.gauges.get x = gaugeOf l.gaugeParts ∧ (l.cv.scans ≠ [] → k.cv.scanCnt = sat l.cv.scanCnt) ∧
    k.cv.resA = l.gaugeParts.1 ∧ k.cv.resB = l.gaugeParts.2 ∧ k.io = l.io := by
  obtain ⟨hcv, hio, hown, hgauges⟩ := h
  rw [hcv, hio, hown, hgauges]
  exact ⟨rfl, PerLane.get_set_self .., CheckUnit.serveScan_scanCnt, rfl, rfl, rfl⟩

/-- What a lane that hands nothing over spends with a cycle is in its session store and in what it has heard for it (R151). -/
theorem Lane.spendCycle_only (l : Lane) (m : Image) (n : Nat) :
    ∃ ts said, l.spendCycle m n = { l with ts := ts, vt := { l.vt with said := said } } := ⟨_, _, rfl⟩

section
variable (s : State) (x : LaneId) (offset waited : Nat)

theorem State.lane_scanAlone : ∃ ls, (s.scanAlone x offset waited).lane x =
    { ((s.lane x).scanned x offset waited).commit (s.lane x).td.cycle offset with ls := ls } := by
  have hkept : ((s.scanKept x offset waited).modLane x (fun l => l.commit (s.lane x).td.cycle offset)).lane x =
      ((s.lane x).scanned x offset waited).commit (s.lane x).td.cycle offset := by
    rw [State.lane_modLane_self, State.scanKept, State.lane_modLane_self]
  rw [← hkept, State.scanAlone, State.mramWrite]
  split
  · rw [State.lane_modLane_self]
    exact Lane.writeSnapshot_only ..
  · exact ⟨_, rfl⟩

theorem State.laneSends_scanAlone : s.laneSends (s.scanAlone x offset waited) x [] := by
  have hkept := (s.laneSends_modLane x (fun _ => (s.lane x).scanned x offset waited)).modLane (fun l => l.commit (s.lane x).td.cycle offset)
  exact hkept.mramWrite (hkept.modLane _)

theorem State.lane_scanCandidate : ∃ ts said, (s.scanCandidate x offset waited).lane x =
    { ((s.lane x).scanned x offset waited).commit (s.lane x).td.cycle offset with
      ts := ts, vt := { (((s.lane x).scanned x offset waited).commit (s.lane x).td.cycle offset).vt with echoOut := 0, said := said } } := by
  rw [State.scanCandidate, State.lane_modLane_self, State.lane_modLane_self, State.lane_modLane_self, State.lane_emit, State.scanKept,
    State.lane_modLane_self]
  split
  · exact Lane.spendCycle_only ..
  · exact ⟨_, _, rfl⟩

theorem State.laneSends_scanCandidate : s.laneSends (s.scanCandidate x offset waited) x [s.scanGauge x offset waited] :=
  (((((s.laneSends_modLane x _).emit _).modLane _).modLane _).modLane _)

theorem State.lane_scanTest : ∃ sent bit echo, (s.scanTest x offset waited).lane x =
    { (s.lane x).scanned x offset waited with
      vt := { ((s.lane x).scanned x offset waited).vt with echoOut := 0, windowOpen := true, testSent := sent, testBit := bit, testEcho := echo } } := by
  have hvote : (s.scanVote x offset waited).lane x = { (s.lane x).scanned x offset waited with
      vt := { ((s.lane x).scanned x offset waited).vt with echoOut := 0, windowOpen := true } } := by
    rw [State.scanVote, State.lane_modLane_self, State.lane_emit, State.scanKept, State.lane_modLane_self]
  rw [State.scanTest]
  split
  · rw [State.lane_modLane_self, State.lane_emit, hvote]
    exact ⟨_, _, _, rfl⟩
  · rw [hvote]
    exact ⟨_, _, _, rfl⟩

theorem sendsTestGauge_iff (n : Nat) (x : LaneId) : (testCycle n && testLane n = x) = true ↔ n % 256 = 128 ∧ LaneId.ofIdx (n / 256) = x := by
  rw [Bool.and_eq_true, decide_eq_true_eq, testCycle, beq_iff_eq, testLane]

/-- In its test cycle, and in no other, the lane's test gauge follows its gauge (R144). -/
theorem State.laneSends_scanTest : s.laneSends (s.scanTest x offset waited) x ([s.scanGauge x offset waited] ++
    if (s.lane x).td.cycle % 256 = 128 ∧ LaneId.ofIdx ((s.lane x).td.cycle / 256) = x then [s.scanTestGauge x offset waited] else []) := by
  have hvote : s.laneSends (s.scanVote x offset waited) x [s.scanGauge x offset waited] := ((s.laneSends_modLane x _).emit _).modLane _
  by_cases htest : (s.lane x).td.cycle % 256 = 128 ∧ LaneId.ofIdx ((s.lane x).td.cycle / 256) = x
  · rw [State.scanTest, if_pos ((sendsTestGauge_iff _ x).2 htest), if_pos htest]
    exact (hvote.emit _).modLane _
  · rw [State.scanTest, if_neg (mt (sendsTestGauge_iff _ x).1 htest), if_neg htest]
    exact hvote

end

/-- A complete scan in each state of the lane: what it sends, what stays of the scan, and what goes with the vote or the commit. -/
theorem gaugeScanComplete_spec {s : State} {x : LaneId} {offset : BitVec 32} (waited : BitVec 32) (hready : (s.lane x).pe.state = .complete)
    (hown : (s.lane x).vt.own = none) (hheld : (s.lane x).vt.heldTest = none) (hbefore : offset.toNat < (s.lane x).image.deadlineTicks)
    (hstate : (s.lane x).vt.state = .inService ∨ (s.lane x).vt.state = .candidate ∨ (s.lane x).vt.state = .independent) :
    ∃ t es, exec (.gaugeScanComplete x offset waited) s = .next t ∧ s.laneSends t x es ∧
      ((s.lane x).scanned x offset.toNat waited.toNat).keepsScan (t.lane x) ∧
      ((s.lane x).vt.state = .inService → (t.lane x).vt.windowOpen = true ∧ (t.lane x).pe = (s.lane x).pe ∧
        es = [s.scanGauge x offset.toNat waited.toNat] ++
          if (s.lane x).td.cycle % 256 = 128 ∧ LaneId.ofIdx ((s.lane x).td.cycle / 256) = x then [s.scanTestGauge x offset.toNat waited.toNat] else []) ∧
      ((s.lane x).vt.state = .candidate → (t.lane x).pe = (s.lane x).pe.commit ∧ (t.lane x).vt.committed = some (s.lane x).td.cycle ∧
        es = [s.scanGauge x offset.toNat waited.toNat]) ∧
      ((s.lane x).vt.state = .independent → (t.lane x).pe = (s.lane x).pe.commit ∧ (t.lane x).vt.committed = some (s.lane x).td.cycle ∧ es = []) := by
  rcases hstate with hstate | hstate | hstate
  · obtain ⟨sent, bit, echo, hlane⟩ := s.lane_scanTest x offset.toNat waited.toNat
    refine ⟨_, _, exec_gaugeScanComplete_of_inService waited hready hown hbefore hstate hheld, s.laneSends_scanTest .., ?_⟩
    rw [hlane, hstate]
    exact ⟨⟨rfl, rfl, rfl, rfl⟩, fun _ => ⟨rfl, rfl, rfl⟩, nofun, nofun⟩
  · obtain ⟨ts, said, hlane⟩ := s.lane_scanCandidate x offset.toNat waited.toNat
    refine ⟨_, _, exec_gaugeScanComplete_of_candidate waited hready hown hbefore hstate, s.laneSends_scanCandidate .., ?_⟩
    rw [hlane, hstate]
    exact ⟨⟨rfl, rfl, rfl, rfl⟩, nofun, fun _ => ⟨rfl, rfl, rfl⟩, nofun⟩
  · obtain ⟨ls, hlane⟩ := s.lane_scanAlone x offset.toNat waited.toNat
    refine ⟨_, _, exec_gaugeScanComplete_of_independent waited hready hown hbefore hstate, s.laneSends_scanAlone .., ?_⟩
    rw [hlane, hstate]
    exact ⟨⟨rfl, rfl, rfl, rfl⟩, nofun, nofun, fun _ => ⟨rfl, rfl, rfl⟩⟩

/-- Settles O18: the lane after its scan, and what each state of the lane sends and commits. -/
theorem gaugeScanSendsTheGauge : Obligations.GaugeScanSendsTheGauge := by
  intro s x offset waited l g n hready hown hheld hbefore hstate
  obtain ⟨t, es, hexec, hsends, hkeeps, hvote, hcand, halone⟩ := gaugeScanComplete_spec waited hready hown hheld hbefore hstate
  obtain ⟨hbasin, hunit, hcfg, hmail, hsent⟩ := hsends.rest
  obtain ⟨hgauge, hgauges, hcnt, hresA, hresB, hio⟩ := hkeeps.spec
  refine ⟨t, hexec, fun y hy => hsends.other hy, hbasin, hunit, hcfg, hmail, hgauge, hgauges, hcnt, hresA, hresB, hio, fun h => ?_, fun h => ?_, fun h => ?_⟩
  · obtain ⟨hopen, hpe, hes⟩ := hvote h
    exact ⟨hopen, hpe, by rw [hsent, hes, List.append_assoc]; rfl⟩
  · obtain ⟨hpe, hcommitted, hes⟩ := hcand h
    exact ⟨hpe, hcommitted, by rw [hsent, hes]; rfl⟩
  · obtain ⟨hpe, hcommitted, hes⟩ := halone h
    exact ⟨hpe, hcommitted, by rw [hsent, hes, List.append_nil]⟩

end Sys2Proof.Machine

/-! PROOF. The resync of a lane (R146 to R153): its donors, an attempt aborted, the loading and the joining phase, the base and the deltas. -/

namespace Sys2Proof

theorem LaneId.exists_peers (x : LaneId) : ∃ y z, x.peers = [y, z] ∧ y ≠ x ∧ z ≠ x ∧ y ≠ z := by
  cases x with
  | a => exact ⟨.b, .c, rfl, by decide⟩
  | b => exact ⟨.a, .c, rfl, by decide⟩
  | c => exact ⟨.a, .b, rfl, by decide⟩

end Sys2Proof

namespace Sys2Proof.Machine

/-! ## The donors (R146) -/

theorem State.donors_ne {s : State} {x y z : LaneId} (h : s.donors x = some (y, z)) : y ≠ x ∧ z ≠ x ∧ y ≠ z := by
  obtain ⟨y', z', hpeers, hne⟩ := x.exists_peers
  unfold State.donors at h
  rw [hpeers] at h
  dsimp only at h
  split at h
  · cases h
    exact hne
  · cases h

/-- One of the donors and the other. -/
theorem State.donors_pair {s : State} {x y z d o : LaneId} (h : s.donors x = some (y, z)) (hd : d = y ∧ o = z ∨ d = z ∧ o = y) :
    d ≠ x ∧ o ≠ d ∧ o = if d = y then z else y := by
  obtain ⟨hy, hz, hyz⟩ := State.donors_ne h
  rcases hd with ⟨rfl, rfl⟩ | ⟨rfl, rfl⟩
  · exact ⟨hy, hyz.symm, (if_pos rfl).symm⟩
  · exact ⟨hz, hyz, (if_neg hyz.symm).symm⟩

/-! ## An attempt aborted (R153) -/

section
variable (l : Lane) (x : LaneId) (code ms : Nat) (rotating dump : Bool)

theorem Lane.abort_run : (l.abort x code ms rotating dump).vt.abortRun = l.vt.abortRun + 1 := by
  unfold Lane.abort; dsimp only; split <;> rfl

theorem Lane.abort_io : (l.abort x code ms rotating dump).io = l.io := by
  unfold Lane.abort; dsimp only; split <;> rfl

/-- Before its third abort in a row a lane asks for the reset of its next attempt. -/
theorem Lane.abort_resetReq (h : l.vt.abortRun + 1 < 3) : (l.abort x code ms rotating false).rc.resetReq = some 4 := by
  unfold Lane.abort
  rw [if_neg (Nat.not_le.2 h)]
  rfl

end

theorem State.endRotation_basin (s : State) (x : LaneId) : (s.endRotation x).basin = s.basin := by
  unfold State.endRotation; split <;> rfl

theorem State.abortResync_basin (s : State) (x : LaneId) (code : Nat) : (s.abortResync x code).basin = s.basin := by
  dsimp only [State.abortResync, State.abortBy]
  split_ifs
  · exact State.endRotation_basin ..
  · rfl
  · rfl

/-- What an aborted attempt leaves in its lane. -/
theorem State.abortResync_spec {s : State} {x : LaneId} (code : Nat) (h : (s.lane x).vt.state.inResync = true) :
    let l := (s.abortResync x code).lane x
    l.vt.abort = code ∧ l.vt.abortRun = (s.lane x).vt.abortRun + 1 ∧
    l.vt.state = (if 3 ≤ (s.lane x).vt.abortRun + 1 then .failed else .reset) ∧ l.io = (s.lane x).io ∧
    ((s.lane x).vt.abortRun + 1 < 3 → l.rc.resetReq = some 4) := by
  obtain ⟨mb, hmb⟩ := State.lane_abortBy_of_inResync code false h
  rw [State.abortResync, hmb]
  exact ⟨Lane.abort_code .., Lane.abort_run .., by simpa using Lane.abort_state .., Lane.abort_io .., Lane.abort_resetReq (s.lane x) x code s.tideMs _⟩

theorem Lane.inResync_of_keepsArrivals {l : Lane} (h : l.vt.state = .base ∨ l.vt.state = .catchUp) : l.vt.state.inResync = true := by
  rcases h with h | h <;> rw [h] <;> rfl

/-- A change of the lane before its attempt is aborted: the code and the run of aborts. -/
theorem State.abortResync_modLane {s : State} {x : LaneId} {f : Lane → Lane} (code : Nat) (hstate : (f (s.lane x)).vt.state.inResync = true)
    (hrun : (f (s.lane x)).vt.abortRun = (s.lane x).vt.abortRun) :
    (((s.modLane x f).abortResync x code).lane x).vt.abort = code ∧
    (((s.modLane x f).abortResync x code).lane x).vt.abortRun = (s.lane x).vt.abortRun + 1 := by
  rw [← s.lane_modLane_self x f] at hstate hrun
  obtain ⟨hcode, hnext, -⟩ := State.abortResync_spec code hstate
  exact ⟨hcode, hnext.trans (congrArg (· + 1) hrun)⟩

theorem exec_timeout_of_inResync {s : State} {x : LaneId} {c : Instr} (hc : c = Instr.resyncPhaseTimeout x ∨ c = Instr.resyncAttemptTimeout x)
    (h : (s.lane x).vt.state ≠ .rotationTest) : exec c s = .next (s.abortResync x 5) := by
  rcases hc with rfl | rfl
  · exact congrArg _ (if_neg h)
  · exact congrArg _ (if_neg h)

/-! ## The loading phase (R147, R333) -/

/-- What a lane makes of the image it finds in its loading phase, `y` one of its donors. -/
def State.loadingJudged (s : State) (x y : LaneId) : Except (Nat × Nat) Image → State
  | .error (code, idx) => (s.modLane x (fun l => l.imageRefused x code idx l.activeSlot.file)).abortResync x 1
  | .ok m =>
    if m.digest = (s.lane y).image.digest then s.modLane x (fun l => { l.activate m with vt := { (l.activate m).vt with state := .joining } }) else s

theorem exec_resyncLoadingComplete_of_loading {s : State} {x y z : LaneId} (hdonors : s.donors x = some (y, z)) (hstate : (s.lane x).vt.state = .loading)
    (hslices : (s.lane x).bi.slices = 1) (hfail : (s.lane x).rc.fail ≠ 5) :
    exec (.resyncLoadingComplete x) s = .next (s.loadingJudged x y (loadImage (s.loadEnv x) (s.lane x).activeSlot.file)) := by
  have hexec : exec (.resyncLoadingComplete x) s = _ := if_neg (by simp [hstate, hslices, hfail])
  rw [hexec, hdonors]
  dsimp only
  cases loadImage (s.loadEnv x) (s.lane x).activeSlot.file with
  | error e => rfl
  | ok m => exact (apply_ite Host.Outcome.next _ _ _).symm

theorem exec_resyncLoadingComplete_of_fail {s : State} {x : LaneId} (h : (s.lane x).rc.fail = 5) : exec (.resyncLoadingComplete x) s = .next s :=
  if_pos (by simp [h])

/-- The loading phase leaves the other lanes and the basin. -/
theorem State.loadingJudged_keeps (s : State) (x y : LaneId) (found : Except (Nat × Nat) Image) :
    (∀ d, d ≠ x → (s.loadingJudged x y found).lane d = s.lane d) ∧ (s.loadingJudged x y found).basin = s.basin := by
  cases found with
  | error e =>
    obtain ⟨code, idx⟩ := e
    exact ⟨fun d hd => (State.lane_abortBy_ne _ _ _ hd).trans (s.lane_modLane_ne _ hd), State.abortResync_basin ..⟩
  | ok m =>
    dsimp only [State.loadingJudged]
    split
    · exact ⟨fun d hd => s.lane_modLane_ne _ hd, rfl⟩
    · exact ⟨fun d _ => rfl, rfl⟩

/-! ## The joining phase (R147, R148) -/

/-- The cycle of a joining lane's base: the one in progress, or the next where a donor has committed it (R149). -/
def State.joinFirst (s : State) (y z : LaneId) : Nat :=
  if (s.lane y).vt.committed = some s.cycle || (s.lane z).vt.committed = some s.cycle then s.cycle + 1 else s.cycle

/-- A lane that has taken its donors' agreed tide, `off` ticks from its own, waits for its base. -/
def Lane.joined (l : Lane) (off : Int) (cycle first : Nat) : Lane :=
  { l with td := { l.td with tide := ((l.td.tide : Int) + off).toNat, cycle := cycle, rx := PerLane.all none },
           vt := { l.vt with state := .base, joinCycle := some first } }

/-- A lane has joined and its donors watch it (R148). -/
def State.joinedBy (s : State) (x y z : LaneId) (off : Int) : State :=
  ((s.modLane x (·.joined off s.cycle (s.joinFirst y z))).modLane y (·.watchJoiner x)).modLane z (·.watchJoiner x)

section
variable {s : State} {x y z : LaneId} (hdonors : s.donors x = some (y, z))
include hdonors

theorem exec_resyncJoining_of_fail (hfail : (s.lane x).rc.fail = 5) : exec (.resyncJoining x) s = .next s := by
  simp only [exec, execResyncJoining, hdonors, hfail]
  split <;> simp

theorem exec_resyncJoining_of_joining {p q : Int × Int} (hstate : (s.lane x).vt.state = .joining) (hfail : (s.lane x).rc.fail ≠ 5)
    (hy : (s.lane x).td.rx.get y = some p) (hz : (s.lane x).td.rx.get z = some q) (hdelayY : ((s.lane x).td.linkDelay.get y).isSome = true)
    (hdelayZ : ((s.lane x).td.linkDelay.get z).isSome = true) : exec (.resyncJoining x) s =
      .next (s.joinedBy x y z (halve (p.1 + q.1))) := by
  have hready : ((s.lane x).vt.state == .joining && (s.lane x).rc.fail != 5 && ((s.lane x).td.linkDelay.get y).isSome &&
      ((s.lane x).td.linkDelay.get z).isSome) = true := by
    simp [hstate, hfail, hdelayY, hdelayZ]
  dsimp only [exec, execResyncJoining]
  rw [hdonors]
  dsimp only
  rw [hy, hz]
  dsimp only
  rw [if_pos hready]
  exact congrArg (fun t => Host.Outcome.next ((State.modLane t y (·.watchJoiner x)).modLane z (·.watchJoiner x))) (State.modLane_congr rfl)

end

/-- A donor that watches a lane goes on with its engine and its outputs. -/
theorem State.watchJoiner_keeps (s : State) (x y d : LaneId) :
    ((s.modLane y (·.watchJoiner x)).lane d).pe = (s.lane d).pe ∧ ((s.modLane y (·.watchJoiner x)).lane d).io = (s.lane d).io := by
  by_cases h : d = y
  · rw [h, s.lane_modLane_self]
    exact ⟨rfl, rfl⟩
  · rw [s.lane_modLane_ne _ h]
    exact ⟨rfl, rfl⟩

theorem State.joinedBy_spec (s : State) {x y z : LaneId} (off : Int) (hy : y ≠ x) (hz : z ≠ x) :
    (s.joinedBy x y z off).lane x = (s.lane x).joined off s.cycle (s.joinFirst y z) ∧
    ∀ d, d ≠ x → ((s.joinedBy x y z off).lane d).pe = (s.lane d).pe ∧ ((s.joinedBy x y z off).lane d).io = (s.lane d).io := by
  unfold State.joinedBy
  refine ⟨?_, fun d hd => ?_⟩
  · rw [State.lane_modLane_ne _ _ hz.symm, State.lane_modLane_ne _ _ hy.symm, s.lane_modLane_self]
  · obtain ⟨hpeZ, hioZ⟩ := State.watchJoiner_keeps ((s.modLane x _).modLane y _) x z d
    obtain ⟨hpeY, hioY⟩ := State.watchJoiner_keeps (s.modLane x _) x y d
    rw [hpeZ, hioZ, hpeY, hioY, s.lane_modLane_ne _ hd]
    exact ⟨rfl, rfl⟩

/-! ## The base (R149) -/

/-- Whether a block stands among those a lane has of one donor. -/
def holdsBlock (bs : Assoc (List Byte)) (i : Nat) : Bool := bs.any (fun p => p.1 == i)

theorem holdsBlock_insert (bs : Assoc (List Byte)) (k : Nat) (v : List Byte) (i : Nat) :
    holdsBlock (Assoc.insert k v bs) i = (k == i || holdsBlock bs i) := by
  induction bs with
  | nil => simp [holdsBlock, Assoc.insert]
  | cons p bs ih =>
    obtain ⟨j, w⟩ := p
    unfold holdsBlock at ih ⊢
    rw [Assoc.insert]
    split_ifs with hlt heq
    · rfl
    · rw [heq, List.any_cons, List.any_cons, ← Bool.or_assoc, Bool.or_self]
    · rw [List.any_cons, ih, List.any_cons, Bool.or_left_comm]

/-- A block kept beside the others of its donor. -/
def State.blockKept (s : State) (x d : LaneId) (i : Nat) (data : List Byte) : State :=
  s.modLane x (fun l => { l with vt := { l.vt with blocks := l.vt.blocks.modify d (fun b => Assoc.insert i data b) } })

theorem State.blocks_blockKept (s : State) {x d o : LaneId} (i : Nat) (data : List Byte) (hod : o ≠ d) :
    ((s.blockKept x d i data).lane x).vt.blocks.get d = Assoc.insert i data ((s.lane x).vt.blocks.get d) ∧
    ((s.blockKept x d i data).lane x).vt.blocks.get o = (s.lane x).vt.blocks.get o := by
  rw [State.blockKept, s.lane_modLane_self]
  exact ⟨PerLane.get_modify_self .., PerLane.get_modify_ne _ _ hod⟩

/-- What a lane makes of block `i` of donor `d`, which carries `data` of the donor's base `b`, `o` the other donor: another copy of it aborts, the last one
completes the base. -/
def State.blockJudged (s : State) (x d o : LaneId) (i : Nat) (b : Base) (data : List Byte) : State :=
  let mine := ((s.blockKept x d i data).lane x).vt.blocks.get d
  let theirs := ((s.blockKept x d i data).lane x).vt.blocks.get o
  if holdsBlock theirs i && Assoc.get [] theirs i ≠ data then (s.blockKept x d i data).abortResync x 2
  else if (List.range 258).all (fun i => holdsBlock mine i && holdsBlock theirs i) then
    (s.blockKept x d i data).modLane x (fun l => l.loadBase l.image b (mine.flatMap (·.2)))
  else s.blockKept x d i data

section
variable {s : State} {x d o : LaneId} {i : Nat} {b : Base} {data : List Byte} (hod : o ≠ d)
include hod

/-- The first copy of a block is kept. -/
theorem State.blockJudged_of_first (hi : i < 258) (h : holdsBlock ((s.lane x).vt.blocks.get o) i = false) :
    s.blockJudged x d o i b data = s.blockKept x d i data := by
  obtain ⟨hmine, htheirs⟩ := s.blocks_blockKept (x := x) i data hod
  rw [State.blockJudged, hmine, htheirs, if_neg (by simp [h]), if_neg]
  intro hall
  have hi := List.all_eq_true.1 hall i (List.mem_range.2 hi)
  rw [h, Bool.and_false] at hi
  exact absurd hi (by decide)

theorem State.blockJudged_of_other (h : holdsBlock ((s.lane x).vt.blocks.get o) i = true) (hne : Assoc.get [] ((s.lane x).vt.blocks.get o) i ≠ data) :
    s.blockJudged x d o i b data = (s.blockKept x d i data).abortResync x 2 := by
  obtain ⟨hmine, htheirs⟩ := s.blocks_blockKept (x := x) i data hod
  rw [State.blockJudged, hmine, htheirs, if_pos (by simp [h, hne])]

/-- The last block of a base that both donors have sent the same completes it. -/
theorem State.blockJudged_of_last (hsame : Assoc.get [] ((s.lane x).vt.blocks.get o) i = data)
    (hall : ∀ j, j < 258 → holdsBlock ((s.lane x).vt.blocks.get o) j = true ∧ (j = i ∨ holdsBlock ((s.lane x).vt.blocks.get d) j = true)) :
    s.blockJudged x d o i b data =
      (s.blockKept x d i data).modLane x (fun l => l.loadBase l.image b ((Assoc.insert i data ((s.lane x).vt.blocks.get d)).flatMap (·.2))) := by
  obtain ⟨hmine, htheirs⟩ := s.blocks_blockKept (x := x) i data hod
  rw [State.blockJudged, hmine, htheirs, if_neg (by simp [hsame]), if_pos]
  refine List.all_eq_true.2 fun j hj => ?_
  obtain ⟨ho, hd⟩ := hall j (List.mem_range.1 hj)
  rw [holdsBlock_insert, ho, Bool.and_true, Bool.or_eq_true, beq_iff_eq]
  exact hd.imp_left Eq.symm

end

/-- What a lane reads from the bytes of its base (Table 6-8), its drive at rest. -/
theorem Lane.loadBase_spec (l : Lane) (m : Image) (b : Base) (bs : List Byte) :
    let k := l.loadBase m b bs
    k.vt.state = .catchUp ∧ k.vt.applied = some b.cycle ∧ k.pe.cur = tableOf 2 262144 bs 256 ∧ k.pe.next = tableOf 2 262144 bs 256 ∧
    k.pe.consts = tableOf 4 65536 bs 524544 ∧ k.pe.forces = forcesFrom (slice bs 786688 2048) ∧ k.io.drives = false := by
  simp [Lane.loadBase, LaneIO.fromDonor]

theorem exec_baseBlockReceive_of_bad (s : State) (x d : LaneId) (block : Fin 258) : exec (.baseBlockReceive x d block false) s = .next (s.linkError x d) := rfl

section
variable {s : State} {x y z d o : LaneId} {block : Fin 258} (hdonors : s.donors x = some (y, z)) (hd : d = y ∧ o = z ∨ d = z ∧ o = y)
  (hstate : (s.lane x).vt.state = .base)
include hdonors hd hstate

theorem exec_baseBlockReceive_of_none (hbase : (s.lane d).vt.baseTaken = none) : exec (.baseBlockReceive x d block true) s = .next s := by
  obtain ⟨hdx, -, -⟩ := State.donors_pair hdonors hd
  simp [exec, execBaseBlockReceive, hstate, hdx, hdonors, hbase]

theorem exec_baseBlockReceive_of_some {b : Base} (hbase : (s.lane d).vt.baseTaken = some b) :
    exec (.baseBlockReceive x d block true) s = .next (s.blockJudged x d o block.val b (b.block (s.lane d).image block.val)) := by
  obtain ⟨hdx, hod, hother⟩ := State.donors_pair hdonors hd
  have hexec : exec (.baseBlockReceive x d block true) s = _ := if_neg (by simp [hstate, hdx])
  rw [hexec, hdonors, hbase]
  dsimp only
  rw [← hother, State.blockJudged, apply_ite Host.Outcome.next, apply_ite Host.Outcome.next]
  rcases hd with ⟨rfl, rfl⟩ | ⟨rfl, rfl⟩
  · rfl
  · simp only [Bool.and_comm (holdsBlock (PerLane.get _ d) _)]
    rfl

end

/-! ## The deltas (R150) -/

/-- Whether a donor's delta of the cycle of `data` differs from it. -/
def deltaDiffers (ds : List (List Byte)) (data : List Byte) : Bool := ds.any (fun e => getBE e 0 8 == getBE data 0 8 && e != data)

/-- A delta kept behind the others of its donor. -/
def State.deltaKept (s : State) (x d : LaneId) (data : List Byte) : State :=
  s.modLane x (fun l => { l with vt := { l.vt with deltas := l.vt.deltas.modify d (· ++ [data]) } })

/-- What a lane makes of a delta of donor `d`, `o` the other donor. -/
def State.deltaJudged (s : State) (x d o : LaneId) (data : List Byte) : State :=
  if deltaDiffers ((s.lane x).vt.deltas.get o) data then (s.deltaKept x d data).abortResync x 2
  else if 0x400000 < (s.lane x).vt.deltaBytes d + data.length then (s.deltaKept x d data).abortResync x 6
  else s.deltaKept x d data

theorem exec_deltaReceive_of_bad (s : State) (x d : LaneId) (data : List Byte) : exec (.deltaReceive x d data false) s = .next (s.linkError x d) := rfl

theorem exec_deltaReceive_of_kept {s : State} {x y z d o : LaneId} (data : List Byte) (hdonors : s.donors x = some (y, z))
    (hd : d = y ∧ o = z ∨ d = z ∧ o = y) (hstate : (s.lane x).vt.state = .base ∨ (s.lane x).vt.state = .catchUp) :
    exec (.deltaReceive x d data true) s = .next (s.deltaJudged x d o data) := by
  obtain ⟨hdx, hod, hother⟩ := State.donors_pair hdonors hd
  have hkeeps : (s.lane x).keepsArrivals = true := (s.lane x).keepsArrivals_iff.2 hstate
  have htheirs : ((s.deltaKept x d data).lane x).vt.deltas.get o = (s.lane x).vt.deltas.get o := by
    rw [State.deltaKept, s.lane_modLane_self]
    exact PerLane.get_modify_ne _ _ hod
  have hbytes : ((s.deltaKept x d data).lane x).vt.deltaBytes d = (s.lane x).vt.deltaBytes d + data.length := by
    rw [State.deltaKept, s.lane_modLane_self]
    simp [Vote.deltaBytes]
  have hexec : exec (.deltaReceive x d data true) s = _ := if_neg (by simp [hkeeps, hdx])
  rw [hexec, hdonors]
  dsimp only
  rw [← hother, State.deltaJudged, ← htheirs, ← hbytes, apply_ite Host.Outcome.next, apply_ite Host.Outcome.next]
  rfl

/-- Settles O32: the phases of a resync, each with its end. Which bytes of the base are read is log entry 39, the halving of the donors' tide log entry 16;
the signature of an image is verified as log entry 6 leaves it. -/
theorem resyncMovesThroughItsPhases : Obligations.ResyncMovesThroughItsPhases := by
  refine ⟨fun d hcycle hslots hconsts hforces => Delta.ofBytes_bytes hforces hcycle hslots hconsts, fun s x y z hdonors => ?_⟩
  obtain ⟨hyx, hzx, -⟩ := State.donors_ne hdonors
  refine ⟨fun hfail => ⟨exec_resyncLoadingComplete_of_fail hfail, exec_resyncJoining_of_fail hdonors hfail⟩, fun hstate hslices hfail => ?_,
    fun p q hstate hfail hy hz hdelayY hdelayZ => ?_, fun d o block hd hstate => ⟨fun hbase => ?_, fun b hbase => ?_⟩,
    fun d o data hd hstate => ?_, fun d block data => ⟨exec_baseBlockReceive_of_bad s x d block, exec_deltaReceive_of_bad s x d data⟩,
    fun c hc hresync hrot => ?_⟩
  · obtain ⟨hothers, hbasin⟩ := s.loadingJudged_keeps x y (loadImage (s.loadEnv x) (s.lane x).activeSlot.file)
    refine ⟨_, exec_resyncLoadingComplete_of_loading hdonors hstate hslices hfail, hothers, hbasin, fun m hm hsame => ?_, fun m hm hother => ?_,
      fun code idx herr => ?_⟩
    · rw [hm, State.loadingJudged, if_pos hsame, s.lane_modLane_self]
      exact ⟨s.onlyLane_modLane x _, rfl, Lane.image?_activate .., rfl, rfl⟩
    · rw [hm, State.loadingJudged, if_neg hother]
    · rw [herr, State.loadingJudged]
      exact State.abortResync_modLane 1 (congrArg LaneState.inResync hstate) rfl
  · obtain ⟨hlane, hothers⟩ := s.joinedBy_spec (halve (p.1 + q.1)) hyx hzx
    refine ⟨_, exec_resyncJoining_of_joining hdonors hstate hfail hy hz hdelayY hdelayZ, rfl, ?_⟩
    rw [hlane]
    exact ⟨rfl, rfl, rfl, rfl, hothers⟩
  · exact exec_baseBlockReceive_of_none hdonors hd hstate hbase
  · obtain ⟨-, hod, -⟩ := State.donors_pair hdonors hd
    rw [exec_baseBlockReceive_of_some hdonors hd hstate hbase]
    refine ⟨fun hfirst => congrArg _ (State.blockJudged_of_first hod block.isLt hfirst), fun hheld hother => ?_, fun hall hsame => ?_⟩
    · rw [State.blockJudged_of_other hod hheld hother]
      exact ⟨_, rfl, State.abortResync_modLane 2 (congrArg LaneState.inResync hstate) rfl⟩
    · rw [State.blockJudged_of_last hod hsame hall, State.blockKept, State.modLane_modLane]
      refine ⟨_, rfl, s.onlyLane_modLane x _, ?_⟩
      rw [s.lane_modLane_self]
      exact Lane.loadBase_spec ..
  · rw [exec_deltaReceive_of_kept data hdonors hd hstate]
    have hresync := Lane.inResync_of_keepsArrivals hstate
    refine ⟨fun (hsame : deltaDiffers _ data = false) hroom => ?_, fun (hdiffer : deltaDiffers _ data = true) => ?_,
      fun (hsame : deltaDiffers _ data = false) hfull => ?_⟩
    · rw [State.deltaJudged, if_neg (Bool.eq_false_iff.1 hsame), if_neg (Nat.not_lt.2 hroom)]
      rfl
    · rw [State.deltaJudged, if_pos hdiffer]
      exact ⟨_, rfl, State.abortResync_modLane 2 hresync rfl⟩
    · rw [State.deltaJudged, if_neg (Bool.eq_false_iff.1 hsame), if_pos hfull]
      exact ⟨_, rfl, State.abortResync_modLane 6 hresync rfl⟩
  · obtain ⟨hcode, hrun, hnext, hio, hreq⟩ := State.abortResync_spec 5 hresync
    exact ⟨_, exec_timeout_of_inResync hc hrot, hcode, hrun, hnext, hio, hreq, fun d hd => State.lane_abortBy_ne _ _ _ hd⟩

end Sys2Proof.Machine

/-! PROOF. Dark windows and cross-circuits (R231, R232): what the window's end leaves in a lane, and what a test sample makes of each input channel. -/

namespace Sys2Proof.Machine

/-! ## One bit of a register of flags -/

theorem onBit_putBit_self {w : Nat} (v : BitVec w) {i : Nat} (b : Bool) (hi : i < w) : onBit (putBit v i b) i = b :=
  (onBit_putBit v b i hi).trans (if_pos rfl)

theorem onBit_putBit_ne {w : Nat} (v : BitVec w) {i j : Nat} (b : Bool) (hi : i < w) (h : i ≠ j) : onBit (putBit v i b) j = onBit v j :=
  (onBit_putBit v b j hi).trans (if_neg h)

/-! ## The end of a dark window (R231, R236) -/

/-- The vital I/O with the dark window of pulse source 24 + j over. -/
def LaneIO.darkOver (io : LaneIO) (j : Nat) : LaneIO := { io with dark := putBit io.dark j false }

/-- A lane whose dark window of pulse source 24 + j has ended. -/
def Lane.darkEnded (l : Lane) (j : Nat) (sleeper : Bool) : Lane :=
  let io := { l.io.darkOver j with driveEnd := Assoc.put 0 l.io.driveEnd (24 + j) l.ms }
  { l with io := { io with quench := putBit io.quench (24 + j) (io.held (24 + j)),
                           toggle := putBit io.toggle (24 + j) (io.drives && io.mayDrive l.image io.cmd sleeper io.watchOut (24 + j)) } }

theorem exec_darkWindowEnd (j : Fin 8) (s : State) :
    exec (.darkWindowEnd j) s = .next (s.mapLanes fun _ l => if onBit l.io.dark j.val then l.darkEnded j.val s.sleeps else l) := rfl

/-- Outside its dark window a pulse source is driven as R236 grants it. -/
theorem LaneIO.mayDrive_darkOver (io : LaneIO) (m : Image) (cmd : BitVec 32) (sleeper share : Bool) {j : Nat} (hj : j < 8) :
    (io.darkOver j).mayDrive m cmd sleeper share (24 + j) = io.granted m cmd sleeper share (24 + j) := by
  have hdark : (io.darkOver j).inDark (24 + j) = false := by
    simp only [LaneIO.inDark, LaneIO.darkOver, Nat.add_sub_cancel_left, onBit_putBit_self _ _ hj, Bool.and_false]
  rw [LaneIO.mayDrive, hdark, Bool.not_false, Bool.and_true]
  rfl

theorem LaneIO.held_eq (io : LaneIO) (k : Nat) : io.held k = (onBit io.paused k || decide (Assoc.get 0 io.fault k = 4)) := rfl

section
variable (l : Lane) {j : Nat} (sleeper : Bool) (hj : j < 8)
include hj

theorem Lane.darkEnded_dark : onBit (l.darkEnded j sleeper).io.dark j = false := onBit_putBit_self _ _ hj

theorem Lane.darkEnded_quench : onBit (l.darkEnded j sleeper).io.quench (24 + j) = l.io.held (24 + j) := onBit_putBit_self _ _ (by omega)

theorem Lane.darkEnded_toggle : onBit (l.darkEnded j sleeper).io.toggle (24 + j) =
    (l.io.drives && l.io.granted l.image l.io.cmd sleeper l.io.watchOut (24 + j)) :=
  (onBit_putBit_self _ _ (by omega)).trans (congrArg _ (l.io.mayDrive_darkOver _ _ _ _ hj))

theorem Lane.darkEnded_others {k : Nat} (hk : k ≠ 24 + j) :
    onBit (l.darkEnded j sleeper).io.quench k = onBit l.io.quench k ∧ onBit (l.darkEnded j sleeper).io.toggle k = onBit l.io.toggle k :=
  ⟨onBit_putBit_ne _ _ (by omega) hk.symm, onBit_putBit_ne _ _ (by omega) hk.symm⟩

end

/-! ## A test sample of a pulse source (R232) -/

/-- An input channel at a test sample: its channel, and its run of zeros since the cross-circuit. -/
def Lane.testView (l : Lane) (c : Nat) : (Nat × Bool × Bool) × Nat := (l.io.channel c, Assoc.get 0 l.io.xzeros c)

/-- What a test sample leaves: the engine, the vote and the patterns. -/
def Lane.untestedView (l : Lane) : Engine × Vote × BitVec 32 := (l.pe, l.vt, l.io.toggle)

/-- Whether a test sample of pulse source 24 + j looks at an input. -/
def sourcedBy (e : InEntry) (j : Nat) : Bool := e.used && e.pulsed && e.source == 24 + j

theorem sourcedBy_iff (e : InEntry) (j : Nat) : sourcedBy e j = true ↔ e.used = true ∧ e.pulsed = true ∧ e.source = 24 + j := by
  simp [sourcedBy, and_assoc]

/-- What the test sample `b` of its source makes of an input channel (R232). -/
def testedChannel (b : Bool) (v : (Nat × Bool × Bool) × Nat) : (Nat × Bool × Bool) × Nat :=
  if b then ((0, false, true), 0)
  else if v.1.2.2 then if 3 ≤ v.2 + 1 then ((v.1.1, v.1.2.1, false), 0) else (v.1, v.2 + 1)
  else v

section
variable (m : Image) (x : LaneId) {j : Nat} (raw : BitVec 64) (l : Lane) {i : Nat}

theorem Lane.testInput_of_not_sourced (h : sourcedBy (m.input i) j = false) : l.testInput m x j raw i = l :=
  if_pos (congrArg (!·) h)

theorem Lane.testView_testInput_self (hi : i < 64) (h : sourcedBy (m.input i) j = true) :
    (l.testInput m x j raw i).testView i = testedChannel (onBit raw i) (l.testView i) := by
  obtain ⟨hused, hpulsed, hsource⟩ := (sourcedBy_iff _ _).1 h
  by_cases hraw : onBit raw i = true <;> by_cases hx : onBit l.io.xcirc i = true
  · simp [Lane.testInput, testedChannel, Lane.testView, LaneIO.channel, hused, hpulsed, hsource, hraw, hx, onBit_putBit_self _ _ hi]
  · simp [Lane.testInput, testedChannel, Lane.testView, LaneIO.channel, hused, hpulsed, hsource, hraw, hx, onBit_putBit_self _ _ hi, Lane.log]
  · by_cases hn : 2 ≤ Assoc.get 0 l.io.xzeros i
    · simp [Lane.testInput, testedChannel, Lane.testView, LaneIO.channel, hused, hpulsed, hsource, hraw, hx, hn, onBit_putBit_self _ _ hi, Lane.log]
    · simp [Lane.testInput, testedChannel, Lane.testView, LaneIO.channel, hused, hpulsed, hsource, hraw, hx, hn]
  · simp [Lane.testInput, testedChannel, hused, hpulsed, hsource, hraw, hx, Lane.testView, LaneIO.channel]

theorem Lane.testView_testInput_ne {c : Nat} (hi : i < 64) (hc : i ≠ c) : (l.testInput m x j raw i).testView c = l.testView c := by
  unfold Lane.testInput
  extract_lets e io ones n
  split_ifs <;> simp [io, ones, Lane.testView, LaneIO.channel, onBit_putBit_ne _ _ hi hc, Assoc.get_put_ne hc, Lane.log]

/-- A test sample of every input moves those of its source alone, each for itself. -/
theorem Lane.testView_testInputs {c : Nat} (hc : c < 64) :
    ((List.range 64).foldl (Lane.testInput m x j raw) l).testView c =
      if sourcedBy (m.input c) j then testedChannel (onBit raw c) (l.testView c) else l.testView c := by
  refine (foldl_range_read Lane.testView _ (fun i v => if sourcedBy (m.input i) j then testedChannel (onBit raw i) v else v)
    (fun l i c hi => ?_) l c).trans (if_pos hc)
  by_cases hic : i = c
  · subst hic
    rw [if_pos rfl]
    by_cases h : sourcedBy (m.input i) j = true
    · rw [if_pos h, l.testView_testInput_self m x raw hi h]
    · rw [if_neg h, l.testInput_of_not_sourced m x raw (Bool.eq_false_iff.2 h)]
  · rw [if_neg hic, l.testView_testInput_ne m x raw hi hic]

theorem Lane.untestedView_testInput : (l.testInput m x j raw i).untestedView = l.untestedView := by
  unfold Lane.testInput
  extract_lets e io ones n
  split_ifs <;> rfl

theorem Lane.untestedView_testInputs (cs : List Nat) : (cs.foldl (Lane.testInput m x j raw) l).untestedView = l.untestedView :=
  foldl_keeps Lane.untestedView _ (fun l _ => l.untestedView_testInput m x raw) cs l

end

/-- What a test sample leaves of the channel of an input of its source (R232). -/
theorem testedChannel_spec (b : Bool) (v : (Nat × Bool × Bool) × Nat) :
    (b = true → testedChannel b v = ((0, false, true), 0)) ∧
      (b = false → v.1.2.2 = true → (testedChannel b v).1.2.2 = decide (v.2 < 2)) ∧
      (b = false → v.1.2.2 = false → testedChannel b v = v) := by
  refine ⟨fun hb => if_pos hb, fun hb hx => ?_, fun hb hx => by simp [testedChannel, hb, hx]⟩
  by_cases hn : v.2 < 2
  · simp [testedChannel, hb, hx, hn, Nat.not_le_of_lt hn]
  · simp [testedChannel, hb, hx, hn, Nat.le_of_not_lt hn]

/-- Settles O12: a dark window's end by what it leaves in each lane, a test sample by what it makes of each input channel for itself. -/
theorem darkWindowsFindCrossCircuits : Obligations.DarkWindowsFindCrossCircuits := by
  refine fun s j => ⟨?_, ⟨_, exec_darkWindowEnd j s, rfl, fun x => ?_⟩, fun x raw => ⟨_, rfl, s.onlyLane_modLane x _, ?_⟩⟩
  · refine congrArg Host.Outcome.next (congrArg s.mapLanes (funext fun x => funext fun l => ?_))
    simp only [Bool.and_eq_true]
  · rw [s.lane_mapLanes]
    intro l l'
    refine ⟨fun h => if_neg (Bool.eq_false_iff.1 h), fun h => ?_⟩
    have hl' : l' = l.darkEnded j.val s.sleeps := if_pos h
    rw [hl']
    exact ⟨l.darkEnded_dark _ j.isLt, l.darkEnded_quench _ j.isLt, l.darkEnded_toggle _ j.isLt, Assoc.get_put_self .., rfl, rfl, rfl,
      fun k _ hk => l.darkEnded_others _ j.isLt hk⟩
  · rw [s.lane_modLane_self]
    have hleft := (s.lane x).untestedView_testInputs (s.lane x).image x (j := j.val) raw (List.range 64)
    simp only [Lane.untestedView, Prod.mk.injEq] at hleft
    obtain ⟨hpe, hvt, htoggle⟩ := hleft
    refine ⟨hpe, hvt, htoggle, fun c hc => ?_⟩
    have hview := (s.lane x).testView_testInputs (s.lane x).image x (j := j.val) raw hc
    generalize (List.range 64).foldl (Lane.testInput (s.lane x).image x j.val raw) (s.lane x) = t at hview
    obtain ⟨hone, hheld, hfree⟩ := testedChannel_spec (onBit raw c) ((s.lane x).testView c)
    simp only [← sourcedBy_iff]
    refine ⟨fun hs hb => ?_, fun hs hb hx => ?_, fun hs hb hx => ?_, fun hs => ?_⟩
    · rw [if_pos hs, hone hb] at hview
      exact ⟨congrArg (·.1.2.2) hview, congrArg (·.1.2.1) hview, congrArg (·.1.1) hview⟩
    · rw [if_pos hs] at hview
      exact (congrArg (·.1.2.2) hview).trans (hheld hb hx)
    · rw [if_pos hs, hfree hb hx] at hview
      exact ⟨(congrArg (·.1.2.2) hview).trans hx, congrArg (·.1.2.1) hview⟩
    · rw [if_neg hs] at hview
      exact ⟨congrArg (·.1.2.2) hview, congrArg (·.1.2.1) hview⟩

end Sys2Proof.Machine

/-! PROOF. Test pulses (R241, R243, Table 9-3): what the start, the begin and the end of a pulse make of a lane. -/

namespace Sys2Proof

theorem Assoc.get_upd_self {α : Type} [DecidableEq α] (d : α) (m : Assoc α) (k : Nat) (f : α → α) :
    Assoc.get d (Assoc.upd d m k f) k = f (Assoc.get d m k) := Assoc.get_put_self ..

end Sys2Proof

namespace Sys2Proof.Machine

theorem Lane.overdueCheck_only (l : Lane) (x : LaneId) (k : Nat) :
    ∃ v mb, l.overdueCheck x k = { l with io := { l.io with overdue := v }, mb := mb } := by
  unfold Lane.overdueCheck
  split
  · exact ⟨_, _, rfl⟩
  · exact ⟨l.io.overdue, l.mb, rfl⟩

/-! ## The start of a pulse -/

/-- Whether a lane has no slot for channel `k`: out of service, or the channel unused or a pulse source (R241). -/
def Lane.slotless (l : Lane) (k : Nat) : Bool := !l.inService || !((l.image.output k).used && !(l.image.output k).pulse)

theorem Lane.slotless_iff (l : Lane) (k : Nat) :
    l.slotless k = true ↔ l.inService = false ∨ (l.image.output k).used = false ∨ (l.image.output k).pulse = true := by
  simp only [Lane.slotless, Bool.or_eq_true, Bool.not_eq_true', Bool.and_eq_false_iff, Bool.not_eq_false']

theorem Lane.slotless_of_due {l : Lane} {k : Nat} (hservice : l.inService = true) (hused : (l.image.output k).used = true)
    (hpulse : (l.image.output k).pulse = false) : l.slotless k = false := by
  simp [Lane.slotless, hservice, hused, hpulse]

/-- A lane in which another interval of channel `k` has begun. -/
def LaneIO.nextInterval (io : LaneIO) (k : Nat) : LaneIO := { io with intervals := Assoc.upd 0 io.intervals k (fun n => min (n + 1) 255) }

/-- A lane at the slot of channel `k`, which is tested or counts as missed (R241, R243). -/
def Lane.pulseStarted (l : Lane) (x : LaneId) (k : Nat) (sleeper : Bool) : Lane :=
  if l.io.testable l.image sleeper k then
    { l with io := { l.io.nextInterval k with
        quench := putBit l.io.quench k true, toggle := putBit l.io.toggle k true,
        window := some { channel := k, onPulse := !onBit l.io.toggle k, begun := onBit l.io.toggle k, ended := false, pass := false,
                         high := false, others := 0 } } }
  else { l with io := { l.io.nextInterval k with missed := Assoc.upd 0 l.io.missed k (· + 1) } }.overdueCheck x k

theorem exec_testPulseStart (k : Fin 32) (s : State) :
    exec (.testPulseStart k) s = .next (s.mapLanes fun x l => if l.slotless k.val then l else l.pulseStarted x k.val s.sleeps) := rfl

section
variable {l : Lane} (x : LaneId) {k : Nat} {sleeper : Bool}

theorem Lane.pulseStarted_of_testable (hk : k < 32) (h : l.io.testable l.image sleeper k = true) :
    onBit (l.pulseStarted x k sleeper).io.quench k = true ∧ onBit (l.pulseStarted x k sleeper).io.toggle k = true ∧
      (l.pulseStarted x k sleeper).io.window =
        some { channel := k, onPulse := !onBit l.io.toggle k, begun := onBit l.io.toggle k, ended := false, pass := false, high := false, others := 0 } := by
  rw [Lane.pulseStarted, if_pos h]
  exact ⟨onBit_putBit_self _ _ hk, onBit_putBit_self _ _ hk, rfl⟩

theorem Lane.pulseStarted_of_not_testable (h : l.io.testable l.image sleeper k = false) :
    Assoc.get 0 (l.pulseStarted x k sleeper).io.missed k = Assoc.get 0 l.io.missed k + 1 ∧
      (l.pulseStarted x k sleeper).io.quench = l.io.quench ∧ (l.pulseStarted x k sleeper).io.toggle = l.io.toggle := by
  rw [Lane.pulseStarted, if_neg (Bool.eq_false_iff.1 h)]
  obtain ⟨v, mb, hcheck⟩ := Lane.overdueCheck_only { l with io := { l.io.nextInterval k with missed := Assoc.upd 0 l.io.missed k (· + 1) } } x k
  rw [hcheck]
  exact ⟨Assoc.get_upd_self 0 l.io.missed k (· + 1), rfl, rfl⟩

end

/-! ## The begin and the end of a pulse -/

/-- A lane whose on-pulse on channel `k` has begun: the quench is released (R241). -/
def Lane.pulseBegun (l : Lane) (k : Nat) (w : TestWindow) : Lane :=
  { l with io := { l.io with quench := putBit l.io.quench k false, window := some { w with begun := true } } }

/-- A lane whose pulse on channel `k` has ended: an off-pulse's quench is released, an on-pulse's asserted and its pattern stopped (Table 9-3). -/
def Lane.pulseEnded (l : Lane) (k : Nat) (w : TestWindow) : Lane :=
  let io := { l.io with quench := putBit l.io.quench k w.onPulse, window := some { w with ended := true } }
  { l with io := if w.onPulse then { io with toggle := putBit io.toggle k false, driveEnd := Assoc.put 0 io.driveEnd k l.ms } else io }

section
variable {s t : State} {x : LaneId} {w : TestWindow} (k : Fin 32)

theorem lane_testPulseBegin (h : exec (.testPulseBegin k) s = .next t) (hw : (s.lane x).io.window = some w) :
    t.lane x = if w.channel = k.val ∧ w.onPulse = true ∧ w.begun = false then (s.lane x).pulseBegun k.val w else s.lane x := by
  obtain rfl := Host.Outcome.next.inj h
  rw [s.lane_mapLanes, hw]
  simp only [Bool.not_eq_true', Lane.pulseBegun]

theorem lane_testPulseEnd (h : exec (.testPulseEnd k) s = .next t) (hw : (s.lane x).io.window = some w) (hchannel : w.channel = k.val)
    (hbegun : w.begun = true) (hended : w.ended = false) : t.lane x = (s.lane x).pulseEnded k.val w := by
  obtain rfl := Host.Outcome.next.inj h
  rw [s.lane_mapLanes, hw]
  cases hon : w.onPulse <;> simp [Lane.pulseEnded, hchannel, hbegun, hended, hon]

end

theorem Lane.pulseEnded_spec (l : Lane) {k : Nat} (w : TestWindow) (hk : k < 32) :
    onBit (l.pulseEnded k w).io.quench k = w.onPulse ∧ (l.pulseEnded k w).io.window = some { w with ended := true } ∧
      (l.pulseEnded k w).io.toggle = if w.onPulse then putBit l.io.toggle k false else l.io.toggle := by
  unfold Lane.pulseEnded
  dsimp only
  split
  · exact ⟨onBit_putBit_self _ _ hk, rfl, rfl⟩
  · exact ⟨onBit_putBit_self _ _ hk, rfl, rfl⟩

/-- Settles O13: each of the three commands by what it makes of a lane. Whether an output is energised, so that its pulse is an off-pulse, is judged by
the lane's own pattern (log entry 122). -/
theorem testPulsesFollowTheirPattern : Obligations.TestPulsesFollowTheirPattern := by
  refine fun s k => ⟨⟨_, exec_testPulseStart k s, rfl, fun x => ?_⟩, ?_, ?_⟩
  · rw [s.lane_mapLanes]
    refine ⟨fun hservice hused hpulse htest => ?_, fun hservice hused hpulse htest => ?_, fun h => if_pos ((Lane.slotless_iff _ _).2 h)⟩
    · rw [if_neg (Bool.eq_false_iff.1 (Lane.slotless_of_due hservice hused hpulse))]
      exact Lane.pulseStarted_of_testable x k.isLt htest
    · rw [if_neg (Bool.eq_false_iff.1 (Lane.slotless_of_due hservice hused hpulse))]
      exact Lane.pulseStarted_of_not_testable x htest
  · exact ⟨_, rfl, rfl, fun x w hw => lane_testPulseBegin k rfl hw⟩
  · refine ⟨_, rfl, rfl, fun x w hw hchannel hbegun hended => ?_⟩
    rw [lane_testPulseEnd k rfl hw hchannel hbegun hended]
    exact Lane.pulseEnded_spec _ w k.isLt

end Sys2Proof.Machine

/-! PROOF. Test windows (R240, R243, Table 9-4): a readback sample in an open window, a fault latched while no window is open, and the result that stands
at a window's end. -/

namespace Sys2Proof.Machine

/-! ## A readback sample in an open window -/

/-- The window in which a readback sample has been taken (R240). -/
def Lane.windowSampled (l : Lane) (w : TestWindow) (readback us : BitVec 32) : TestWindow :=
  { w with
    pass := w.pass || (if w.onPulse then onBit readback w.channel && decide (2000 ≤ us.toNat) && decide (us.toNat ≤ 2100)
                       else !onBit readback w.channel && decide (50 ≤ us.toNat) && decide (us.toNat ≤ 200)),
    high := w.high || (w.ended && onBit readback w.channel),
    others := (List.range 32).foldl (fun v c =>
      if c = w.channel then v
      else if w.onPulse then (if l.io.settledOff l.ms c && onBit readback c then putBit v c true else v)
      else (if l.io.settledOn l.ms c && !onBit readback c then putBit v c true else v)) w.others }

theorem exec_readbackSample_of_window {s : State} {x : LaneId} {w : TestWindow} (readback us : BitVec 32) (h : (s.lane x).io.window = some w) :
    exec (.readbackSample x readback us) s =
      .next (s.modLane x fun l => { l with io := { l.io with window := some (l.windowSampled w readback us) } }) :=
  congrArg Host.Outcome.next (State.modLane_congr (by rw [h]; rfl))

/-! ## A fault latched while no test window is open -/

theorem LaneIO.abortTestIf_of_closed {io : LaneIO} (h : io.window = none) (ms : Nat) (p : TestWindow → Bool) : io.abortTestIf ms p = io := by
  rw [LaneIO.abortTestIf, h]

/-- What the latch of a fault leaves of the vital I/O where no test window is open: the window's side and the results in TEST. -/
def LaneIO.closedView (io : LaneIO) : (Option TestWindow × BitVec 32 × Nat) × Assoc Nat := ((io.window, io.quench, io.testCnt), io.test)

/-- What the latch of a fault leaves of a lane where no test window is open. -/
def Lane.closedView (l : Lane) : (Engine × Vote × Option TestWindow × BitVec 32 × Nat) × Assoc Nat :=
  ((l.pe, l.vt, l.io.closedView.1), l.io.closedView.2)

theorem LaneIO.closedView_latchGroup {io : LaneIO} (h : io.window = none) (k cause ms : Nat) :
    (io.latchGroup k cause ms).closedView = io.closedView := by
  unfold LaneIO.latchGroup
  extract_lets g aborted quenched mine dropped
  have habort : aborted.closedView = io.closedView := by rw [show aborted = io from LaneIO.abortTestIf_of_closed h _ _]
  have hdrop : dropped.closedView = quenched.closedView := foldl_keeps LaneIO.closedView _ (by intros; rfl) mine quenched
  split <;> exact hdrop.trans habort

/-- A group once latched is latched, and has no drive (R236). -/
theorem LaneIO.latchGroup_latched (io : LaneIO) {k : Nat} (cause ms : Nat) (hk : k < 32) :
    onBit (io.latchGroup k cause ms).latched (groupOf k) = true ∧ onBit (io.latchGroup k cause ms).groupDrive (groupOf k) = false := by
  have hg : groupOf k < 4 := Nat.div_lt_of_lt_mul hk
  unfold LaneIO.latchGroup
  extract_lets g aborted quenched mine dropped
  split
  · exact ⟨‹_›, onBit_putBit_self _ _ hg⟩
  · exact ⟨onBit_putBit_self _ _ hg, onBit_putBit_self _ _ hg⟩

section
variable {l : Lane} (h : l.io.window = none) (x : LaneId) (k code cause : Nat)
include h

theorem Lane.latchFault_of_closed : l.latchFault x k code cause =
    { l with io := { l.io.latchGroup k cause l.ms with fault := Assoc.put 0 l.io.fault k code } }.faultRecord x k code := by
  rw [Lane.latchFault, h]
  rfl

theorem Lane.closedView_latchFault : (l.latchFault x k code cause).closedView = l.closedView := by
  rw [Lane.latchFault_of_closed h]
  exact congrArg (fun v => ((l.pe, l.vt, v.1), v.2)) (LaneIO.closedView_latchGroup h k cause l.ms)

theorem Lane.fault_latchFault : (l.latchFault x k code cause).io.fault = Assoc.put 0 l.io.fault k code := by
  rw [Lane.latchFault_of_closed h]
  rfl

theorem Lane.latched_latchFault (hk : k < 32) : onBit (l.latchFault x k code cause).io.latched (groupOf k) = true ∧
    onBit (l.latchFault x k code cause).io.groupDrive (groupOf k) = false := by
  rw [Lane.latchFault_of_closed h]
  exact l.io.latchGroup_latched cause l.ms hk

theorem Lane.closedView_crossWired (j : Nat) : (l.crossWired x k j).closedView = l.closedView :=
  Lane.closedView_latchFault h x j 2 2

end

theorem Lane.window_of_closedView {l t : Lane} (h : t.closedView = l.closedView) (hw : l.io.window = none) : t.io.window = none :=
  (congrArg (fun v => v.1.2.2.1) h : t.io.window = l.io.window).trans hw

theorem Lane.closedView_crossWireds {l : Lane} (h : l.io.window = none) (x : LaneId) (k : Nat) (js : List Nat) :
    (js.foldl (Lane.crossWired x k) l).closedView = l.closedView :=
  List.foldlRecOn (motive := fun t : Lane => t.closedView = l.closedView) js _ rfl fun _ ih j _ =>
    (Lane.closedView_crossWired (Lane.window_of_closedView ih h) x k j).trans ih

/-! ## The result of a test window (R243, Table 9-4) -/

/-- The other channels on which the pulse of a window was seen. -/
def TestWindow.seenOn (w : TestWindow) : List Nat := (List.range 32).filter fun c => onBit w.others c

theorem TestWindow.seenOn_of_zero {w : TestWindow} (h : w.others = 0) : w.seenOn = [] := by
  simp [TestWindow.seenOn, h, onBit]

theorem TestWindow.seenOn_of_single {w : TestWindow} {c : Nat} (hc : c < 32) (h : w.others = BitVec.ofNat 32 (2 ^ c)) : w.seenOn = [c] := by
  have hbit : ∀ i ∈ List.range 32, onBit w.others i = (i == c) := fun i hi => by
    rw [h, onBit, BitVec.getLsbD_ofNat, Nat.testBit_two_pow, decide_eq_true (List.mem_range.1 hi), Bool.true_and]
    exact decide_eq_decide.2 eq_comm
  rw [TestWindow.seenOn, List.filter_congr hbit, List.filter_beq, List.count_eq_one_of_mem List.nodup_range (List.mem_range.2 hc)]
  rfl

section
variable {l : Lane} {x : LaneId} {w : TestWindow}

theorem Lane.windowResult_of_pass (hseen : w.seenOn = []) (hpass : w.pass = true) :
    l.windowResult x w = { l with io := { l.io with test := Assoc.put 0 l.io.test w.channel 1 } } := by
  unfold Lane.windowResult
  rw [show (List.range 32).filter (fun c => onBit w.others c) = [] from hseen]
  exact if_pos hpass

/-- The result of a window that found a fault stands in TEST (R243). -/
def Lane.testFailed (l : Lane) (k : Nat) : Lane := { l with io := { l.io with test := Assoc.put 0 l.io.test k 2 } }

theorem Lane.windowResult_of_offPulse (hseen : w.seenOn = []) (hpass : w.pass = false) (hoff : w.onPulse = false) :
    l.windowResult x w = (l.testFailed w.channel).latchFault x w.channel 1 1 := by
  unfold Lane.windowResult
  rw [show (List.range 32).filter (fun c => onBit w.others c) = [] from hseen]
  simp [hpass, hoff, Lane.testFailed]

theorem Lane.windowResult_of_onPulse (hseen : w.seenOn = []) (hpass : w.pass = false) (hon : w.onPulse = true) :
    l.windowResult x w =
      { l with io := { (l.testFailed w.channel).io with fault := Assoc.put 0 l.io.fault w.channel 5 } }.faultRecord x w.channel 5 := by
  unfold Lane.windowResult
  rw [show (List.range 32).filter (fun c => onBit w.others c) = [] from hseen]
  simp [hpass, hon, Lane.testFailed]

/-- A lane that has latched channel `k` and the channels on which the pulse of `k` was seen (Table 9-4). -/
def Lane.crossLatched (l : Lane) (x : LaneId) (k : Nat) (js : List Nat) : Lane := js.foldl (Lane.crossWired x k) (l.latchFault x k 2 2)

theorem Lane.windowResult_of_seen {j : Nat} {js : List Nat} (hseen : w.seenOn = j :: js) :
    l.windowResult x w =
      let t := l.crossLatched x w.channel (j :: js)
      { t with io := { t.io with xpair := Assoc.put none t.io.xpair w.channel (some j), test := Assoc.put 0 t.io.test w.channel 2 } } := by
  unfold Lane.windowResult
  rw [show (List.range 32).filter (fun c => onBit w.others c) = j :: js from hseen]
  rfl

section
variable (h : l.io.window = none)
include h

theorem Lane.closedView_crossLatched (x : LaneId) (k : Nat) (js : List Nat) : (l.crossLatched x k js).closedView = l.closedView :=
  have hfirst := Lane.closedView_latchFault h x k 2 2
  (Lane.closedView_crossWireds (Lane.window_of_closedView hfirst h) x k js).trans hfirst

theorem Lane.fault_crossLatched (x : LaneId) (k c : Nat) :
    (l.crossLatched x k [c]).io.fault = Assoc.put 0 (Assoc.put 0 l.io.fault k 2) c 2 := by
  have hfirst := Lane.window_of_closedView (Lane.closedView_latchFault h x k 2 2) h
  exact (Lane.fault_latchFault hfirst x c 2 2).trans (by rw [Lane.fault_latchFault h])

/-- Whatever a window has found, its result leaves the engine, the vote, the quenches and the count of windows. -/
theorem Lane.closedView_windowResult (x : LaneId) (w : TestWindow) : (l.windowResult x w).closedView.1 = l.closedView.1 := by
  cases hseen : w.seenOn with
  | cons j js =>
    rw [Lane.windowResult_of_seen hseen]
    exact (congrArg Prod.fst (Lane.closedView_crossLatched h x w.channel (j :: js)) :)
  | nil =>
    cases hpass : w.pass with
    | true => rw [Lane.windowResult_of_pass hseen hpass]; rfl
    | false =>
      cases hon : w.onPulse with
      | true => rw [Lane.windowResult_of_onPulse hseen hpass hon]; rfl
      | false =>
        rw [Lane.windowResult_of_offPulse hseen hpass hon]
        exact (congrArg Prod.fst (Lane.closedView_latchFault (l := l.testFailed w.channel) h x w.channel 1 1) :)

end

end

/-! ## The end of a test window -/

/-- A lane whose test window of channel `k` has run to its end, its result not taken yet (R243). -/
def Lane.windowClosed (l : Lane) (k : Nat) : Lane :=
  { l with io := { l.io with window := none, quench := putBit l.io.quench k false, testCnt := sat l.io.testCnt,
                             intervals := Assoc.put 0 l.io.intervals k 0, missed := Assoc.put 0 l.io.missed k 0,
                             overdue := putBit l.io.overdue k false } }

theorem exec_testWindowEnd_of_ended {s : State} {x : LaneId} {w : TestWindow} (k : Fin 32) (hw : (s.lane x).io.window = some w)
    (hchannel : w.channel = k.val) (hended : w.ended = true) :
    exec (.testWindowEnd x k) s = .next (s.modLane x fun l => (l.windowClosed k.val).windowResult x w) := by
  refine congrArg Host.Outcome.next (State.modLane_congr ?_)
  rw [hw]
  exact if_pos ⟨hchannel, hended⟩

/-- Settles O14: a readback sample by the window it leaves; a window's end by the four results that Table 9-4 knows, over the latch of a fault where
no window is open. -/
theorem testWindowsJudgeTheirChannel : Obligations.TestWindowsJudgeTheirChannel := by
  intro s x w hw hrange
  refine ⟨fun readback us => ?_, fun k hchannel hended => ?_⟩
  · refine ⟨_, (s.lane x).windowSampled w readback us, exec_readbackSample_of_window readback us hw, s.onlyLane_modLane x _, ?_⟩
    rw [s.lane_modLane_self]
    refine ⟨rfl, rfl, ?_, rfl, rfl⟩
    simp only [Lane.windowSampled, Bool.decide_and, Bool.and_assoc]
  · refine ⟨_, exec_testWindowEnd_of_ended k hw hchannel hended, s.onlyLane_modLane x _, ?_⟩
    rw [s.lane_modLane_self]
    set l := (s.lane x).windowClosed k.val with hl
    have hclosed : l.io.window = none := rfl
    have hview := Lane.closedView_windowResult hclosed x w
    simp only [Lane.closedView, LaneIO.closedView, Prod.mk.injEq] at hview
    obtain ⟨hpe, hvt, hwindow, hquench, hcount⟩ := hview
    refine ⟨hwindow, by rw [hquench]; exact onBit_putBit_self _ _ k.isLt, hcount, hpe, hvt, fun hothers hpass => ?_, fun hothers hpass hoff => ?_,
      fun hothers hpass hon => ?_, fun c hc hne hothers => ?_⟩
    · rw [Lane.windowResult_of_pass (TestWindow.seenOn_of_zero hothers) hpass, hchannel]
      exact ⟨Assoc.get_put_self 0 1 l.io.test k.val, rfl, rfl⟩
    · rw [Lane.windowResult_of_offPulse (TestWindow.seenOn_of_zero hothers) hpass hoff, hchannel]
      have hfailed : (l.testFailed k.val).io.window = none := hclosed
      have htest : ((l.testFailed k.val).latchFault x k.val 1 1).io.test = (l.testFailed k.val).io.test :=
        congrArg Prod.snd (Lane.closedView_latchFault hfailed x k.val 1 1)
      rw [htest, Lane.fault_latchFault hfailed]
      exact ⟨Assoc.get_put_self 0 2 l.io.test k.val, Assoc.get_put_self .., Lane.latched_latchFault hfailed x k.val 1 1 k.isLt⟩
    · rw [Lane.windowResult_of_onPulse (TestWindow.seenOn_of_zero hothers) hpass hon, hchannel]
      exact ⟨Assoc.get_put_self 0 2 l.io.test k.val, Assoc.get_put_self 0 5 l.io.fault k.val, rfl⟩
    · rw [Lane.windowResult_of_seen (TestWindow.seenOn_of_single hc hothers), hchannel]
      dsimp only
      rw [Lane.fault_crossLatched hclosed]
      exact ⟨(Assoc.get_put_ne hne).trans (Assoc.get_put_self ..), Assoc.get_put_self .., Assoc.get_put_self ..⟩

end Sys2Proof.Machine

/-! PROOF. Overcurrents (R245, R400, Table 9-4): the pause of a channel, its retry and its free interval, and the check of a group that opened on a short to
the supply. -/

namespace Sys2Proof.Machine

/-! ## The overcurrent (R245) -/

/-- A lane that has quenched channel `k` on an overcurrent: held off the fourth time since its last free interval, else paused (Table 9-4). -/
def Lane.overcurrentOff (l : Lane) (x : LaneId) (k : Nat) : Lane :=
  let n := Assoc.get 0 l.io.ocRun k + 1
  let code := if decide (4 ≤ n) then 4 else 3
  let io := l.io.abortTestIf l.ms fun w => w.channel == k
  ({ l with io := { io with ocRun := Assoc.put 0 io.ocRun k n, quench := putBit io.quench k true, toggle := putBit io.toggle k false,
                            driveEnd := Assoc.put 0 io.driveEnd k l.ms, ocCnt := sat io.ocCnt, fault := Assoc.put 0 io.fault k code,
                            paused := putBit io.paused k (!decide (4 ≤ n)) } }.faultRecord x k code).afterAbort x l.io.window

theorem exec_overcurrent_of_driven {s : State} {x : LaneId} {k : Fin 32} (htoggle : onBit (s.lane x).io.toggle k.val = true)
    (hquench : onBit (s.lane x).io.quench k.val = false) :
    exec (.overcurrent x k) s = .next (s.modLane x fun l => l.overcurrentOff x k.val) :=
  congrArg Host.Outcome.next (State.modLane_congr (if_pos (by simp [htoggle, hquench])))

/-- A test window that ends leaves the lane's count of overcurrents, the latches and the retries. -/
theorem LaneIO.abortTestIf_overcurrents (io : LaneIO) (ms : Nat) (p : TestWindow → Bool) :
    let t := io.abortTestIf ms p
    t.ocCnt = io.ocCnt ∧ t.latched = io.latched ∧ t.retry = io.retry := by
  unfold LaneIO.abortTestIf
  split
  · split <;> exact ⟨rfl, rfl, rfl⟩
  · exact ⟨rfl, rfl, rfl⟩

theorem Lane.overcurrentOff_spec (l : Lane) (x : LaneId) {k : Nat} (hk : k < 32) :
    let t := l.overcurrentOff x k
    onBit t.io.quench k = true ∧ onBit t.io.toggle k = false ∧ t.io.ocCnt = sat l.io.ocCnt ∧
      Assoc.get 0 t.io.ocRun k = Assoc.get 0 l.io.ocRun k + 1 ∧ Assoc.get 0 t.io.fault k = (if 3 ≤ Assoc.get 0 l.io.ocRun k then 4 else 3) ∧
      onBit t.io.paused k = decide (Assoc.get 0 l.io.ocRun k < 3) ∧ t.io.latched = l.io.latched ∧ t.io.retry = l.io.retry ∧
      t.pe = l.pe ∧ t.vt = l.vt := by
  obtain ⟨hcnt, hlatched, hretry⟩ := l.io.abortTestIf_overcurrents l.ms fun w => w.channel == k
  unfold Lane.overcurrentOff
  extract_lets n code io t
  obtain ⟨v, mb, hafter⟩ := Lane.afterAbort_only _ x l.io.window
  unfold t
  rw [hafter]
  have hcode : code = if 3 ≤ Assoc.get 0 l.io.ocRun k then 4 else 3 := ite_congr (by simp [n]) (fun _ => rfl) fun _ => rfl
  have hpaused : (!decide (4 ≤ n)) = decide (Assoc.get 0 l.io.ocRun k < 3) := by
    rw [← decide_not]
    exact decide_eq_decide.2 (by omega)
  exact ⟨onBit_putBit_self _ _ hk, onBit_putBit_self _ _ hk, congrArg sat hcnt, Assoc.get_put_self 0 n io.ocRun k,
    (Assoc.get_put_self 0 code io.fault k).trans hcode, (onBit_putBit_self _ _ hk).trans hpaused, hlatched, hretry, rfl, rfl⟩

/-! ## The retry (R400) -/

/-- The vital I/O at the end of the pause of channel `k`. -/
def LaneIO.unpaused (io : LaneIO) (k : Nat) : LaneIO :=
  let free := { io with paused := putBit io.paused k false }
  { free with quench := putBit io.quench k (free.held k || io.inDark k) }

/-- The vital I/O that drives channel `k` again after its pause. -/
def LaneIO.retried (io : LaneIO) (k ms : Nat) : LaneIO :=
  { io with toggle := putBit io.toggle k (!io.inDark k), driveBegin := Assoc.put 0 io.driveBegin k ms, lowRun := Assoc.put 0 io.lowRun k 0,
            retry := Assoc.upd 0 io.retry k (· + 1) }

/-- Whether a lane may drive channel `k` once its pause is over (R236). -/
def Lane.mayRetry (l : Lane) (k : Nat) (sleeper : Bool) : Bool :=
  l.io.drives && LaneIO.granted { l.io with paused := putBit l.io.paused k false } l.image l.io.cmd sleeper l.io.watchOut k

/-- A lane in which the pause of channel `k` is over. -/
def Lane.pauseEnded (l : Lane) (k : Nat) (sleeper : Bool) : Lane :=
  if l.mayRetry k sleeper then { l with io := (l.io.unpaused k).retried k l.ms } else { l with io := l.io.unpaused k }

theorem exec_overcurrentRetry_of_paused {s : State} {x : LaneId} {k : Fin 32} (h : onBit (s.lane x).io.paused k.val = true) :
    exec (.overcurrentRetry x k) s = .next (s.modLane x fun l => l.pauseEnded k.val s.sleeps) :=
  congrArg Host.Outcome.next (State.modLane_congr (if_pos h))

section
variable (io : LaneIO) {k : Nat} (hk : k < 32)
include hk

theorem LaneIO.paused_unpaused : onBit (io.unpaused k).paused k = false := onBit_putBit_self _ _ hk

/-- The end of a pause releases the quench, unless the fourth overcurrent or a dark window holds it. -/
theorem LaneIO.quench_unpaused : onBit (io.unpaused k).quench k = (decide (Assoc.get 0 io.fault k = 4) || io.inDark k) := by
  have hheld : LaneIO.held { io with paused := putBit io.paused k false } k = decide (Assoc.get 0 io.fault k = 4) := by
    rw [LaneIO.held_eq, onBit_putBit_self _ _ hk, Bool.false_or]
  exact (onBit_putBit_self _ _ hk).trans (congrArg (· || io.inDark k) hheld)

theorem LaneIO.toggle_retried (ms : Nat) : onBit (io.retried k ms).toggle k = !io.inDark k := onBit_putBit_self _ _ hk

end

theorem Lane.pauseEnded_of_may {l : Lane} {k : Nat} {sleeper : Bool} (h : l.mayRetry k sleeper = true) :
    l.pauseEnded k sleeper = { l with io := (l.io.unpaused k).retried k l.ms } := if_pos h

theorem Lane.pauseEnded_of_not_may {l : Lane} {k : Nat} {sleeper : Bool} (h : ¬ l.mayRetry k sleeper = true) :
    l.pauseEnded k sleeper = { l with io := l.io.unpaused k } := if_neg h

/-- Settles O15: an overcurrent and the end of its pause by what they leave in the lane; the free interval and the check by their conditions. -/
theorem overcurrentPausesAndRetries : Obligations.OvercurrentPausesAndRetries := by
  refine fun s x => ⟨fun k htoggle hquench => ?_, fun k hpaused => ?_, fun k hdriven hlong => ?_, fun g readback hlatched hcause => ?_⟩
  · refine ⟨_, exec_overcurrent_of_driven htoggle hquench, s.onlyLane_modLane x _, ?_⟩
    rw [s.lane_modLane_self]
    exact Lane.overcurrentOff_spec _ x k.isLt
  · intro free may
    have hmay : may ↔ (s.lane x).mayRetry k.val s.sleeps = true := (Bool.and_eq_true_iff).symm
    refine ⟨_, exec_overcurrentRetry_of_paused hpaused, s.onlyLane_modLane x _, ?_⟩
    rw [s.lane_modLane_self, hmay]
    by_cases h : (s.lane x).mayRetry k.val s.sleeps = true
    · rw [Lane.pauseEnded_of_may h]
      exact ⟨LaneIO.paused_unpaused _ k.isLt, LaneIO.quench_unpaused _ k.isLt, rfl, rfl, rfl,
        fun _ => ⟨LaneIO.toggle_retried _ k.isLt _, Assoc.get_upd_self 0 (s.lane x).io.retry k.val (· + 1), Assoc.get_put_self ..⟩, fun hn => absurd h hn⟩
    · rw [Lane.pauseEnded_of_not_may h]
      exact ⟨LaneIO.paused_unpaused _ k.isLt, LaneIO.quench_unpaused _ k.isLt, rfl, rfl, rfl, fun hm => absurd hm h, fun _ => ⟨rfl, rfl⟩⟩
  · exact congrArg Host.Outcome.next (State.modLane_congr (if_pos (by simp [hdriven, hlong])))
  · exact congrArg Host.Outcome.next (State.modLane_congr (if_pos (by simp [hlatched, hcause])))

end Sys2Proof.Machine

/-! PROOF. The roles of the pair (R250 to R253, R264, R267, R270, R271): what the ports, a swap's answer and a change of role leave, and the commands that
decide, take over, give way and swap. -/

namespace Sys2Proof.Machine

/-! ## What the rings and the CAN ports change -/

/-- From `s` to `t` nothing differs but what the ports hold, the pumphouse's own records, what has been sent, and the free values taken. -/
def State.portsOnly (s t : State) : Prop :=
  t = { s with rings := t.rings, nets := t.nets, can := t.can, wire := t.wire, warden := t.warden, sent := t.sent, fresh := t.fresh }

section
variable {s t u : State}

theorem State.portsOnly_refl (s : State) : s.portsOnly s := rfl

theorem State.portsOnly.trans (h : s.portsOnly t) (k : t.portsOnly u) : s.portsOnly u := by
  rw [State.portsOnly] at h k ⊢
  rw [k, h]

theorem State.sends.portsOnly (h : s.sends t) : s.portsOnly t := by
  obtain ⟨es, h⟩ := h
  rw [State.sendsOnly] at h
  rw [State.portsOnly, h]

theorem State.portsOnly.lane (h : s.portsOnly t) (x : LaneId) : t.lane x = s.lane x := (congrArg (State.lane · x) h :)
theorem State.portsOnly.unit (h : s.portsOnly t) : t.unit = s.unit := (congrArg State.unit h :)
theorem State.portsOnly.cfg (h : s.portsOnly t) : t.cfg = s.cfg := (congrArg State.cfg h :)
theorem State.portsOnly.ph (h : s.portsOnly t) : t.ph = s.ph := (congrArg State.ph h :)
theorem State.portsOnly.xl (h : s.portsOnly t) : t.xl = s.xl := (congrArg State.xl h :)

end

section
variable (s : State) (r : Nat)

theorem State.portsOnly_modRing (f : Ring → Ring) : s.portsOnly (s.modRing r f) := rfl

theorem State.portsOnly_echoNode (a : Nat) : s.portsOnly (s.echoNode r a) := by
  unfold State.echoNode
  extract_lets i
  refine State.portsOnly.trans ?_ (t := (s.modRing r fun g => g.modNode a fun n => { n with echoId := some i }).sendBoth r 7 a
    (diagRequest 0x10 (be 4 i ++ be 4 0)) none) rfl
  exact ((s.sendsOnly_modRing r _).sends.trans ((State.sends_sendSide ..).trans (State.sends_sendSide ..))).portsOnly

theorem State.portsOnly_leadRing : s.portsOnly (s.leadRing r) := by
  unfold State.leadRing
  split
  · rfl
  · split
    · exact s.portsOnly_modRing r _
    · dsimp only
      split
      · exact (s.portsOnly_modRing r _).trans (foldl_rel State.portsOnly_refl State.portsOnly.trans (fun t a => t.portsOnly_echoNode r a) _ _)
      · exact s.portsOnly_modRing r _
    · rfl

theorem State.portsOnly_leadRings : s.portsOnly s.leadRings :=
  (foldl_rel State.portsOnly_refl State.portsOnly.trans State.portsOnly_leadRing (List.range 4) s).trans rfl

theorem State.portsOnly_followRing : s.portsOnly (s.followRing r) := by
  unfold State.followRing
  split
  · rfl
  · split <;> rfl

theorem State.portsOnly_followRings : s.portsOnly s.followRings :=
  (foldl_rel State.portsOnly_refl State.portsOnly.trans State.portsOnly_followRing (List.range 4) s).trans rfl

theorem State.portsOnly_queueRef (n p : Nat) : s.portsOnly (s.queueRef n p) := by
  unfold State.queueRef
  dsimp only
  split <;> rfl

theorem State.portsOnly_queueRefs : s.portsOnly s.queueRefs :=
  foldl_rel State.portsOnly_refl State.portsOnly.trans (fun t p => t.portsOnly_queueRef _ p) (List.range 6) s

end

/-! ## The drive after a change of role (R236) -/

section
variable (s : State) (share : Bool)

@[simp] theorem State.redrive_unit : (s.redrive share).unit = s.unit := rfl
@[simp] theorem State.redrive_xl : (s.redrive share).xl = s.xl := rfl

@[simp] theorem State.redrive_pe (x : LaneId) : ((s.redrive share).lane x).pe = (s.lane x).pe := by
  rw [State.redrive, State.lane_mapLanes]
  split
  · exact (Lane.drive_spec ..).1
  · rfl

end

/-! ## A swap request answered (Table 10-4) -/

/-- The answer to a swap request changes what waits, the mailboxes, and what is sent. -/
theorem State.answerSwap_only (s : State) (code : Nat) :
    s.answerSwap code = { s with unit := { s.unit with swap := { s.unit.swap with mailbox := none }, pend := (s.answerSwap code).unit.pend },
                                 mail := (s.answerSwap code).mail, sent := (s.answerSwap code).sent } := by
  unfold State.answerSwap
  dsimp only
  split
  · rw [State.ackOut_only]
  · rfl

/-! ## The change of role (R250, R252, R253, R264, R267) -/

/-- An engine without forces. -/
def Engine.unforced (e : Engine) : Engine := { e with forces := [] }

/-- From `s` to `t` the unit has taken a role with an epoch, which is stored while the MRAM is fed; UNIT_OK is closed where the pumphouse's firmware runs;
every lane's engine is as `f` makes it. -/
structure State.TakesRole (s t : State) (r : Role) (n : Nat) (f : Engine → Engine) : Prop where
  role : t.unit.role = r
  epoch : t.unit.epoch = n
  stored : s.ph.powered = true → t.cfg.epoch = n
  contact : s.coresRun = true → t.ph.unitOk = true
  pe : ∀ x, (t.lane x).pe = f (s.lane x).pe

section
variable {s t u : State} {r : Role} {n : Nat} {f : Engine → Engine}

/-- A role taken stays so where role, epoch, configuration, pumphouse and engines do. -/
theorem State.TakesRole.of_kept (h : s.TakesRole t r n f) (hrole : u.unit.role = t.unit.role) (hepoch : u.unit.epoch = t.unit.epoch)
    (hcfg : u.cfg = t.cfg) (hph : u.ph = t.ph) (hpe : ∀ x, (u.lane x).pe = (t.lane x).pe) : s.TakesRole u r n f where
  role := hrole.trans h.role
  epoch := hepoch.trans h.epoch
  stored hp := (congrArg Config.epoch hcfg).trans (h.stored hp)
  contact hc := (congrArg Pumphouse.unitOk hph).trans (h.contact hc)
  pe x := (hpe x).trans (h.pe x)

theorem State.TakesRole.ports (h : s.TakesRole t r n f) (k : t.portsOnly u) : s.TakesRole u r n f :=
  h.of_kept (by rw [k.unit]) (by rw [k.unit]) k.cfg k.ph fun x => by rw [k.lane]

theorem State.TakesRole.withCross (h : s.TakesRole t r n f) (xl : Cross) : s.TakesRole { t with xl := xl } r n f :=
  h.of_kept rfl rfl rfl rfl fun _ => rfl

theorem State.TakesRole.withSwap (h : s.TakesRole t r n f) (w : Swap) (xl : Cross) :
    s.TakesRole { t with unit := { t.unit with swap := w }, xl := xl } r n f :=
  h.of_kept rfl rfl rfl rfl fun _ => rfl

theorem State.TakesRole.redrive (h : s.TakesRole t r n f) (share : Bool) : s.TakesRole (t.redrive share) r n f :=
  h.of_kept rfl rfl rfl rfl (t.redrive_pe share)

end

@[simp] theorem State.logUnit_pe (s : State) (code sev : Nat) (ps : List Nat) (x : LaneId) : ((s.logUnit code sev ps).lane x).pe = (s.lane x).pe := by
  rw [State.logUnit, State.lane_mapLanes]
  split <;> rfl

/-- The record and the notice of a role stand in the lanes' queues, the notices, the mailboxes and the basin. -/
theorem State.roleNotice_only (s : State) (why : Nat) :
    s.roleNotice why = { s with lanes := (s.roleNotice why).lanes, basin := (s.roleNotice why).basin, mail := (s.roleNotice why).mail } := by
  rw [State.roleNotice, State.notice_only]
  rfl

@[simp] theorem State.roleNotice_pe (s : State) (why : Nat) (x : LaneId) : ((s.roleNotice why).lane x).pe = (s.lane x).pe := by
  rw [State.roleNotice, State.lane_notice, State.logUnit_pe]

@[simp] theorem State.roleNotice_unit (s : State) (why : Nat) : (s.roleNotice why).unit = s.unit := by rw [State.roleNotice_only]
@[simp] theorem State.roleNotice_cfg (s : State) (why : Nat) : (s.roleNotice why).cfg = s.cfg := by rw [State.roleNotice_only]
@[simp] theorem State.roleNotice_ph (s : State) (why : Nat) : (s.roleNotice why).ph = s.ph := by rw [State.roleNotice_only]
@[simp] theorem State.roleNotice_xl (s : State) (why : Nat) : (s.roleNotice why).xl = s.xl := by rw [State.roleNotice_only]

/-- A write of the configuration changes it alone. -/
theorem State.configWrite_only (s : State) (f : Config → Config) : s.configWrite f = { s with cfg := (s.configWrite f).cfg } := by
  unfold State.configWrite State.mramWrite
  split <;> rfl

/-- The end of the forces changes the engine and the queue of records alone (R126). -/
theorem Lane.endForces_only (l : Lane) : ∃ mb, l.endForces = { l with mb := mb, pe := l.pe.unforced } := by
  obtain ⟨mb, h⟩ := l.releaseRecords_only l.pe.forced
  exact ⟨mb, by rw [Lane.endForces, h]; rfl⟩

theorem Pumphouse.unitOk_closeContact {s : State} (h : s.coresRun = true) : s.ph.closeContact.unitOk = true := by
  rw [Pumphouse.closeContact, show (s.ph.powered && s.ph.released.getLsbD 3 && s.ph.fwOk) = true from h, Bool.or_true]

/-- Lanes that end their forces, whatever else of them changes. -/
theorem Lane.pe_newWatcher (l : Lane) (c : Prop) [Decidable c] :
    (if c then l.endForces else l.endForces.firstSeqs l.image).pe = l.pe.unforced := by
  obtain ⟨mb, h⟩ := l.endForces_only
  rw [h]
  split <;> rfl

theorem State.configWrite_epoch {s : State} (h : s.ph.powered = true) (n : Nat) : (s.configWrite fun c => { c with epoch := n }).cfg.epoch = n := by
  rw [State.configWrite_of_powered h]

/-- What was asked of a sleeper that becomes the watcher is answered first, but for a planned swap. -/
theorem State.answered_spec (s : State) (why : Nat) :
    ∃ u : State, (if why = 2 then s else s.answerSwap 0x0514) = u ∧ u.ph = s.ph ∧ u.xl = s.xl ∧ ∀ x, u.lane x = s.lane x := by
  refine ⟨_, rfl, ?_⟩
  split
  · exact ⟨rfl, rfl, fun _ => rfl⟩
  · rw [State.answerSwap_only]
    exact ⟨rfl, rfl, fun _ => rfl⟩

/-- A unit that becomes the watcher (R252, R264, R390). -/
theorem State.takesRole_becomeWatcher (s : State) (n why : Nat) : s.TakesRole (s.becomeWatcher n why) .watcher n Engine.unforced := by
  obtain ⟨u, hu, hph, -, hlane⟩ := s.answered_spec why
  unfold State.becomeWatcher
  rw [hu]
  exact {
    role := by rw [State.roleNotice_unit]
    epoch := by rw [State.roleNotice_unit]
    stored := fun hp => by
      rw [State.roleNotice_cfg]
      exact State.configWrite_epoch (hph ▸ hp) n
    contact := fun hc => by
      rw [State.roleNotice_ph, State.configWrite_only]
      exact (congrArg (fun p => p.closeContact.unitOk) hph).trans (Pumphouse.unitOk_closeContact hc)
    pe := fun x => by
      rw [State.roleNotice_pe, State.configWrite_only, ← hlane x]
      exact (congrArg Lane.pe (State.lane_mapLanes _ x _)).trans (Lane.pe_newWatcher ..) }

/-- A change of role leaves the counts of takeovers. -/
theorem State.becomeWatcher_counts (s : State) (n why : Nat) :
    (s.becomeWatcher n why).xl.failovers = s.xl.failovers ∧ (s.becomeWatcher n why).xl.swaps = s.xl.swaps := by
  obtain ⟨u, hu, -, hxl, -⟩ := s.answered_spec why
  unfold State.becomeWatcher
  rw [hu, State.roleNotice_xl, ← hxl]
  constructor <;> (rw [State.configWrite_only]; rfl)

/-- A unit with a role that becomes the sleeper (R250, R253, R267, R390). -/
theorem State.takesRole_becomeSleeper (s : State) (n : Nat) {why : Nat} (hwhy : why ≠ 0) : s.TakesRole (s.becomeSleeper n why) .sleeper n id := by
  unfold State.becomeSleeper
  exact {
    role := by rw [State.roleNotice_unit]; rfl
    epoch := by rw [State.roleNotice_unit]; rfl
    stored := fun hp => by
      rw [State.roleNotice_cfg]
      exact State.configWrite_epoch hp n
    contact := fun hc => by
      rw [State.roleNotice_ph, State.configWrite_only]
      exact Pumphouse.unitOk_closeContact hc
    pe := fun x => by
      rw [State.roleNotice_pe, State.configWrite_only]
      refine (congrArg Lane.pe (State.lane_mapLanes _ x _)).trans ?_
      rw [if_neg hwhy]
      rfl }

theorem State.becomeSleeper_xl (s : State) (n why : Nat) : (s.becomeSleeper n why).xl = s.xl := by
  rw [State.becomeSleeper, State.roleNotice_xl, State.configWrite_only]
  rfl

theorem State.becomeSleeper_giveWay (s : State) (n why : Nat) : (s.becomeSleeper n why).unit.giveWay = false := by
  rw [State.becomeSleeper, State.roleNotice_unit]
  rfl

/-! ## The commands of the role (R251, R264, R267) -/

theorem exec_decidingEntry_of_ready {s : State} (hrole : s.unit.role = .starting) (hserv : 2 ≤ s.serviceLanes.length)
    (hp6 : s.ph.released.getLsbD 6 = true) :
    exec .decidingEntry s = .next ({ s with unit := { s.unit with role := .deciding }, rings := s.rings.listenAgain }.notice 1
      [Role.deciding.code, s.unit.epoch]) :=
  if_pos (by simp [hrole, hserv, hp6])

theorem exec_decidingTimeout_of_dark {s : State} (hrole : s.unit.role = .deciding) (hring : s.image.startRing = none) (hdark : s.watchDark = true) :
    exec .decidingTimeout s = .next (s.becomeWatcher (max s.cfg.epoch s.unit.heardEpoch + 1) 0).leadRings :=
  if_pos (by simp [hrole, hring, hdark])

/-- The unit after a fail-over (R264). -/
def State.tookOver (s : State) : State :=
  let u := (s.becomeWatcher (s.unit.epoch + 1) 1).leadRings
  { u with xl := { u.xl with failovers := sat u.xl.failovers } }.queueRefs.redrive true

theorem State.takesRole_tookOver (s : State) : s.TakesRole s.tookOver .watcher (s.unit.epoch + 1) Engine.unforced := by
  refine .redrive (.ports (.withCross ?_ _) (State.portsOnly_queueRefs _)) true
  exact (s.takesRole_becomeWatcher ..).ports (State.portsOnly_leadRings _)

theorem State.tookOver_failovers (s : State) : s.tookOver.xl.failovers = sat s.xl.failovers := by
  rw [State.tookOver, State.redrive_xl, (State.portsOnly_queueRefs _).xl, (State.portsOnly_leadRings _).xl, (s.becomeWatcher_counts _ _).1]

section
variable {s : State} (hrole : s.unit.role = .sleeper) (hserv : 2 ≤ s.serviceLanes.length) (hsilent : 2 ≤ s.unit.silentRun)
include hrole hserv hsilent

theorem exec_failOver_of_dark (hdark : ∀ x ∈ s.serviceLanes, (s.lane x).io.litLast = false) :
    exec .failOver s = .next s.tookOver :=
  (if_neg (by simpa [State.sleeps, hrole] using ⟨hserv, hsilent⟩)).trans (if_neg (by simpa using hdark))

theorem exec_failOver_of_lit (hlit : ∃ x ∈ s.serviceLanes, (s.lane x).io.litLast = true) :
    let u : State := { s with unit := { s.unit with held := true, heldRec := true } }
    exec .failOver s = .next (if s.unit.heldRec then u else u.logUnit 0x0A02 2 [s.unit.silentRun, u.xlStatus]) := by
  intro u
  exact (if_neg (by simpa [State.sleeps, hrole] using ⟨hserv, hsilent⟩)).trans (if_pos (by simpa using hlit))

end

/-- A swap that an outranked watcher can no longer make is cancelled, and answered (R267). -/
def State.swapGivenUp (s : State) : State :=
  { s with unit := { s.unit with swap := { s.unit.swap with state := if s.unit.swap.state = 0 then 0 else 4 } } }.answerSwap 0x0514

/-- The unit after an outranked watcher has given way (R267). -/
def State.gaveWay (s : State) : State := (s.swapGivenUp.becomeSleeper s.unit.giveEpoch 3).followRings.redrive false

theorem State.takesRole_gaveWay (s : State) : s.swapGivenUp.TakesRole s.gaveWay .sleeper s.unit.giveEpoch id :=
  ((State.takesRole_becomeSleeper _ _ (by decide)).ports (State.portsOnly_followRings _)).redrive false

theorem State.gaveWay_giveWay (s : State) : s.gaveWay.unit.giveWay = false := by
  rw [State.gaveWay, State.redrive_unit, (State.portsOnly_followRings _).unit, State.becomeSleeper_giveWay]

theorem exec_watcherGivesWay_of_outranked {s : State} (hrole : s.unit.role = .watcher) (hgive : s.unit.giveWay = true) :
    exec .watcherGivesWay s = .next s.gaveWay := by
  refine (if_pos (by simp [State.leads, hrole, hgive])).trans ?_
  have hgiveEpoch : s.swapGivenUp.unit.giveEpoch = s.unit.giveEpoch := by rw [State.swapGivenUp, State.answerSwap_only]
  rw [State.gaveWay, ← hgiveEpoch]
  rfl

/-- Settles O29: each change of role by what it takes with it; a takeover held by a lit WATCH_IN by its equation. -/
theorem rolesChangeWithTheirEpoch : Obligations.RolesChangeWithTheirEpoch := by
  refine fun s => ⟨fun hrole hserv hp6 => exec_decidingEntry_of_ready hrole hserv hp6, fun hrole hring hdark => ?_,
    fun hrole hserv hsilent hdark => ?_, fun hrole hserv hsilent hlit => ⟨_, exec_failOver_of_lit hrole hserv hsilent hlit, ?_⟩, fun hrole hgive => ?_⟩
  · have h := (s.takesRole_becomeWatcher (max s.cfg.epoch s.unit.heardEpoch + 1) 0).ports (State.portsOnly_leadRings _)
    exact ⟨_, exec_decidingTimeout_of_dark hrole hring hdark, h.role, h.epoch, fun hp => (h.stored hp).trans h.epoch.symm, h.contact⟩
  · have h := s.takesRole_tookOver
    exact ⟨_, exec_failOver_of_dark hrole hserv hsilent hdark, h.role, h.epoch, h.stored, s.tookOver_failovers, h.pe⟩
  · split <;> exact ⟨hrole, rfl, rfl, rfl⟩
  · have h := s.takesRole_gaveWay
    have hph : s.swapGivenUp.ph = s.ph := by rw [State.swapGivenUp, State.answerSwap_only]
    exact ⟨_, exec_watcherGivesWay_of_outranked hrole hgive, h.role, h.epoch, s.gaveWay_giveWay, fun hp => h.stored (hph ▸ hp)⟩

/-! ## The planned swap (R270, R271) -/

/-- The unit after a committed sleeper has become the watcher by a swap (R271). -/
def State.swappedIn (s : State) : State :=
  let u := (s.becomeWatcher (s.unit.epoch + 1) 2).leadRings
  { u with unit := { u.unit with swap := { s.unit.swap with state := 3 } }, xl := { u.xl with swaps := sat u.xl.swaps } }.queueRefs.redrive true

theorem State.takesRole_swappedIn (s : State) : s.TakesRole s.swappedIn .watcher (s.unit.epoch + 1) Engine.unforced := by
  refine .redrive (.ports (.withSwap ?_ _ _) (State.portsOnly_queueRefs _)) true
  exact (s.takesRole_becomeWatcher ..).ports (State.portsOnly_leadRings _)

theorem State.swappedIn_swap (s : State) : s.swappedIn.unit.swap.state = 3 ∧ s.swappedIn.xl.swaps = sat s.xl.swaps := by
  rw [State.swappedIn, State.redrive_unit, State.redrive_xl, (State.portsOnly_queueRefs _).unit, (State.portsOnly_queueRefs _).xl,
    (State.portsOnly_leadRings _).xl, (s.becomeWatcher_counts _ _).2]
  exact ⟨rfl, rfl⟩

/-- The unit after the watcher has become the sleeper by a swap (R271). -/
def State.swappedOut (s : State) : State :=
  let u := (s.becomeSleeper (s.unit.epoch + 1) 2).followRings
  { u with unit := { u.unit with swap := { s.unit.swap with state := 3 } }, xl := { u.xl with swaps := sat u.xl.swaps } }.redrive false

theorem State.takesRole_swappedOut (s : State) : s.TakesRole s.swappedOut .sleeper (s.unit.epoch + 1) id := by
  refine .redrive (.withSwap ?_ _ _) false
  exact (s.takesRole_becomeSleeper _ (by decide)).ports (State.portsOnly_followRings _)

theorem State.swappedOut_swap (s : State) : s.swappedOut.unit.swap.state = 3 ∧ s.swappedOut.xl.swaps = sat s.xl.swaps := by
  rw [State.swappedOut, State.redrive_unit, State.redrive_xl, (State.portsOnly_followRings _).xl, State.becomeSleeper_xl]
  exact ⟨rfl, rfl⟩

/-- The unit with its swap in a state of Table 10-7. -/
def State.swapIn (s : State) (n : Nat) : State := { s with unit := { s.unit with swap := { s.unit.swap with state := n } } }

theorem State.answerSwap_swapIn (s : State) (n code : Nat) :
    let t := (s.swapIn n).answerSwap code
    t.unit.swap.state = n ∧ t.unit.swap.mailbox = none ∧ t.unit.role = s.unit.role ∧ t.unit.epoch = s.unit.epoch ∧ t.lanes = s.lanes := by
  rw [State.answerSwap_only]
  exact ⟨rfl, rfl, rfl, rfl, rfl⟩

section
variable {s : State} (hrole : s.unit.role = .watcher) (hstate : s.unit.swap.state = 1) (hcycle : s.cycle + 2 = s.unit.swap.cycle)
include hrole hstate hcycle

theorem exec_swapCommit_of_ready (ha : s.unit.swap.readyA = true) (hb : s.unit.swap.readyB = true) :
    exec .swapCommit s = .next { s with unit := { s.unit with swap := { s.unit.swap with state := 2, sentCommit := true } } } :=
  (if_neg (by simp [State.leads, hrole, hstate, hcycle])).trans (if_pos (by simp [ha, hb]))

theorem exec_swapCommit_of_not_ready (h : s.unit.swap.readyA = false ∨ s.unit.swap.readyB = false) :
    exec .swapCommit s = .next ((s.swapIn 4).answerSwap 0x0513) :=
  (if_neg (by simp [State.leads, hrole, hstate, hcycle])).trans (if_neg (by simpa [imp_iff_not_or] using h))

end

section
variable {s : State} (hplanned : s.unit.swap.cycle ≠ 0) (hcycle : s.cycle = s.unit.swap.cycle)
include hplanned hcycle

theorem exec_swapExecute_of_sleeper (hrole : s.unit.role = .sleeper) (hstate : s.unit.swap.state ≠ 3) (hcommit : s.unit.swap.gotCommit = true)
    (hserv : 2 ≤ s.serviceLanes.length) :
    exec .swapExecute s = .next s.swappedIn :=
  (if_neg (by simp [hplanned, hcycle])).trans ((if_pos (by simp [State.sleeps, hrole, hstate])).trans (if_pos (by simp [hcommit, hserv])))

section
variable (hrole : s.unit.role = .watcher) (hsent : s.unit.swap.sentCommit = true) (hstate : s.unit.swap.state = 2)
include hrole hsent hstate

theorem exec_swapExecute_of_followed (hpartner : s.unit.swap.partnerCommitted = true) :
    exec .swapExecute s = .next s.swappedOut :=
  (if_neg (by simp [hplanned, hcycle])).trans ((if_neg (by simp [State.sleeps, hrole])).trans
    ((if_pos (by simp [State.leads, hrole, hsent, hstate])).trans (if_pos hpartner)))

theorem exec_swapExecute_of_unfollowed (hpartner : s.unit.swap.partnerCommitted = false) :
    exec .swapExecute s = .next ((s.swapIn 4).answerSwap 0x0514) :=
  (if_neg (by simp [hplanned, hcycle])).trans ((if_neg (by simp [State.sleeps, hrole])).trans
    ((if_pos (by simp [State.leads, hrole, hsent, hstate])).trans (if_neg (by simp [hpartner]))))

end
end

/-- Settles O30: a swap cancelled or aborted by its answer; one executed by the change of role it brings. -/
theorem swapChangesBothRoles : Obligations.SwapChangesBothRoles := by
  refine fun s => ⟨exec_swapCommit_of_ready, fun hrole hstate hcycle hready => ?_, fun hrole hplanned hcycle hstate hcommit hserv => ?_,
    fun hrole hplanned hcycle hsent hstate hpartner => ?_, fun hrole hplanned hcycle hsent hstate hpartner => ?_⟩
  · obtain ⟨hcancelled, hmailbox, hkept, -, hlanes⟩ := s.answerSwap_swapIn 4 0x0513
    exact ⟨_, exec_swapCommit_of_not_ready hrole hstate hcycle hready, hcancelled, hkept.trans hrole, hmailbox, hlanes⟩
  · have h := s.takesRole_swappedIn
    obtain ⟨hswap, hcount⟩ := s.swappedIn_swap
    exact ⟨_, exec_swapExecute_of_sleeper hplanned hcycle hrole hstate hcommit hserv, h.role, h.epoch, hswap, hcount, h.pe⟩
  · have h := s.takesRole_swappedOut
    obtain ⟨hswap, hcount⟩ := s.swappedOut_swap
    exact ⟨_, exec_swapExecute_of_followed hplanned hcycle hrole hsent hstate hpartner, h.role, h.epoch, hswap, hcount, h.pe⟩
  · obtain ⟨hcancelled, -, hkept, hepoch, hlanes⟩ := s.answerSwap_swapIn 4 0x0514
    exact ⟨_, exec_swapExecute_of_unfollowed hplanned hcycle hrole hsent hstate hpartner, hkept.trans hrole, hcancelled, hepoch, hlanes⟩

end Sys2Proof.Machine

/-! PROOF. The cross-links (R256, R260, R261, R263, Table 10-2): a frame and a partner report read back as they were sent, what a frame of the partner leaves
in the pumphouse, and what each lane of a sleeper makes of a mirror telegram. -/

namespace Sys2Proof

/-! ## Bytes read where they stand -/

/-- The middle of three byte lists is read at the end of the first. -/
theorem slice_append_middle {α : Type} {a b : List α} {off n : Nat} (ha : a.length = off) (hb : b.length = n) (c : List α) :
    slice (a ++ (b ++ c)) off n = b := by
  subst ha hb
  rw [slice, List.drop_left, List.take_left]

/-- A lane among the three: those before it, and those after it. -/
theorem LaneId.list_split (x : LaneId) : ∃ before after, LaneId.list = before ++ x :: after ∧ x ∉ before ∧ x ∉ after := by
  cases x with
  | a => exact ⟨[], [.b, .c], rfl, by decide, by decide⟩
  | b => exact ⟨[.a], [.c], rfl, by decide, by decide⟩
  | c => exact ⟨[.a, .b], [], rfl, by decide, by decide⟩

end Sys2Proof

namespace Sys2Proof.Machine

/-! ## A frame of the cross-links (R256, Table 10-2) -/

theorem length_ethFcs (t : List Byte) : (ethFcs t).length = 4 := by simp [ethFcs]

/-- What precedes the FCS of a frame that ends with one. -/
theorem frameText_append_ethFcs (t : List Byte) : frameText (t ++ ethFcs t) = t := by
  rw [frameText, List.length_append, length_ethFcs, Nat.add_sub_cancel, List.take_left]

theorem crossSound_append_ethFcs (t : List Byte) : crossSound (t ++ ethFcs t) = true := by
  have hdrop : (t ++ ethFcs t).drop ((t ++ ethFcs t).length - 4) = ethFcs t := by
    rw [List.length_append, length_ethFcs, Nat.add_sub_cancel, List.drop_left]
  rw [crossSound, hdrop, frameText_append_ethFcs]
  simp [length_ethFcs]

/-- A cross-link frame before its FCS, with its padding. -/
def crossText (dst src kind : Nat) (content : List Byte) : List Byte :=
  crossHead dst src ++ (be 1 kind ++ (be 1 0 ++ (content ++ List.replicate (44 - content.length) 0#8)))

theorem length_crossHead (dst src : Nat) : (crossHead dst src).length = 14 := by simp [crossHead, crossAddr]

theorem crossFrame_eq (dst src kind : Nat) (content : List Byte) :
    crossFrame dst src kind content = crossText dst src kind content ++ ethFcs (crossText dst src kind content) := by
  have hpad : 60 - (crossHead dst src ++ be 1 kind ++ be 1 0 ++ content).length = 44 - content.length := by
    simp only [List.length_append, length_crossHead, length_be]
    omega
  rw [crossFrame, hpad]
  simp only [crossText, List.append_assoc]

theorem length_crossFrame (dst src kind : Nat) (content : List Byte) : (crossFrame dst src kind content).length = max 64 (20 + content.length) := by
  simp only [crossFrame_eq, crossText, List.length_append, length_crossHead, length_be, length_ethFcs, List.length_replicate]
  omega

/-- A frame reads back as it was sent, with the padding of a short one. -/
theorem readCross_crossFrame (own partner : Nat) {kind : Nat} (hkind : kind < 256) (content : List Byte) :
    readCross own partner (crossFrame own partner kind content) = some (kind, content ++ List.replicate (44 - content.length) 0#8) := by
  have hsound : crossSound (crossFrame own partner kind content) = true := by rw [crossFrame_eq]; exact crossSound_append_ethFcs _
  have hlong : 64 ≤ (crossFrame own partner kind content).length := by rw [length_crossFrame]; exact le_max_left ..
  have hhead : (crossFrame own partner kind content).take 14 = crossHead own partner := by
    rw [crossFrame_eq, crossText, List.append_assoc, ← length_crossHead own partner, List.take_left]
  have hkindByte : getByte (crossFrame own partner kind content) 14 = kind := by
    rw [crossFrame_eq, crossText, List.append_assoc, getByte, getBE_append_right (by rw [length_crossHead]), length_crossHead, List.append_assoc,
      getBE_append_left (by simp)]
    exact getBE_be_of_lt hkind
  have hcontent : (frameText (crossFrame own partner kind content)).drop 16 = content ++ List.replicate (44 - content.length) 0#8 := by
    rw [crossFrame_eq, frameText_append_ethFcs, crossText, ← List.append_assoc, ← List.append_assoc]
    exact List.drop_left' (by simp [length_crossHead])
  rw [readCross, hkindByte, hcontent, hhead]
  simp [hsound, hlong]

/-! ## A partner report (R261) -/

theorem Mask.ofBits_bits (m : Mask) : Mask.ofBits (Mask.bits m) = m := by
  obtain ⟨a, b, c⟩ := m
  revert a b c
  decide

theorem Mask.bits_lt (m : Mask) : Mask.bits m < 256 ^ 1 := by
  obtain ⟨a, b, c⟩ := m
  revert a b c
  decide

end Sys2Proof.Machine

namespace Sys2Proof

section
variable (r : PartnerReport) (hdigest : r.digest.length = 8)
include hdigest

/-- The fields of a report side by side. -/
theorem PartnerReport.bytes_eq : r.bytes = be 1 r.unit ++ (be 1 r.role ++ (be 1 (Machine.Mask.bits r.mask) ++ (be 1 r.rotation ++ (be 4 r.epoch ++
    (be 8 r.cycle ++ (r.digest ++ (be 1 r.ready ++ (be 1 r.swap ++ (be 2 r.tCycle ++ List.replicate 4 0#8))))))))) := by
  have hpad : padTo 8 (r.digest.take 8) = r.digest := by simp [padTo, ← hdigest]
  rw [PartnerReport.bytes, hpad, padTo, List.take_of_length_le] <;> simp [hdigest]

theorem PartnerReport.length_bytes : r.bytes.length = 32 := by simp [r.bytes_eq hdigest, hdigest]

theorem PartnerReport.slice_digest : slice r.bytes 16 8 = r.digest := by
  have hhead : (be 1 r.unit ++ be 1 r.role ++ be 1 (Machine.Mask.bits r.mask) ++ be 1 r.rotation ++ be 4 r.epoch ++ be 8 r.cycle).length = 16 := by simp
  rw [r.bytes_eq hdigest]
  simpa only [List.append_assoc] using slice_append_middle hhead hdigest (be 1 r.ready ++ (be 1 r.swap ++ (be 2 r.tCycle ++ List.replicate 4 0#8)))

/-- The numbers of a report as they stand in its bytes (R261). -/
theorem PartnerReport.bytes_fields (hunit : r.unit < 256) (hrole : r.role < 256) (hrotation : r.rotation < 256) (hepoch : r.epoch < 2 ^ 32)
    (hcycle : r.cycle < 2 ^ 64) (hready : r.ready < 256) (hswap : r.swap < 256) (htCycle : r.tCycle < 65536) :
    getByte r.bytes 0 = r.unit ∧ getByte r.bytes 1 = r.role ∧ getByte r.bytes 2 = Machine.Mask.bits r.mask ∧ getByte r.bytes 3 = r.rotation ∧
      getBE r.bytes 4 4 = r.epoch ∧ getBE r.bytes 8 8 = r.cycle ∧ getByte r.bytes 24 = r.ready ∧ getByte r.bytes 25 = r.swap ∧
      getBE r.bytes 26 2 = r.tCycle := by
  rw [← Nat.pow_one 256] at hunit hrole hrotation hready hswap
  have hmask := Machine.Mask.bits_lt r.mask
  have hepoch : r.epoch < 256 ^ 4 := hepoch
  have hcycle : r.cycle < 256 ^ 8 := hcycle
  have htCycle : r.tCycle < 256 ^ 2 := htCycle
  simp only [getByte, r.bytes_eq hdigest]
  refine ⟨?_, ?_, ?_, ?_, ?_, ?_, ?_, ?_, ?_⟩ <;>
    simp [getBE_append_left, getBE_append_right, hdigest, getBE_be_of_lt hunit, getBE_be_of_lt hrole, getBE_be_of_lt hmask, getBE_be_of_lt hrotation,
      getBE_be_of_lt hepoch, getBE_be_of_lt hcycle, getBE_be_of_lt hready, getBE_be_of_lt hswap, getBE_be_of_lt htCycle]

/-- A report reads back as it was sent. -/
theorem PartnerReport.ofBytes_bytes (hunit : r.unit < 256) (hrole : r.role < 256) (hrotation : r.rotation < 256) (hepoch : r.epoch < 2 ^ 32)
    (hcycle : r.cycle < 2 ^ 64) (hready : r.ready < 256) (hswap : r.swap < 256) (htCycle : r.tCycle < 65536) :
    PartnerReport.ofBytes r.bytes = r := by
  obtain ⟨hunit, hrole, hmask, hrotation, hepoch, hcycle, hready, hswap, htCycle⟩ :=
    r.bytes_fields hdigest hunit hrole hrotation hepoch hcycle hready hswap htCycle
  rw [PartnerReport.ofBytes, hunit, hrole, hmask, hrotation, hepoch, hcycle, hready, hswap, htCycle, r.slice_digest hdigest, Machine.Mask.ofBits_bits]

end

end Sys2Proof

namespace Sys2Proof.Machine

/-! ## A frame that arrives (R256, R263, R393, R394) -/

/-- The unit in which a frame with a wrong FCS has come in on a cross-link. -/
def State.crossError (s : State) (port : XPort) : State :=
  { s.traffic (port.index + 1) with xl := match port with
    | .p27 => { s.xl with err27 := sat s.xl.err27 }
    | .p28 => { s.xl with err28 := sat s.xl.err28 } }

/-- The unit that has heard its partner on a cross-link. -/
def State.crossHeard (s : State) (port : XPort) : State := { s.traffic (port.index + 1) with unit := s.unit.heardOn port }

section
variable {s : State} {frame : List Byte} (port : XPort)

theorem State.crossIn_of_still (h : s.phRuns = false) : s.crossIn port frame = (s, none) := if_pos (by simp [h])

theorem State.crossIn_of_bad (hruns : s.phRuns = true) (hbad : crossSound frame = false) : s.crossIn port frame = (s.crossError port, none) :=
  (if_neg (by simp [hruns])).trans (if_pos (by simp [hbad]))

theorem State.crossIn_of_read {kc : Nat × List Byte} (hruns : s.phRuns = true) (hsound : crossSound frame = true)
    (hread : readCross s.unitId (companion s.unitId) frame = some kc) : s.crossIn port frame = (s.crossHeard port, some kc) := by
  refine (if_neg (by simp [hruns])).trans ((if_neg (by simp [hsound])).trans ?_)
  rw [hread]
  rfl

/-- What is heard of the partner ends a held takeover and leaves role and epochs (R264). -/
theorem UnitState.heardOn_eq (u : UnitState) :
    u.heardOn port = { u with held := false, heard27Now := (u.heardOn port).heard27Now, heard28Now := (u.heardOn port).heard28Now } := by
  cases port <;> rfl

/-! ## The commands of the cross-links -/

theorem exec_partnerReportReceive_of_none {t : State} (h : s.crossIn port frame = (t, none)) : exec (.partnerReportReceive port frame) s = .next t := by
  change execPartnerReportReceive port frame s = _
  rw [execPartnerReportReceive, h]

theorem exec_mirrorTelegramReceive_of_none {t : State} (at_ : Placing) (unreadable : PerLane Bool) (h : s.crossIn port frame = (t, none)) :
    exec (.mirrorTelegramReceive port frame at_ unreadable) s = .next t := by
  change execMirrorTelegramReceive port frame at_ unreadable s = _
  rw [execMirrorTelegramReceive, h]

theorem exec_partnerReportReceive_of_report {content : List Byte} (hruns : s.phRuns = true) (hsound : crossSound frame = true)
    (hread : readCross s.unitId (companion s.unitId) frame = some (2, content)) :
    exec (.partnerReportReceive port frame) s = .next ((s.crossHeard port).takeReport (PartnerReport.ofBytes (content.take 32))) := by
  change execPartnerReportReceive port frame s = _
  rw [execPartnerReportReceive, State.crossIn_of_read port hruns hsound hread]
  rfl

end

/-- The first copy of a report of a partner that is no watcher (R261). -/
theorem State.takeReport_of_new {s : State} {r : PartnerReport} (hnew : s.unit.partner.map (·.cycle) ≠ some r.cycle) (hrole : r.role ≠ 2) :
    s.takeReport r = { s with unit := { s.unit with partner := some r, partnerCycle := s.cycle, heardEpoch := max s.unit.heardEpoch r.epoch,
                                                    swap := s.unit.swap.hear r } } :=
  (if_neg hnew).trans (if_neg hrole)

theorem exec_crossLinkChange_of_runs {s : State} (port : XPort) (up : Bool) (h : s.phRuns = true) :
    exec (.crossLinkChange port up) s = .next { s with xl := match port with
      | .p27 => { s.xl with link27 := up }
      | .p28 => { s.xl with link28 := up } } :=
  if_neg (by simp [h])

/-! ## The area of what is received, as a lane reads it (Table 12-1) -/

theorem basinRegion_recvAddr (a len : Nat) : basinRegion (recvAddr a len) = some 1 := by
  have h : 0x02000000 ≤ recvAddr a len ∧ recvAddr a len < 0x08000000 := by unfold recvAddr; split <;> omega
  generalize recvAddr a len = b at h
  obtain ⟨hlo, hhi⟩ := h
  have h0 : ¬ b < 33554432 := by omega
  have h1 : b < 134217728 := by omega
  simp [basinRegion, basinRegions, List.findIdx?_cons, hlo, h0, h1]

/-- Every lane may read what has been placed. -/
theorem State.basinMay_read_freePlace (s : State) (p : Placing) (len : Nat) (x : LaneId) : basinMay false x.num (s.freePlace p len) = true := by
  obtain ⟨a, ha⟩ : ∃ a, s.freePlace p len = recvAddr a len := by
    dsimp only [State.freePlace]
    split <;> exact ⟨_, rfl⟩
  rw [ha, basinMay, basinRegion_recvAddr]
  cases x <;> rfl

theorem State.basinRead_of_may {s : State} {m a : Nat} (h : basinMay false m a = true) (n : Nat) :
    s.basinRead m a n = (s, Memory.readN s.basin a n) := if_pos h

/-! ## What a mirror telegram leaves while a lane takes it (R255, R260) -/

/-- From `s` to `t` lane `x` has taken a mirror telegram, and the unit may know of a higher epoch and of a refusal. -/
structure State.MirrorTaken (s t : State) (x : LaneId) : Prop where
  basin : t.basin = s.basin
  unit : t.unit = { s.unit with heardEpoch := t.unit.heardEpoch }
  other : ∀ y, y ≠ x → t.lane y = s.lane y
  pe : (t.lane x).pe = (s.lane x).pe
  io : (t.lane x).io = (s.lane x).io
  vt : (t.lane x).vt = (s.lane x).vt
  segErr : s.firstLane x = false → t.xl.segErr = s.xl.segErr

section
variable {s t u : State} {x : LaneId}

theorem State.MirrorTaken.refl (s : State) (x : LaneId) : s.MirrorTaken s x := ⟨rfl, rfl, fun _ _ => rfl, rfl, rfl, rfl, fun _ => rfl⟩

/-- A lane that takes a mirror telegram stays in service or out of it. -/
theorem State.MirrorTaken.serviceLanes (h : s.MirrorTaken t x) : t.serviceLanes = s.serviceLanes := by
  refine List.filter_congr fun y _ => ?_
  by_cases hy : y = x
  · subst hy
    rw [Lane.inService, Lane.inService, h.vt]
  · rw [h.other y hy]

theorem State.MirrorTaken.firstLane (h : s.MirrorTaken t x) (y : LaneId) : t.firstLane y = s.firstLane y := by
  rw [State.firstLane, State.firstLane, h.serviceLanes]

theorem State.MirrorTaken.trans (h : s.MirrorTaken t x) (k : t.MirrorTaken u x) : s.MirrorTaken u x where
  basin := k.basin.trans h.basin
  unit := by rw [k.unit, h.unit]
  other y hy := (k.other y hy).trans (h.other y hy)
  pe := k.pe.trans h.pe
  io := k.io.trans h.io
  vt := k.vt.trans h.vt
  segErr hx := (k.segErr ((h.firstLane x).trans hx)).trans (h.segErr hx)

/-- A change of lane `x` beside its engine, its outputs and its vote. -/
theorem State.mirrorTaken_modLane (s : State) (x : LaneId) (f : Lane → Lane) (hpe : ∀ l, (f l).pe = l.pe) (hio : ∀ l, (f l).io = l.io)
    (hvt : ∀ l, (f l).vt = l.vt) : s.MirrorTaken (s.modLane x f) x where
  basin := rfl
  unit := rfl
  other y hy := s.lane_modLane_ne f hy
  pe := by rw [s.lane_modLane_self, hpe]
  io := by rw [s.lane_modLane_self, hio]
  vt := by rw [s.lane_modLane_self, hvt]
  segErr _ := rfl

end

/-- A segment accepted changes what the lane holds of mirror frames alone (R260). -/
theorem Lane.takeSegment_spec (l : Lane) (m : Image) (t : Tele) (stamp : Nat) :
    l.takeSegment m t stamp = { l with mir := (l.takeSegment m t stamp).mir } ∧ (l.takeSegment m t stamp).mir.lastSeq = some t.seq := by
  unfold Lane.takeSegment
  extract_lets n idx cnt r r' all data recent
  split <;> exact ⟨rfl, rfl⟩

/-- A lane that has counted a mirror telegram's stamp and has had its seals verified (R96, R189). -/
def Lane.countsMirror (l : Lane) (a : Arrival) (b : List Byte) : Lane :=
  let l := l.defer l.image a.stamp
  if lengthTypeOk none b then { l with cv := l.cv.run [verifyJob a.addr none b] } else l

theorem Lane.countsMirror_eq (l : Lane) (a : Arrival) (b : List Byte) :
    l.countsMirror a b = { l with td := (l.countsMirror a b).td, cv := (l.countsMirror a b).cv } := by
  unfold Lane.countsMirror
  rw [Lane.defer_eq]
  dsimp only
  split <;> rfl

theorem Lane.countsMirror_cv {l : Lane} {b : List Byte} (h : lengthTypeOk none b = true) (a : Arrival) :
    (l.countsMirror a b).cv = l.cv.run [verifyJob a.addr none b] := by
  rw [Lane.countsMirror, Lane.defer_eq, if_pos h]

/-- A mirror telegram refused: counted where lane `x` is the first in service (Table 10-7). -/
def State.segRefused (s : State) (x : LaneId) : State :=
  if s.firstLane x then { s with xl := { s.xl with segErr := sat s.xl.segErr } } else s

/-- A segment taken by lane `x`, and what the unit makes of the frame where it completes one (R251, R267). -/
def State.segTaken (s : State) (x : LaneId) (m : Image) (t : Tele) (a : Arrival) (full : Option (Nat × Nat × List Byte)) (partner : Nat) : State :=
  let u := s.modLane x (fun l => l.takeSegment m t a.stamp)
  if (u.lane x).mir.full ≠ full then u.heardWatcher t.epoch partner else u

/-- The sequence number of a mirror telegram is later than that of the last one taken, or not 0 where none was (R260). -/
def Lane.mirrorSeqOk (l : Lane) (t : Tele) : Bool :=
  match l.mir.lastSeq with
  | some r => later t.seq r
  | none => decide (t.seq ≠ 0)

/-- How lane `x` takes the mirror telegram `b` that it has read. -/
def State.judgeMirror (s : State) (x : LaneId) (a : Arrival) (b : List Byte) : State :=
  let l := s.lane x
  let t := Tele.ofBytes 4 b
  let u := s.modLane x (·.countsMirror a b)
  if !mirrorFrameOk l.rc.opts.unitId b || !s.mirrorEpochOk t.epoch then u.segRefused x
  else if l.mirrorCopy l.image t then u
  else if !l.mirrorSeqOk t then u.segRefused x
  else u.segTaken x l.image t a l.mir.full (companion l.rc.opts.unitId)

section
variable {s : State} {x : LaneId} {a : Arrival}

theorem State.takeMirror_of_idle (h : (s.lane x).takesMirror = false) : s.takeMirror x a = s := if_pos (by simp [h])

theorem State.takeMirror_of_unreadable (h : (s.lane x).takesMirror = true) (hu : a.unreadable = true) : s.takeMirror x a = s.unreadable x a.addr :=
  (if_neg (by simp [h])).trans (if_pos hu)

theorem State.takeMirror_of_read (h : (s.lane x).takesMirror = true) (hu : a.unreadable = false) (hmay : basinMay false x.num a.addr = true) :
    s.takeMirror x a = s.judgeMirror x a (Memory.readN s.basin a.addr a.len) := by
  refine (if_neg (by simp [h])).trans ((if_neg (by simp [hu])).trans ?_)
  rw [State.basinRead_of_may hmay]
  have hcounts (b : List Byte) : s.modLane x (fun l =>
      let l := l.defer (s.lane x).image a.stamp
      if lengthTypeOk none b then { l with cv := l.cv.run [verifyJob a.addr none b] } else l) = s.modLane x (·.countsMirror a b) :=
    State.modLane_congr rfl
  dsimp only
  rw [hcounts]
  rfl

end

/-- A sleeper that hears of the epoch it follows only remembers it (R251, R267). -/
theorem State.heardWatcher_of_followed {s : State} {n : Nat} (hrole : s.unit.role = .sleeper) (hn : n = s.unit.epoch) (partner : Nat) :
    s.heardWatcher n partner = { s with unit := { s.unit with heardEpoch := max s.unit.heardEpoch n } } := by
  subst hn
  unfold State.heardWatcher
  dsimp only
  rw [hrole]
  exact if_neg (lt_irrefl s.unit.epoch)

section
variable {s : State} {x : LaneId}

theorem State.mirrorTaken_countsMirror (s : State) (x : LaneId) (a : Arrival) (b : List Byte) : s.MirrorTaken (s.modLane x (·.countsMirror a b)) x := by
  refine s.mirrorTaken_modLane x _ (fun l => ?_) (fun l => ?_) (fun l => ?_) <;> rw [Lane.countsMirror_eq]

theorem State.mirrorTaken_segRefused (s : State) (x : LaneId) : s.MirrorTaken (s.segRefused x) x := by
  unfold State.segRefused
  split
  next h => exact ⟨rfl, rfl, fun _ _ => rfl, rfl, rfl, rfl, fun hx => absurd (h.symm.trans hx) (by decide)⟩
  · exact .refl s x

/-- A segment of the watcher that the sleeper follows. -/
theorem State.segTaken_of_followed {m : Image} {t : Tele} (hrole : s.unit.role = .sleeper) (hepoch : t.epoch = s.unit.epoch) (a : Arrival)
    (full : Option (Nat × Nat × List Byte)) (partner : Nat) :
    ∃ n, s.segTaken x m t a full partner = { s.modLane x (·.takeSegment m t a.stamp) with unit := { s.unit with heardEpoch := n } } := by
  unfold State.segTaken
  dsimp only
  split
  · rw [State.heardWatcher_of_followed (by exact hrole) (by exact hepoch)]
    exact ⟨_, rfl⟩
  · exact ⟨s.unit.heardEpoch, rfl⟩

theorem State.mirrorTaken_segTaken {m : Image} {t : Tele} (hrole : s.unit.role = .sleeper) (hepoch : t.epoch = s.unit.epoch) (a : Arrival)
    (full : Option (Nat × Nat × List Byte)) (partner : Nat) : s.MirrorTaken (s.segTaken x m t a full partner) x := by
  obtain ⟨n, h⟩ := State.segTaken_of_followed (x := x) (m := m) hrole hepoch a full partner
  rw [h]
  refine (s.mirrorTaken_modLane x (·.takeSegment m t a.stamp) (fun l => ?_) (fun l => ?_) (fun l => ?_)).trans
    ⟨rfl, rfl, fun _ _ => rfl, rfl, rfl, rfl, fun _ => rfl⟩ <;> rw [(Lane.takeSegment_spec ..).1]

theorem State.epoch_of_mirrorEpochOk {n : Nat} (hrole : s.unit.role = .sleeper) (h : s.mirrorEpochOk n = true) : n = s.unit.epoch := by
  simpa [State.mirrorEpochOk, hrole] using h

/-- However a lane of a sleeper takes a mirror telegram, the cycle goes on as it was. -/
theorem State.mirrorTaken_judgeMirror (hrole : s.unit.role = .sleeper) (a : Arrival) (b : List Byte) : s.MirrorTaken (s.judgeMirror x a b) x := by
  have hcounts := s.mirrorTaken_countsMirror x a b
  unfold State.judgeMirror
  dsimp only
  split
  · exact hcounts.trans (State.mirrorTaken_segRefused _ x)
  next h =>
    split
    · exact hcounts
    · split
      · exact hcounts.trans (State.mirrorTaken_segRefused _ x)
      · obtain ⟨-, hok⟩ : mirrorFrameOk (s.lane x).rc.opts.unitId b = true ∧ s.mirrorEpochOk (Tele.ofBytes 4 b).epoch = true := by simpa using h
        exact hcounts.trans (State.mirrorTaken_segTaken (s := s.modLane x (·.countsMirror a b)) hrole (State.epoch_of_mirrorEpochOk hrole hok) a _ _)

theorem State.mirrorTaken_takeMirror (hrole : s.unit.role = .sleeper) {a : Arrival} (hmay : basinMay false x.num a.addr = true) :
    s.MirrorTaken (s.takeMirror x a) x := by
  cases htakes : (s.lane x).takesMirror with
  | false =>
    rw [State.takeMirror_of_idle htakes]
    exact .refl s x
  | true =>
    cases hu : a.unreadable with
    | true =>
      rw [State.takeMirror_of_unreadable htakes hu]
      exact (⟨rfl, rfl, fun _ _ => rfl, rfl, rfl, rfl, fun _ => rfl⟩ : s.MirrorTaken (s.eccError a.addr) x).trans
        (State.mirrorTaken_modLane _ x _ (fun _ => rfl) (fun _ => rfl) (fun _ => rfl))
    | false =>
      rw [State.takeMirror_of_read htakes hu hmay]
      exact State.mirrorTaken_judgeMirror hrole a _

/-- A first copy that passes the checks is taken as a segment, its seals verified. -/
theorem State.lane_judgeMirror_of_first {a : Arrival} {b : List Byte} (hrole : s.unit.role = .sleeper) :
    let l := s.lane x
    let t := Tele.ofBytes 4 b
    mirrorFrameOk l.rc.opts.unitId b = true → t.epoch = s.unit.epoch → l.mirrorCopy l.image t = false → t.seq ≠ 0 → l.mir.lastSeq = none →
      ((s.judgeMirror x a b).lane x).mir.lastSeq = some t.seq ∧ ((s.judgeMirror x a b).lane x).cv = l.cv.run [verifyJob a.addr none b] := by
  intro l t hframe hepoch hcopy hseq hlast
  have hlength : lengthTypeOk none b = true := by
    simp only [mirrorFrameOk, Bool.and_eq_true] at hframe
    obtain ⟨⟨⟨hlength, -⟩, -⟩, -⟩ := hframe
    exact hlength
  have hjudge : s.judgeMirror x a b =
      (s.modLane x (·.countsMirror a b)).segTaken x l.image t a l.mir.full (companion l.rc.opts.unitId) :=
    (if_neg (by simp [hframe, State.mirrorEpochOk, hrole, hepoch, l, t])).trans ((if_neg (by simp [hcopy, l, t])).trans
      (if_neg (by simp [Lane.mirrorSeqOk, hlast, hseq, l, t])))
  obtain ⟨n, htaken⟩ := State.segTaken_of_followed (s := s.modLane x (·.countsMirror a b)) (x := x) (m := l.image) hrole hepoch a l.mir.full
    (companion l.rc.opts.unitId)
  obtain ⟨honly, hlastSeq⟩ := Lane.takeSegment_spec (l.countsMirror a b) l.image t a.stamp
  have hlane : (s.judgeMirror x a b).lane x = (l.countsMirror a b).takeSegment l.image t a.stamp := by
    rw [hjudge, htaken]
    exact (State.lane_modLane_self ..).trans (by rw [State.lane_modLane_self])
  rw [hlane, ← Lane.countsMirror_cv hlength a]
  exact ⟨hlastSeq, by rw [honly]⟩

/-- A refused telegram is counted where the lane is the first in service; the lane keeps what it holds of mirror frames. -/
theorem State.judgeMirror_of_bad {a : Arrival} {b : List Byte} (hfirst : s.firstLane x = true)
    (hbad : mirrorFrameOk (s.lane x).rc.opts.unitId b = false) :
    (s.judgeMirror x a b).xl.segErr = sat s.xl.segErr ∧ ((s.judgeMirror x a b).lane x).mir = (s.lane x).mir := by
  have hcounted : (s.modLane x (·.countsMirror a b)).firstLane x = true := ((s.mirrorTaken_countsMirror x a b).firstLane x).trans hfirst
  have hjudge : s.judgeMirror x a b = (s.modLane x (·.countsMirror a b)).segRefused x := if_pos (by simp [hbad])
  rw [hjudge, State.segRefused, if_pos hcounted]
  refine ⟨rfl, (congrArg Lane.mir (s.lane_modLane_self x _)).trans ?_⟩
  rw [Lane.countsMirror_eq]

end

/-! ## A mirror telegram in every lane (R256, R260) -/

/-- What lane `x` sees while other lanes take a mirror telegram. -/
structure State.MirrorPassed (s t : State) (x : LaneId) : Prop where
  basin : t.basin = s.basin
  unit : t.unit = { s.unit with heardEpoch := t.unit.heardEpoch }
  lane : t.lane x = s.lane x
  serviceLanes : t.serviceLanes = s.serviceLanes
  segErr : s.firstLane x = true → t.xl.segErr = s.xl.segErr

section
variable {s t u : State} {x y : LaneId}

theorem State.MirrorPassed.refl (s : State) (x : LaneId) : s.MirrorPassed s x := ⟨rfl, rfl, rfl, rfl, fun _ => rfl⟩

theorem State.MirrorPassed.firstLane (h : s.MirrorPassed t x) (y : LaneId) : t.firstLane y = s.firstLane y := by
  rw [State.firstLane, State.firstLane, h.serviceLanes]

theorem State.MirrorPassed.role (h : s.MirrorPassed t x) : t.unit.role = s.unit.role := by rw [h.unit]

theorem State.MirrorPassed.trans (h : s.MirrorPassed t x) (k : t.MirrorPassed u x) : s.MirrorPassed u x where
  basin := k.basin.trans h.basin
  unit := by rw [k.unit, h.unit]
  lane := k.lane.trans h.lane
  serviceLanes := k.serviceLanes.trans h.serviceLanes
  segErr hx := (k.segErr ((h.firstLane x).trans hx)).trans (h.segErr hx)

/-- Of two lanes at most one is the first in service. -/
theorem State.MirrorTaken.passed (h : s.MirrorTaken t y) (hy : x ≠ y) : s.MirrorPassed t x where
  basin := h.basin
  unit := h.unit
  lane := h.other x hy
  serviceLanes := h.serviceLanes
  segErr hx := h.segErr <| decide_eq_false fun hfirst => hy (Option.some.inj ((of_decide_eq_true hx).symm.trans hfirst))

theorem State.mirrorPassed_foldl {f : State → LaneId → State} (hf : ∀ (u : State) y, u.unit.role = .sleeper → u.MirrorTaken (f u y) y) {ys : List LaneId}
    (hx : x ∉ ys) (hrole : s.unit.role = .sleeper) : s.MirrorPassed (ys.foldl f s) x :=
  List.foldlRecOn (motive := (s.MirrorPassed · x)) ys f (.refl s x) fun u hu y hy =>
    hu.trans ((hf u y (hu.role.trans hrole)).passed fun hxy => hx (hxy ▸ hy))

/-- A mirror telegram taken by every lane, as lane `x` sees it: the lanes before it, the lane itself, and the lanes after it. -/
theorem State.mirrorFold_split {f : State → LaneId → State} (hf : ∀ (u : State) y, u.unit.role = .sleeper → u.MirrorTaken (f u y) y) (x : LaneId)
    (hrole : s.unit.role = .sleeper) :
    ∃ u, s.MirrorPassed u x ∧ u.MirrorTaken (f u x) x ∧ (f u x).MirrorPassed (LaneId.list.foldl f s) x := by
  obtain ⟨before, after, hsplit, hbefore, hafter⟩ := x.list_split
  have hpassed := State.mirrorPassed_foldl hf hbefore hrole
  have htaken := hf _ x (hpassed.role.trans hrole)
  refine ⟨before.foldl f s, hpassed, htaken, ?_⟩
  rw [hsplit, List.foldl_append, List.foldl_cons]
  exact State.mirrorPassed_foldl hf hafter (by rw [htaken.unit]; exact hpassed.role.trans hrole)

end

/-- The mirror telegram that lane `x` finds where the pumphouse has placed it. -/
def mirrorArrival (addr : Nat) (b : List Byte) (stamp : Nat) (port : XPort) (unreadable : PerLane Bool) (x : LaneId) : Arrival :=
  { addr := addr, len := b.length, stamp := stamp, path := .cross (port == .p28), unreadable := unreadable.get x }

/-- The unit in which a mirror telegram of the partner has been placed (R23). -/
def State.mirrorPlaced (s : State) (port : XPort) (at_ : Placing) (b : List Byte) : State := (s.crossHeard port).place at_ (.cross (port == .p28)) b

/-- The unit in which every lane has taken a mirror telegram that has been placed. -/
def State.mirrorGiven (s : State) (port : XPort) (at_ : Placing) (unreadable : PerLane Bool) (b : List Byte) : State :=
  LaneId.list.foldl (fun u x => u.takeMirror x (mirrorArrival (s.freePlace at_ b.length) b at_.stamp port unreadable x)) (s.mirrorPlaced port at_ b)

section
variable {s : State} (port : XPort) (at_ : Placing) (unreadable : PerLane Bool)

theorem exec_mirrorTelegramReceive_of_telegram {frame content : List Byte} (hruns : s.phRuns = true) (hsound : crossSound frame = true)
    (hread : readCross s.unitId (companion s.unitId) frame = some (1, content)) :
    exec (.mirrorTelegramReceive port frame at_ unreadable) s = .next (s.mirrorGiven port at_ unreadable (mirrorText content)) := by
  change execMirrorTelegramReceive port frame at_ unreadable s = _
  rw [execMirrorTelegramReceive, State.crossIn_of_read port hruns hsound hread]
  rfl

theorem State.mirrorPlaced_unit (b : List Byte) : (s.mirrorPlaced port at_ b).unit = s.unit.heardOn port := State.place_unit ..

theorem State.lane_mirrorPlaced (b : List Byte) (x : LaneId) : (s.mirrorPlaced port at_ b).lane x = s.lane x :=
  congrArg (PerLane.get · x) (State.place_lanes ..)

/-- What has been placed is what a lane reads. -/
theorem State.readN_mirrorPlaced (b : List Byte) : Memory.readN (s.mirrorPlaced port at_ b).basin (s.freePlace at_ b.length) b.length = b := by
  rw [State.mirrorPlaced, State.place_eq]
  exact Memory.readN_writeN _ _ b

variable (hrole : s.unit.role = .sleeper) (b : List Byte)
include hrole

/-- A mirror telegram that reaches a sleeper, as lane `x` sees it. -/
theorem State.mirrorGiven_split (x : LaneId) :
    ∃ u, (s.mirrorPlaced port at_ b).MirrorPassed u x ∧
      u.MirrorTaken (u.takeMirror x (mirrorArrival (s.freePlace at_ b.length) b at_.stamp port unreadable x)) x ∧
      (u.takeMirror x (mirrorArrival (s.freePlace at_ b.length) b at_.stamp port unreadable x)).MirrorPassed
        (s.mirrorGiven port at_ unreadable b) x := by
  refine State.mirrorFold_split (fun u y hu => State.mirrorTaken_takeMirror hu (s.basinMay_read_freePlace at_ b.length y)) x ?_
  rw [State.mirrorPlaced_unit, UnitState.heardOn_eq]
  exact hrole

/-- What a mirror telegram leaves in a sleeper: the pumphouse has heard the partner, and the telegram stands in the basin. -/
theorem State.mirrorGiven_unit_basin :
    (∃ n, (s.mirrorGiven port at_ unreadable b).unit = { s.unit.heardOn port with heardEpoch := n }) ∧
      Memory.readN (s.mirrorGiven port at_ unreadable b).basin (s.freePlace at_ b.length) b.length = b := by
  obtain ⟨u, hbefore, htaken, hafter⟩ := State.mirrorGiven_split port at_ unreadable hrole b .a
  refine ⟨⟨(s.mirrorGiven port at_ unreadable b).unit.heardEpoch, ?_⟩, ?_⟩
  · rw [hafter.unit, htaken.unit, hbefore.unit, State.mirrorPlaced_unit]
  · rw [hafter.basin, htaken.basin, hbefore.basin, State.readN_mirrorPlaced]

theorem State.mirrorGiven_pe_io (x : LaneId) :
    ((s.mirrorGiven port at_ unreadable b).lane x).pe = (s.lane x).pe ∧ ((s.mirrorGiven port at_ unreadable b).lane x).io = (s.lane x).io := by
  obtain ⟨u, hbefore, htaken, hafter⟩ := State.mirrorGiven_split port at_ unreadable hrole b x
  rw [hafter.lane, htaken.pe, htaken.io, hbefore.lane, State.lane_mirrorPlaced]
  exact ⟨rfl, rfl⟩

/-- A lane in service that can read the telegram judges it as it was placed. -/
theorem State.mirrorGiven_judged {x : LaneId} (hserv : (s.lane x).inService = true) (hu : unreadable.get x = false) :
    ∃ (u : State) (a : Arrival), (s.mirrorPlaced port at_ b).MirrorPassed u x ∧ a.addr = s.freePlace at_ b.length ∧
      (u.judgeMirror x a b).MirrorPassed (s.mirrorGiven port at_ unreadable b) x := by
  obtain ⟨u, hbefore, -, hafter⟩ := State.mirrorGiven_split port at_ unreadable hrole b x
  refine ⟨u, mirrorArrival (s.freePlace at_ b.length) b at_.stamp port unreadable x, hbefore, rfl, ?_⟩
  have htakes : (u.lane x).takesMirror = true := by
    rw [hbefore.lane, State.lane_mirrorPlaced]
    simp [Lane.takesMirror, hserv]
  have hread : Memory.readN u.basin (s.freePlace at_ b.length) b.length = b := by rw [hbefore.basin, State.readN_mirrorPlaced]
  rw [State.takeMirror_of_read htakes hu (s.basinMay_read_freePlace at_ b.length x)] at hafter
  change (u.judgeMirror x _ (Memory.readN u.basin (s.freePlace at_ b.length) b.length)).MirrorPassed _ x at hafter
  rwa [hread] at hafter

/-- A first copy that passes the checks of a lane in service is taken by it as a segment (R260). -/
theorem State.mirrorGiven_of_first {x : LaneId} (hstate : (s.lane x).vt.state = .inService) (hu : unreadable.get x = false) :
    let l := s.lane x
    let t := Tele.ofBytes 4 b
    mirrorFrameOk l.rc.opts.unitId b = true → t.epoch = s.unit.epoch → l.mirrorCopy l.image t = false → t.seq ≠ 0 → l.mir.lastSeq = none →
      ((s.mirrorGiven port at_ unreadable b).lane x).mir.lastSeq = some t.seq ∧
        ((s.mirrorGiven port at_ unreadable b).lane x).cv = l.cv.run [verifyJob (s.freePlace at_ b.length) none b] := by
  intro l t
  obtain ⟨u, a, hbefore, haddr, hafter⟩ := State.mirrorGiven_judged port at_ unreadable hrole b (beq_iff_eq.2 hstate) hu
  have hlane : u.lane x = l := hbefore.lane.trans (State.lane_mirrorPlaced ..)
  have hunit : u.unit.role = .sleeper ∧ u.unit.epoch = s.unit.epoch := by
    rw [hbefore.unit, State.mirrorPlaced_unit, UnitState.heardOn_eq]
    exact ⟨hrole, rfl⟩
  have h := State.lane_judgeMirror_of_first (x := x) (a := a) (b := b) hunit.1
  rw [hlane, hunit.2, haddr] at h
  rw [hafter.lane]
  exact h

/-- A telegram that the first lane in service refuses is counted once (Table 10-7). -/
theorem State.mirrorGiven_of_bad {x : LaneId} (hfirst : s.serviceLanes.head? = some x) (hu : unreadable.get x = false)
    (hbad : mirrorFrameOk (s.lane x).rc.opts.unitId b = false) :
    (s.mirrorGiven port at_ unreadable b).xl.segErr = sat s.xl.segErr ∧ ((s.mirrorGiven port at_ unreadable b).lane x).mir = (s.lane x).mir := by
  have hserv : (s.lane x).inService = true := (List.mem_filter.1 (List.mem_of_head? hfirst)).2
  obtain ⟨u, a, hbefore, -, hafter⟩ := State.mirrorGiven_judged port at_ unreadable hrole b hserv hu
  have hlane : u.lane x = s.lane x := hbefore.lane.trans (State.lane_mirrorPlaced ..)
  have hplaced : (s.mirrorPlaced port at_ b).firstLane x = true := by
    simpa only [State.firstLane, State.serviceLanes, State.lane_mirrorPlaced, decide_eq_true_eq] using hfirst
  have hfirst' : u.firstLane x = true := (hbefore.firstLane x).trans hplaced
  obtain ⟨hcount, hmir⟩ := State.judgeMirror_of_bad (a := a) hfirst' (by rw [hlane]; exact hbad)
  have hstill : (u.judgeMirror x a b).firstLane x = true := by
    rw [(State.mirrorTaken_judgeMirror ?_ a b).firstLane x, hfirst']
    rw [hbefore.role, State.mirrorPlaced_unit, UnitState.heardOn_eq]
    exact hrole
  rw [hafter.segErr hstill, hafter.lane, hcount, hmir, hbefore.segErr hplaced, hlane]
  exact ⟨by rw [State.mirrorPlaced, State.place_eq]; rfl, rfl⟩

end

/-- Settles O31: the bytes of a report by their fields; a frame that arrives by what the pumphouse makes of it; a mirror telegram by the lanes that take it one
after the other. -/
theorem crossLinksCarryThePartner : Obligations.CrossLinksCarryThePartner := by
  unfold Obligations.CrossLinksCarryThePartner
  refine ⟨fun own partner r _ _ hunit hrole hrotation hepoch hcycle hdigest hready hswap htCycle => ⟨?_, _, readCross_crossFrame own partner (by decide) _, ?_⟩,
    fun s port => ⟨fun frame at_ unreadable hstill => ?_, fun frame at_ unreadable hruns hbad => ?_,
      fun frame content at_ unreadable hruns hsound hread hrole => ?_, fun frame content hruns hsound hread hnew hrole => ?_,
      fun up hruns => ⟨exec_crossLinkChange_of_runs .p27 up hruns, exec_crossLinkChange_of_runs .p28 up hruns⟩⟩⟩
  · rw [length_crossFrame, r.length_bytes hdigest]
    rfl
  · rw [List.take_left' (r.length_bytes hdigest)]
    exact r.ofBytes_bytes hdigest hunit hrole hrotation hepoch hcycle hready hswap htCycle
  · have h := State.crossIn_of_still (frame := frame) port hstill
    exact ⟨exec_partnerReportReceive_of_none port h, exec_mirrorTelegramReceive_of_none port at_ unreadable h⟩
  · have h := State.crossIn_of_bad port hruns hbad
    exact ⟨exec_partnerReportReceive_of_none port h, exec_mirrorTelegramReceive_of_none port at_ unreadable h⟩
  · obtain ⟨⟨n, hunit⟩, hbasin⟩ := State.mirrorGiven_unit_basin port at_ unreadable hrole (mirrorText content)
    refine ⟨_, exec_mirrorTelegramReceive_of_telegram port at_ unreadable hruns hsound hread, ?_, ?_, hbasin, fun x => ?_⟩
    · rw [hunit, UnitState.heardOn_eq]
    · rw [hunit, UnitState.heardOn_eq]
      exact hrole
    · obtain ⟨hpe, hio⟩ := State.mirrorGiven_pe_io port at_ unreadable hrole (mirrorText content) x
      exact ⟨hpe, hio, fun hstate hu => State.mirrorGiven_of_first port at_ unreadable hrole _ hstate hu,
        fun hfirst hu => State.mirrorGiven_of_bad port at_ unreadable hrole _ hfirst hu⟩
  · refine ⟨_, exec_partnerReportReceive_of_report port hruns hsound hread, ?_⟩
    obtain ⟨hpartner, hheard, hheld⟩ : (s.crossHeard port).unit.partner = s.unit.partner ∧ (s.crossHeard port).unit.heardEpoch = s.unit.heardEpoch ∧
        (s.crossHeard port).unit.held = false := by
      rw [State.crossHeard, UnitState.heardOn_eq]
      exact ⟨rfl, rfl, rfl⟩
    rw [State.takeReport_of_new (by rwa [hpartner]) hrole]
    exact ⟨rfl, rfl, congrArg (max · _) hheard, hheld, rfl, rfl, rfl⟩

end Sys2Proof.Machine

/-! PROOF. KMP requests (R278, R290, R294, R381 to R383): how a request comes to be served, the response to a requester whose address is known and to one whose
address is not, what each operation answers, and a datagram that carries no request. -/

namespace Sys2Proof

/-- What is set in both words taken out of the first leaves the bits that the second does not set. -/
theorem testBit_sub_and (x y i : Nat) : (x - (x &&& y)).testBit i = (x.testBit i && !y.testBit i) := by
  have hle : x &&& y ≤ x := Nat.and_le_left
  have hmod : (x &&& y) % 2 = 1 ↔ x % 2 = 1 ∧ y % 2 = 1 := Nat.and_mod_two_eq_one
  induction i generalizing x y with
  | zero =>
    have hbit : (x - (x &&& y)) % 2 = 1 ↔ x % 2 = 1 ∧ ¬ y % 2 = 1 := by omega
    simp only [Nat.testBit_zero, hbit, Bool.decide_and, decide_not]
  | succ i ih =>
    have hhalf : (x - (x &&& y)) / 2 = x / 2 - (x / 2 &&& y / 2) := by
      have h : (x &&& y) / 2 = x / 2 &&& y / 2 := Nat.and_div_two
      omega
    rw [Nat.testBit_succ, hhalf, ih _ _ Nat.and_le_left Nat.and_mod_two_eq_one, Nat.testBit_succ, Nat.testBit_succ]

theorem ofBE_lt (bs : List Byte) : ofBE bs < 256 ^ bs.length := by
  induction bs with
  | nil => decide
  | cons b bs ih =>
    rw [ofBE_cons, List.length_cons, Nat.pow_succ']
    have := Nat.mul_le_mul_right (256 ^ bs.length) (Nat.le_of_lt_succ b.isLt)
    omega

/-- A field of `n` bytes spells a number of `n` bytes. -/
theorem getBE_lt (bs : List Byte) (off n : Nat) : getBE bs off n < 256 ^ n :=
  (ofBE_lt _).trans_le (Nat.pow_le_pow_right (by decide) (List.length_take_le ..))

end Sys2Proof

namespace Sys2Proof.Machine

theorem exec_kmpRead (q : KmpReq) (s : State) : exec (.kmpRead q) s = .next (s.kmpTake 1 q) := rfl

theorem exec_kmpWrite (q : KmpReq) (s : State) : exec (.kmpWrite q) s = .next (s.kmpTake 2 q) := rfl

theorem exec_basinRead (q : KmpReq) (s : State) : exec (.basinRead q) s = .next (s.kmpTake 3 q) := rfl

theorem exec_basinWrite (q : KmpReq) (s : State) : exec (.basinWrite q) s = .next (s.kmpTake 4 q) := rfl

/-! ## One request after the other (R383) -/

section
variable {s : State}

/-- While a response is held up, no request is served. -/
theorem State.kmpDrain_of_held (hheld : s.kmpHeld = true) (k : Nat) : s.kmpDrain k = s := by
  cases k with
  | zero => rfl
  | succ k =>
    rw [State.kmpDrain]
    split
    · rfl
    · exact if_pos hheld

variable (hruns : s.kmpRuns = true) (op : Nat) (q : KmpReq)
include hruns

theorem State.kmpTake_of_held (hheld : s.kmpHeld = true) :
    s.kmpTake op q = { s with ph := { s.ph with kmpQueue := s.ph.kmpQueue ++ [(op, q)] } } := by
  rw [State.kmpTake, if_neg (by simp [hruns]), if_neg (by simp [hheld])]
  exact State.kmpDrain_of_held (s := { s with ph := { s.ph with kmpQueue := s.ph.kmpQueue ++ [(op, q)] } }) hheld _

theorem State.kmpTake_of_free (hheld : s.kmpHeld = false) (hqueue : s.ph.kmpQueue = []) : s.kmpTake op q = s.kmpServe op q := by
  rw [State.kmpTake, if_neg (by simp [hruns]), if_pos (by simp [hheld, hqueue])]

end

/-! ## The response (R278, R381, Table 16-8) -/

/-- The pumphouse's counts and event after a response. -/
def Pumphouse.answered (p : Pumphouse) (op : Nat) (st : KmpStatus) : Pumphouse :=
  { p with
    kmpCnt := sat p.kmpCnt
    kmpErr := if st.code = 0 then p.kmpErr else sat p.kmpErr
    kmpLast := if st.code = 0 then p.kmpLast else fld st.code 16 16 + fld op 8 8
    event := if st.code = 0 then p.event else p.event ||| 1 }

/-- The MAC address of a requester as the maintenance network knows it, 0 where it does not. -/
def State.requesterMac (s : State) (q : KmpReq) : Nat := Assoc.get 0 (s.net .maint).arp q.requester.ip.toNat

/-- The response as it goes out to the requester. -/
def State.answer (s : State) (q : KmpReq) (op count : Nat) (st : KmpStatus) (data : List Byte) : Emit :=
  .datagram .maint (s.outPorts .maint (s.requesterMac q)) (s.requesterMac q) (s.kmpDatagram q.requester (kmpResponse q op count st data))

/-- The response while it waits for the requester's address. -/
def State.heldAnswer (s : State) (q : KmpReq) (op count : Nat) (st : KmpStatus) (data : List Byte) : NetWait :=
  { d := s.kmpDatagram q.requester (kmpResponse q op count st data), cycle := none, failed := false, echo := false }

/-- From `s` to `t` the request has been answered once and counted, and no lane has changed. -/
def State.served (s t : State) (q : KmpReq) (op count : Nat) (st : KmpStatus) (data : List Byte) : Prop :=
  t.sent = s.sent ++ [s.answer q op count st data] ∧ t.ph.kmpCnt = sat s.ph.kmpCnt ∧ t.lanes = s.lanes ∧
    t.ph.kmpErr = (if st.code = 0 then s.ph.kmpErr else sat s.ph.kmpErr) ∧ (st.code ≠ 0 → t.ph.event.testBit 0 = true)

theorem State.respond_eq (s : State) (q : KmpReq) (op count : Nat) (st : KmpStatus) (data : List Byte) :
    s.respond q op count st data = State.sendOut { s with ph := s.ph.answered op st } .maint (s.heldAnswer q op count st data) := by
  cases st <;> rfl

theorem State.outPorts_maint_broadcast (s : State) : s.outPorts .maint 0 = [0, 1] := rfl

theorem State.netSends_of_kmpRuns {s : State} (h : s.kmpRuns = true) : s.netSends .maint = true := (Bool.and_eq_true_iff.1 h).2

section
variable {s : State} {q : KmpReq} (hruns : s.kmpRuns = true) (hip : q.requester.ip ≠ 0#32)
  (op count : Nat) (st : KmpStatus) (data : List Byte)
include hruns hip

/-- While the requester's address is not known, the response waits and the address is asked for. -/
theorem State.respond_of_unknown (hmac : s.requesterMac q = 0) (hask : q.requester.ip.toNat ∉ (s.net .maint).asking) :
    let t := s.respond q op count st data
    t.sent = s.sent ++ [.arpRequest .maint [0, 1] q.requester.ip.toNat] ∧
      (t.net .maint).waiting = (s.net .maint).waiting ++ [s.heldAnswer q op count st data] ∧
      (t.net .maint).asking = (s.net .maint).asking ++ [q.requester.ip.toNat] ∧ t.basin = s.basin ∧ t.lanes = s.lanes := by
  intro t
  have h0 : (s.heldAnswer q op count st data).d.dst ≠ 0 := fun h => hip (BitVec.eq_of_toNat_eq h)
  have hsends := State.netSends_of_kmpRuns hruns
  have ht : t = _ := (s.respond_eq q op count st data).trans (State.sendOut_of_unknown h0 hsends hmac hask)
  rw [ht, State.askFor, State.emitNet_eq, State.outPorts_maint_broadcast]
  exact ⟨rfl, rfl, rfl, rfl, rfl⟩

variable (hmac : s.requesterMac q ≠ 0) (hports : s.outPorts .maint (s.requesterMac q) ≠ [])
include hmac hports

/-- The response goes out to a requester whose address is known, and nothing else happens but the counts. -/
theorem State.sendsOnly_respond :
    State.sendsOnly { s with ph := s.ph.answered op st } (s.respond q op count st data) [s.answer q op count st data] := by
  have h0 : (s.heldAnswer q op count st data).d.dst ≠ 0 := fun h => hip (BitVec.eq_of_toNat_eq h)
  have hsends := State.netSends_of_kmpRuns hruns
  rw [State.respond_eq, State.sendOut_of_known (s := { s with ph := s.ph.answered op st }) h0 hsends hmac, State.sendNow_of_ports rfl hports]
  exact (State.sendsOnly_modNet _ .maint _).trans (State.sendsOnly_emit _ _)

theorem State.served_respond : s.served (s.respond q op count st data) q op count st data := by
  have h := State.sendsOnly_respond hruns hip op count st data hmac hports
  have hph : (s.respond q op count st data).ph = s.ph.answered op st := h.ph
  rw [State.served, hph]
  refine ⟨h.sent, rfl, h.lanes, rfl, fun hst => ?_⟩
  simp [Pumphouse.answered, hst]

end

/-! ## What the host may reach (Tables 12-1 and 16-1) -/

/-- An aligned register lies within one block. -/
theorem blockOf_add_three {a : Nat} (h : a % 4 = 0) : blockOf (a + 3) = blockOf a := by
  have hhigh : (a + 3) / 0x1000000 = a / 0x1000000 := by omega
  have hindex : (a + 3) % 0x1000000 / 0x10000 = a % 0x1000000 / 0x10000 := by omega
  rw [blockOf, blockOf, hhigh, hindex]

theorem basinRegion_of_region6 {a : Nat} (hlow : 0x0C000000 ≤ a) (hhigh : a < 0x0E000000) : basinRegion a = some 6 := by
  have h0 : ¬ a < 33554432 := by omega
  have h1 : ¬ a < 134217728 := by omega
  have h2 : ¬ a < 159383552 := by omega
  have h3 : ¬ a < 167772160 := by omega
  have h4 : ¬ a < 192937984 := by omega
  have h5 : ¬ a < 201326592 := by omega
  simp [basinRegion, basinRegions, List.findIdx?_cons, h0, h1, h2, h3, h4, h5, hhigh]

theorem basinRegion_of_region7 {a : Nat} (hlow : 0x0E000000 ≤ a) (hhigh : a < 0x10000000) : basinRegion a = some 7 := by
  have h0 : ¬ a < 33554432 := by omega
  have h1 : ¬ a < 134217728 := by omega
  have h2 : ¬ a < 159383552 := by omega
  have h3 : ¬ a < 167772160 := by omega
  have h4 : ¬ a < 192937984 := by omega
  have h5 : ¬ a < 201326592 := by omega
  have h6 : ¬ a < 234881024 := by omega
  simp [basinRegion, basinRegions, List.findIdx?_cons, h0, h1, h2, h3, h4, h5, h6, hhigh]

/-- The host reads and writes region 6. -/
theorem basinMay_host_of_region6 {a : Nat} (h : basinRegion a = some 6) (write : Bool) : basinMay write 8 a = true := by
  rw [basinMay, h]
  cases write <;> rfl

/-- The host does not write region 7. -/
theorem basinMay_host_of_region7 {a : Nat} (h : basinRegion a = some 7) : basinMay true 8 a = false := by
  rw [basinMay, h]
  rfl

section
variable {s : State} {a : Nat}

/-- The module's identification is read over the sluice of lane A (R380). -/
theorem State.hostRead_of_module (hblock : blockOf a = some .module) (hsluice : s.sluiceOpen .a = true) :
    s.hostRead a = (s, .ok, s.regsMod (offsetOf a)) := by
  have hanswers : s.answers .module = true := by simp [State.answers, LaneId.list, hsluice]
  simp [State.hostRead, State.regValue, hblock, hanswers]

theorem State.hostWrite_of_module (hblock : blockOf a = some .module) (v : Nat) (who : Option Requester) :
    s.hostWrite a v who = (s, .readOnly) := by
  simp [State.hostWrite, hblock]

theorem State.hostWrite_phEvent (s : State) (v : Nat) (who : Option Requester) : s.hostWrite 0x20000008 v who = (s.clearEvent v, .ok) := rfl

end

/-! ## The checks of a request (R382) -/

section
variable {q : KmpReq} {len : Nat}

theorem checkRegs_of_bad (h : q.version ≠ 1#8 ∨ q.count.toNat = 0) : checkRegs q len = .badRequest :=
  if_pos (by rcases h with h | h <;> simp [h])

theorem checkBasin_of_bad (h : q.version ≠ 1#8) : checkBasin q len = .badRequest :=
  if_pos (by simp [h])

variable (hver : q.version = 1#8) (hlen : q.data.length = len)
include hver hlen

theorem checkRegs_of_unmapped (hmin : 1 ≤ q.count.toNat) (hmax : q.count.toNat ≤ 256) (hblock : blockOf q.address.toNat = none) :
    checkRegs q len = .unmapped := by
  have h0 : q.count.toNat ≠ 0 := by omega
  have h1 : ¬ 256 < q.count.toNat := by omega
  simp [checkRegs, hver, hlen, h0, h1, hblock]

/-- A request for one aligned register of a block passes its checks. -/
theorem checkRegs_of_one {b : Block} (hblock : blockOf q.address.toNat = some b) (halign : q.address.toNat % 4 = 0)
    (hcount : q.count.toNat = 1) : checkRegs q len = .ok := by
  simp [checkRegs, hver, hlen, hcount, halign, blockOf_add_three halign, hblock]

/-- A request for aligned bytes that end in the region where they begin passes its checks. -/
theorem checkBasin_of_region (hmin : 4 ≤ q.count.toNat) (hmax : q.count.toNat ≤ 1024) (hn : q.count.toNat % 4 = 0) (halign : q.address.toNat % 4 = 0)
    (hend : q.address.toNat + q.count.toNat ≤ 0x20000000)
    (hregion : basinRegion (q.address.toNat + q.count.toNat - 1) = basinRegion q.address.toNat) : checkBasin q len = .ok := by
  have h0 : ¬ q.count.toNat < 4 := by omega
  have h1 : ¬ 1024 < q.count.toNat := by omega
  have h2 : ¬ 0x20000000 < q.address.toNat + q.count.toNat := by omega
  simp [checkBasin, hver, hlen, h0, h1, h2, hregion, halign, hn]

end

/-! ## What each operation answers (Tables 16-4 and 16-5) -/

section
variable {s c : State} {q : KmpReq} {st : KmpStatus}

theorem State.kmpRead_of_refused (h : checkRegs q 0 = st) (hst : st ≠ .ok) : s.kmpRead q = s.respond q 1 0 st [] := by
  rw [State.kmpRead, h]
  cases st with
  | ok => exact absurd rfl hst
  | _ => rfl

theorem State.kmpRead_of_one {v : Nat} (h : checkRegs q 0 = .ok) (hcount : q.count.toNat = 1)
    (hread : s.hostRead q.address.toNat = (c, .ok, v)) : s.kmpRead q = c.respond q 1 1 .ok (be 4 v) := by
  simp [State.kmpRead, h, hcount, State.readRegs, hread]

theorem State.kmpWrite_of_one (h : checkRegs q (4 * q.count.toNat) = .ok) (hcount : q.count.toNat = 1) (hlen : q.data.length = 4)
    (hwrite : s.hostWrite q.address.toNat (ofBE q.data) (some q.requester) = (c, st)) :
    s.kmpWrite q = c.respond q 2 (if st = .ok then 1 else 0) st [] := by
  have hpieces : (pieces 4 1 q.data).map ofBE = [ofBE q.data] := by simp [pieces, List.take_of_length_le hlen.le]
  rw [State.kmpWrite, h, hcount, hpieces, State.writeRegs, hwrite]
  cases st <;> rfl

theorem State.kmpBasinRead_of_may (h : checkBasin q 0 = .ok) (hmay : basinMay false 8 q.address.toNat = true) :
    s.kmpBasinRead q = s.respond q 3 q.count.toNat .ok (Memory.readN s.basin q.address.toNat q.count.toNat) := by
  simp [State.kmpBasinRead, h, hmay]

theorem State.kmpBasinWrite_of_may (h : checkBasin q q.count.toNat = .ok) (hmay : basinMay true 8 q.address.toNat = true) :
    s.kmpBasinWrite q = (s.basinWrite 8 q.address.toNat q.data).respond q 4 q.count.toNat .ok [] := by
  simp [State.kmpBasinWrite, h, hmay]

theorem State.kmpBasinWrite_of_not (h : checkBasin q q.count.toNat = .ok) (hmay : basinMay true 8 q.address.toNat = false) :
    s.kmpBasinWrite q = (s.violation 8 q.address.toNat true).respond q 4 0 .busError [] := by
  simp [State.kmpBasinWrite, h, hmay]

/-- A request of no operation, or of another version, is refused. -/
theorem State.kmpServe_of_bad {op : Nat} (h : q.version ≠ 1#8 ∨ op = 0 ∨ 4 < op) : s.kmpServe op q = s.respond q op 0 .badRequest [] := by
  unfold State.kmpServe
  split
  case h_1 => exact State.kmpRead_of_refused (checkRegs_of_bad (.inl (by simpa using h))) (by decide)
  case h_2 => rw [State.kmpWrite, checkRegs_of_bad (.inl (by simpa using h))]
  case h_3 => rw [State.kmpBasinRead, checkBasin_of_bad (by simpa using h)]
  case h_4 => rw [State.kmpBasinWrite, checkBasin_of_bad (by simpa using h)]
  case h_5 => rfl

end

/-! ## A datagram that carries no request (Table 16-3) -/

/-- The requester and the echoed fields of a datagram are its own. -/
theorem kmpResponse_kmpOf {f : EthFrame} {q : KmpReq} (hsrc : f.src = q.requester.ip) (hsport : f.sport = q.requester.port) :
    (kmpOf f).2.requester = q.requester ∧ kmpResponse (kmpOf f).2 (kmpOf f).1 0 .badRequest [] =
      be 1 1 ++ be 1 (getByte f.payload 1 % 128 + 128) ++ be 2 (getBE f.payload 2 2) ++ be 4 (getBE f.payload 4 4) ++ be 2 0 ++ be 2 0x0D01 := by
  have htag : (BitVec.ofNat 16 (getBE f.payload 2 2)).toNat = getBE f.payload 2 2 :=
    (BitVec.toNat_ofNat ..).trans (Nat.mod_eq_of_lt (getBE_lt f.payload 2 2))
  have haddress : (BitVec.ofNat 32 (getBE f.payload 4 4)).toNat = getBE f.payload 4 4 :=
    (BitVec.toNat_ofNat ..).trans (Nat.mod_eq_of_lt (getBE_lt f.payload 4 4))
  refine ⟨?_, ?_⟩
  · dsimp only [kmpOf]
    rw [hsrc, hsport]
  · dsimp only [kmpOf, kmpResponse, KmpStatus.code]
    rw [htag, haddress, List.append_nil]

theorem kmpOf_bad {f : EthFrame} (h : f.payload.length < 12 ∨ getByte f.payload 1 = 0 ∨ 4 < getByte f.payload 1) :
    (kmpOf f).2.version ≠ 1#8 ∨ (kmpOf f).1 = 0 ∨ 4 < (kmpOf f).1 := by
  refine h.imp (fun hshort => ?_) id
  dsimp only [kmpOf]
  rw [if_pos hshort]
  decide

/-- A KMP datagram for the unit is taken as the request it carries (R290). -/
theorem execEthernetFrameReceive_of_kmp {s : State} {f : EthFrame} (p : Placing) (hfw : (s.net .maint).forwarding = true) (hport : f.port.val < 2)
    (hk : s.tagKnown .maint f = true) (hsize : f.size ≤ 1522) (ho : f.macDst.toNat = s.ownMac .maint) (hframe : s.kmpFrame f = true) :
    execEthernetFrameReceive .maint f p s =
      .next (((s.traffic (netPort .maint f.port.val)).learn .maint f.port.val f.macSrc.toNat).kmpTake (kmpOf f).1 (kmpOf f).2) := by
  refine (execEthernetFrameReceive_of_own p hfw hport hk hsize ho).trans ((if_neg (by simp)).trans (if_pos ?_))
  rw [State.learn, State.kmpFrame_modNet]
  exact hframe

/-! ## A write served (R294, R375) -/

section
variable {s : State} {q : KmpReq} (hruns : s.kmpRuns = true) (hip : q.requester.ip ≠ 0#32)
  (hmac : s.requesterMac q ≠ 0) (hports : s.outPorts .maint (s.requesterMac q) ≠ [])
include hruns hip hmac hports

/-- A response changes no byte of the basin and nothing of its controller. -/
theorem State.respond_basin_bs (op count : Nat) (st : KmpStatus) (data : List Byte) :
    (s.respond q op count st data).basin = s.basin ∧ (s.respond q op count st data).bs = s.bs := by
  have h := State.sendsOnly_respond hruns hip op count st data hmac hports
  exact ⟨h.basin, (congrArg State.bs h :)⟩

theorem State.respond_event (op count : Nat) (st : KmpStatus) (data : List Byte) :
    (s.respond q op count st data).ph.event = if st.code = 0 then s.ph.event else s.ph.event ||| 1 :=
  congrArg Pumphouse.event (State.sendsOnly_respond hruns hip op count st data hmac hports).ph

/-- PH_EVENT written: the bits written as 1 are cleared (R375). -/
theorem State.served_clearEvent (v : Nat) :
    let t := (s.clearEvent v).respond q 2 1 .ok []
    s.served t q 2 1 .ok [] ∧ t.basin = s.basin ∧ ∀ i, t.ph.event.testBit i = (s.ph.event.testBit i && !v.testBit i) := by
  refine ⟨State.served_respond (s := s.clearEvent v) hruns hip 2 1 .ok [] hmac hports,
    (State.respond_basin_bs (s := s.clearEvent v) hruns hip hmac hports 2 1 .ok []).1, fun i => ?_⟩
  rw [State.respond_event (s := s.clearEvent v) hruns hip hmac hports]
  exact testBit_sub_and s.ph.event v i

/-- Bytes written where the host may are there, and no other byte changes (R294). -/
theorem State.served_basinWrite {a n : Nat} (hmay : basinMay true 8 a = true) (hlen : q.data.length = n) :
    let t := (s.basinWrite 8 a q.data).respond q 4 n .ok []
    s.served t q 4 n .ok [] ∧ Memory.readN t.basin a n = q.data ∧
      ∀ b, (b < a ∨ a + n ≤ b) → Memory.read t.basin b = Memory.read s.basin b := by
  rw [State.basinWrite_of_may hmay]
  intro t
  have hbasin : t.basin = Memory.writeN s.basin a q.data :=
    (State.respond_basin_bs (s := { s with basin := Memory.writeN s.basin a q.data }) hruns hip hmac hports 4 n .ok []).1
  refine ⟨State.served_respond (s := { s with basin := Memory.writeN s.basin a q.data }) hruns hip 4 n .ok [] hmac hports, ?_, fun b hb => ?_⟩
  · rw [hbasin, ← hlen, Memory.readN_writeN]
  · rw [hbasin, Memory.read_writeN_outside (by rwa [hlen])]

/-- A write where the host may not ends in a bus error: no byte changes, and the violation is counted and shown (R294). -/
theorem State.served_violation (a : Nat) :
    let t := (s.violation 8 a true).respond q 4 0 .busError []
    s.served t q 4 0 .busError [] ∧ t.basin = s.basin ∧ t.bs.violCnt = sat s.bs.violCnt ∧ t.bs.violAddr = a ∧ t.ph.event.testBit 1 = true := by
  obtain ⟨hbasin, hbs⟩ := State.respond_basin_bs (s := s.violation 8 a true) hruns hip hmac hports 4 0 .busError []
  refine ⟨State.served_respond (s := s.violation 8 a true) hruns hip 4 0 .busError [] hmac hports, hbasin,
    congrArg (·.violCnt) hbs, congrArg (·.violAddr) hbs, ?_⟩
  rw [State.respond_event (s := s.violation 8 a true) hruns hip hmac hports]
  change ((s.ph.event ||| 2) ||| 1).testBit 1 = true
  rw [Nat.testBit_or, Nat.testBit_or, show Nat.testBit 2 1 = true by decide, Bool.or_true, Bool.true_or]

end

/-- A datagram that carries no request is answered with BAD_REQUEST, out of the ports that the bridge knows once it has learned the sender (R276, R381). -/
theorem execEthernetFrameReceive_of_badRequest {s : State} {q : KmpReq} {f : EthFrame} (p : Placing) (hruns : s.kmpRuns = true)
    (hip : q.requester.ip ≠ 0#32) (hheld : s.kmpHeld = false) (hqueue : s.ph.kmpQueue = []) (hmac : s.requesterMac q ≠ 0)
    (hport : f.port.val < 2) (ho : f.macDst.toNat = s.ownMac .maint) (hk : s.tagKnown .maint f = true) (hframe : s.kmpFrame f = true)
    (hsrc : f.src = q.requester.ip) (hsport : f.sport = q.requester.port) (hsize : f.size ≤ 1522)
    (hbad : f.payload.length < 12 ∨ getByte f.payload 1 = 0 ∨ 4 < getByte f.payload 1) :
    let b := (s.traffic (netPort .maint f.port.val)).learn .maint f.port.val f.macSrc.toNat
    b.outPorts .maint (s.requesterMac q) ≠ [] →
      ∃ t, execEthernetFrameReceive .maint f p s = .next t ∧ b.served t (kmpOf f).2 (kmpOf f).1 0 .badRequest [] ∧ t.basin = s.basin := by
  intro b hports
  have hfw : (s.net .maint).forwarding = true := by
    have h := State.netSends_of_kmpRuns hruns
    simp only [State.netSends, Bool.and_eq_true] at h
    obtain ⟨⟨-, hfw⟩, -⟩ := h
    exact hfw
  obtain ⟨hwho, -⟩ := kmpResponse_kmpOf hsrc hsport
  have hmac' : b.requesterMac (kmpOf f).2 = s.requesterMac q := by
    rw [State.requesterMac, hwho]
    rfl
  have hip' : (kmpOf f).2.requester.ip ≠ 0#32 := by rwa [hwho]
  have hserve : execEthernetFrameReceive .maint f p s = .next (b.respond (kmpOf f).2 (kmpOf f).1 0 .badRequest []) := by
    rw [execEthernetFrameReceive_of_kmp p hfw hport hk hsize ho hframe]
    exact congrArg _ ((State.kmpTake_of_free (s := b) hruns _ _ hheld hqueue).trans (State.kmpServe_of_bad (kmpOf_bad hbad)))
  rw [← hmac'] at hmac hports
  exact ⟨_, hserve, State.served_respond (s := b) hruns hip' _ 0 .badRequest [] hmac hports,
    (State.respond_basin_bs (s := b) hruns hip' hmac hports _ 0 .badRequest []).1⟩

/-- Settles O56. A request is served at once or waits behind a response that is held up; each operation has an equation per outcome, and what a response leaves
is read off the one law of responses. -/
theorem requestsAreAnsweredWithTheirStatus : Obligations.RequestsAreAnsweredWithTheirStatus := by
  intro s q hruns hver hip a n ip mac message ports answer served
  simp only [exec_kmpRead, exec_kmpWrite, exec_basinRead, exec_basinWrite, exec_ethernetFrameReceive]
  refine ⟨fun hheld => ?_, fun hheld hqueue hn hmac hask => ?_, fun hheld hqueue hmac hports => ?_⟩
  · intro c op hc
    have htake := State.kmpTake_of_held hruns op q hheld
    simp only [List.mem_cons, Prod.mk.injEq, List.not_mem_nil, or_false] at hc
    rcases hc with ⟨rfl, rfl⟩ | ⟨rfl, rfl⟩ | ⟨rfl, rfl⟩ | ⟨rfl, rfl⟩ <;> exact congrArg _ htake
  · have hserve : s.kmpTake 1 q = s.respond q 1 0 .badRequest [] :=
      (State.kmpTake_of_free hruns 1 q hheld hqueue).trans (State.kmpRead_of_refused (checkRegs_of_bad (.inr hn)) (by decide))
    rw [hserve]
    exact ⟨_, rfl, State.respond_of_unknown hruns hip 1 0 .badRequest [] hmac (by simpa using hask)⟩
  have htake := fun op => State.kmpTake_of_free hruns op q hheld hqueue
  have hserved := fun op count st data => State.served_respond hruns hip op count st data hmac hports
  have hbasin := fun op count st data => (State.respond_basin_bs hruns hip hmac hports op count st data).1
  simp only [htake]
  refine ⟨fun hblock hsluice halign hn hdata => ?_, fun hmin hmax hdata hblock => ?_, fun hn => ?_, fun ha hn hlen => ?_,
    fun hblock halign hn hlen => ?_, fun hmin hmax hmod halign hdata hlow hhigh => ?_, fun hmin hmax hmod halign hlen hlow hhigh => ?_,
    fun hmin hmax hmod halign hlen hlow hhigh => ?_, fun f at_ hport ho hk hframe hsrc hsport hsize hbad hout => ?_⟩
  · have hcheck : checkRegs q 0 = .ok := checkRegs_of_one hver (congrArg List.length hdata) hblock halign hn
    exact ⟨_, congrArg _ (State.kmpRead_of_one hcheck hn (State.hostRead_of_module hblock hsluice)), hserved 1 1 .ok _, hbasin ..⟩
  · have hcheck : checkRegs q 0 = .unmapped := checkRegs_of_unmapped hver (congrArg List.length hdata) hmin hmax hblock
    exact ⟨_, congrArg _ (State.kmpRead_of_refused hcheck (by decide)), hserved 1 0 .unmapped [], hbasin ..⟩
  · exact ⟨_, congrArg _ (State.kmpRead_of_refused (checkRegs_of_bad (.inr hn)) (by decide)), hserved 1 0 .badRequest [], hbasin ..⟩
  · have hblock : blockOf a = some (.pump 0) := by rw [ha]; rfl
    have hwords : q.data.length = 4 * q.count.toNat := hlen.trans (congrArg (4 * ·) hn.symm)
    have hcheck := checkRegs_of_one hver hwords hblock (by omega) hn
    have hwrite : s.hostWrite a (ofBE q.data) (some q.requester) = (s.clearEvent (ofBE q.data), .ok) := by rw [ha, State.hostWrite_phEvent]
    exact ⟨_, congrArg _ (State.kmpWrite_of_one hcheck hn hlen hwrite), State.served_clearEvent hruns hip hmac hports _⟩
  · have hwords : q.data.length = 4 * q.count.toNat := hlen.trans (congrArg (4 * ·) hn.symm)
    have hcheck := checkRegs_of_one hver hwords hblock halign hn
    exact ⟨_, congrArg _ (State.kmpWrite_of_one hcheck hn hlen (State.hostWrite_of_module hblock _ _)), hserved 2 0 .readOnly [], hbasin ..⟩
  · have hregion : basinRegion a = some 6 := basinRegion_of_region6 hlow (by omega)
    have hlast : basinRegion (a + n - 1) = some 6 := basinRegion_of_region6 (by omega) (by omega)
    have hcheck := checkBasin_of_region (len := 0) hver (congrArg List.length hdata) hmin hmax hmod halign (by omega) (hlast.trans hregion.symm)
    exact ⟨_, congrArg _ (State.kmpBasinRead_of_may hcheck (basinMay_host_of_region6 hregion false)), hserved 3 n .ok _, hbasin ..⟩
  · have hregion : basinRegion a = some 6 := basinRegion_of_region6 hlow (by omega)
    have hlast : basinRegion (a + n - 1) = some 6 := basinRegion_of_region6 (by omega) (by omega)
    have hcheck := checkBasin_of_region hver hlen hmin hmax hmod halign (by omega) (hlast.trans hregion.symm)
    have hmay := basinMay_host_of_region6 hregion true
    exact ⟨_, congrArg _ (State.kmpBasinWrite_of_may hcheck hmay), State.served_basinWrite hruns hip hmac hports hmay hlen⟩
  · have hregion : basinRegion a = some 7 := basinRegion_of_region7 hlow (by omega)
    have hlast : basinRegion (a + n - 1) = some 7 := basinRegion_of_region7 (by omega) (by omega)
    have hcheck := checkBasin_of_region hver hlen hmin hmax hmod halign (by omega) (hlast.trans hregion.symm)
    exact ⟨_, congrArg _ (State.kmpBasinWrite_of_not hcheck (basinMay_host_of_region7 hregion)), State.served_violation hruns hip hmac hports _⟩
  · obtain ⟨t, hexec, ⟨hsent, -, hlanes, herr, hevent⟩, hb⟩ :=
      execEthernetFrameReceive_of_badRequest at_ hruns hip hheld hqueue hmac hport ho hk hframe hsrc hsport hsize hbad hout
    refine ⟨t, hexec, hb, hlanes, herr, hevent (by decide), hsent.trans ?_⟩
    obtain ⟨hwho, hresponse⟩ := kmpResponse_kmpOf hsrc hsport
    rw [State.answer, State.requesterMac, hwho, hresponse]
    rfl

end Sys2Proof.Machine

/-! PROOF. Sparse data in one form (R62, R64, R293): bytes read back where they were written, and equal contents as equal data. -/

namespace Sys2Proof

theorem Memory.readN_writeN_self (m : Memory) (a : Nat) (bs : List (BitVec 8)) : Memory.readN (Memory.writeN m a bs) a bs.length = bs := by
  induction bs generalizing m a with
  | nil => rfl
  | cons b bs ih =>
    have hfirst : Memory.read (Memory.writeN (Memory.write m a b) (a + 1) bs) a = b := by
      rw [Memory.read_writeN_outside (.inl (Nat.lt_succ_self a)), Memory.read_write, if_pos rfl]
    simp only [List.length_cons, Memory.readN, Memory.writeN, hfirst, ih]

/-- A key below every key listed has the value of an unlisted key. -/
theorem Assoc.get_of_lt {α : Type} {d : α} {m : Assoc α} {k : Nat} (h : ∀ p ∈ m, k < p.1) : Assoc.get d m k = d := by
  induction m with
  | nil => rfl
  | cons p m ih =>
    have hp : p.1 ≠ k := (h p List.mem_cons_self).ne'
    rw [Assoc.get, if_neg hp]
    exact ih fun q hq => h q (List.mem_cons_of_mem _ hq)

theorem Assoc.wf_cons {α : Type} [DecidableEq α] {d : α} {p : Nat × α} {m : Assoc α} :
    Assoc.wf d (p :: m) = true ↔ (∀ q ∈ m, p.1 < q.1) ∧ p.2 ≠ d ∧ Assoc.wf d m = true := by
  obtain ⟨k, v⟩ := p
  simp only [Assoc.wf, Bool.and_eq_true, Assoc.sorted_cons, List.all_cons, decide_eq_true_eq]
  tauto

theorem Assoc.get_head {α : Type} (d : α) (p : Nat × α) (m : Assoc α) : Assoc.get d (p :: m) p.1 = p.2 := by simp [Assoc.get]

/-- In canonical form a key is listed first exactly where it is the least key whose value is not the default; so the heads of two tables of equal
contents are one. -/
theorem Assoc.head_le_of_get_eq {α : Type} [DecidableEq α] {d : α} {p q : Nat × α} {m n : Assoc α} (hp : p.2 ≠ d) (hq : ∀ r ∈ n, q.1 < r.1)
    (h : Assoc.get d (p :: m) p.1 = Assoc.get d (q :: n) p.1) : q.1 ≤ p.1 := by
  by_contra hlt
  rw [Assoc.get_head, Assoc.get_of_lt (m := q :: n) fun r hr => ?_] at h
  · exact hp h
  · rcases List.mem_cons.mp hr with rfl | hr
    · omega
    · exact (not_le.mp hlt).trans (hq r hr)

/-- Two tables in canonical form that hold the same are the same. -/
theorem Assoc.eq_of_get_eq {α : Type} [DecidableEq α] {d : α} {m n : Assoc α} (hm : Assoc.wf d m = true) (hn : Assoc.wf d n = true)
    (h : ∀ k, Assoc.get d m k = Assoc.get d n k) : m = n := by
  induction m generalizing n with
  | nil =>
    cases n with
    | nil => rfl
    | cons q n => exact absurd ((Assoc.get_head d q n).symm.trans (h q.1).symm) (Assoc.wf_cons.mp hn).2.1
  | cons p m ih =>
    obtain ⟨hpm, hp, htail⟩ := Assoc.wf_cons.mp hm
    cases n with
    | nil => exact absurd ((Assoc.get_head d p m).symm.trans (h p.1)) hp
    | cons q n =>
      obtain ⟨hqn, hq, htail'⟩ := Assoc.wf_cons.mp hn
      have hkey : p.1 = q.1 := le_antisymm (Assoc.head_le_of_get_eq hq hpm (h q.1).symm) (Assoc.head_le_of_get_eq hp hqn (h p.1))
      have hhead : p = q := Prod.ext hkey (by rw [← Assoc.get_head d p m, ← Assoc.get_head d q n, ← hkey]; exact h p.1)
      subst hhead
      refine congrArg _ (ih htail htail' fun k => ?_)
      by_cases hk : p.1 = k
      · subst hk; rw [Assoc.get_of_lt hpm, Assoc.get_of_lt hqn]
      · simpa only [Assoc.get, if_neg hk] using h k

/-- Settles O57: read after write for tables and for blocks of bytes, and the one form that every write keeps. -/
theorem writesAreReadBack : Obligations.WritesAreReadBack :=
  ⟨fun _ t k j v => Table.read_write t k j v, fun _ _ _ _ => Table.wf_write, Memory.readN_writeN_self,
    fun _ _ _ _ => Memory.read_writeN_outside, fun _ _ _ => Memory.wf_writeN, fun _ _ => Assoc.eq_of_get_eq⟩

namespace Machine

/-- Settles O58: the two arms of a step. -/
theorem stepRunsTheFrontCommand : Obligations.StepRunsTheFrontCommand := by
  refine ⟨fun s c rest => rfl, fun s hempty => ?_⟩
  rw [step, hempty]

theorem State.reset_lane (x : LaneId) : State.reset.lane x = Lane.reset := PerLane.get_all Lane.reset x

/-- Settles O59: every part stands at its own reset value. -/
theorem resetLeavesTheStatedValues : Obligations.ResetLeavesTheStatedValues := by
  refine ⟨rfl, rfl, rfl, rfl, fun _ => rfl, fun x => ?_, rfl, rfl⟩
  rw [State.reset_lane]
  exact ⟨rfl, rfl, rfl, rfl, rfl, rfl, rfl, rfl⟩

end Machine

end Sys2Proof

/-! PROOF. The locks (R303 to R307). -/

namespace Sys2Proof.Machine

/-! ## The rotating order (R305) -/

/-- The place of master `k` after master `m` in the rotating order 1, 2, …, 8, 1: 0 for the one that follows, 7 for `m` itself. -/
def placeAfter (m k : Nat) : Nat := (k + 7 - m) % 8

/-- The master at place `i` after master `m`. -/
def masterAt (m i : Nat) : Nat := (m + i) % 8 + 1

theorem masterAt_placeAfter {m k : Nat} (hm : 1 ≤ m) (hm8 : m ≤ 8) (hk : 1 ≤ k) (hk8 : k ≤ 8) : masterAt m (placeAfter m k) = k := by
  unfold masterAt placeAfter; omega

theorem placeAfter_masterAt {m i : Nat} (hm8 : m ≤ 8) (hi : i < 8) : placeAfter m (masterAt m i) = i := by
  unfold masterAt placeAfter; omega

/-- The next master is the waiting one at the least place. -/
theorem nextMaster_eq_some {waiting : List Nat} {m w : Nat} (h : nextMaster waiting m = some w) :
    ∃ i, i < 8 ∧ masterAt m i = w ∧ w ∈ waiting ∧ ∀ j < i, masterAt m j ∉ waiting := by
  rw [nextMaster, List.find?_map, Option.map_eq_some_iff] at h
  obtain ⟨i, hfind, hw⟩ := h
  rw [List.find?_range_eq_some] at hfind
  obtain ⟨hwaits, hi, hbefore⟩ := hfind
  refine ⟨i, List.mem_range.mp hi, hw, ?_, fun j hj => ?_⟩
  · simpa [← hw] using hwaits
  · simpa [masterAt] using hbefore j hj

/-- Settles O47: the master found stands at the least place after the owner. -/
theorem waitingMastersGoInRotation : Obligations.WaitingMastersGoInRotation := by
  intro waiting m w hm hm8 hnext
  obtain ⟨i, hi, hw, hmem, hbefore⟩ := nextMaster_eq_some hnext
  refine ⟨hmem, by unfold masterAt at hw; omega, by unfold masterAt at hw; omega, fun v hv hv1 hv8 => ?_⟩
  change placeAfter m w ≤ placeAfter m v
  rw [← hw, placeAfter_masterAt hm8 hi]
  by_contra hlt
  exact hbefore _ (not_le.mp hlt) (by rwa [masterAt_placeAfter hm hm8 hv1 hv8])

end Sys2Proof.Machine

namespace Sys2Proof.Machine

/-! ## One access to a lock (R303, R305, R307) -/

theorem hostMay_iff {n m : Nat} : hostMay n m = true ↔ m ≠ 8 ∨ 56 ≤ n := by simp [hostMay]

/-- A free lock is acquired (R303). -/
theorem State.lockRead_of_free {s : State} {n m : Nat} (hmay : hostMay n m = true) (hfree : (s.locks.at n).owner = 0) (now : Nat) :
    s.lockRead n now m = { s with
      locks := (s.locks.set n { owner := m, reserved := false, last := m, waiting := (s.locks.at n).waiting.filter (· != m), since := now })
      sent := s.sent ++ [.lockValue n m (some 0)] } := by
  simp [State.lockRead, State.readLock, Locks.readValue, State.emit, hmay, hfree]

/-- The owner's read takes a reservation (R305). -/
theorem State.lockRead_of_owner {s : State} {n m : Nat} (hmay : hostMay n m = true) (hm : m ≠ 0) (howner : (s.locks.at n).owner = m) (now : Nat) :
    s.lockRead n now m = { s with
      locks := s.locks.set n { s.locks.at n with reserved := false }
      sent := s.sent ++ [.lockValue n m (some (if (s.locks.at n).reserved then 0 else m))] } := by
  cases hr : (s.locks.at n).reserved <;> simp [State.lockRead, State.readLock, Locks.readValue, State.emit, hmay, howner, hm, hr]

/-- Another's read enters the waiting set (R303). -/
theorem State.lockRead_of_other {s : State} {n m : Nat} (hmay : hostMay n m = true) (hheld : (s.locks.at n).owner ≠ 0)
    (hother : (s.locks.at n).owner ≠ m) (now : Nat) :
    s.lockRead n now m = { s with
      locks := s.locks.set n { s.locks.at n with
        waiting := if (s.locks.at n).waiting.contains m then (s.locks.at n).waiting else (s.locks.at n).waiting ++ [m] }
      sent := s.sent ++ [.lockValue n m (some (s.locks.at n).owner)] } := by
  simp [State.lockRead, State.readLock, Locks.readValue, State.emit, hmay, hheld, hother]

/-- A refused access (R303, R307): the host finds it in PH_EVENT, a master of the module in a bus error. -/
theorem State.lockError_eq (s : State) (m : Nat) :
    s.lockError m = { s with
      locks := { s.locks with err := sat s.locks.err }
      ph := { s.ph with event := if m = 8 then s.ph.event ||| 8 else s.ph.event }
      sent := if m = 8 then s.sent else s.sent ++ [.busError m] } := by
  by_cases hm : m = 8 <;> simp [State.lockError, State.busError, State.emit, hm]

/-- A refused read gives no value (R307). -/
theorem State.lockRead_of_not {s : State} {n m : Nat} (hmay : hostMay n m = false) (now : Nat) :
    s.lockRead n now m = (s.lockError m).emit (.lockValue n m none) := by
  simp [State.lockRead, State.readLock, hmay]

/-! ## A read by one master -/

theorem readOrder_mod (last : Nat) (readers : BitVec 8) : readOrder (last % 8) readers = readOrder last readers := by simp [readOrder]

/-- The readers of a set are each master of the set once. -/
theorem readOrder_of_lt : ∀ (last : Fin 8) (m : Fin 8), readOrder last.val (BitVec.ofNat 8 (2 ^ m.val)) = [m.val + 1] := by decide

theorem readOrder_alone (last : Nat) (m : Fin 8) : readOrder last (BitVec.ofNat 8 (2 ^ m.val)) = [m.val + 1] := by
  rw [← readOrder_mod]
  exact readOrder_of_lt ⟨last % 8, Nat.mod_lt _ (by decide)⟩ m

theorem exec_lkLockRead_alone (s : State) (n : Fin 64) (m : Fin 8) (us : Fin 1000) :
    exec (.lkLockRead n (BitVec.ofNat 8 (2 ^ m.val)) us) s = .next (s.lockRead n.val (s.opMicros us.val) (m.val + 1)) := by
  change Host.Outcome.next _ = _
  rw [readOrder_alone]
  rfl

/-! ## Several readers in one clock cycle (R304) -/

theorem readOrder_nodup (last : Nat) (readers : BitVec 8) : (readOrder last readers).Nodup := by
  refine List.Nodup.filter _ (List.Nodup.map_on ?_ List.nodup_range)
  intro i hi j hj h
  have hi := List.mem_range.mp hi
  have hj := List.mem_range.mp hj
  omega

theorem mem_readOrder {last m : Nat} {readers : BitVec 8} (h : m ∈ readOrder last readers) : 1 ≤ m ∧ readers.getLsbD (m - 1) = true := by
  obtain ⟨hm, hreads⟩ := List.mem_filter.mp h
  obtain ⟨i, -, rfl⟩ := List.mem_map.mp hm
  exact ⟨by omega, hreads⟩

/-- The host reads only where it may (R307), so each reader may. -/
theorem hostMay_of_mem_readOrder {last m n : Nat} {readers : BitVec 8} (hhost : readers.getLsbD 7 = true → 56 ≤ n) (h : m ∈ readOrder last readers) :
    hostMay n m = true := by
  obtain ⟨-, hreads⟩ := mem_readOrder h
  refine hostMay_iff.mpr (or_iff_not_imp_left.mpr fun hm => hhost ?_)
  rwa [not_not.mp hm] at hreads

/-- What reads leave that find a lock held by another: the owner stays, each reader waits, none that waited before is lost. -/
structure State.Waited (s t : State) (n w : Nat) (vs : List Nat) : Prop where
  owner : (t.locks.at n).owner = w
  waits : ∀ v ∈ vs, v ∈ (t.locks.at n).waiting
  keeps : ∀ v ∈ (s.locks.at n).waiting, v ∈ (t.locks.at n).waiting
  others : ∀ k, k ≠ n → t.locks.at k = s.locks.at k
  only : t = { s with locks := t.locks, sent := s.sent ++ vs.map (fun v => .lockValue n v (some w)) }

theorem State.waited_lockRead {s : State} {n w v : Nat} (now : Nat) (howner : (s.locks.at n).owner = w) (hw : w ≠ 0) (hv : v ≠ w)
    (hmay : hostMay n v = true) : s.Waited (s.lockRead n now v) n w [v] := by
  have hother : (s.locks.at n).owner ≠ v := howner ▸ hv.symm
  have hsent : [Emit.lockValue n v (some (s.locks.at n).owner)] = [v].map (fun v => .lockValue n v (some w)) := by rw [howner]; rfl
  rw [State.lockRead_of_other hmay (howner ▸ hw) hother, hsent]
  refine ⟨by simpa using howner, fun u hu => ?_, fun u hu => ?_, fun k hk => ?_, rfl⟩
  · obtain rfl := List.mem_singleton.mp hu
    simp only [Locks.at_set_self]
    split
    next hin => exact List.contains_iff_mem.mp hin
    next => exact List.mem_append_right _ List.mem_cons_self
  · simp only [Locks.at_set_self]
    split
    · exact hu
    · exact List.mem_append_left _ hu
  · simp [Locks.at_set_ne _ _ (Ne.symm hk)]

theorem State.waited_foldl {s : State} {n w : Nat} (now : Nat) (howner : (s.locks.at n).owner = w) (hw : w ≠ 0) (vs : List Nat)
    (hvs : ∀ v ∈ vs, v ≠ w ∧ hostMay n v = true) : s.Waited (vs.foldl (State.lockRead n now) s) n w vs := by
  induction vs generalizing s with
  | nil => exact ⟨howner, by simp, fun _ => id, fun _ _ => rfl, by simp⟩
  | cons v vs ih =>
    obtain ⟨hv, hmay⟩ := hvs v List.mem_cons_self
    have hfirst := State.waited_lockRead now howner hw hv hmay
    have hrest := ih hfirst.owner fun u hu => hvs u (List.mem_cons_of_mem _ hu)
    refine ⟨hrest.owner, fun u hu => ?_, fun u hu => hrest.keeps u (hfirst.keeps u hu), fun k hk => (hrest.others k hk).trans (hfirst.others k hk), ?_⟩
    · rcases List.mem_cons.mp hu with rfl | hu
      · exact hrest.keeps _ (hfirst.waits _ List.mem_cons_self)
      · exact hrest.waits u hu
    · rw [List.foldl_cons]
      generalize vs.foldl (State.lockRead n now) (s.lockRead n now v) = t at hrest
      have h := hrest.only
      rw [hfirst.only] at h
      rw [h]
      simp

/-! ## The statement -/

@[simp] theorem Locks.at_endHold (k : Locks) (n now j : Nat) : (k.endHold n now).at j = k.at j := by
  dsimp only [Locks.endHold]
  split <;> split <;> rfl

theorem Lock.handOver_of_none {l : Lock} (h : nextMaster l.waiting l.owner = none) (now : Nat) :
    l.handOver now = { l with owner := 0, reserved := false } := by simp [Lock.handOver, h]

theorem Lock.handOver_of_some {l : Lock} {w : Nat} (h : nextMaster l.waiting l.owner = some w) (now : Nat) :
    l.handOver now = { owner := w, reserved := true, last := w, waiting := l.waiting.filter (· != w), since := now } := by simp [Lock.handOver, h]

theorem nextMaster_nil (m : Nat) : nextMaster [] m = none := by simp [nextMaster]

theorem exec_lkLockRelease_of_owner {s : State} {n : Fin 64} {m : Fin 8} {v : BitVec 32} (us : Fin 1000) (hmay : hostMay n.val (m.val + 1) = true)
    (howner : (s.locks.at n.val).owner = m.val + 1) (hv : v.toNat = m.val + 1) :
    exec (.lkLockRelease n m v us) s = .next { s with locks := s.locks.release n.val (s.opMicros us.val) } := by
  change Host.Outcome.next (State.writeLock ..) = _
  simp [State.writeLock, hmay, howner, hv]

theorem exec_lkLockRelease_of_not {s : State} {n : Fin 64} {m : Fin 8} {v : BitVec 32} (us : Fin 1000)
    (h : ¬ (hostMay n.val (m.val + 1) = true ∧ (s.locks.at n.val).owner = m.val + 1 ∧ v.toNat = m.val + 1)) :
    exec (.lkLockRelease n m v us) s = .next (s.lockError (m.val + 1)) := by
  change Host.Outcome.next (State.writeLock ..) = _
  have hnot : ¬ ((hostMay n.val (m.val + 1) && decide ((s.locks.at n.val).owner = m.val + 1) && decide (v.toNat = m.val + 1)) = true) := by
    simpa [and_assoc] using h
  rw [State.writeLock, if_neg hnot]

@[simp] theorem Locks.at_release_self (k : Locks) (n now : Nat) : (k.release n now).at n = (k.at n).handOver now := by simp [Locks.release]

theorem Locks.at_release_ne (k : Locks) {n j : Nat} (now : Nat) (h : j ≠ n) : (k.release n now).at j = k.at j := by
  rw [Locks.release, Locks.at_set_ne _ _ h.symm, Locks.at_endHold]

theorem exec_lockLapse_of_waiting {s : State} {n : Fin 64} {m : Fin 8} (us : Fin 1000) (h : (s.locks.at n.val).waiting.contains (m.val + 1) = true) :
    exec (.lockLapse n m us) s = .next { s with locks := { s.locks.set n.val { s.locks.at n.val with
      waiting := (s.locks.at n.val).waiting.filter (· != m.val + 1) } with lapse := sat s.locks.lapse } } := if_pos h

theorem exec_lockLapse_of_reserved {s : State} {n : Fin 64} {m : Fin 8} (us : Fin 1000) (h : (s.locks.at n.val).waiting.contains (m.val + 1) = false)
    (howner : (s.locks.at n.val).owner = m.val + 1) (hres : (s.locks.at n.val).reserved = true) :
    exec (.lockLapse n m us) s = .next { s with locks := { s.locks.set n.val ((s.locks.at n.val).handOver (s.opMicros us.val)) with
      lapse := sat s.locks.lapse } } := by
  change execLockLapse n m us s = _
  simp only [execLockLapse, h, howner, hres]
  rfl

theorem Lock.owner_handOver (l : Lock) (now : Nat) : (l.handOver now).owner = (nextMaster l.waiting l.owner).getD 0 := by
  unfold Lock.handOver
  split <;> simp [*]

/-- Settles O46. One law per access: a read by who may finds the lock free, its own or another's; the owner's release hands it on; every other access is
refused; a lapse takes the waiting entry out or hands the reservation on. -/
theorem locksHaveOneOwner : Obligations.LocksHaveOneOwner := by
  intro s n m us l me alone may others event
  have hmay : may ↔ hostMay n.val me = true := hostMay_iff.symm
  have hme : me ≠ 0 := Nat.succ_ne_zero _
  have hother : ∀ {j : Nat} (v : Lock), j ≠ n.val → (s.locks.set n.val v).at j = s.locks.at j := fun v hj => Locks.at_set_ne _ _ (Ne.symm hj)
  simp only [alone, exec_lkLockRead_alone]
  refine ⟨fun h hfree => ?_, fun h hheld hown => ?_, fun h hown => ?_, fun h => ?_, fun readers w rest hfree hhost horder => ?_,
    fun v h hown hv hwait => ?_, fun v w h hown hv hnext => ?_, fun v h => ?_, fun h => ?_, fun h hown hres => ?_⟩
  · rw [State.lockRead_of_free (hmay.mp h) hfree]
    exact ⟨_, rfl, by simp, by simp, by simp, fun j hj => hother _ hj, rfl⟩
  · obtain ⟨howner, hwaits, -, hothers, honly⟩ := State.waited_lockRead (s.opMicros us.val) rfl hheld (Ne.symm hown) (hmay.mp h)
    exact ⟨_, rfl, howner, hwaits _ List.mem_cons_self, hothers, honly⟩
  · rw [State.lockRead_of_owner (hmay.mp h) hme hown]
    exact ⟨_, rfl, by simp [l], fun j hj => hother _ hj, rfl⟩
  · have hno : hostMay n.val me = false := by simpa using fun hyes => h (hmay.mpr hyes)
    have h8 : m.val + 1 = 8 := not_not.mp (not_or.mp h).1
    rw [State.lockRead_of_not hno, State.lockError_eq]
    simp [State.emit, event, me, h8]
  · obtain ⟨hw, hrest⟩ := List.nodup_cons.mp (horder ▸ readOrder_nodup l.last readers)
    have hin : ∀ v ∈ w :: rest, hostMay n.val v = true := fun v hv => hostMay_of_mem_readOrder hhost (horder ▸ hv)
    have hw1 : w ≠ 0 := Nat.one_le_iff_ne_zero.mp (mem_readOrder (horder ▸ List.mem_cons_self : w ∈ readOrder l.last readers)).1
    have hfirst := State.lockRead_of_free (hin w List.mem_cons_self) hfree (s.opMicros us.val)
    have hwaited := State.waited_foldl (s := s.lockRead n.val (s.opMicros us.val) w) (n := n.val) (s.opMicros us.val) (by rw [hfirst]; simp) hw1 rest
      fun v hv => ⟨fun hvw => hw (hvw ▸ hv), hin v (List.mem_cons_of_mem _ hv)⟩
    obtain ⟨howner, hwaits, -, hothers, honly⟩ := hwaited
    refine ⟨_, by change Host.Outcome.next _ = _; rw [horder, List.foldl_cons], howner, hwaits, fun j hj => (hothers j hj).trans ?_, honly.trans ?_⟩
    · rw [hfirst]; exact hother _ hj
    · rw [hfirst]; simp
  · have hnone : nextMaster l.waiting l.owner = none := by rw [hwait]; exact nextMaster_nil _
    exact ⟨_, exec_lkLockRelease_of_owner us (hmay.mp h) hown hv, by simp [Lock.handOver_of_none hnone, l], fun j hj => Locks.at_release_ne _ _ hj, rfl⟩
  · have hsome : nextMaster l.waiting l.owner = some w := hown ▸ hnext
    have hat : (s.locks.release n.val (s.opMicros us.val)).at n.val = _ := (Locks.at_release_self ..).trans (Lock.handOver_of_some hsome _)
    exact ⟨_, exec_lkLockRelease_of_owner us (hmay.mp h) hown hv, by simp [hat], by simp [hat], by simp [hat],
      fun j hj => Locks.at_release_ne _ _ hj, rfl⟩
  · rw [exec_lkLockRelease_of_not us fun hall => ?_, State.lockError_eq]
    rcases h with h | h | h
    · exact h (hmay.mpr hall.1)
    · exact h hall.2.1
    · exact h hall.2.2
  · exact exec_lockLapse_of_waiting us h
  · refine ⟨_, exec_lockLapse_of_reserved us h hown hres, ?_, rfl, fun j hj => hother _ hj, rfl⟩
    change ((s.locks.set n.val _).at n.val).owner = _
    rw [Locks.at_set_self, Lock.owner_handOver, show (s.locks.at n.val).owner = me from hown]

end Sys2Proof.Machine

/-! PROOF. The host mailboxes (R296 to R302): the doorbell and what the pumphouse makes of its message, the acknowledges, and the next notice. -/

namespace Sys2Proof.Machine

/-! ## A message at the mailbox level (R301, Table 12-4) -/

theorem messageLies_iff {addr len : Nat} :
    messageLies addr len = true ↔ (0x0C000000 ≤ addr ∧ addr + len ≤ 0x0E000000) ∧ 0 < len ∧ len ≤ 65536 := by
  simp [messageLies, and_assoc]

/-- The place and the length of a message that does not lie in region 6 decide its code. -/
theorem messageCode_of_not_lies {addr len : Nat} (h : ¬ messageLies addr len = true) (b c : List Byte) (e f : Bool) :
    messageCode addr len b e = messageCode addr len c f := by
  rw [messageLies_iff] at h
  unfold messageCode
  split
  · rfl
  · rw [if_pos (by omega), if_pos (by omega)]

/-- A message that reaches its operation lies in region 6 and was read without error. -/
theorem lies_of_messageCode_eq_zero {addr len : Nat} {b : List Byte} {e : Bool} (h : messageCode addr len b e = 0) :
    messageLies addr len = true ∧ e = false := by
  unfold messageCode at h
  split at h
  · exact absurd h (by decide)
  split at h
  · exact absurd h (by decide)
  split at h
  · exact absurd h (by decide)
  · exact ⟨messageLies_iff.mpr (by omega), by simpa using ‹¬ e = true›⟩

/-! ## The doorbell (R297, R298, R300) -/

/-- The state once the host has rung its outbound mailbox: FULL under its tag. -/
def State.rung (s : State) (mb tag : Nat) (who : Requester) : State :=
  { s with mail := { s.mail with out := Assoc.put Mailbox.reset s.mail.out mb { s.outBox mb with state := .full, tag := tag % 65536, code := 0 } }
           upd := s.upd.heardFrom who }

/-- The request that a message of the host makes, nothing of it checked yet. -/
def rungRequest (bytes : List Byte) (who : Requester) (errs : PerLane Bool) : Request :=
  { bytes := bytes, requester := who, readable := errs.map (fun e => !e), done := 0, codes := PerLane.all none, sent := false,
    got := PerLane.all (PerLane.all none), settled := false }

/-- A host outbound mailbox put: it stands as it was put, and every other as before. -/
theorem State.outBox_of_put {s t : State} {mb : Nat} {b : Mailbox} (h : t.mail.out = Assoc.put Mailbox.reset s.mail.out mb b) :
    t.outBox mb = b ∧ ∀ k, k ≠ mb → t.outBox k = s.outBox k := by
  simp only [State.outBox, h]
  exact ⟨Assoc.get_put_self .., fun k hk => Assoc.get_put_ne hk.symm⟩

/-- A host inbound mailbox put: it stands as it was put, and every other as before. -/
theorem State.inBox_of_put {s t : State} {mb : Nat} {b : Mailbox} (h : t.mail.inn = Assoc.put Mailbox.reset s.mail.inn mb b) :
    t.inBox mb = b ∧ ∀ k, k ≠ mb → t.inBox k = s.inBox k := by
  simp only [State.inBox, h]
  exact ⟨Assoc.get_put_self .., fun k hk => Assoc.get_put_ne hk.symm⟩

@[simp] theorem State.outBox_rung_self (s : State) (mb tag : Nat) (who : Requester) :
    (s.rung mb tag who).outBox mb = { s.outBox mb with state := .full, tag := tag % 65536, code := 0 } :=
  (State.outBox_of_put (b := { s.outBox mb with state := .full, tag := tag % 65536, code := 0 }) (rfl)).1

theorem State.outBox_rung_ne (s : State) {mb k : Nat} (tag : Nat) (who : Requester) (h : k ≠ mb) : (s.rung mb tag who).outBox k = s.outBox k :=
  (State.outBox_of_put (b := { s.outBox mb with state := .full, tag := tag % 65536, code := 0 }) (rfl)).2 k h

section
variable {s : State} {mb : Nat} (tag : Nat) (who : Requester) (copyTo : Nat) {err : Bool} (errs : PerLane Bool)

theorem State.powered_of_coresRun (h : s.coresRun = true) : s.ph.powered = true := by
  simp only [State.coresRun, Bool.and_eq_true] at h
  exact h.1.1

theorem State.doorbell_of_unpowered (h : s.ph.powered = false) : s.doorbell mb tag who copyTo err errs = s := by simp [State.doorbell, h]

theorem State.doorbell_of_busy (hpow : s.ph.powered = true) (h : (s.outBox mb).state ≠ .empty) :
    s.doorbell mb tag who copyTo err errs = s.mailboxError := by simp [State.doorbell, hpow, h]

theorem State.doorbell_of_reset (hpow : s.ph.powered = true) (h : (s.outBox mb).state = .empty) (hrun : s.coresRun = false) :
    s.doorbell mb tag who copyTo err errs = s.rung mb tag who := by
  have hrung : (s.rung mb tag who).coresRun = false := hrun
  simp only [State.rung] at hrung
  simp [State.doorbell, hpow, h, hrung, State.rung]

/-- The pumphouse's read of a message that lies in region 6. -/
theorem State.basinRead_of_lies {a len : Nat} (h : messageLies a len = true) : s.basinRead corePh a len = (s, Memory.readN s.basin a len) := by
  rw [State.basinRead, if_pos (basinMay_package (messageLies_iff.mp h).1)]

/-- What the doorbell of an EMPTY mailbox leads to while the pumphouse's cores run. -/
theorem State.doorbell_of_running (h : (s.outBox mb).state = .empty) (hrun : s.coresRun = true) :
    let b := s.outBox mb
    let bytes := Memory.readN s.basin b.addr b.len
    s.doorbell mb tag who copyTo err errs =
      if messageCode b.addr b.len bytes err = 0 then (s.rung mb tag who).dispatch mb copyTo (tag % 65536) (rungRequest bytes who errs)
      else (if err && messageLies b.addr b.len then (s.rung mb tag who).eccError b.addr else s.rung mb tag who).ackOut mb
        (messageCode b.addr b.len bytes err) := by
  intro b bytes
  have hread : (if messageLies b.addr b.len then (s.rung mb tag who).basinRead corePh b.addr b.len else (s.rung mb tag who, [])) =
      (s.rung mb tag who, if messageLies b.addr b.len then bytes else []) := by
    split
    · exact State.basinRead_of_lies ‹_›
    · rfl
  have hcode : messageCode b.addr b.len (if messageLies b.addr b.len then bytes else []) err = messageCode b.addr b.len bytes err := by
    split
    · rfl
    · exact messageCode_of_not_lies ‹_› _ _ _ _
  unfold State.doorbell
  rw [if_neg (by simp [State.powered_of_coresRun hrun]), if_neg (by simpa using h)]
  refine (if_neg (by exact (by simpa using hrun : ¬ (!s.coresRun) = true))).trans ?_
  change (let r := if messageLies b.addr b.len then (s.rung mb tag who).basinRead corePh b.addr b.len else (s.rung mb tag who, [])
    let t := if messageLies b.addr b.len && err then r.1.eccError b.addr else r.1
    match messageCode b.addr b.len r.2 err with
    | 0 => t.dispatch mb copyTo (tag % 65536) (rungRequest r.2 who errs)
    | code => t.ackOut mb code) = _
  simp only [hread, hcode]
  cases hzero : messageCode b.addr b.len bytes err with
  | zero =>
    obtain ⟨hl, he⟩ := lies_of_messageCode_eq_zero hzero
    simp [hl, he]
  | succ code => simp [Bool.and_comm]

end

/-! ## What the check of a message leaves (R296, R299, R117 to R119) -/

/-- From `s` to `t` no mailbox of the host, no byte of the basin, and of no lane the engine, the vote or the vital I/O changed. -/
structure State.MailKept (s t : State) : Prop where
  out : t.mail.out = s.mail.out
  inn : t.mail.inn = s.mail.inn
  basin : t.basin = s.basin
  lane : ∀ x, (t.lane x).pe = (s.lane x).pe ∧ (t.lane x).vt = (s.lane x).vt ∧ (t.lane x).io = (s.lane x).io

theorem State.MailKept.refl (s : State) : s.MailKept s := ⟨rfl, rfl, rfl, fun _ => ⟨rfl, rfl, rfl⟩⟩

theorem State.MailKept.trans {s t u : State} (h : s.MailKept t) (k : t.MailKept u) : s.MailKept u :=
  ⟨k.out.trans h.out, k.inn.trans h.inn, k.basin.trans h.basin,
    fun x => ⟨(k.lane x).1.trans (h.lane x).1, (k.lane x).2.1.trans (h.lane x).2.1, (k.lane x).2.2.trans (h.lane x).2.2⟩⟩

theorem State.MailKept.foldl {α : Type} {f : State → α → State} (hf : ∀ (s : State) (a : α), s.MailKept (f s a)) (l : List α) (s : State) :
    s.MailKept (l.foldl f s) := by
  induction l generalizing s with
  | nil => exact .refl s
  | cons a l ih => exact (hf s a).trans (ih _)

theorem State.mailKept_modLane (s : State) (x : LaneId) {f : Lane → Lane}
    (hf : (f (s.lane x)).pe = (s.lane x).pe ∧ (f (s.lane x)).vt = (s.lane x).vt ∧ (f (s.lane x)).io = (s.lane x).io) : s.MailKept (s.modLane x f) := by
  refine ⟨rfl, rfl, rfl, fun y => ?_⟩
  by_cases hy : y = x
  · subst hy; simpa using hf
  · rw [State.lane_modLane_ne s f hy]; exact ⟨rfl, rfl, rfl⟩

theorem State.mailKept_ringLane (s : State) (n addr len tag : Nat) (x : LaneId) : s.MailKept (s.ringLane n addr len tag x) := by
  dsimp only [State.ringLane]
  split
  · exact ⟨rfl, rfl, rfl, fun _ => ⟨rfl, rfl, rfl⟩⟩
  · split <;> exact s.mailKept_modLane x ⟨rfl, rfl, rfl⟩

theorem State.mailKept_unreadable (s : State) (x : LaneId) (a : Nat) : s.MailKept (s.unreadable x a) :=
  .trans (t := s.eccError a) ⟨rfl, rfl, rfl, fun _ => ⟨rfl, rfl, rfl⟩⟩
    (State.mailKept_modLane _ x ⟨rfl, rfl, rfl⟩)

theorem State.mailKept_setReq (s : State) (mb : Nat) (r : Option Request) : s.MailKept (s.setReq mb r) := ⟨rfl, rfl, rfl, fun _ => ⟨rfl, rfl, rfl⟩⟩

theorem State.mailKept_emit (s : State) (e : Emit) : s.MailKept (s.emit e) := ⟨rfl, rfl, rfl, fun _ => ⟨rfl, rfl, rfl⟩⟩

theorem State.mailKept_countAuth (s : State) (wrong right : Nat) : s.MailKept (s.countAuth wrong right) := by
  unfold State.countAuth State.configWrite State.mramWrite
  split <;> exact ⟨rfl, rfl, rfl, fun _ => ⟨rfl, rfl, rfl⟩⟩

/-- A refusal answers the mailbox last, once the request is gone. -/
theorem State.refuseReq_eq (s : State) (mb : Nat) (r : Request) (code : Nat) :
    ∃ u, s.MailKept u ∧ s.refuseReq mb r code = (u.setReq mb none).ackOut mb code := by
  refine ⟨_, ?_, rfl⟩
  split <;> split <;> exact ⟨rfl, rfl, rfl, fun _ => ⟨rfl, rfl, rfl⟩⟩

/-- Where a request stands once its verdicts have been sent, or a part of its checks is done: it is under check, or it is refused and its mailbox answered. -/
def State.UnderCheckOrRefused (s t : State) (mb : Nat) : Prop :=
  (s.MailKept t ∧ (t.req mb).isSome = true) ∨ ∃ u code, s.MailKept u ∧ t = (u.setReq mb none).ackOut mb code

theorem State.sendVerdicts_leaves (s : State) (mb : Nat) (r : Request) : s.UnderCheckOrRefused (s.sendVerdicts mb r) mb := by
  unfold State.sendVerdicts
  extract_lets lanes own got asked told
  have hkept : s.MailKept told := (s.mailKept_setReq mb _).trans (State.MailKept.foldl (fun t x => t.mailKept_emit _) _ _)
  split
  next =>
    obtain ⟨u, hu, heq⟩ := State.refuseReq_eq (told.countAuth (told.authFound r).1 (told.authFound r).2) mb r 0x050C
    exact .inr ⟨u, _, (hkept.trans (told.mailKept_countAuth _ _)).trans hu, heq⟩
  next =>
    have hreq : told.req mb = asked.req mb := by simp only [told, State.foldl_emit]; rfl
    exact .inl ⟨hkept, by simp [hreq, asked]⟩

theorem State.afterCheck_leaves (s : State) (mb : Nat) (r : Request) (last : Bool) : s.UnderCheckOrRefused (s.afterCheck mb r last) mb := by
  have hset := s.mailKept_setReq mb (some r)
  dsimp only [State.afterCheck]
  split
  · rcases (s.setReq mb (some r)).sendVerdicts_leaves mb r with ⟨hkept, hreq⟩ | ⟨u, code, hu, heq⟩
    · exact .inl ⟨hset.trans hkept, hreq⟩
    · exact .inr ⟨u, code, hset.trans hu, heq⟩
  · exact .inl ⟨hset, by simp⟩

theorem basinRegion_of_region5 {a : Nat} (hlow : 0x0B800000 ≤ a) (hhigh : a < 0x0C000000) : basinRegion a = some 5 := by
  have h0 : ¬ a < 33554432 := by omega
  have h1 : ¬ a < 134217728 := by omega
  have h2 : ¬ a < 159383552 := by omega
  have h3 : ¬ a < 167772160 := by omega
  have h4 : ¬ a < 192937984 := by omega
  simp [basinRegion, basinRegions, List.findIdx?_cons, h0, h1, h2, h3, h4, hlow, hhigh]

theorem basinMay_copyAddr (a : Nat) : basinMay true corePh (copyAddr a) = true := by
  have h : 0x0B800000 ≤ copyAddr a ∧ copyAddr a < 0x0C000000 := by unfold copyAddr; split <;> omega
  simp [basinMay, basinRegion_of_region5 h.1 h.2, basinRegions, corePh]

theorem copyAddr_aligned (a : Nat) : copyAddr a % 64 = 0 := by unfold copyAddr; split <;> omega

theorem State.dispatch_of_alone {s : State} {r : Request} (h : servedAlone (reqFormat r.bytes) = true) (mb copyTo tag : Nat) :
    s.dispatch mb copyTo tag r = s.setReq mb (some r) := if_pos h

/-- A message that the lanes check: copied to region 5, and then under check or refused. -/
theorem State.dispatch_of_not_alone {s : State} {r : Request} (h : servedAlone (reqFormat r.bytes) = false) (mb copyTo tag : Nat) :
    State.UnderCheckOrRefused { s with basin := Memory.writeN s.basin (copyAddr copyTo) r.bytes } (s.dispatch mb copyTo tag r) mb := by
  rw [State.dispatch, if_neg (by simp [h]), ← State.basinWrite_of_may (basinMay_copyAddr copyTo)]
  extract_lets a copied rung read q
  have hrung : copied.MailKept rung := State.MailKept.foldl (fun t x => t.mailKept_ringLane _ _ _ _ x) _ _
  have hread : rung.MailKept read := State.MailKept.foldl (fun t x => by split; exacts [.refl t, t.mailKept_unreadable x a]) _ _
  rcases read.afterCheck_leaves mb q false with ⟨hkept, hreq⟩ | ⟨u, code, hu, heq⟩
  · exact .inl ⟨(hrung.trans hread).trans hkept, hreq⟩
  · exact .inr ⟨u, code, (hrung.trans hread).trans hu, heq⟩

/-! ## The acknowledges (R297, R298, R300, R302) -/

/-- Host inbound mailbox `mb` set. -/
def State.setIn (s : State) (mb : Nat) (b : Mailbox) : State :=
  { s with mail := { s.mail with inn := Assoc.put Mailbox.reset s.mail.inn mb b } }

theorem State.inBox_setIn (s : State) (mb : Nat) (b : Mailbox) : (s.setIn mb b).inBox mb = b ∧ ∀ k, k ≠ mb → (s.setIn mb b).inBox k = s.inBox k :=
  State.inBox_of_put rfl

theorem State.ackIn_of_not_full {s : State} {mb : Nat} (h : (s.inBox mb).state ≠ .full) (code : Nat) : s.ackIn mb code = s.mailboxError := if_pos h

theorem State.ackIn_of_reset {s : State} {mb : Nat} (h : (s.inBox mb).state = .full) (hrun : s.coresRun = false) (code : Nat) :
    s.ackIn mb code = s.setIn mb { s.inBox mb with state := .acked, code := code % 65536 } := by
  rw [State.ackIn, if_neg (by simp [h])]
  exact if_neg (by exact (by simp [hrun] : ¬ s.coresRun = true))

/-- The state once the host has acknowledged its inbound mailbox and the pumphouse has read the code. -/
def State.emptied (s : State) (mb code : Nat) : State :=
  (s.setIn mb { s.inBox mb with state := .acked, code := code % 65536 }).setIn mb { s.inBox mb with state := .empty, code := code % 65536 }

theorem State.inBox_emptied (s : State) (mb code : Nat) : (s.emptied mb code).inBox mb = { s.inBox mb with state := .empty, code := code % 65536 } ∧
    ∀ k, k ≠ mb → (s.emptied mb code).inBox k = s.inBox k := by
  obtain ⟨hmine, hrest⟩ := (s.setIn mb { s.inBox mb with state := .acked, code := code % 65536 }).inBox_setIn mb
    { s.inBox mb with state := .empty, code := code % 65536 }
  exact ⟨hmine, fun k hk => (hrest k hk).trans ((s.inBox_setIn mb _).2 k hk)⟩

/-- A running pumphouse reads the acknowledge at once, which empties the mailbox, and goes on to its next notice. -/
theorem State.ackIn_of_running {s : State} {mb : Nat} (h : (s.inBox mb).state = .full) (hrun : s.coresRun = true) (code : Nat) :
    s.ackIn mb code = (s.emptied mb code).nextNotice := by
  rw [State.ackIn, if_neg (by simp [h])]
  refine (if_pos (by exact hrun)).trans ?_
  have hacked := (s.inBox_setIn mb { s.inBox mb with state := .acked, code := code % 65536 }).1
  change (s.setIn mb _).readInAck mb = _
  rw [State.readInAck, hacked]
  rfl

theorem State.nextNotice_of_none {s : State} (h : s.mail.notices = [] ∨ (s.inBox 0).state ≠ .empty) : s.nextNotice = s := by
  unfold State.nextNotice
  rcases h with h | h
  · rw [h]
  · split
    · rfl
    · rw [if_neg (by simpa using h)]

theorem State.nextNotice_of_some {s : State} {c cy : Nat} {ps : List Nat} {rest} (h : s.mail.notices = (c, cy, ps) :: rest)
    (hempty : (s.inBox 0).state = .empty) : s.nextNotice = { s with
      basin := Memory.writeN s.basin noticeAddr (noticeBytes s.mail.lostSince cy s.utc c ps)
      mail := { s.mail with
        notices := rest, lostSince := 0,
        inn := Assoc.put Mailbox.reset s.mail.inn 0 { state := .full, addr := noticeAddr, len := 64, tag := c, code := 0 } } } := by
  unfold State.nextNotice
  rw [h]
  dsimp only
  rw [if_pos (by simp [hempty]), State.deliverNotice, State.basinWrite_of_may basinMay_notice]
  rfl

/-! ## The statement -/

theorem State.mailboxDoorbell_of_code {s : State} {mb : Nat} (tag : Nat) (who : Requester) (copyTo : Nat) {err : Bool} (errs : PerLane Bool)
    (h : (s.outBox mb).state = .empty) (hrun : s.coresRun = true)
    (hcode : messageCode (s.outBox mb).addr (s.outBox mb).len (Memory.readN s.basin (s.outBox mb).addr (s.outBox mb).len) err ≠ 0) :
    s.doorbell mb tag who copyTo err errs = { s with
      mail := { s.mail with out := Assoc.put Mailbox.reset (s.rung mb tag who).mail.out mb { s.outBox mb with
        state := .acked, tag := tag % 65536,
        code := messageCode (s.outBox mb).addr (s.outBox mb).len (Memory.readN s.basin (s.outBox mb).addr (s.outBox mb).len) err } }
      upd := s.upd.heardFrom who
      bs := if err && messageLies (s.outBox mb).addr (s.outBox mb).len then
        { s.bs with eccUncorr := sat s.bs.eccUncorr, eccAddr := (s.outBox mb).addr } else s.bs } := by
  have hrung := s.outBox_rung_self mb tag who
  rw [State.doorbell_of_running tag who copyTo errs h hrun, if_neg hcode]
  split
  · rw [State.ackOut_of_full (by exact congrArg Mailbox.state hrung)]
    rw [show ((s.rung mb tag who).eccError (s.outBox mb).addr).outBox mb = (s.rung mb tag who).outBox mb from rfl, hrung]
    rfl
  · rw [State.ackOut_of_full (congrArg Mailbox.state hrung), hrung]
    rfl

/-- What the doorbell of a message that the lanes check leaves of its mailbox: FULL while the request is under check, ACKED once it is refused. -/
theorem State.dispatch_rung_leaves {s : State} {mb : Nat} {tag : Nat} {who : Requester} {r : Request}
    (h : servedAlone (reqFormat r.bytes) = false) (copyTo : Nat) :
    let t := (s.rung mb tag who).dispatch mb copyTo (tag % 65536) r
    t.basin = Memory.writeN s.basin (copyAddr copyTo) r.bytes ∧ (∀ k, k ≠ mb → t.outBox k = s.outBox k) ∧
      (t.req mb).isSome = decide ((t.outBox mb).state = .full) ∧ (t.outBox mb).tag = tag % 65536 ∧ t.mail.inn = s.mail.inn ∧
      ∀ x, (t.lane x).pe = (s.lane x).pe ∧ (t.lane x).vt = (s.lane x).vt ∧ (t.lane x).io = (s.lane x).io := by
  intro t
  have hbox : ∀ {u : State}, (s.rung mb tag who).mail.out = u.mail.out →
      u.outBox mb = { s.outBox mb with state := .full, tag := tag % 65536, code := 0 } ∧ ∀ k, k ≠ mb → u.outBox k = s.outBox k := by
    intro u hu
    have hsame : ∀ k, u.outBox k = (s.rung mb tag who).outBox k := fun k => congrArg (Assoc.get Mailbox.reset · k) hu.symm
    exact ⟨(hsame mb).trans (s.outBox_rung_self mb tag who), fun k hk => (hsame k).trans (s.outBox_rung_ne tag who hk)⟩
  rcases State.dispatch_of_not_alone (s := s.rung mb tag who) h mb copyTo (tag % 65536) with ⟨hkept, hreq⟩ | ⟨u, code, hkept, heq⟩
  · obtain ⟨hmine, hrest⟩ := hbox hkept.out.symm
    exact ⟨hkept.basin, hrest, by rw [hreq, hmine]; simp, by rw [hmine], hkept.inn, hkept.lane⟩
  · obtain ⟨hmine, hrest⟩ := hbox (u := u.setReq mb none) hkept.out.symm
    have ht : t = _ := heq.trans (State.ackOut_of_full (congrArg Mailbox.state hmine) code)
    obtain ⟨hacked, hothers⟩ := State.outBox_of_put (s := u.setReq mb none) (t := t) (mb := mb)
      (b := { (u.setReq mb none).outBox mb with state := .acked, code := code }) (by rw [ht])
    have hnone : t.req mb = none := by rw [ht]; exact u.req_setReq mb none
    refine ⟨by rw [ht]; exact hkept.basin, fun k hk => ?_, ?_, ?_, by rw [ht]; exact hkept.inn, fun x => by rw [ht]; exact hkept.lane x⟩
    · exact (hothers k hk).trans (hrest k hk)
    · rw [hnone, hacked]; simp
    · rw [hacked, hmine]

/-- Settles O45. One equation per outcome of the doorbell and of the acknowledges; what the lanes' checks leave comes from one law of them. -/
theorem mailboxesFollowTheirStates : Obligations.MailboxesFollowTheirStates := by
  intro s mb b i refused
  refine ⟨fun tag who copyTo err errs => ?_, fun code => ?_, fun hacked => ?_, fun hacked => ?_⟩
  · intro bytes code
    have hdoor : exec (.mailboxDoorbell mb tag who copyTo err errs) s = .next (s.doorbell mb.val tag.toNat who copyTo.toNat err errs) := rfl
    simp only [hdoor]
    refine ⟨fun hpow => ?_, fun hpow hbusy => ?_, fun hpow hempty hrun => ?_, fun hempty hrun hcode => ?_, fun hempty hrun hcode hf => ?_,
      fun hempty hrun hcode h30 h31 => ?_⟩
    · rw [State.doorbell_of_unpowered _ _ _ _ hpow]
    · rw [State.doorbell_of_busy _ _ _ _ hpow hbusy]; rfl
    · rw [State.doorbell_of_reset _ _ _ _ hpow hempty hrun]; rfl
    · have hcoded := State.mailboxDoorbell_of_code tag.toNat who copyTo.toNat errs hempty hrun hcode
      obtain ⟨hmine, hrest⟩ := State.outBox_of_put (s := s.rung mb.val tag.toNat who) (t := s.doorbell mb.val tag.toNat who copyTo.toNat err errs) (mb := mb.val)
        (b := { b with state := .acked, tag := tag.toNat % 65536, code := code }) (by rw [hcoded])
      exact ⟨_, rfl, hmine, fun k hk => (hrest k hk).trans (s.outBox_rung_ne _ _ hk), by rw [hcoded]⟩
    · have halone : servedAlone (reqFormat bytes) = true := by rcases hf with hf | hf <;> simp [servedAlone, hf]
      rw [State.doorbell_of_running _ _ _ _ hempty hrun, if_pos hcode, State.dispatch_of_alone (r := rungRequest bytes who errs) halone]
      exact ⟨_, _, rfl, s.outBox_rung_self mb.val tag.toNat who, fun k hk => s.outBox_rung_ne tag.toNat who hk, State.req_setReq .., rfl, rfl, rfl, rfl, rfl, rfl⟩
    · have halone : servedAlone (reqFormat bytes) = false := by simp [servedAlone, h30, h31]
      obtain ⟨hbasin, hrest, hreq, htag, hinn, hlane⟩ :=
        State.dispatch_rung_leaves (s := s) (mb := mb.val) (tag := tag.toNat) (who := who) (r := rungRequest bytes who errs) halone copyTo.toNat
      rw [State.doorbell_of_running _ _ _ _ hempty hrun, if_pos hcode]
      exact ⟨_, rfl, hbasin, copyAddr_aligned _, hrest, hreq, htag, hinn, hlane⟩
  · intro box
    have hack : exec (.mailboxAcknowledge mb code) s = .next (s.ackIn mb.val code.toNat) := rfl
    simp only [hack]
    refine ⟨fun hnot => ?_, fun hfull hrun => ?_, fun hfull hrun hnone => ?_, fun c cy ps rest hfull hrun hnotices hzero => ?_⟩
    · rw [State.ackIn_of_not_full hnot]; rfl
    · rw [State.ackIn_of_reset hfull hrun]; rfl
    all_goals
      have hnext := State.ackIn_of_running hfull hrun code.toNat
      obtain ⟨hmine, hrest⟩ := s.inBox_emptied mb.val code.toNat
    · have hstays := State.nextNotice_of_none (s := s.emptied mb.val code.toNat) (hnone.imp id fun ⟨hmb, hbox⟩ => by
        rwa [hrest 0 (by omega)])
      exact ⟨_, congrArg _ (hnext.trans hstays), hmine, hrest, rfl⟩
    · have hfree : ((s.emptied mb.val code.toNat).inBox 0).state = .empty := by
        by_cases h0 : mb.val = 0
        · rw [← h0, hmine]
        · rw [hrest 0 (by omega)]; exact hzero.resolve_left (by omega)
      have heq := hnext.trans (State.nextNotice_of_some (s := s.emptied mb.val code.toNat) hnotices hfree)
      obtain ⟨hnotice, hothers⟩ := State.inBox_of_put (s := s.emptied mb.val code.toNat) (t := s.ackIn mb.val code.toNat) (mb := 0)
        (b := { state := .full, addr := noticeAddr, len := 64, tag := c, code := 0 }) (by rw [heq])
      refine ⟨_, rfl, hnotice, fun hmb => ?_, fun k hk hkmb => (hothers k hk).trans (hrest k hkmb), by rw [heq]; rfl, by rw [heq]; rfl⟩
      exact (hothers mb.val (by omega)).trans hmine
  · have htake : s.takeAck mb.val = { s with mail := { s.mail with
        out := Assoc.put Mailbox.reset s.mail.out mb.val { b with state := .empty } } } := if_pos (by simp [b] at hacked; simp [hacked])
    obtain ⟨hmine, hrest⟩ := State.outBox_of_put (s := s) (t := s.takeAck mb.val) (mb := mb.val) (b := { b with state := .empty }) (by rw [htake])
    refine ⟨(s.takeAck mb.val).emit (.ackValue mb.val b.ackReg), rfl, hmine, hrest, ?_⟩
    rw [htake, Mailbox.ackReg, if_pos (by simp [hacked])]
    rfl
  · have htake : s.takeAck mb.val = s := if_neg (by simpa [b] using hacked)
    change Host.Outcome.next ((s.takeAck mb.val).emit (.ackValue mb.val b.ackReg)) = _
    rw [htake, Mailbox.ackReg, if_neg (by simpa using hacked)]
    rfl

end Sys2Proof.Machine

/-! PROOF. Breach dumps (R368 to R370): the writing of a lane's dump, its skip, and its completion. -/

namespace Sys2Proof.Machine

theorem Warden.dump_setDump_self (w : Warden) (x : LaneId) (d : Dump) : (w.setDump x.idx d).dump x.idx = d := by
  cases x <;> rfl

/-- A lane writes its own dump region while the MRAM's rail is up (R21, R313). -/
theorem State.mramWrite_dump {s : State} (h : s.ph.powered = true) (x : LaneId) (write : State → State) :
    s.mramWrite (.lane x) (.dump (.lane x)) write = write s := by
  refine if_pos ?_
  rw [h]
  cases x <;> rfl

/-! ## The dump of a lane (R368) -/

section
variable {s : State} {x : LaneId} {cause : DumpCause} {content : List Byte}

/-- A lane that writes no dump reports why, and asks for its reset. -/
def State.dumpGivenUp (s : State) (x : LaneId) (cause result : Nat) : State :=
  s.modLane x (fun l => { l.dumpRecord x cause result with rc := l.rc.request 4 })

theorem State.resetReq_dumpGivenUp (s : State) (x : LaneId) (cause result : Nat) : ((s.dumpGivenUp x cause result).lane x).rc.resetReq = some 4 := by
  simp [State.dumpGivenUp, ResetUnit.request]

theorem State.lane_dumpGivenUp_ne (s : State) {x y : LaneId} (cause result : Nat) (h : y ≠ x) : (s.dumpGivenUp x cause result).lane y = s.lane y :=
  State.lane_modLane_ne s _ h

theorem State.laneDump_of_unreachable {reachable : Bool} (h : reachable = false ∨ s.ph.powered = false) :
    s.laneDump x cause reachable content = s.dumpGivenUp x cause.code 2 :=
  if_pos (by rcases h with h | h <;> simp [h])

theorem State.laneDump_of_complete (hpow : s.ph.powered = true) (hstate : (s.warden.dump x.idx).state = 2)
    (hheader : (s.warden.dump x.idx).headerOk = true) :
    s.laneDump x cause true content = State.dumpGivenUp { s with warden := { s.warden with skipCnt := sat s.warden.skipCnt } } x cause.code 1 := by
  refine (if_neg (by simp [hpow])).trans (if_pos ?_)
  simp [dumpIndex, hstate, hheader]

theorem State.laneDump_of_free (hpow : s.ph.powered = true) (h : (s.warden.dump x.idx).state ≠ 2 ∨ (s.warden.dump x.idx).headerOk = false) :
    s.laneDump x cause true content = { s with warden := s.warden.setDump x.idx (s.newDump (.lane x) cause content) } := by
  refine (if_neg (by simp [hpow])).trans ((if_neg ?_).trans (State.mramWrite_dump hpow x _))
  rcases h with h | h <;> simp [dumpIndex, h]

theorem execBreachDump_engine (reachable : Bool) (hfault : (s.lane x).pe.state = .fault) (hreq : (s.lane x).rc.resetReq = none) :
    exec (.breachDump (.lane x) .engine reachable content) s = .next (s.laneDump x .engine reachable content) :=
  if_pos (by simp [hfault, hreq])

end

/-! ## The completion of a lane's dump (R369) -/

section
variable {s : State} {x : LaneId}

/-- The lane whose dump has ended, complete or cut off: its withdrawn phase counts from here, and it asks for its reset. -/
def State.dumpEnded (s : State) (x : LaneId) (cause result ms : Nat) : State :=
  s.modLane x (fun l => { l.dumpRecord x cause result with vt := { l.vt with startMs := ms }, rc := l.rc.request 4 })

theorem State.resetReq_dumpEnded (s : State) (x : LaneId) (cause result ms : Nat) : ((s.dumpEnded x cause result ms).lane x).rc.resetReq = some 4 := by
  simp [State.dumpEnded, ResetUnit.request]

theorem State.lane_dumpEnded_ne (s : State) {x y : LaneId} (cause result ms : Nat) (h : y ≠ x) : (s.dumpEnded x cause result ms).lane y = s.lane y :=
  State.lane_modLane_ne s _ h

theorem execBreachDumpComplete_of_unpowered (hstate : (s.warden.dump x.idx).state = 1) (hfault : (s.lane x).pe.state = .fault)
    (hpow : s.ph.powered = false) :
    exec (.breachDumpComplete (.lane x)) s = .next (s.dumpEnded x (s.warden.dump x.idx).cause 2 s.tideMs) := by
  refine (if_neg (by simpa [dumpIndex] using hstate)).trans ((if_neg ?_).trans (if_pos (by simp [hpow])))
  simp [hfault]

theorem execBreachDumpComplete_of_powered (hstate : (s.warden.dump x.idx).state = 1) (hfault : (s.lane x).pe.state = .fault)
    (hpow : s.ph.powered = true) :
    exec (.breachDumpComplete (.lane x)) s = .next (State.dumpEnded { s with warden := s.warden.setDump x.idx (s.warden.dump x.idx).complete } x
      (s.warden.dump x.idx).cause 0 s.tideMs) := by
  refine (if_neg (by simpa [dumpIndex] using hstate)).trans ((if_neg (by simp [hfault])).trans ((if_neg (by simp [hpow])).trans ?_))
  rw [State.mramWrite_dump hpow]
  rfl

end

/-- Settles O49, by the cases of the dump's writing and of its completion. -/
theorem breachDumpsAreKeptUntilReleased : Obligations.BreachDumpsAreKeptUntilReleased := by
  intro s x i hfault
  refine ⟨fun content hreq hpow hfree => ?_, fun content hreq hpow hstate hheader => ?_, fun reachable content hreq hcut => ?_,
    fun hstate hpow => ?_, fun hstate hpow => ?_⟩
  · refine ⟨_, execBreachDump_engine true hfault hreq, ?_⟩
    rw [State.laneDump_of_free hpow hfree]
    have hdump := s.warden.dump_setDump_self x (s.newDump (.lane x) .engine content)
    exact ⟨congrArg Dump.state hdump, congrArg Dump.cause hdump, congrArg Dump.cycle hdump, rfl, rfl⟩
  · refine ⟨_, execBreachDump_engine true hfault hreq, ?_⟩
    rw [State.laneDump_of_complete hpow hstate hheader]
    exact ⟨by cases x <;> rfl, rfl, State.resetReq_dumpGivenUp .., fun y hy => State.lane_dumpGivenUp_ne _ _ _ hy⟩
  · refine ⟨_, execBreachDump_engine reachable hfault hreq, ?_⟩
    rw [State.laneDump_of_unreachable hcut]
    exact ⟨rfl, State.resetReq_dumpGivenUp ..⟩
  · exact ⟨_, execBreachDumpComplete_of_unpowered hstate hfault hpow, rfl, State.resetReq_dumpEnded ..⟩
  · refine ⟨_, execBreachDumpComplete_of_powered hstate hfault hpow, ?_, State.resetReq_dumpEnded ..,
      fun y hy => State.lane_dumpEnded_ne _ _ _ _ hy, rfl⟩
    exact congrArg Dump.state (s.warden.dump_setDump_self x (s.warden.dump x.idx).complete)

end Sys2Proof.Machine

/-! PROOF. The Warden log (R361 to R364): the writing of a record, its delivery by a lane, and the copies of a unit record. -/

namespace Sys2Proof.Machine

/-! ## A record written (R361, R362) -/

theorem Warden.nextSeq_congr {w v : Warden} (h : w.headWord = v.headWord) : w.nextSeq = v.nextSeq := by rw [Warden.nextSeq, h, Warden.nextSeq]

/-- The log once record `r` is written into its slot as `bs`. -/
def Warden.written (w : Warden) (r : Record) (bs : List Byte) : Warden :=
  { w with slots := Assoc.put [] w.slots (w.nextSeq % 131072) bs, headWord := some w.nextSeq, head := some w.nextSeq,
           severe := if 3 ≤ r.severity then w.nextSeq else w.severe,
           lostCnt := if r.code = 0x0F01 then satAdd w.lostCnt (r.params.headD 0) else w.lostCnt }

theorem Warden.slots_written (w : Warden) (r : Record) (bs : List Byte) : Assoc.get [] (w.written r bs).slots (w.nextSeq % 131072) = bs ∧
    ∀ k, k ≠ w.nextSeq % 131072 → Assoc.get [] (w.written r bs).slots k = Assoc.get [] w.slots k :=
  ⟨Assoc.get_put_self .., fun _ hk => Assoc.get_put_ne hk.symm⟩

/-- The log set. -/
def State.setWarden (s : State) (w : Warden) : State := { s with warden := w }

@[simp] theorem State.setWarden_warden (s : State) (w : Warden) : (s.setWarden w).warden = w := (rfl)
@[simp] theorem State.setWarden_basin (s : State) (w : Warden) : (s.setWarden w).basin = s.basin := (rfl)
@[simp] theorem State.setWarden_cfg (s : State) (w : Warden) : (s.setWarden w).cfg = s.cfg := (rfl)
@[simp] theorem State.setWarden_ph (s : State) (w : Warden) : (s.setWarden w).ph = s.ph := (rfl)
@[simp] theorem State.setWarden_utc (s : State) (w : Warden) : (s.setWarden w).utc = s.utc := (rfl)
@[simp] theorem State.setWarden_setWarden (s : State) (v w : Warden) : (s.setWarden v).setWarden w = s.setWarden w := (rfl)
@[simp] theorem State.lane_setWarden (s : State) (w : Warden) (x : LaneId) : (s.setWarden w).lane x = s.lane x := (rfl)

theorem State.writeRecord_of_powered {s : State} (h : s.ph.powered = true) (r : Record) :
    s.writeRecord r = s.setWarden (s.warden.written r (recordBytes s.warden.nextSeq s.cfg.opTime s.cfg.powerCycles s.utc r)) :=
  if_pos (by rw [h]; rfl)

/-! ## The copies of a unit record (R364) -/

section
variable {s : State} {x : LaneId} {r : Record}

/-- The kept copies of a unit record that still miss that of lane `x`. -/
def Warden.copiesFor (w : Warden) (x : LaneId) (r : Record) : Option (Record × Mask) := w.halves.find? (fun k => k.1 == r && !k.2.get x)

theorem Warden.copiesFor_eq_none {w : Warden} : w.copiesFor x r = none ↔ ∀ k ∈ w.halves, k.1 = r → k.2.get x = true := by
  simp [Warden.copiesFor]

theorem Warden.of_copiesFor_eq_some {w : Warden} {k : Record × Mask} (h : w.copiesFor x r = some k) : k.1 = r ∧ k.2.get x = false := by
  simpa using List.find?_some h

/-- The first copy of a unit record is kept, and nothing is written. -/
theorem State.unitRecord_of_first (h : s.warden.copiesFor x r = none) :
    s.unitRecord x r = s.setWarden { s.warden with halves := s.warden.halves ++ [(r, (PerLane.all false).set x true)] } := by
  rw [Warden.copiesFor] at h
  simp only [State.unitRecord, h, State.setWarden]

/-- The log with the copy of lane `x` noted at the kept copies `k` of a unit record. -/
def State.copyNoted (s : State) (x : LaneId) (k : Record × Mask) : Warden :=
  ({ s.warden with halves := s.warden.halves.map (fun h => if h == k then (k.1, k.2.set x true) else h) } : Warden).pruneHalves s.serviceMask

theorem State.copyNoted_head (s : State) (x : LaneId) (k : Record × Mask) : (s.copyNoted x k).head = s.warden.head := rfl

theorem State.copyNoted_headWord (s : State) (x : LaneId) (k : Record × Mask) : (s.copyNoted x k).headWord = s.warden.headWord := rfl

theorem State.copyNoted_slots (s : State) (x : LaneId) (k : Record × Mask) : (s.copyNoted x k).slots = s.warden.slots := rfl

theorem Mask.count_set_of_not {m : Mask} {x : LaneId} (h : m.get x = false) : Mask.count (m.set x true) = Mask.count m + 1 := by
  obtain ⟨a, b, c⟩ := m
  cases x <;> revert a b c <;> decide

/-- The second copy of a unit record writes it, a further one does not. -/
theorem State.unitRecord_of_kept {m : Mask} (h : s.warden.copiesFor x r = some (r, m)) :
    s.unitRecord x r = if Mask.count m = 1 then (s.setWarden (s.copyNoted x (r, m))).writeRecord r
      else s.setWarden (s.copyNoted x (r, m)) := by
  obtain ⟨-, hfree⟩ := Warden.of_copiesFor_eq_some h
  rw [Warden.copiesFor] at h
  simp only [State.unitRecord, h, Mask.count_set_of_not hfree, Nat.reduceEqDiff]
  rfl

end

/-! ## A lane's record delivered (R296 to R298, R364) -/

section
variable {s : State} {x : LaneId}

theorem basinMay_handAddr (x : LaneId) : basinMay true x.num (handAddr x) = true := by cases x <;> decide

/-- The message that a lane has rung with a record. -/
def rungRecord (x : LaneId) (b : Mailbox) : Mailbox := { state := .full, addr := handAddr x, len := 64, tag := (b.tag + 1) % 65536, code := 0 }

theorem State.lane_handOver_self (s : State) (x : LaneId) (r : Record) : ∃ l2p, (s.handOver x r).lane x =
      { s.lane x with mb := { (s.lane x).mb with l2p := l2p } } ∧
    Assoc.get Mailbox.reset l2p 0 = rungRecord x (Assoc.get Mailbox.reset (s.lane x).mb.l2p 0) := by
  refine ⟨Assoc.put Mailbox.reset (s.lane x).mb.l2p 0 (rungRecord x (Assoc.get Mailbox.reset (s.lane x).mb.l2p 0)), ?_, Assoc.get_put_self ..⟩
  rw [State.handOver, State.lane_modLane_self, State.lane_basinWrite]
  rfl

theorem State.lane_handOver_ne (s : State) {x y : LaneId} (r : Record) (h : y ≠ x) : (s.handOver x r).lane y = s.lane y := by
  rw [State.handOver, State.lane_modLane_ne _ _ h, State.lane_basinWrite]

theorem State.handOver_basin (s : State) (x : LaneId) (r : Record) :
    (s.handOver x r).basin = Memory.writeN s.basin (handAddr x) r.handed := by
  rw [State.handOver, State.modLane_basin, State.basinWrite_of_may (basinMay_handAddr x)]

/-- The state once the pumphouse has taken the record of lane `x`, not yet written it. -/
def State.recordTaken (s : State) (x : LaneId) (r : Record) : State := (s.handOver x r).modLane x (fun l => { l with mb := l.mb.accepted })

theorem State.recordTaken_keeps (s : State) (x : LaneId) (r : Record) :
    (s.recordTaken x r).warden = s.warden ∧ (s.recordTaken x r).cfg = s.cfg ∧ (s.recordTaken x r).ptp = s.ptp ∧ (s.recordTaken x r).ph = s.ph := by
  simp [State.recordTaken, State.handOver, State.basinWrite_of_may (basinMay_handAddr x)]

theorem State.recordTaken_basin (s : State) (x : LaneId) (r : Record) : (s.recordTaken x r).basin = Memory.writeN s.basin (handAddr x) r.handed := by
  rw [State.recordTaken, State.modLane_basin, State.handOver_basin]

/-- A record taken leaves its mailbox EMPTY and the lane's queue, and no other lane changes. -/
theorem State.recordTaken_leaves (s : State) (x : LaneId) (r : Record) :
    Assoc.get Mailbox.reset ((s.recordTaken x r).lane x).mb.l2p 0 =
        { rungRecord x (Assoc.get Mailbox.reset (s.lane x).mb.l2p 0) with state := .empty } ∧
      ((s.recordTaken x r).lane x).mb.queue = (if 0 < (s.lane x).mb.dropped then (s.lane x).mb.queue else (s.lane x).mb.queue.drop 1) ∧
      ((s.recordTaken x r).lane x).mb.dropped = 0 ∧
      ∀ y, y ≠ x → (s.recordTaken x r).lane y = s.lane y := by
  obtain ⟨l2p, hlane, hbox⟩ := s.lane_handOver_self x r
  rw [State.recordTaken, State.lane_modLane_self, hlane]
  refine ⟨?_, rfl, rfl, fun y hy => ?_⟩
  · exact (Assoc.get_upd_self Mailbox.reset l2p 0 (fun b => { b with state := .empty })).trans (by rw [hbox])
  · rw [State.lane_modLane_ne _ _ hy, State.lane_handOver_ne s r hy]

theorem execWardenRecordWrite_lane (hpow : (s.lane x).rc.powered = true) (hrel : (s.lane x).rc.released.getLsbD 7 = true) :
    exec (.wardenRecordWrite (.lane x)) s = .next (s.deliverLane x) :=
  if_pos (by rw [hpow, hrel]; rfl)

variable {r : Record} (hnext : (s.lane x).nextRecord x = some r)
include hnext

theorem State.deliverLane_of_busy (hpow : s.ph.powered = true) (hbox : (Assoc.get Mailbox.reset (s.lane x).mb.l2p 0).state ≠ .empty) :
    s.deliverLane x = { s.modLane x (fun l => { l with mb := { l.mb with busErr := sat l.mb.busErr } }) with
      sent := s.sent ++ [.busError x.num] } := by
  simp only [State.deliverLane, hnext, hpow, Bool.not_true, Bool.false_eq_true, if_false]
  refine (if_pos hbox).trans ?_
  cases x <;> rfl

theorem State.deliverLane_of_reset (hpow : s.ph.powered = true) (hbox : (Assoc.get Mailbox.reset (s.lane x).mb.l2p 0).state = .empty)
    (hrun : s.coresRun = false) : s.deliverLane x = s.handOver x r := by
  have hrun' : (s.handOver x r).coresRun = false := by
    rw [State.handOver, State.basinWrite_of_may (basinMay_handAddr x)]; exact hrun
  simp only [State.deliverLane, hnext, hpow, Bool.not_true, Bool.false_eq_true, if_false]
  rw [if_neg (by simp [hbox]), if_pos (by simp [hrun'])]

theorem State.deliverLane_of_running (hbox : (Assoc.get Mailbox.reset (s.lane x).mb.l2p 0).state = .empty)
    (hrun : s.coresRun = true) :
    s.deliverLane x = if r.source = 5 then (s.recordTaken x r).unitRecord x r else (s.recordTaken x r).writeRecord r := by
  have hrun' : (s.handOver x r).coresRun = true := by
    rw [State.handOver, State.basinWrite_of_may (basinMay_handAddr x)]; exact hrun
  simp only [State.deliverLane, hnext, State.powered_of_coresRun hrun, Bool.not_true, Bool.false_eq_true, if_false]
  rw [if_neg (by simp [hbox]), if_neg (by simp [hrun'])]
  rfl

end

/-! ## The statement -/

/-- What the delivery of a lane's record leaves of the lane's mailbox, its queue and the basin, whatever becomes of the log. -/
theorem State.recordTaken_with {s t : State} {x : LaneId} {r : Record} {w : Warden} (ht : t = (s.recordTaken x r).setWarden w) :
    Assoc.get Mailbox.reset (t.lane x).mb.l2p 0 = { rungRecord x (Assoc.get Mailbox.reset (s.lane x).mb.l2p 0) with state := .empty } ∧
      (t.lane x).mb.queue = (if 0 < (s.lane x).mb.dropped then (s.lane x).mb.queue else (s.lane x).mb.queue.drop 1) ∧
      (t.lane x).mb.dropped = 0 ∧ (t.basin = Memory.writeN s.basin (handAddr x) r.handed ∧ ∀ y, y ≠ x → t.lane y = s.lane y) ∧ t.warden = w := by
  obtain ⟨hbox, hqueue, hdropped, hrest⟩ := s.recordTaken_leaves x r
  simp only [ht, State.lane_setWarden, State.setWarden_basin, State.setWarden_warden]
  exact ⟨hbox, hqueue, hdropped, ⟨s.recordTaken_basin x r, hrest⟩, trivial⟩

/-- A record entered under the next number: the head names its slot, which holds its bytes. -/
def State.Entered (s : State) (r : Record) (w : Warden) : Prop :=
  w.head = some s.warden.nextSeq ∧
    Assoc.get [] w.slots (s.warden.nextSeq % 131072) = recordBytes s.warden.nextSeq s.cfg.opTime s.cfg.powerCycles s.utc r

/-- What becomes of the log when a lane's record is delivered: it is entered, unless it is a unit record whose copy is the first or the third. -/
structure State.Delivered (s : State) (x : LaneId) (r : Record) (w : Warden) : Prop where
  own : r.source ≠ 5 → s.Entered r w ∧ w.lostCnt = if r.code = 0x0F01 then satAdd s.warden.lostCnt (r.params.headD 0) else s.warden.lostCnt
  first : r.source = 5 → s.warden.copiesFor x r = none →
    w = { s.warden with halves := s.warden.halves ++ [(r, (PerLane.all false).set x true)] }
  second : r.source = 5 → ∀ m : Mask, s.warden.copiesFor x r = some (r, m) → Mask.count m = 1 → s.Entered r w
  third : r.source = 5 → ∀ m : Mask, s.warden.copiesFor x r = some (r, m) → Mask.count m ≠ 1 → w = (s.recordTaken x r).copyNoted x (r, m)

theorem State.deliverLane_delivered {s : State} {x : LaneId} {r : Record} (hnext : (s.lane x).nextRecord x = some r)
    (hbox : (Assoc.get Mailbox.reset (s.lane x).mb.l2p 0).state = .empty) (hrun : s.coresRun = true) :
    ∃ w, s.deliverLane x = (s.recordTaken x r).setWarden w ∧ s.Delivered x r w := by
  obtain ⟨hwarden, hcfg, hptp, hph⟩ := s.recordTaken_keeps x r
  have hpow : (s.recordTaken x r).ph.powered = true := by rw [hph]; exact State.powered_of_coresRun hrun
  have hutc : (s.recordTaken x r).utc = s.utc := by rw [State.utc, hptp]; rfl
  rw [State.deliverLane_of_running hnext hbox hrun]
  by_cases hr : r.source = 5
  · rw [if_pos hr]
    cases hcopies : s.warden.copiesFor x r with
    | none =>
      rw [State.unitRecord_of_first (by rwa [hwarden]), hwarden]
      exact ⟨_, rfl, fun h => absurd hr h, fun _ _ => rfl, by simp [hcopies], by simp [hcopies]⟩
    | some k =>
      obtain ⟨r', m⟩ := k
      obtain rfl : r' = r := (Warden.of_copiesFor_eq_some hcopies).1
      rw [State.unitRecord_of_kept (by rwa [hwarden])]
      split
      next hone =>
        have hnum : ((s.recordTaken x r').copyNoted x (r', m)).nextSeq = s.warden.nextSeq :=
          Warden.nextSeq_congr ((State.copyNoted_headWord ..).trans (congrArg Warden.headWord hwarden))
        rw [State.writeRecord_of_powered (by rw [State.setWarden_ph, hpow])]
        simp only [State.setWarden_setWarden, State.setWarden_warden, State.setWarden_cfg, State.setWarden_utc, hcfg, hutc, hnum]
        refine ⟨_, rfl, fun h => absurd hr h, by simp [hcopies], fun _ m' _ _ => ?_, fun _ m' h' hcount => ?_⟩
        · exact ⟨congrArg some hnum, by rw [← hnum]; exact (Warden.slots_written ..).1⟩
        · obtain rfl : m = m' := by simpa using hcopies.symm.trans h'
          exact absurd hone hcount
      next hone =>
        refine ⟨_, rfl, fun h => absurd hr h, by simp [hcopies], fun _ m' h' hcount => ?_, fun _ m' h' _ => ?_⟩ <;>
          obtain rfl : m = m' := by simpa using hcopies.symm.trans h'
        · exact absurd hcount hone
        · rfl
  · rw [if_neg hr, State.writeRecord_of_powered hpow, hwarden, hcfg, hutc]
    refine ⟨_, rfl, fun _ => ⟨⟨rfl, (s.warden.slots_written r _).1⟩, rfl⟩, fun h => absurd h hr, fun h => absurd h hr, fun h => absurd h hr⟩

theorem Lane.nextRecord_of_dropped {l : Lane} (h : 0 < l.mb.dropped) (x : LaneId) : l.nextRecord x = some (lostRecord x l) := if_pos h

theorem Lane.nextRecord_of_queue {l : Lane} {r : Record} {rest : List Record} (hdropped : l.mb.dropped = 0) (hqueue : l.mb.queue = r :: rest) (x : LaneId) :
    l.nextRecord x = some r := by
  rw [Lane.nextRecord, if_neg (by omega), hqueue]
  rfl

theorem lostRecord_source_ne (x : LaneId) (l : Lane) : (lostRecord x l).source ≠ 5 := by
  change x.idx + 1 ≠ 5
  cases x <;> decide

/-- Settles O48. A record delivered is a record taken and then entered in the log, unless it is the first or the third copy of a unit record. -/
theorem recordsTakeTheNextNumber : Obligations.RecordsTakeTheNextNumber := by
  intro s
  refine ⟨fun r hpow => ?_, fun r rest hrun hown => ?_, fun x hlane hrel hpow => ?_⟩
  · intro t n
    have ht : t = _ := State.writeRecord_of_powered hpow r
    rw [ht]
    exact ⟨rfl, rfl, (s.warden.slots_written r _).1, (s.warden.slots_written r _).2, rfl⟩
  · have hwrite : exec (.wardenRecordWrite .pumphouse) s = .next s.deliverPh := if_pos hrun
    have hdeliver : s.deliverPh = State.writeRecord { s with warden := { s.warden with own := rest } } r := by simp only [State.deliverPh, hown]
    rw [hwrite, hdeliver, State.writeRecord_of_powered (by exact State.powered_of_coresRun hrun)]
    exact ⟨_, rfl, rfl, rfl, rfl⟩
  · intro l box n handed taken entered
    rw [execWardenRecordWrite_lane hlane hrel]
    refine ⟨fun hbox hrun hdropped => ?_, fun r rest hbox hrun hdropped hqueue => ?_, fun r hbox hnext => ?_, fun r hbox hrun hnext => ?_⟩
    · obtain ⟨w, heq, hlog⟩ := State.deliverLane_delivered (Lane.nextRecord_of_dropped hdropped x) hbox hrun
      obtain ⟨htaken, hqueue, hnone, hhanded, rfl⟩ := State.recordTaken_with heq
      obtain ⟨hentered, hlost⟩ := hlog.own (lostRecord_source_ne x l)
      exact ⟨_, rfl, hnone, hqueue.trans (if_pos hdropped), htaken, hhanded, hentered, hlost⟩
    · obtain ⟨w, heq, hlog⟩ := State.deliverLane_delivered (Lane.nextRecord_of_queue hdropped hqueue x) hbox hrun
      obtain ⟨htaken, hrest, -, hhanded, rfl⟩ := State.recordTaken_with heq
      refine ⟨_, rfl, hrest.trans ?_, htaken, hhanded, fun hr => (hlog.own hr).1, fun hr hfirst => ?_,
        fun m hr hkept => ⟨hlog.second hr m hkept, fun hcount => ?_⟩⟩
      · rw [hdropped, hqueue]; rfl
      · rw [hlog.first hr (Warden.copiesFor_eq_none.mpr hfirst)]; exact ⟨rfl, rfl⟩
      · rw [hlog.third hr m hkept (by omega)]
        have hwarden := (s.recordTaken_keeps x r).1
        exact ⟨(State.copyNoted_head ..).trans (congrArg Warden.head hwarden), (State.copyNoted_slots ..).trans (congrArg Warden.slots hwarden)⟩
    · rw [State.deliverLane_of_busy hnext hpow hbox]
    · rw [State.deliverLane_of_reset hnext hpow hbox hrun]
      obtain ⟨l2p, hself, hfull⟩ := s.lane_handOver_self x r
      refine ⟨_, rfl, ⟨s.handOver_basin x r, fun y hy => s.lane_handOver_ne r hy⟩, by rw [hself], by rw [hself], by rw [hself, hfull]; rfl, ?_⟩
      rw [State.handOver, State.modLane_warden, State.basinWrite_warden]

end Sys2Proof.Machine

/-! PROOF. The register writes of the pumphouse (R375 to R379): what each clear register clears, and what a write leaves. -/

namespace Sys2Proof

/-! ## Elements changed by the bits of a word -/

/-- The elements 0 to `n - 1` that `named` names changed, one after the other. -/
def sweepNamed {σ : Type} (mod : Nat → σ → σ) (named : Nat → Bool) (n : Nat) (s : σ) : σ :=
  (List.range n).foldl (fun s k => if named k then mod k s else s) s

theorem sweepNamed_succ {σ : Type} (mod : Nat → σ → σ) (named : Nat → Bool) (n : Nat) (s : σ) :
    sweepNamed mod named (n + 1) s = if named n then mod n (sweepNamed mod named n s) else sweepNamed mod named n s := by
  simp [sweepNamed, List.range_succ]

/-- A sweep changes the elements that are named, and no other. -/
theorem get_sweepNamed {σ β : Type} {get : Nat → σ → β} {mod : Nat → σ → σ} {f : β → β} {n : Nat}
    (hself : ∀ k s, k < n → get k (mod k s) = f (get k s)) (hne : ∀ k j s, k < n → j < n → k ≠ j → get j (mod k s) = get j s)
    (named : Nat → Bool) (s : σ) {m : Nat} (hm : m ≤ n) {j : Nat} (hj : j < n) :
    get j (sweepNamed mod named m s) = if j < m ∧ named j then f (get j s) else get j s := by
  induction m with
  | zero => simp [sweepNamed]
  | succ m ih =>
    have ih := ih (by omega)
    rw [sweepNamed_succ]
    by_cases hjm : j = m
    · subst hjm
      cases hnamed : named j
      · simpa [hnamed] using ih
      · simpa [hnamed, hself j _ hj] using congrArg f ih
    · have hlt : j < m ↔ j < m + 1 := by omega
      simp only [hlt] at ih
      split
      · exact (hne m j _ (by omega) hj (Ne.symm hjm)).trans ih
      · exact ih

/-- A property that each change keeps stands after the sweep. -/
theorem sweepNamed_keeps {σ : Type} {mod : Nat → σ → σ} {P : σ → Prop} (hmod : ∀ k s, P s → P (mod k s)) (named : Nat → Bool) (n : Nat) {s : σ}
    (hs : P s) : P (sweepNamed mod named n s) := by
  induction n with
  | zero => exact hs
  | succ n ih =>
    rw [sweepNamed_succ]
    split
    · exact hmod n _ ih
    · exact ih

theorem bit_eq_testBit (v i : Nat) : bit v i = v.testBit i := by
  simp [bit, bits, Nat.testBit_eq_decide_div_mod_eq, beq_eq_decide]

@[simp] theorem bit_toNat {w : Nat} (v : BitVec w) (i : Nat) : bit v.toNat i = v.getLsbD i := bit_eq_testBit ..

/-- A property that the default has, and that every changed value has, is one of every value after the change. -/
theorem Assoc.get_mapVal_of {α : Type} [DecidableEq α] {d : α} {f : α → α} {P : α → Prop} (hd : P d) (hf : ∀ v, P (f v)) (m : Assoc α) (k : Nat) :
    P (Assoc.get d (Assoc.mapVal d f m) k) := by
  induction m with
  | nil => exact hd
  | cons p m ih =>
    by_cases hp : f p.2 = d
    · simpa [Assoc.mapVal, hp] using ih
    · have hcons : Assoc.mapVal d f (p :: m) = (p.1, f p.2) :: Assoc.mapVal d f m := by simp [Assoc.mapVal, hp]
      rw [hcons, Assoc.get]
      split
      · exact hf p.2
      · exact ih

end Sys2Proof

namespace Sys2Proof.Machine

/-! ## The clear registers -/

theorem State.whileServed_of_runs {s : State} (h : s.phRuns = true) (f : State → State) : s.whileServed f = .next (f s) := by
  rw [State.whileServed, if_pos h]

/-- EN_CNT_CLR of a network: every counter of the network. -/
def Net.cleared (t : Net) : Net := { t with rx := 0, tx := 0, filter := 0, arpFail := 0, icmp := 0, lateCnt := 0 }

/-- CN_CNT_CLR of a CAN port: every counter of the port. -/
def CanPort.cleared (c : CanPort) : CanPort :=
  { c with rx := 0, tx := 0, busOffCnt := 0, expired := 0, qfull := 0, refMiss := 0, remote := 0, filter := 0 }

/-- WL_CNT_CLR of a wire link: every counter of the link. -/
def Wire.cleared (w : Wire) : Wire := { w with rx := 0, tx := 0, fcsErr := 0, addrCnt := 0, charErr := 0, abort := 0, long := 0, lateCnt := 0 }

section
variable (s : State) (v : Nat)

theorem State.clearDl_eq : s.clearDl v = sweepNamed (fun r t => t.modRing r Ring.clearCounters) (bit v) 4 s := rfl

theorem State.clearDl_only : s.clearDl v = { s with rings := (s.clearDl v).rings } := by
  rw [State.clearDl_eq]
  exact sweepNamed_keeps (P := fun t : State => t = { s with rings := t.rings }) (fun r t ht => by rw [ht]; rfl) (bit v) 4 rfl

theorem State.ring_clearDl {r : Nat} (hr : r < 4) : (s.clearDl v).ring r = if bit v r then (s.ring r).clearCounters else s.ring r := by
  have hsweep := get_sweepNamed (get := fun r (t : State) => t.ring r) (n := 4) (fun r t _ => t.ring_modRing_self r Ring.clearCounters)
    (fun r q t _ _ h => t.ring_modRing_ne Ring.clearCounters h) (bit v) s le_rfl hr
  simpa only [hr, true_and, ← State.clearDl_eq] using hsweep

/-- A node's error count is cleared with its ring. -/
theorem Ring.node_clearCounters (g : Ring) (a : Nat) : (g.clearCounters.node a).errCnt = 0 :=
  Assoc.get_mapVal_of (d := RingNode.reset) (f := fun n => { n with errCnt := 0 }) (P := fun n => n.errCnt = 0) rfl (fun _ => rfl) g.nodes a

theorem State.clearEn_eq : s.clearEn v = sweepNamed (fun n t => t.modNet (netAt n) Net.cleared) (bit v) 3 s := rfl

theorem State.clearEn_only : s.clearEn v = { s with nets := (s.clearEn v).nets } := by
  rw [State.clearEn_eq]
  exact sweepNamed_keeps (P := fun t : State => t = { s with nets := t.nets }) (fun n t ht => by rw [ht]; cases netAt n <;> rfl) (bit v) 3 rfl

theorem netAt_idx (n : NetId) : netAt n.idx = n := by cases n <;> rfl

theorem netAt_ne {k j : Nat} (hk : k < 3) (hj : j < 3) (h : k ≠ j) : netAt k ≠ netAt j := by
  have hall : ∀ k < 3, ∀ j < 3, k ≠ j → netAt k ≠ netAt j := by decide
  exact hall k hk j hj h

theorem State.net_clearEn (n : NetId) : (s.clearEn v).net n = if bit v n.idx then (s.net n).cleared else s.net n := by
  have hn : n.idx < 3 := by cases n <;> decide
  have hsweep := get_sweepNamed (get := fun k (t : State) => t.net (netAt k)) (n := 3) (fun k t _ => t.net_modNet_self (netAt k) Net.cleared)
    (fun k j t hk hj h => t.net_modNet_ne Net.cleared (netAt_ne hk hj h)) (bit v) s le_rfl hn
  simpa only [hn, true_and, netAt_idx, ← State.clearEn_eq] using hsweep

theorem State.clearCn_eq : s.clearCn v = sweepNamed (fun p t => t.modCan p CanPort.cleared) (bit v) 6 s := rfl

theorem State.clearCn_only : s.clearCn v = { s with can := (s.clearCn v).can } := by
  rw [State.clearCn_eq]
  exact sweepNamed_keeps (P := fun t : State => t = { s with can := t.can }) (fun p t ht => by rw [ht]; rfl) (bit v) 6 rfl

theorem State.canPort_clearCn {p : Nat} (hp : p < 6) : (s.clearCn v).canPort p = if bit v p then (s.canPort p).cleared else s.canPort p := by
  have hsweep := get_sweepNamed (get := fun p (t : State) => t.canPort p) (n := 6) (fun p t _ => t.canPort_modCan_self p CanPort.cleared)
    (fun p q t _ _ h => t.canPort_modCan_ne CanPort.cleared h) (bit v) s le_rfl hp
  simpa only [hp, true_and, ← State.clearCn_eq] using hsweep

theorem State.clearWl_eq : s.clearWl v = sweepNamed (fun l t => t.modLink l Wire.cleared) (bit v) 2 s := rfl

theorem State.clearWl_only : s.clearWl v = { s with wire := (s.clearWl v).wire } := by
  rw [State.clearWl_eq]
  exact sweepNamed_keeps (P := fun t : State => t = { s with wire := t.wire }) (fun l t ht => by rw [ht]; rfl) (bit v) 2 rfl

theorem State.link_clearWl {l : Nat} (hl : l < 2) : (s.clearWl v).link l = if bit v l then (s.link l).cleared else s.link l := by
  have hsweep := get_sweepNamed (get := fun l (t : State) => t.link l) (n := 2) (fun l t _ => t.link_modLink_self l Wire.cleared)
    (fun l k t _ _ h => t.link_modLink_ne Wire.cleared h) (bit v) s le_rfl hl
  simpa only [hl, true_and, ← State.clearWl_eq] using hsweep

end

/-! ## The other registers -/

/-- A run of the external BIST that ends shows DONE, no START, and whether it used the seed (R335). -/
theorem testBit_extDone (b : Bool) : (2 + flag b 2).testBit 0 = false ∧ (2 + flag b 2).testBit 1 = true ∧ (2 + flag b 2).testBit 2 = b := by
  cases b <;> decide

theorem State.phLampTest_of_runs {s : State} (h : s.phRuns = true) (v : BitVec 32) :
    exec (.phLampTest v) s = .next (if s.cfg.rwlFuse then s else s.startLampTest v.toNat) :=
  State.whileServed_of_runs h (fun s => if s.cfg.rwlFuse then s else s.startLampTest v.toNat)

theorem State.phPortDisable_of_runs {s : State} (h : s.phRuns = true) (v : BitVec 32) :
    exec (.phPortDisable v) s = .next (if s.cfg.rwlFuse then s else s.setPortDisable v.toNat) :=
  State.whileServed_of_runs h (fun s => if s.cfg.rwlFuse then s else s.setPortDisable v.toNat)

/-- Settles O55. The clear registers by the law of a sweep over the elements that a word names; the other registers by their equations. -/
theorem registerWritesAndClears : Obligations.RegisterWritesAndClears := by
  intro s hruns
  have hserved := State.whileServed_of_runs hruns
  refine ⟨fun x hopen => congrArg Host.Outcome.next (if_pos hopen), rfl, fun v => ?_, fun v hv => ?_, fun v => ?_, fun v => ?_, fun v => ?_, fun v hv => ?_,
    fun v hv => ?_, fun v => ?_, fun v hfuse => ?_, fun v hfuse => ?_, rfl, fun x v hopen hext hv => ?_, fun x hstart => ?_, fun v => ?_,
    fun addr v hblock => ?_, fun addr hscrub => ?_⟩
  · refine ⟨_, hserved (fun s => s.clearDl v.toNat), s.clearDl_only _, fun r hr => ?_⟩
    rw [s.ring_clearDl _ hr, bit_toNat]
    refine ⟨fun hv => ?_, fun hv => by rw [if_neg (by simp [hv])]⟩
    rw [if_pos hv]
    exact ⟨rfl, rfl, rfl, rfl, rfl, rfl, Ring.node_clearCounters _, rfl⟩
  · exact (hserved (fun s => s.clearXl v.toNat)).trans (congrArg _ (if_pos (by simpa using hv)))
  · refine ⟨_, hserved (fun s => s.clearEn v.toNat), s.clearEn_only _, fun n => ?_⟩
    rw [s.net_clearEn _ n, bit_toNat]
    exact ⟨fun hv => if_pos hv, fun hv => if_neg (by simp [hv])⟩
  · refine ⟨_, hserved (fun s => s.clearCn v.toNat), s.clearCn_only _, fun p hp => ?_⟩
    rw [s.canPort_clearCn _ hp, bit_toNat]
    exact ⟨fun hv => if_pos hv, fun hv => if_neg (by simp [hv])⟩
  · refine ⟨_, hserved (fun s => s.clearWl v.toNat), s.clearWl_only _, fun l hl => ?_⟩
    rw [s.link_clearWl _ hl, bit_toNat]
    exact ⟨fun hv => if_pos hv, fun hv => if_neg (by simp [hv])⟩
  · have hbit : bit v.toNat 0 = true := by simpa using hv
    exact ⟨(hserved (fun s => s.clearPt v.toNat)).trans (congrArg _ (if_pos hbit)), (hserved (fun s => s.clearMb v.toNat)).trans (congrArg _ (if_pos hbit)),
      (hserved (fun s => s.clearBs v.toNat)).trans (congrArg _ (if_pos hbit)), (hserved (fun s => s.clearWd v.toNat)).trans (congrArg _ (if_pos hbit))⟩
  · exact (hserved (fun s => s.clearLk v.toNat)).trans (congrArg _ (if_pos (by simpa using hv)))
  · exact ⟨_, hserved (fun s => s.clearEvent v.toNat), rfl, fun i => testBit_sub_and s.ph.event v.toNat i⟩
  · exact ⟨(State.phLampTest_of_runs hruns v).trans (congrArg _ (if_pos hfuse)), (State.phPortDisable_of_runs hruns v).trans (congrArg _ (if_pos hfuse))⟩
  · have hopen : ¬ s.cfg.rwlFuse = true := by simp [hfuse]
    refine ⟨(State.phPortDisable_of_runs hruns v).trans (congrArg _ ((if_neg hopen).trans ?_)),
      fun hv => (State.phLampTest_of_runs hruns v).trans (congrArg _ ((if_neg hopen).trans (if_pos (by simpa using hv))))⟩
    rw [State.setPortDisable, bits, pow_zero, Nat.div_one]
  · have hctrl : (s.lane x).bi.writeExt v.toNat = { (s.lane x).bi with extCtrl := 1 + (if v.getLsbD 2 then 4 else 0) } := by
      simp [SelfTest.writeExt, hv, flag]
    refine (if_pos (by rw [hruns, hopen, hext]; rfl)).trans (congrArg _ (State.modLane_congr ?_))
    rw [hctrl]
  · have hstart : bit (s.lane x).bi.extCtrl 0 = true := by rwa [bit_eq_testBit]
    refine ⟨_, if_pos hstart, s.onlyLane_modLane x _, ?_⟩
    rw [State.lane_modLane_self, ← bit_eq_testBit (s.lane x).bi.extCtrl 2]
    exact testBit_extDone _
  · exact (if_pos (by rw [hruns]; rfl)).trans (hserved (fun s => s.clearEvent v.toNat)).symm
  · have hsame : s.hostWrite addr.toNat v.toNat none = (s, .unmapped) ∨ s.hostWrite addr.toNat v.toNat none = (s, .readOnly) := by
      rcases hblock with h | h <;> simp [State.hostWrite, h]
    rw [show exec (.registerWrite addr v) s = execRegisterWrite addr v s from rfl, execRegisterWrite]
    split
    · rcases hsame with h | h <;> rw [h]
    · rfl
  · exact ⟨if_neg (by simp [hscrub]), if_neg (by simp [hscrub])⟩

end Sys2Proof.Machine

/-! PROOF. The self-tests of a lane (R329 to R334): the limits of a BIST, the rows repaired, and the slices. -/

namespace Sys2Proof

/-! ## Lists without repetitions -/

theorem nodup_eraseDups {α : Type} [BEq α] [LawfulBEq α] (l : List α) : l.eraseDups.Nodup := by
  induction hn : l.length using Nat.strong_induction_on generalizing l with
  | _ n ih =>
    cases l with
    | nil => simp
    | cons a l =>
      rw [List.eraseDups_cons, List.nodup_cons]
      refine ⟨by simp, ih _ ?_ _ rfl⟩
      have := List.length_filter_le (fun b => !b == a) l
      simp only [List.length_cons] at hn
      omega

theorem length_eraseDups_le {α : Type} [BEq α] [LawfulBEq α] (l : List α) : l.eraseDups.length ≤ l.length :=
  ((nodup_eraseDups l).subperm (fun _ h => List.mem_eraseDups.mp h)).length_le

/-- A fold that keeps the element with the greatest value ends at one whose value none of the list exceeds. -/
theorem foldl_greatest_le {rows : Nat → Nat} (l : List Nat) (w k : Nat) (h : k = w ∨ k ∈ l) :
    rows k ≤ rows (l.foldl (fun w k => if rows w < rows k then k else w) w) := by
  induction l generalizing w k with
  | nil => simp_all
  | cons a l ih =>
    rw [List.foldl_cons]
    have hw : rows w ≤ rows (if rows w < rows a then a else w) ∧ rows a ≤ rows (if rows w < rows a then a else w) := by split <;> omega
    have hstart := ih (if rows w < rows a then a else w) _ (.inl rfl)
    rcases h with rfl | h
    · exact hw.1.trans hstart
    · rcases List.mem_cons.mp h with rfl | h
      · exact hw.2.trans hstart
      · exact ih _ k (.inr h)

end Sys2Proof

namespace Sys2Proof.Machine

/-! ## The repair of rows (R330) -/

/-- The rows repaired in all: those of the factory, then those found failing besides. -/
def repairedRows (factory failing : List (Nat × Nat)) : List (Nat × Nat) :=
  factory.eraseDups ++ failing.eraseDups.filter (fun p => !factory.eraseDups.contains p)

/-- The repaired rows of memory array `k`. -/
def macroRows (factory failing : List (Nat × Nat)) (k : Nat) : Nat := ((repairedRows factory failing).filter (fun p => p.1 == k)).length

section
variable (b : SelfTest) (factory failing : List (Nat × Nat))

theorem mem_repairedRows (p : Nat × Nat) : p ∈ repairedRows factory failing ↔ p ∈ factory ∨ p ∈ failing := by
  by_cases h : p ∈ factory <;> simp [repairedRows, List.mem_eraseDups, h]

/-- A memory array has no more repaired rows than there are rows listed. -/
theorem macroRows_le (k : Nat) : macroRows factory failing k ≤ factory.length + failing.length := by
  have hfactory := length_eraseDups_le factory
  have hfound := (List.length_filter_le (fun p => !factory.eraseDups.contains p) failing.eraseDups).trans (length_eraseDups_le failing)
  have hall := List.length_filter_le (fun p => p.1 == k) (repairedRows factory failing)
  rw [repairedRows, List.length_append] at hall
  unfold macroRows
  rw [repairedRows]
  omega

/-- A memory array has a repaired row for each different row of it that is listed. -/
theorem le_macroRows (k : Nat) : (((factory ++ failing).filter (fun p => p.1 == k)).map (·.2)).eraseDups.length ≤ macroRows factory failing k := by
  rw [macroRows, ← List.length_map (f := fun p : Nat × Nat => p.2)]
  refine ((nodup_eraseDups _).subperm fun row hrow => ?_).length_le
  rw [List.mem_eraseDups] at hrow
  simpa [mem_repairedRows] using hrow

/-- The memory array left with the fewest berm rows. -/
def worstMacro (factory failing : List (Nat × Nat)) : Nat :=
  (List.range 96).foldl (fun w k => if macroRows factory failing w < macroRows factory failing k then k else w) 0

theorem SelfTest.exhausted_repaired : (b.repaired factory failing).exhausted = decide (20 < macroRows factory failing (worstMacro factory failing)) := rfl

theorem SelfTest.not_exhausted_of_few (h : factory.length + failing.length ≤ 20) : (b.repaired factory failing).exhausted = false := by
  have hworst := macroRows_le factory failing (worstMacro factory failing)
  rw [SelfTest.exhausted_repaired, decide_eq_false_iff_not]
  omega

theorem SelfTest.exhausted_of_many {k : Nat} (hk : k < 96)
    (h : 21 ≤ (((factory ++ failing).filter (fun p => p.1 == k)).map (·.2)).eraseDups.length) : (b.repaired factory failing).exhausted = true := by
  have hworst := foldl_greatest_le (rows := macroRows factory failing) (List.range 96) 0 k (.inr (List.mem_range.mpr hk))
  have hrows := le_macroRows factory failing k
  rw [SelfTest.exhausted_repaired, decide_eq_true_iff]
  exact (by omega : 20 < macroRows factory failing k).trans_le hworst

theorem SelfTest.soft_repaired : (b.repaired factory failing).soft = (failing.eraseDups.filter (fun p => decide (p ∉ factory))).length := by
  have hcontains : (fun p => !factory.eraseDups.contains p) = fun p => decide (p ∉ factory) := by
    funext p
    simp [List.mem_eraseDups]
  rw [← hcontains]
  rfl

end

/-! ## The limits of a BIST (R331) -/

/-- Voltage and clock stayed within their limits throughout. -/
def BistInside (b : BistReading) : Prop :=
  (∀ mv ∈ [b.mvLow, b.mvHigh], 808 ≤ mv.toNat ∧ mv.toNat ≤ 892) ∧ (∀ khz ∈ [b.khzLow, b.khzHigh], 99000 ≤ khz.toNat ∧ khz.toNat ≤ 101000)

theorem SelfTest.measured_ok_iff (b : SelfTest) (r : BistReading) (occasion cycle : Nat) :
    ((b.measured r occasion cycle).vcoreOk && (b.measured r occasion cycle).clkOk) = true ↔ BistInside r := by
  simp [SelfTest.measured, bistVoltageOk, bistClockOk, BistInside]

theorem SelfTest.measured_not_ok (b : SelfTest) {r : BistReading} (h : ¬ BistInside r) (occasion cycle : Nat) :
    ((b.measured r occasion cycle).vcoreOk && (b.measured r occasion cycle).clkOk) = false :=
  Bool.eq_false_iff.mpr ((b.measured_ok_iff r occasion cycle).not.mpr h)

/-! ## The outcome of a BIST (R332) -/

theorem Lane.judged_passed (l : Lane) (x : LaneId) : l.judged x 1 = l := if_pos rfl

theorem Lane.bi_judged (l : Lane) (x : LaneId) (result : Nat) : (l.judged x result).bi = l.bi := by
  unfold Lane.judged
  split <;> rfl

theorem Lane.pe_judged (l : Lane) (x : LaneId) (result : Nat) : (l.judged x result).pe = l.pe := by
  unfold Lane.judged
  split <;> rfl

theorem Lane.fail_judged {l : Lane} {result : Nat} (hresult : result ≠ 1) (hstate : l.vt.state ≠ .rotationTest) (x : LaneId) :
    (l.judged x result).rc.fail = 7 := by
  rw [Lane.judged, if_neg (by simp [hresult, hstate])]
  rfl

section
variable {s : State} {x : LaneId} (hreq : (s.lane x).rc.resetReq = none) (hpow : (s.lane x).rc.powered = true) (hbist : (s.lane x).rc.bist = true)
  (b : BistReading)
include hreq hpow hbist

/-- What the self-test has measured at a BIST of lane `x`. -/
def Lane.measuredBy (l : Lane) (b : BistReading) : SelfTest := l.bi.measured b l.occasion l.rc.causeCycle

/-- The result of a logic BIST. -/
def Lane.logicResult (l : Lane) (sg : BitVec 64) (b : BistReading) : Nat :=
  if !((l.measuredBy b).vcoreOk && (l.measuredBy b).clkOk) then 3 else if sg = l.ls.otpSig then 1 else 2

theorem execLogicBist_eq (hrel : (s.lane x).rc.released.getLsbD 0 = true) (hlogic : (s.lane x).bi.logic = 0) (sg : BitVec 64) :
    exec (.logicBist x sg b) s = .next (s.modLane x (fun l =>
      { l with bi := { (s.lane x).measuredBy b with logic := (s.lane x).logicResult sg b } }.judged x ((s.lane x).logicResult sg b))) := by
  change execLogicBist x sg b s = _
  rw [execLogicBist, State.pendingReset_of_none hreq]
  exact if_neg (by simp [hpow, hbist, hrel, hlogic])

/-- The self-test after a memory BIST, its result aside. -/
def Lane.memoryTested (l : Lane) (failing : List (Nat × Nat)) (b : BistReading) : SelfTest :=
  if (l.measuredBy b).vcoreOk && (l.measuredBy b).clkOk then (l.measuredBy b).repaired l.ls.otpRows failing else l.measuredBy b

/-- The result of a memory BIST. -/
def Lane.memoryResult (l : Lane) (failing : List (Nat × Nat)) (b : BistReading) : Nat :=
  if !((l.measuredBy b).vcoreOk && (l.measuredBy b).clkOk) then 3 else if (l.memoryTested failing b).exhausted then 2 else 1

theorem execMemoryBist_eq (hrel : (s.lane x).rc.released.getLsbD 1 = true) (hmemory : (s.lane x).bi.memory = 0) (failing : List (Nat × Nat)) :
    exec (.memoryBist x failing b) s = .next (s.modLane x (fun l =>
      { l with bi := { (s.lane x).memoryTested failing b with memory := (s.lane x).memoryResult failing b } }.judged x
        ((s.lane x).memoryResult failing b))) := by
  change execMemoryBist x failing b s = _
  rw [execMemoryBist, State.pendingReset_of_none hreq]
  exact if_neg (by simp [hpow, hbist, hrel, hmemory])

end

section
variable (l : Lane) {b : BistReading} {failing : List (Nat × Nat)}

theorem Lane.logicResult_of_inside (h : BistInside b) (sg : BitVec 64) : l.logicResult sg b = if sg = l.ls.otpSig then 1 else 2 :=
  if_neg (by simpa [Lane.measuredBy] using (SelfTest.measured_ok_iff ..).mpr h)

theorem Lane.logicResult_of_outside (h : ¬ BistInside b) (sg : BitVec 64) : l.logicResult sg b = 3 :=
  if_pos (by rw [Lane.measuredBy, SelfTest.measured_not_ok _ h]; rfl)

theorem Lane.memoryTested_of_inside (h : BistInside b) : l.memoryTested failing b = (l.measuredBy b).repaired l.ls.otpRows failing :=
  if_pos ((SelfTest.measured_ok_iff ..).mpr h)

theorem Lane.memoryTested_of_outside (h : ¬ BistInside b) : l.memoryTested failing b = l.measuredBy b :=
  if_neg ((SelfTest.measured_ok_iff ..).not.mpr h)

theorem Lane.memoryResult_of_inside (h : BistInside b) :
    l.memoryResult failing b = if ((l.measuredBy b).repaired l.ls.otpRows failing).exhausted then 2 else 1 := by
  rw [Lane.memoryResult, l.memoryTested_of_inside h]
  exact if_neg (by simpa [Lane.measuredBy] using (SelfTest.measured_ok_iff ..).mpr h)

theorem Lane.memoryResult_of_outside (h : ¬ BistInside b) : l.memoryResult failing b = 3 :=
  if_pos (by rw [Lane.measuredBy, SelfTest.measured_not_ok _ h]; rfl)

end

/-! ## Test slices (R333, R334) -/

theorem Lane.runsSlices_of_start {l : Lane} (hrel : l.rc.released.getLsbD 7 = true) (hstate : l.vt.state ∈ [LaneState.reset, .stopped, .failed]) :
    l.runsSlices = true := by
  simp only [List.mem_cons, List.not_mem_nil, or_false] at hstate
  rcases hstate with h | h | h <;> simp [Lane.runsSlices, hrel, h]

section
variable {s : State} {x : LaneId} {cls : SliceClass} {item : BitVec 8} (hreq : (s.lane x).rc.resetReq = none)
include hreq

theorem execTestSlice_of_done (hdone : (s.lane x).bi.done.contains (cls.code, item.toNat) = true) (passed : Bool) :
    exec (.testSlice x cls item passed) s = .next s := by
  change execTestSlice x cls item passed s = _
  rw [execTestSlice, State.pendingReset_of_none hreq]
  exact if_pos (by rw [hdone, Bool.or_true])

/-- Whether the slice was to test the closing of a switch element and may not. -/
def State.closingBarred (s : State) (x : LaneId) (cls : SliceClass) (item : Nat) : Bool :=
  (cls == .element || cls == .groupElement) && !s.mayClose x cls item

/-- The state once the slice of an item has been run. -/
def State.sliceRun (s : State) (x : LaneId) (cls : SliceClass) (item : Nat) (passed : Bool) : State :=
  s.modLane x (fun l => { l with bi := (s.lane x).bi.slice cls.code item passed (s.closingBarred x cls item) })

theorem execTestSlice_of_start (hrel : (s.lane x).rc.released.getLsbD 7 = true) (hstate : (s.lane x).vt.state ∈ [LaneState.reset, .stopped, .failed])
    (hitem : item.toNat < cls.items) (hdone : (s.lane x).bi.done.contains (cls.code, item.toNat) = false) (passed : Bool) :
    exec (.testSlice x cls item passed) s = .next (if !passed && decide ((s.lane x).bi.failed = 0)
      then (s.sliceRun x cls item.toNat passed).modLane x (·.bistFailed x) else s.sliceRun x cls item.toNat passed) := by
  change execTestSlice x cls item passed s = _
  rw [execTestSlice, State.pendingReset_of_none hreq]
  refine (if_neg (by rw [Lane.runsSlices_of_start hrel hstate, hdone]; simpa using hitem)).trans ?_
  simp only [List.mem_cons, List.not_mem_nil, or_false] at hstate
  cases hfirst : !passed && decide ((s.lane x).bi.failed = 0) <;> rcases hstate with h | h | h <;> simp only [h] <;> rfl

end

/-! ## What a slice enters -/

section
variable (b : SelfTest) (cls item : Nat) (closing : Bool)

theorem SelfTest.slice_passed : b.slice cls item true closing =
    { b with done := (cls, item) :: b.done, passed := if closing then b.passed else b.passed + 1,
             notTested := if closing then b.notTested + 1 else b.notTested,
             slices := if b.failed ≠ 0 then 2 else if (b.slice cls item true closing).allRun then 1 else b.slices } := by
  cases closing <;> rfl

theorem SelfTest.slice_failed (h : b.failed = 0) : b.slice cls item false closing =
    { b with done := (cls, item) :: b.done, failed := 1, sliceFail := fld cls 28 4 + fld item 0 8, slices := 2 } := by
  simp [SelfTest.slice, h]

end

/-- Settles O43. Each test by its law: the results inside and outside the limits, the rows repaired, and what a slice enters. -/
theorem selfTestsJudgeTheLane : Obligations.SelfTestsJudgeTheLane := by
  intro s x l hreq
  refine ⟨fun sg b hpow hbist hrel hlogic => ?_, fun failing b hpow hbist hrel hmemory => ?_, fun cls item hrel hstate => ?_⟩
  · intro inside
    have hinside : inside ↔ BistInside b := Iff.rfl
    refine ⟨_, execLogicBist_eq hreq hpow hbist b hrel hlogic sg, s.onlyLane_modLane x _, ?_⟩
    rw [State.lane_modLane_self, Lane.bi_judged, Lane.pe_judged]
    by_cases hin : BistInside b
    · rw [l.logicResult_of_inside hin]
      refine ⟨(if_pos hin).symm, rfl, fun hpass => ?_, fun hnot hstate => Lane.fail_judged ?_ (by exact hstate) x⟩
      · rw [if_pos hpass.2, Lane.judged_passed]
      · rw [if_neg (fun hsg => hnot ⟨hin, hsg⟩)]
        decide
    · rw [l.logicResult_of_outside hin]
      exact ⟨(if_neg hin).symm, rfl, fun hpass => absurd hpass.1 hin, fun _ hstate => Lane.fail_judged (by decide) (by exact hstate) x⟩
  · have hexec := execMemoryBist_eq hreq hpow hbist b hrel hmemory failing
    refine ⟨fun hinside hfew => ⟨_, hexec, s.onlyLane_modLane x _, ?_⟩, fun k hinside hk hmany => ⟨_, hexec, s.onlyLane_modLane x _, ?_⟩,
      fun houtside => ⟨_, hexec, s.onlyLane_modLane x _, ?_⟩⟩ <;> rw [State.lane_modLane_self]
    · have hfree := (l.measuredBy b).not_exhausted_of_few _ _ hfew
      rw [l.memoryResult_of_inside hinside, l.memoryTested_of_inside hinside, hfree, if_neg Bool.false_ne_true, Lane.judged_passed]
      exact ⟨rfl, hfree, rfl, SelfTest.soft_repaired (l.measuredBy b) _ _, rfl⟩
    · have hfull := (l.measuredBy b).exhausted_of_many _ _ hk hmany
      rw [l.memoryResult_of_inside hinside, l.memoryTested_of_inside hinside, hfull, if_pos rfl, Lane.bi_judged]
      exact ⟨rfl, hfull⟩
    · rw [l.memoryResult_of_outside houtside, l.memoryTested_of_outside houtside, Lane.bi_judged]
      exact ⟨rfl, rfl, rfl⟩
  · refine ⟨fun hdone passed => execTestSlice_of_done hreq hdone passed, fun hitem hdone => ?_⟩
    intro closing
    have hclosing : s.closingBarred x cls item.toNat = decide closing := by simp [State.closingBarred, closing, Bool.decide_and, Bool.decide_or, beq_eq_decide]
    refine ⟨⟨_, execTestSlice_of_start hreq hrel hstate hitem hdone true, s.onlyLane_modLane x _, ?_⟩, fun hfirst => ?_⟩
    · rw [if_neg (by simp), State.sliceRun, State.lane_modLane_self, hclosing]
      have hslice := l.bi.slice_passed cls.code item.toNat (decide closing)
      refine ⟨congrArg SelfTest.done hslice, (congrArg SelfTest.passed hslice).trans ?_, (congrArg SelfTest.notTested hslice).trans ?_, rfl,
        fun hfirst hall => (congrArg SelfTest.slices hslice).trans ?_⟩
      · simp only [decide_eq_true_eq]
      · simp only [decide_eq_true_eq]
      · exact (if_neg (by simp [hfirst])).trans (if_pos hall)
    · have hexec := execTestSlice_of_start hreq hrel hstate hitem hdone false
      rw [if_pos (by simpa using hfirst), State.sliceRun, State.modLane_modLane] at hexec
      refine ⟨_, hexec, s.onlyLane_modLane x _, ?_⟩
      rw [State.lane_modLane_self, SelfTest.slice_failed _ _ _ _ hfirst]
      exact ⟨rfl, rfl, rfl, rfl⟩

end Sys2Proof.Machine

/-! PROOF. The laws of the resets (R318 to R322): what the reset of a lane, of the pumphouse and of the unit leaves. -/

namespace Sys2Proof.Machine

/-! ## One lane (R319, R321) -/

/-- A lane once the lane `x` has been reset: what it reads of that lane's queue is learned anew (R317). -/
def Lane.forgets (l : Lane) (x : LaneId) : Lane := { l with rc := { l.rc with rxLane := l.rc.rxLane.modify x QueueRx.stale } }

/-- A lane's reset, counted in its protected area where the MRAM has its rail. -/
def Lane.resetCounted (l : Lane) (source : Nat) (rail : Bool) : Lane :=
  { l.resetBy source with ls := if rail then { (l.resetBy source).ls with resetCnt := Assoc.upd 0 (l.resetBy source).ls.resetCnt source sat }
                                else (l.resetBy source).ls }

section
variable (s : State) (x : LaneId) (source : Nat)

/-- The reset of a lane before it is counted, with the locks it leaves. -/
def State.resetWith (s : State) (x : LaneId) (source : Nat) (k : Locks) : State :=
  { s.modLane x (·.resetBy source) with locks := k }.forgetLane x

theorem State.lane_forgetLane (y : LaneId) : (s.forgetLane x).lane y = if y = x then s.lane y else (s.lane y).forgets x :=
  State.lane_mapLanes ..

theorem State.lane_resetWith (k : Locks) (y : LaneId) :
    (s.resetWith x source k).lane y = if y = x then (s.lane x).resetBy source else (s.lane y).forgets x := by
  rw [State.resetWith, State.lane_forgetLane, State.lane_withLocks]
  by_cases h : y = x
  · subst h
    rw [if_pos rfl, if_pos rfl, State.lane_modLane_self]
  · rw [if_neg h, if_neg h, State.lane_modLane_ne _ _ h]

theorem State.areaWrite_cases (f : Sequencer → Sequencer) :
    s.areaWrite x f = if s.ph.powered then s.modLane x (fun l => { l with ls := f l.ls }) else s := by
  cases h : s.ph.powered
  · exact if_neg (by rw [h, Bool.and_false]; decide)
  · exact State.areaWrite_of_powered h x f

/-- The reset of a lane, counted where the MRAM has its rail. -/
def State.resetCounted (s : State) (x : LaneId) (source : Nat) (k : Locks) : State :=
  (s.resetWith x source k).areaWrite x (fun q => { q with resetCnt := Assoc.upd 0 q.resetCnt source sat })

theorem State.resetOne_eq : s.resetOne x source = s.resetCounted x source (s.locks.dropMasters [x.num] (s.opMicros 0)) := rfl

theorem State.resetCounted_only (k : Locks) : s.resetCounted x source k =
    { s with lanes := (s.resetCounted x source k).lanes, locks := k, ph := { s.ph with rxLane := s.ph.rxLane.modify x QueueRx.stale } } := by
  rw [State.resetCounted, State.areaWrite_cases]
  split <;> rfl

/-- The reset of a lane changes the lanes, the locks, and what the pumphouse knows of the lane's queue. -/
theorem State.resetOne_only : s.resetOne x source =
    { s with lanes := (s.resetOne x source).lanes, locks := (s.resetOne x source).locks
             ph := { s.ph with rxLane := s.ph.rxLane.modify x QueueRx.stale } } := by
  rw [State.resetOne_eq]
  generalize s.locks.dropMasters [x.num] (s.opMicros 0) = k
  rw [State.resetCounted_only]

theorem State.lane_resetOne (y : LaneId) :
    (s.resetOne x source).lane y = if y = x then (s.lane x).resetCounted source s.ph.powered else (s.lane y).forgets x := by
  rw [State.resetOne_eq]
  generalize s.locks.dropMasters [x.num] (s.opMicros 0) = k
  have hbefore := s.lane_resetWith x source k y
  have hrail : (s.resetWith x source k).ph.powered = s.ph.powered := rfl
  rw [State.resetCounted, State.areaWrite_cases, hrail]
  by_cases h : y = x
  · subst h
    rw [if_pos rfl] at hbefore
    cases hp : s.ph.powered
    · rw [if_neg Bool.false_ne_true, hbefore, if_pos rfl]; rfl
    · rw [if_pos rfl, State.lane_modLane_self, hbefore, if_pos rfl]; rfl
  · rw [if_neg h] at hbefore ⊢
    split
    · rw [State.lane_modLane_ne _ _ h, hbefore]
    · exact hbefore

/-- What follows a lane's reset where it was in service changes no lane. -/
theorem State.lane_resetLane (y : LaneId) :
    (s.resetLane x source).lane y = if y = x then (s.lane x).resetCounted source s.ph.powered else (s.lane y).forgets x := by
  have hlanes : (s.resetLane x source).lanes = (s.resetOne x source).lanes := by
    unfold State.resetLane
    dsimp only
    split <;> simp
  rw [← s.lane_resetOne x source y, State.lane, hlanes, State.lane]

theorem State.lane_resetLane_self : (s.resetLane x source).lane x = (s.lane x).resetCounted source s.ph.powered := by
  rw [State.lane_resetLane, if_pos rfl]

theorem State.lane_resetLane_ne {y : LaneId} (h : y ≠ x) : (s.resetLane x source).lane y = (s.lane y).forgets x := by
  rw [State.lane_resetLane, if_neg h]

theorem State.ph_notice (code : Nat) (ps : List Nat) : (s.notice code ps).ph = s.ph := by rw [State.notice_only]

theorem State.ph_maskNotice (old : Mask) (gone : Option LaneId) : (s.maskNotice old gone).ph = s.ph := by
  unfold State.maskNotice
  split
  · rfl
  · exact State.ph_notice ..

/-- What the pumphouse does once a lane has left service leaves its queues. -/
theorem State.rxLane_settleService : s.settleService.ph.rxLane = s.ph.rxLane := by
  unfold State.settleService
  split
  · unfold State.failSafe
    rw [State.ph_notice, State.ph_notice]
  · split <;> rfl

theorem State.rxLane_resetLane : (s.resetLane x source).ph.rxLane = s.ph.rxLane.modify x QueueRx.stale := by
  have hone : (s.resetOne x source).ph.rxLane = s.ph.rxLane.modify x QueueRx.stale := by rw [State.resetOne_only]
  unfold State.resetLane
  dsimp only
  split
  · rw [State.rxLane_settleService, State.ph_maskNotice, hone]
  · exact hone

end

end Sys2Proof.Machine

/-! PROOF. Reset sources (R312, R313, R321, R326, R339, R356): a lane's, the pumphouse's and the unit's. -/

namespace Sys2Proof.Machine

/-! ## What a lane's reset leaves (R319, R321, Table 13-4) -/

section
variable (l : Lane) (x : LaneId) (source : Nat) (rail : Bool)

theorem Lane.vt_resetCounted : (l.resetCounted source rail).vt = l.vt.resetBy source := rfl

theorem Lane.rc_resetCounted : (l.resetCounted source rail).rc = l.rc.resetBy source l.td.cycle (l.vt.state == .rotationTest) := rfl

theorem Lane.io_resetCounted : (l.resetCounted source rail).io = LaneIO.reset := rfl

theorem Lane.snap0_resetCounted : (l.resetCounted source rail).ls.snap0 = l.ls.snap0 := by cases rail <;> rfl

theorem Lane.pe_resetCounted_power : (l.resetCounted 1 rail).pe = Engine.reset := rfl

theorem Lane.resetCnt_resetCounted :
    Assoc.get 0 (l.resetCounted source rail).ls.resetCnt source = if rail then sat (Assoc.get 0 l.ls.resetCnt source) else Assoc.get 0 l.ls.resetCnt source := by
  cases rail
  · rfl
  · exact Assoc.get_upd_self 0 l.ls.resetCnt source sat

theorem Vote.minCnt_resetBy (v : Vote) (h : source ≠ 1) : (v.resetBy source).minCnt = v.minCnt := by
  have hcounts : v.resetBy source = { v.resetBy source with minCnt := v.minCnt } := by
    unfold Vote.resetBy
    dsimp only
    rw [if_neg h]
  rw [hcounts]

/-- A power-on of the lane alone ends neither FAILED nor STOPPED (R136, R153). -/
theorem Vote.state_resetBy_power (v : Vote) : (v.resetBy 1).state = if v.state = .failed then .failed else if v.state = .stopped then .stopped else .reset := by
  have hstate : (v.resetBy 1).state = match v.state with
    | .failed => .failed
    | .stopped => .stopped
    | _ => .reset := by
    unfold Vote.resetBy
    cases v.state <;> rfl
  rw [hstate]
  cases v.state <;> rfl

/-- A unit start ends every state of a lane (R136, R153). -/
theorem Vote.state_resetBy_unit (v : Vote) (h : unitSource source = true) : (v.resetBy source).state = .reset := by
  have hfour : source ≠ 4 := by rintro rfl; exact absurd h (by decide)
  unfold Vote.resetBy
  dsimp only
  cases v.state <;> simp only [h, hfour, if_true, if_false] <;> split <;> rfl

end

/-! ## Brown-outs and watchdogs (R312, R326) -/

section
variable {s : State} {x : LaneId}

/-- A lane's brown-out is the reset of the lane, which then is without supply. -/
theorem exec_laneBrownOut (hpow : (s.lane x).rc.powered = true) :
    ∃ t, exec (.laneBrownOut x) s = .next t ∧
      t.lane x = { (s.lane x).resetCounted 1 s.ph.powered with rc := { ((s.lane x).resetCounted 1 s.ph.powered).rc with powered := false } } ∧
      ∀ y, y ≠ x → t.lane y = (s.lane y).forgets x := by
  have hself := (s.resetLane x 1).lane_modLane_self x (fun l => { l with rc := { l.rc with powered := false } })
  rw [s.lane_resetLane_self x 1] at hself
  have hrest : ∀ y, y ≠ x → ((s.resetLane x 1).modLane x (fun l => { l with rc := { l.rc with powered := false } })).lane y = (s.lane y).forgets x :=
    fun y hy => ((s.resetLane x 1).lane_modLane_ne _ hy).trans (s.lane_resetLane_ne x 1 hy)
  refine ⟨_, if_neg (by rw [hpow]; decide), ?_⟩
  split
  · exact ⟨hself, hrest⟩
  · exact ⟨hself, hrest⟩

theorem exec_laneWatchdog (hpow : (s.lane x).rc.powered = true) (hrel : (s.lane x).rc.released.getLsbD 3 = true) :
    exec (.laneWatchdog x) s = .next (s.resetLane x 3) :=
  if_pos (by rw [hpow, hrel]; rfl)

theorem State.lane_resetPhFrom (source : Nat) (lamps : Lamps) (x : LaneId) :
    (s.resetPhFrom source lamps).lane x = (s.lane x).phReset (source == 1) := by
  rw [State.lane, State.resetPhFrom, PerLane.get_map]
  rfl

theorem State.lane_withUpd (s : State) (u : Update) (x : LaneId) : State.lane { s with upd := u } x = s.lane x := rfl

theorem exec_pumphouseBrownOut (hpow : s.ph.powered = true) :
    exec .pumphouseBrownOut s = .next { s.resetPh 1 with ph := { (s.resetPh 1).ph with powered := false } } :=
  if_neg (by rw [hpow]; decide)

theorem exec_pumphouseWatchdog {core : Fin 4} (hpow : s.ph.powered = true) (hcore : bit s.ph.cores core.val = true) :
    exec (.pumphouseWatchdog core) s = .next { s.resetPh 3 with upd := { (s.resetPh 3).upd with trialRun := 0 } } :=
  if_pos (by rw [hpow, hcore]; rfl)

end

/-- What the pumphouse shows after its watchdog has reset it (R326, R327). -/
theorem Pumphouse.resetBy_watchdog (p : Pumphouse) (lamps : Lamps) : (p.resetBy 3 lamps).source = 3 ∧ (p.resetBy 3 lamps).released = p.released &&& 1 ∧
    (p.resetBy 3 lamps).pass = true ∧ (p.resetBy 3 lamps).unitOk = p.unitOk ∧
    Assoc.get 0 (p.resetBy 3 lamps).resetCnt 3 = sat (Assoc.get 0 p.resetCnt 3) :=
  ⟨rfl, rfl, rfl, Bool.and_true _, Assoc.get_upd_self 0 p.resetCnt 3 sat⟩

/-! ## The requests withdrawn with a unit start (R121) -/

/-- From `s` to `t` only the host mailboxes and the change log's queue have changed. -/
def State.MailAndQueue (s t : State) : Prop := ∃ m q, t = { s with mail := m, cfg := { s.cfg with logQueue := q } }

theorem State.MailAndQueue.refl (s : State) : s.MailAndQueue s := ⟨s.mail, s.cfg.logQueue, rfl⟩

theorem State.MailAndQueue.trans {s t u : State} (h : s.MailAndQueue t) (k : t.MailAndQueue u) : s.MailAndQueue u := by
  obtain ⟨m, q, rfl⟩ := h
  obtain ⟨m', q', rfl⟩ := k
  exact ⟨m', q', rfl⟩

theorem State.MailAndQueue.foldl {α : Type} {f : State → α → State} (hf : ∀ (s : State) (a : α), s.MailAndQueue (f s a)) (l : List α) (s : State) :
    s.MailAndQueue (l.foldl f s) :=
  List.foldlRecOn l f (.refl s) (fun _ ht a _ => ht.trans (hf _ a))

theorem State.mailAndQueue_ackWithdrawn (s : State) (mb : Nat) : s.MailAndQueue (s.ackWithdrawn mb) := by
  unfold State.ackWithdrawn
  split
  next h =>
    simp only [Bool.and_eq_true, beq_iff_eq] at h
    rw [State.ackOut_of_full h.2]
    exact ⟨_, s.cfg.logQueue, rfl⟩
  · exact .refl s

theorem State.mailAndQueue_pushPlain (s : State) (kind operator cycle code : Nat) (mailbox : Option Nat) :
    s.MailAndQueue (s.pushPlain kind operator cycle code mailbox) := ⟨s.mail, _, rfl⟩

theorem State.withdrawPending_only (s : State) : ∃ m q, s.withdrawPending =
    { s with mail := m, unit := { s.unit with pend := [], reqs := [] }, cfg := { s.cfg with logQueue := q } } := by
  unfold State.withdrawPending
  extract_lets t u queue
  have ht : s.MailAndQueue t := .foldl (fun v p => (v.mailAndQueue_pushPlain _ _ _ _ _).trans (State.mailAndQueue_ackWithdrawn _ _)) _ _
  obtain ⟨m, q, hu⟩ : s.MailAndQueue u := ht.trans (.foldl (fun v (q : Nat × Option Request) => v.mailAndQueue_ackWithdrawn q.1) _ _)
  refine ⟨m, queue, ?_⟩
  clear_value queue u
  subst hu
  rfl

/-! ## A unit start (R321, R339, R341, R356) -/

/-- What a unit start decides of a lane. -/
structure LaneStart where
  powered  : Bool
  source   : Nat
  released : BitVec 8
  state    : LaneState
  io       : LaneIO
  snap0    : Option Snapshot

/-- What a lane shows of a unit start. -/
def Lane.atStart (l : Lane) : LaneStart :=
  { powered := l.rc.powered, source := l.rc.source, released := l.rc.released, state := l.vt.state, io := l.io, snap0 := l.ls.snap0 }

theorem Lane.atStart_forgets (l : Lane) (x : LaneId) : (l.forgets x).atStart = l.atStart := rfl

theorem Lane.atStart_phReset (l : Lane) (power : Bool) : (l.phReset power).atStart = l.atStart := rfl

theorem Lane.atStart_startsAnew {l : Lane} (h : l.vt.state = .reset) : l.startsAnew.atStart = l.atStart := by
  rw [Lane.startsAnew, if_neg (by simp [h])]

/-- What a lane with supply shows once a unit start has reset it. -/
def LaneStart.begun (a : LaneStart) (source : Nat) : LaneStart :=
  { a with source := source, released := a.released &&& 1, state := .reset, io := LaneIO.reset }

theorem Lane.atStart_resetCounted (l : Lane) (rail : Bool) {source : Nat} (h : unitSource source = true) :
    (l.resetCounted source rail).atStart = l.atStart.begun source := by
  have hone : source ≠ 1 := by rintro rfl; exact absurd h (by decide)
  have hreleased : (l.resetCounted source rail).rc.released = l.rc.released &&& 1 := if_neg hone
  have hstate : (l.resetCounted source rail).vt.state = .reset := Vote.state_resetBy_unit source l.vt h
  rw [Lane.atStart, hreleased, hstate, Lane.snap0_resetCounted]
  rfl

/-- A lane reset with a unit start, where it has supply. -/
def State.resetPowered (source : Nat) (s : State) (x : LaneId) : State := if (s.lane x).rc.powered then s.resetOne x source else s

section
variable (s : State) {source : Nat}

theorem State.atStart_resetPowered_self {x : LaneId} (h : unitSource source = true) (hpow : (s.lane x).rc.powered = true) :
    ((s.resetPowered source x).lane x).atStart = (s.lane x).atStart.begun source := by
  rw [State.resetPowered, if_pos hpow, State.lane_resetOne, if_pos rfl, Lane.atStart_resetCounted _ _ h]

theorem State.atStart_resetPowered_ne {x y : LaneId} (h : x ≠ y) : ((s.resetPowered source y).lane x).atStart = (s.lane x).atStart := by
  unfold State.resetPowered
  split
  · rw [State.lane_resetOne, if_neg h, Lane.atStart_forgets]
  · rfl

/-- A unit start resets each lane that has supply, and leaves of it what its own reset leaves. -/
theorem State.atStart_resetAll {x : LaneId} (h : unitSource source = true) (hpow : (s.lane x).rc.powered = true) :
    ((LaneId.list.foldl (State.resetPowered source) s).lane x).atStart = (s.lane x).atStart.begun source := by
  have hpow' {t : State} (ht : (t.lane x).atStart = (s.lane x).atStart) : (t.lane x).rc.powered = true :=
    (congrArg LaneStart.powered ht).trans hpow
  simp only [LaneId.list, List.foldl_cons, List.foldl_nil]
  cases x
  · rw [State.atStart_resetPowered_ne _ (by decide), State.atStart_resetPowered_ne _ (by decide), State.atStart_resetPowered_self s h hpow]
  · have hbefore := s.atStart_resetPowered_ne (source := source) (x := .b) (y := .a) (by decide)
    rw [State.atStart_resetPowered_ne _ (by decide), State.atStart_resetPowered_self _ h (hpow' hbefore), hbefore]
  · have hbefore := ((s.resetPowered source .a).atStart_resetPowered_ne (source := source) (x := .c) (y := .b) (by decide)).trans
      (s.atStart_resetPowered_ne (by decide))
    rw [State.atStart_resetPowered_self _ h (hpow' hbefore), hbefore]

/-- From `s` to `t` only the lanes, the locks and what the pumphouse knows of the lanes' queues have changed. -/
def State.LanesAndLocks (s t : State) : Prop := ∃ lanes locks rx, t = { s with lanes := lanes, locks := locks, ph := { s.ph with rxLane := rx } }

theorem State.lanesAndLocks_resetAll : s.LanesAndLocks (LaneId.list.foldl (State.resetPowered source) s) := by
  refine List.foldlRecOn (motive := fun t => s.LanesAndLocks t) _ _ ⟨s.lanes, s.locks, s.ph.rxLane, rfl⟩ (fun t ht x _ => ?_)
  unfold State.resetPowered
  split
  · obtain ⟨lanes, locks, rx, rfl⟩ := ht
    exact ⟨_, _, _, State.resetOne_only _ x source⟩
  · exact ht

/-- A unit made fresh, before the change of its role is posted. -/
def State.freshened (s : State) (source : Nat) (started : Mask) : State :=
  let t := (s.withdrawPending.mapLanes (fun _ l => l.startsAnew)).newChallenge
  { t with unit := { UnitState.reset with startKind := source, started := started }
           upd := { t.upd with activation := if t.upd.activation = 1 then 0 else t.upd.activation, trialRun := 0 } }

theorem State.freshUnit_eq (started : Mask) : s.freshUnit source started =
    if (s.withdrawPending.mapLanes (fun _ l => l.startsAnew)).newChallenge.unit.role == .starting then s.freshened source started
    else (s.freshened source started).notice 1 [Role.starting.code, 0] := rfl

theorem State.freshened_only (started : Mask) : ∃ (m : HostMail) (q : List LogItem), s.freshened source started =
    { s.mapLanes (fun _ l => l.startsAnew) with
      mail := m, fresh := s.fresh + 1
      cfg := { s.cfg with logQueue := q, challenge := Config.freeChallenge s.fresh }
      unit := { UnitState.reset with startKind := source, started := started }
      upd := { s.upd with activation := if s.upd.activation = 1 then 0 else s.upd.activation, trialRun := 0 } } := by
  obtain ⟨m, q, hw⟩ := s.withdrawPending_only
  rw [State.freshened, hw]
  exact ⟨m, q, rfl⟩

/-- A unit made fresh while the pumphouse's cores are in reset: no notice is posted. -/
theorem State.freshUnit_of_reset (started : Mask) (hrun : s.coresRun = false) : s.freshUnit source started = s.freshened source started := by
  obtain ⟨m, q, hfresh⟩ := s.freshened_only (source := source) started
  have hrun' : (s.freshened source started).coresRun = false := by rw [hfresh]; exact hrun
  rw [State.freshUnit_eq]
  split
  · rfl
  · exact if_pos (by rw [hrun']; rfl)

theorem State.coresRun_resetPhFrom (lamps : Lamps) (h : source ≠ 1) : (s.resetPhFrom source lamps).coresRun = false := by
  have hreleased : (s.resetPhFrom source lamps).ph.released = s.ph.released &&& 1 := if_neg h
  rw [State.coresRun, hreleased]
  simp

end

/-- The state in which a unit start finds the unit fresh: the requests withdrawn, the lanes and the pumphouse reset. -/
def State.unitReset (s : State) (source : Nat) : State :=
  if (LaneId.list.foldl (State.resetPowered source) s.withdrawPending).ph.powered then
    (LaneId.list.foldl (State.resetPowered source) s.withdrawPending).resetPhFrom source s.lamps
  else LaneId.list.foldl (State.resetPowered source) s.withdrawPending

theorem State.unitStart_eq (s : State) (source : Nat) : s.unitStart source = (s.unitReset source).freshUnit source (PerLane.all false) := rfl

section
variable (s : State) {source : Nat}

/-- What the resets of a unit start leave: the cores do not run, and neither the basin nor the free values have changed. -/
theorem State.unitReset_leaves (h : source ≠ 1) : (s.unitReset source).coresRun = false ∧ (s.unitReset source).basin = s.basin ∧
    (s.unitReset source).fresh = s.fresh := by
  obtain ⟨m, q, hwithdrawn⟩ := s.withdrawPending_only
  obtain ⟨lanes, locks, rx, hreset⟩ := s.withdrawPending.lanesAndLocks_resetAll (source := source)
  have hbasin : (LaneId.list.foldl (State.resetPowered source) s.withdrawPending).basin = s.basin := by rw [hreset, hwithdrawn]
  have hfresh : (LaneId.list.foldl (State.resetPowered source) s.withdrawPending).fresh = s.fresh := by rw [hreset, hwithdrawn]
  unfold State.unitReset
  split
  next hpow =>
    exact ⟨State.coresRun_resetPhFrom _ _ h, (if_neg (by simpa using h)).trans hbasin, hfresh⟩
  next hpow =>
    exact ⟨by simp [State.coresRun, hpow], hbasin, hfresh⟩

theorem State.atStart_unitReset {x : LaneId} (h : unitSource source = true) (hpow : (s.lane x).rc.powered = true) :
    ((s.unitReset source).lane x).atStart = (s.lane x).atStart.begun source := by
  obtain ⟨m, q, hwithdrawn⟩ := s.withdrawPending_only
  have hlane : s.withdrawPending.lane x = s.lane x := by rw [hwithdrawn]; rfl
  have hall := s.withdrawPending.atStart_resetAll (x := x) h (by rwa [hlane])
  rw [hlane] at hall
  unfold State.unitReset
  split
  · rw [State.lane_resetPhFrom, Lane.atStart_phReset, hall]
  · exact hall

/-- A unit start (R321): the unit begins anew with its kind and a new challenge, every lane with supply is reset, and the basin stays. -/
theorem State.unitStart_leaves (h : unitSource source = true) :
    (s.unitStart source).unit = { UnitState.reset with startKind := source, started := PerLane.all false } ∧
      (s.unitStart source).basin = s.basin ∧ (s.unitStart source).cfg.challenge = Config.freeChallenge s.fresh ∧ (s.unitStart source).upd.trialRun = 0 ∧
      ∀ x, (s.lane x).rc.powered = true → ((s.unitStart source).lane x).rc.source = source ∧ ((s.unitStart source).lane x).vt.state = .reset ∧
        ((s.unitStart source).lane x).io = LaneIO.reset ∧ ((s.unitStart source).lane x).rc.released = (s.lane x).rc.released &&& 1 ∧
        ((s.unitStart source).lane x).ls.snap0 = (s.lane x).ls.snap0 := by
  have hone : source ≠ 1 := by rintro rfl; exact absurd h (by decide)
  obtain ⟨hrun, hbasin, hfresh⟩ := s.unitReset_leaves hone
  obtain ⟨m, q, hfreshened⟩ := (s.unitReset source).freshened_only (source := source) (PerLane.all false)
  rw [State.unitStart_eq, State.freshUnit_of_reset _ _ hrun, hfreshened]
  refine ⟨rfl, hbasin, congrArg Config.freeChallenge hfresh, rfl, fun x hpow => ?_⟩
  have hstart := s.atStart_unitReset h hpow
  have hreset : ((s.unitReset source).lane x).vt.state = .reset := congrArg LaneStart.state hstart
  have hlane := ((s.unitReset source).lane_mapLanes x (fun _ l => l.startsAnew)).symm
  have hanew := (congrArg Lane.atStart hlane).symm.trans ((Lane.atStart_startsAnew hreset).trans hstart)
  exact ⟨congrArg LaneStart.source hanew, congrArg LaneStart.state hanew, congrArg LaneStart.io hanew, congrArg LaneStart.released hanew,
    congrArg LaneStart.snap0 hanew⟩

end

section
variable (s : State) {source : Nat}

/-- What the resets of a unit start leave of an update's outcome (R354, Table 14-12). -/
theorem State.upd_unitReset : (s.unitReset source).upd.activation = s.upd.activation ∧ (s.unitReset source).upd.fallbacks = s.upd.fallbacks ∧
    (s.unitReset source).upd.fellBack = s.upd.fellBack := by
  obtain ⟨m, q, hwithdrawn⟩ := s.withdrawPending_only
  obtain ⟨lanes, locks, rx, hreset⟩ := s.withdrawPending.lanesAndLocks_resetAll (source := source)
  have hupd : (LaneId.list.foldl (State.resetPowered source) s.withdrawPending).upd = s.upd := by rw [hreset, hwithdrawn]
  unfold State.unitReset
  split
  · exact ⟨(congrArg Update.activation hupd :), (congrArg Update.fallbacks hupd :), (congrArg Update.fellBack hupd :)⟩
  · exact ⟨congrArg Update.activation hupd, congrArg Update.fallbacks hupd, congrArg Update.fellBack hupd⟩

/-- A unit start ends the wait of an activation, and keeps every other outcome of an update (R356). -/
theorem State.upd_unitStart (h : source ≠ 1) : (s.unitStart source).upd.activation = (if s.upd.activation = 1 then 0 else s.upd.activation) ∧
    (s.unitStart source).upd.fallbacks = s.upd.fallbacks ∧ (s.unitStart source).upd.fellBack = s.upd.fellBack := by
  obtain ⟨hrun, -, -⟩ := s.unitReset_leaves h
  obtain ⟨hactivation, hfallbacks, hfellBack⟩ := s.upd_unitReset (source := source)
  obtain ⟨m, q, hfreshened⟩ := (s.unitReset source).freshened_only (source := source) (PerLane.all false)
  rw [State.unitStart_eq, State.freshUnit_of_reset _ _ hrun, hfreshened]
  exact ⟨by rw [hactivation], hfallbacks, hfellBack⟩

end

theorem exec_softwareResetExecute_due {s : State} {kind apply : Nat} (hat : s.unit.resetAt = some (kind, apply))
    (hdue : apply ≤ s.cycle ∨ s.cyclesRun = false) :
    exec .softwareResetExecute s =
      .next (State.unitStart { s with unit := { s.unit with resetAt := none, pend := s.unit.pend.filter (fun p => p.format != 0x13) } } (if kind = 2 then 6 else 5)) := by
  change execSoftwareResetExecute s = _
  simp only [execSoftwareResetExecute, hat]
  exact if_pos (by simpa using hdue)

theorem unitSource_cases {k : Nat} (h : k = 2 ∨ k = 5 ∨ k = 6) : unitSource k = true := by rcases h with rfl | rfl | rfl <;> rfl

/-- Settles O41. A lane's and the pumphouse's resets by their laws; a unit start by what its resets leave and by the fresh unit that follows. -/
theorem resetSourcesResetTheirPart : Obligations.ResetSourcesResetTheirPart := by
  intro s stale
  refine ⟨fun x hpow => ?_, fun x hpow hrel => ?_, fun hpow => ?_, fun core hpow hcore => ?_, fun x => rfl, fun hpow => ?_, fun c k hc => ?_⟩
  · obtain ⟨t, hexec, hself, hrest⟩ := exec_laneBrownOut hpow
    refine ⟨t, hexec, ?_⟩
    rw [hself]
    exact ⟨rfl, rfl, rfl, rfl, rfl, Vote.state_resetBy_power _, Lane.snap0_resetCounted .., hrest⟩
  · refine ⟨_, exec_laneWatchdog hpow hrel, ?_⟩
    rw [State.lane_resetLane_self]
    exact ⟨rfl, rfl, rfl, Vote.minCnt_resetBy _ _ (by decide), Lane.resetCnt_resetCounted .., fun y hy => State.lane_resetLane_ne _ _ _ hy⟩
  · exact ⟨_, exec_pumphouseBrownOut hpow, rfl, rfl, rfl, rfl, rfl, fun x =>
      have hlane := s.lane_resetPhFrom 1 s.lamps x
      ⟨(congrArg Lane.pe hlane :), (congrArg Lane.vt hlane :), (congrArg Lane.io hlane :)⟩⟩
  · obtain ⟨hsource, hreleased, hpass, hunitOk, hcnt⟩ := s.ph.resetBy_watchdog s.lamps
    exact ⟨_, exec_pumphouseWatchdog hpow hcore, hsource, hreleased, hpass, hunitOk, rfl, rfl, rfl, hcnt,
      fun x => (State.lane_withUpd _ _ x).trans (s.lane_resetPhFrom 3 s.lamps x)⟩
  · refine ⟨_, if_neg (by simp [hpow]), rfl, rfl, Assoc.get_upd_self 0 s.ph.resetCnt 1 sat, rfl, rfl, rfl, fun x => ?_⟩
    have hlane := State.lane_mapLanes s x (fun _ l => { l with mb := { l.mb with l2p := [], p2l := [] } })
    exact ⟨congrArg (·.mb.l2p) hlane, congrArg (·.mb.p2l) hlane, (congrArg Lane.pe hlane :), (congrArg Lane.vt hlane :)⟩
  · rcases hc with ⟨rfl, rfl⟩ | ⟨rfl, hat, rfl⟩ | ⟨rfl, kind, apply, hat, hdue, rfl⟩
    · exact ⟨_, rfl, s.unitStart_leaves rfl⟩
    · exact ⟨_, congrArg Host.Outcome.next (if_pos hat), s.unitStart_leaves rfl⟩
    · refine ⟨_, exec_softwareResetExecute_due hat hdue, ?_⟩
      exact State.unitStart_leaves _ (unitSource_cases (by split <;> simp))

end Sys2Proof.Machine

/-! PROOF. Options and queues (R317, R319, R324, R325, R336): the loader, the exchange, the start words and the words of a queue. -/

namespace Sys2Proof.Machine

/-! ## The option loader (R324) -/

theorem strapsStable_replicate (t : StrapReading) : strapsStable (List.replicate 16 t) = true := by
  simp [strapsStable, List.replicate]

/-- A good record and equal straps of a permitted unit give a lane its options. -/
theorem Lane.rc_loadOptions_good (l : Lane) (x : LaneId) {gradeL : Bool} {t : StrapReading} {copyA : List Byte} (copyB : List Byte)
    (h0 : t.unitId ≠ 0) (h255 : t.unitId ≠ 255) (hrec : recordOk x.num gradeL copyA = true) :
    (l.loadOptions x gradeL (List.replicate 16 t) copyA copyB).rc =
      { l.rc with opts := l.newOptions t copyA false, optPhase := false, optDone := true } := by
  have hunit : ¬ (t.unitId = 0#8 ∨ t.unitId = 255#8) := by simpa using ⟨h0, h255⟩
  unfold Lane.loadOptions
  rw [strapsStable_replicate, List.replicate_succ]
  simp only [hrec, hunit, Bool.not_true, Bool.false_and, Bool.false_eq_true, if_false, if_true, ne_eq, not_true_eq_false]
  split <;> rfl

theorem Lane.loadOptions_unequal (l : Lane) (x : LaneId) (gradeL : Bool) {straps : List StrapReading} (copyA copyB : List Byte)
    (h : strapsStable straps = false) :
    l.loadOptions x gradeL straps copyA copyB =
      if 64 ≤ l.rc.optRestarts then { l with rc := { l.rc with fail := 3, optPhase := false } }
      else { l with rc := { l.rc with optRestarts := l.rc.optRestarts + 1 } } := by
  unfold Lane.loadOptions
  rw [h]
  rfl

section
variable {s : State} {x : LaneId}

theorem execOptionLoading_lane (hreq : (s.lane x).rc.resetReq = none) (hpow : (s.lane x).rc.powered = true)
    (hrel : (s.lane x).rc.released.getLsbD 2 = true) (hdone : (s.lane x).rc.optDone = false) (hfail : (s.lane x).rc.fail = 0)
    (straps : List StrapReading) (copyA copyB : List Byte) :
    exec (.optionLoading (.lane x) straps copyA copyB) s = .next (s.modLane x (fun l => l.loadOptions x s.cfg.gradeL straps copyA copyB)) := by
  change execOptionLoading (.lane x) straps copyA copyB s = _
  simp only [execOptionLoading, State.pendingReset_of_none hreq]
  exact if_neg (by simp [hpow, hrel, hdone, hfail])

theorem execOptionLoading_pumphouse (hpow : s.ph.powered = true) (hrel : s.ph.released.getLsbD 2 = true) (hdone : s.ph.optDone = false)
    (t : StrapReading) (copyA copyB : List Byte) :
    let a := recordOk 4 s.cfg.gradeL copyA
    let b := recordOk 4 s.cfg.gradeL copyB
    exec (.optionLoading .pumphouse (List.replicate 16 t) copyA copyB) s = .next { s with ph := { s.ph with
      optDone := true, optDefault := !a && !b, opts := phOptions t (if a then copyA else if b then copyB else []) (!a && b) } } := by
  intro a b
  change execOptionLoading .pumphouse _ copyA copyB s = _
  simp only [execOptionLoading, strapsStable_replicate]
  exact if_neg (by simp [hpow, hrel, hdone])

end

/-! ## The exchange of options (R325, R336, R139) -/

theorem State.oddLane_iff (s : State) (y : LaneId) : s.oddLane y = true ↔
    (∀ z ∈ y.peers, (s.lane z).linked = true) ∧
      ((∀ z ∈ y.peers, (s.lane z).rc.opts.shared ≠ (s.lane y).rc.opts.shared) ∨ (∀ z ∈ y.peers, (s.lane z).ls.life ≠ (s.lane y).ls.life)) := by
  simp [State.oddLane, List.all_eq_true]

/-- A lane's tide unit with the delays of the links to the peers `ys`. -/
def TideUnit.withDelays (td : TideUnit) (delays : PerLane (BitVec 32)) (ys : List LaneId) : TideUnit :=
  ys.foldl (fun t y => { t with linkDelay := t.linkDelay.set y (some (delays.get y).toNat) }) td

theorem TideUnit.linkDelay_withDelays (td : TideUnit) (delays : PerLane (BitVec 32)) {ys : List LaneId} {y : LaneId} (h : y ∈ ys) :
    (td.withDelays delays ys).linkDelay.get y = some (delays.get y).toNat := by
  induction ys using List.reverseRecOn with
  | nil => simp at h
  | append_singleton ys z ih =>
    have hstep : (td.withDelays delays (ys ++ [z])).linkDelay = (td.withDelays delays ys).linkDelay.set z (some (delays.get z).toNat) := by
      rw [TideUnit.withDelays, List.foldl_concat]
      rfl
    rw [hstep, PerLane.get_set]
    split
    next hy => rw [hy]
    next hy => exact ih (by simpa [hy] using h)

section
variable (s : State) (x : LaneId) (delays : PerLane (BitVec 32))

/-- The lanes once lane `x` has the delays of its links. -/
def State.delaysKnown (s : State) (x : LaneId) (delays : PerLane (BitVec 32)) : State :=
  s.modLane x (fun l => { l with td := l.td.withDelays delays (x.peers.filter (fun y => (s.lane y).linked)) })

theorem State.lane_delaysKnown (y : LaneId) : ∃ td, (s.delaysKnown x delays).lane y = { s.lane y with td := td } := by
  by_cases h : y = x
  · subst h; exact ⟨_, s.lane_modLane_self y _⟩
  · exact ⟨_, s.lane_modLane_ne _ h⟩

theorem State.linkDelay_delaysKnown {y : LaneId} (hy : y ∈ x.peers) (hlinked : (s.lane y).linked = true) :
    ((s.delaysKnown x delays).lane x).td.linkDelay.get y = some (delays.get y).toNat := by
  rw [State.delaysKnown, State.lane_modLane_self]
  exact (s.lane x).td.linkDelay_withDelays delays (List.mem_filter.mpr ⟨hy, hlinked⟩)

theorem State.oddLane_delaysKnown (y : LaneId) : (s.delaysKnown x delays).oddLane y = s.oddLane y := by
  have hlane : ∀ z, ((s.delaysKnown x delays).lane z).rc = (s.lane z).rc ∧ ((s.delaysKnown x delays).lane z).ls = (s.lane z).ls := fun z => by
    obtain ⟨td, h⟩ := s.lane_delaysKnown x delays z
    rw [h]
    exact ⟨rfl, rfl⟩
  simp only [State.oddLane, Lane.linked, hlane]

/-- The state once lane `x` and its peers have exchanged their options. -/
def State.optionsKnown (s : State) (x : LaneId) (delays : PerLane (BitVec 32)) : State :=
  { (s.delaysKnown x delays).mapLanes (fun y l => if l.linked then { l with rc := l.rc.exchanged ((s.delaysKnown x delays).oddLane y) } else l) with
    unit := { s.unit with options := s.unit.options.set x (some (s.lane x).rc.opts) } }

/-- A linked lane is judged by its options and life-cycle state; the delays aside, an exchange changes nothing else. -/
theorem State.lane_optionsKnown (y : LaneId) : (s.optionsKnown x delays).lane y =
    if (s.lane y).linked then { (s.delaysKnown x delays).lane y with rc := (s.lane y).rc.exchanged (s.oddLane y) } else (s.delaysKnown x delays).lane y := by
  obtain ⟨td, htd⟩ := s.lane_delaysKnown x delays y
  have hlinked : ((s.delaysKnown x delays).lane y).linked = (s.lane y).linked := by rw [htd]; rfl
  have hrc : ((s.delaysKnown x delays).lane y).rc = (s.lane y).rc := by rw [htd]
  refine (State.lane_mapLanes _ y _).trans ?_
  rw [hlinked, s.oddLane_delaysKnown, hrc]

theorem execOptionExchange_linked (h : (s.lane x).linked = true) : exec (.optionExchange x delays) s = .next (s.optionsKnown x delays) := by
  change execOptionExchange x delays s = _
  refine (if_neg (by simp [h])).trans (congrArg Host.Outcome.next ?_)
  have hopts : ((s.optionsKnown x delays).lane x).rc.opts = (s.lane x).rc.opts := by
    rw [State.lane_optionsKnown, if_pos h]
    rfl
  rw [State.optionsKnown, ← hopts]
  rfl

end

/-! ## The start words (R319) -/

/-- Whether every neighbour of lane `x` that is up has written its start word (R319, log entry 53). -/
def State.neighboursStarted (s : State) (x : LaneId) : Bool :=
  (s.lane x).rc.rxPh.live && x.peers.all (fun y => !(s.lane y).linksUp || ((s.lane x).rc.rxLane.get y).live)

section
variable (s : State) (x : LaneId)

/-- The sluice of a lane in its handshake opens once every neighbour that is up has written its start word, and nothing else changes. -/
theorem State.settleSluice_of_handshake (h : (s.lane x).rc.sluice = .handshake) :
    s.settleSluice x = s.modLane x (fun l => { l with rc := { l.rc with sluice := if s.neighboursStarted x then .opened else .handshake } }) := by
  have heq : s.settleSluice x = if (s.lane x).rc.sluice == .handshake && s.neighboursStarted x then
      s.modLane x (fun l => { l with rc := { l.rc with sluice := .opened } }) else s := rfl
  rw [heq, h]
  cases hall : s.neighboursStarted x
  · have hfixed : s.modLane x (fun l => { l with rc := { l.rc with sluice := .handshake } }) = s := State.modLane_fixed (by rw [← h])
    exact hfixed.symm
  · rfl

/-- The start words exchanged between lane `x` and the pumphouse. -/
def State.phStarted (s : State) (x : LaneId) : State :=
  let ph := { s.ph with startLane := s.ph.startLane.modify x (· + 1) }
  let t := s.modLane x (fun l => { l with rc := { l.rc with rxPh := QueueRx.started (ph.genLane x) } })
  { t with ph := { ph with rxLane := ph.rxLane.set x (QueueRx.learned (t.lane x).rc.genPh) } }

theorem State.lane_phStarted_self : (s.phStarted x).lane x = { s.lane x with rc := { (s.lane x).rc with rxPh := QueueRx.started ((s.phStarted x).ph.genLane x) } } :=
  s.lane_modLane_self x _

theorem State.rxLane_phStarted : (s.phStarted x).ph.rxLane.get x = QueueRx.learned (s.lane x).rc.genPh := by
  refine (PerLane.get_set_self ..).trans ?_
  rw [State.lane_modLane_self]
  rfl

theorem State.lane_phStarted_ne {y : LaneId} (h : y ≠ x) : (s.phStarted x).lane y = s.lane y := s.lane_modLane_ne _ h

theorem LaneId.ne_of_mem_peers {x y : LaneId} (h : y ∈ x.peers) : y ≠ x := by
  revert h
  cases x <;> cases y <;> decide

theorem State.neighboursStarted_phStarted : (s.phStarted x).neighboursStarted x =
    x.peers.all (fun y => !(s.lane y).linksUp || ((s.lane x).rc.rxLane.get y).live) := by
  rw [State.neighboursStarted, State.lane_phStarted_self]
  have hpeer : ∀ y ∈ x.peers, ((s.phStarted x).lane y).linksUp = (s.lane y).linksUp := fun y hy => by
    rw [State.lane_phStarted_ne _ _ (LaneId.ne_of_mem_peers hy)]
  refine (Bool.true_and _).trans (Bool.eq_iff_iff.mpr ?_)
  simp only [List.all_eq_true]
  exact forall₂_congr fun y hy => by rw [hpeer y hy]

theorem execSluiceReopen_pumphouse (hshake : (s.lane x).rc.sluice = .handshake) (hrel : s.ph.released.getLsbD 6 = true) :
    exec (.sluiceReopen (.lane x) .pumphouse) s = .next ((s.phStarted x).settleSluice x) := by
  have heq : s.reopenLane x .pumphouse =
      if (s.lane x).rc.sluice != .handshake || !s.ph.released.getLsbD 6 then s else (s.phStarted x).settleSluice x := rfl
  change Host.Outcome.next (s.reopenLane x .pumphouse) = _
  rw [heq, hshake, hrel]
  rfl

end

/-! ## The words of a queue (R317, R318) -/

theorem QueueRx.accepts_iff (q : QueueRx) (w : QueueWord) : q.accepts w = true ↔
    q.live = true ∧ w.parityOk = true ∧ w.gen.val = q.gen ∧ w.tag.val = (match q.tag with
      | some n => (n + 1) % 16
      | none => 0) := by
  simp only [QueueRx.accepts, Bool.and_eq_true, decide_eq_true_eq, and_assoc] <;> rfl

section
variable {s : State} {x : LaneId} {w : QueueWord}

/-- A word at the pumphouse's closed sluice is counted (R318). -/
theorem execQueueWordReceive_closed (h : s.ph.sluice = .closed) :
    exec (.queueWordReceive (.lane x) .pumphouse w) s = .next { s with ph := { s.ph with sluiceErr := sat s.ph.sluiceErr } } := by
  change execQueueWordReceive (.lane x) .pumphouse w s = _
  simp [execQueueWordReceive, Pumphouse.word, h]

theorem execQueueWordReceive_accepted (h : s.ph.sluice ≠ .closed) (hgood : (s.ph.rxLane.get x).accepts w = true) :
    exec (.queueWordReceive (.lane x) .pumphouse w) s =
      .next (State.delivered { s with ph := { s.ph with rxLane := s.ph.rxLane.set x ((s.ph.rxLane.get x).take w) } } (.lane x) .pumphouse (s.ph.rxLane.get x) w) := by
  change execQueueWordReceive (.lane x) .pumphouse w s = _
  simp [execQueueWordReceive, Pumphouse.word, h, hgood]

theorem execQueueWordReceive_discarded (h : s.ph.sluice ≠ .closed) (hbad : (s.ph.rxLane.get x).accepts w = false) :
    exec (.queueWordReceive (.lane x) .pumphouse w) s =
      .next { s with ph := { s.ph with rxLane := s.ph.rxLane.set x (s.ph.rxLane.get x).drop, discards := sat s.ph.discards } } := by
  change execQueueWordReceive (.lane x) .pumphouse w s = _
  simp [execQueueWordReceive, Pumphouse.word, h, hbad]

end

/-! ## The statement -/

theorem exec_laneWatchdog_closed {s : State} {x : LaneId} (hpow : (s.lane x).rc.powered = true) (hrel : (s.lane x).rc.released.getLsbD 3 = true) :
    ∃ t, exec (.laneWatchdog x) s = .next t ∧ (t.lane x).rc.sluice = .closed ∧ (t.lane x).rc.gen = ((s.lane x).rc.gen + 1) % 4 ∧
      (t.ph.rxLane.get x).live = false := by
  refine ⟨_, exec_laneWatchdog hpow hrel, ?_⟩
  rw [State.lane_resetLane_self, State.rxLane_resetLane, PerLane.get_modify_self]
  exact ⟨rfl, rfl, rfl⟩

/-- The options exchanged: what a linked lane shows, by whether it differs from both others. -/
theorem ResetUnit.exchanged_cases (r : ResetUnit) {odd : Bool} {p : Prop} (h : odd = true ↔ p) :
    (p → r.fail = 0 → (r.exchanged odd).fail = 5) ∧ (¬ p → r.fail = 5 → (r.exchanged odd).fail = 0) ∧
      (p ∧ r.fail ≠ 0 ∨ ¬ p ∧ r.fail ≠ 5 → r.exchanged odd = r) := by
  refine ⟨fun hp hfail => ?_, fun hp hfail => ?_, fun hsame => ?_⟩
  · simp [ResetUnit.exchanged, h.mpr hp, hfail]
  · simp [ResetUnit.exchanged, Bool.eq_false_iff.mpr (h.not.mpr hp), hfail]
  · rcases hsame with ⟨hp, hfail⟩ | ⟨hp, hfail⟩
    · simp [ResetUnit.exchanged, h.mpr hp, hfail]
    · simp [ResetUnit.exchanged, Bool.eq_false_iff.mpr (h.not.mpr hp), hfail]

/-- Settles O44. The loader, the exchange, the start words and the words of a queue, each by its law. -/
theorem optionsAndQueuesComeUp : Obligations.OptionsAndQueuesComeUp := by
  intro s
  refine ⟨fun x straps copyA copyB hreq hpow hrel hdone hfail => ?_, fun t0 copyA copyB hpow hrel hdone => ?_, fun x delays hunlinked => ?_,
    fun x delays hlinked => ?_, fun x hshake hrel => ?_, fun x hpow hrel => exec_laneWatchdog_closed hpow hrel, fun x w => ?_⟩
  · have hexec := execOptionLoading_lane hreq hpow hrel hdone hfail straps copyA copyB
    refine ⟨fun t0 hstraps h0 h255 hrec => ⟨_, hexec, s.onlyLane_modLane x _, ?_⟩, fun hunequal => ⟨_, hexec, s.onlyLane_modLane x _, ?_⟩⟩
    · rw [State.lane_modLane_self, hstraps, Lane.rc_loadOptions_good _ _ _ h0 h255 hrec]
      exact ⟨rfl, rfl, rfl, rfl, rfl, hfail⟩
    · rw [State.lane_modLane_self, Lane.loadOptions_unequal _ _ _ _ _ hunequal]
      split
      · exact ⟨rfl, hdone, rfl⟩
      · exact ⟨rfl, hdone, hfail⟩
  · refine ⟨_, execOptionLoading_pumphouse hpow hrel hdone t0 copyA copyB, rfl, rfl, rfl, rfl, fun hA => ?_, fun hA hB => ?_⟩
    · simp only [hA]
      exact ⟨rfl, rfl⟩
    · simp only [hA, hB]
      exact ⟨rfl, rfl⟩
  · exact if_pos (by rw [hunlinked]; rfl)
  · refine ⟨_, execOptionExchange_linked s x delays hlinked, PerLane.get_set_self .., fun y hy hylinked => ?_, fun y hylinked => ?_, fun y hyunlinked => ?_,
      fun y => ?_⟩
    · rw [State.lane_optionsKnown, if_pos hlinked]
      exact s.linkDelay_delaysKnown x delays hy hylinked
    · rw [State.lane_optionsKnown, if_pos hylinked]
      exact ResetUnit.exchanged_cases _ (s.oddLane_iff y)
    · have hyx : y ≠ x := by rintro rfl; simp [hlinked] at hyunlinked
      rw [State.lane_optionsKnown, if_neg (by simp [hyunlinked])]
      exact s.lane_modLane_ne _ hyx
    · obtain ⟨td, htd⟩ := s.lane_delaysKnown x delays y
      rw [State.lane_optionsKnown, htd]
      split <;> exact ⟨rfl, rfl, rfl⟩
  · have hsettle := (s.phStarted x).settleSluice_of_handshake x (by rw [State.lane_phStarted_self]; exact hshake)
    rw [State.neighboursStarted_phStarted] at hsettle
    refine ⟨_, execSluiceReopen_pumphouse s x hshake hrel, ?_⟩
    rw [hsettle, State.lane_modLane_self, State.lane_phStarted_self]
    refine ⟨rfl, PerLane.get_modify_self .., rfl, s.rxLane_phStarted x, fun y hy => ?_⟩
    rw [State.lane_modLane_ne _ _ hy, State.lane_phStarted_ne _ _ hy]
  · intro q good
    have hgood : q.accepts w = true ↔ good := q.accepts_iff w
    refine ⟨execQueueWordReceive_closed, fun hopen hg hlast => ?_, fun hopen hg hlast => ?_, fun hopen hg => ?_⟩
    · rw [execQueueWordReceive_accepted hopen (hgood.mpr hg)]
      simp [State.delivered, QueueRx.take, hlast, q]
    · rw [execQueueWordReceive_accepted hopen (hgood.mpr hg)]
      simp [State.delivered, QueueRx.take, hlast, State.emit, q]
    · exact execQueueWordReceive_discarded hopen (Bool.eq_false_iff.mpr (hgood.not.mpr hg))

end Sys2Proof.Machine

/-! PROOF. The change log's entries, the commit and the fallback of firmware, and the issue floor (R347, R348, R353, R358, R359). -/

namespace Sys2Proof.Machine

/-! ## Writes to the protected areas -/

theorem State.mapLanes_congr {s : State} {f g : LaneId → Lane → Lane} (h : ∀ x, f x (s.lane x) = g x (s.lane x)) : s.mapLanes f = s.mapLanes g := by
  have hlanes : s.lanes.mapId f = s.lanes.mapId g := PerLane.ext_get fun x => by
    rw [PerLane.get_mapId, PerLane.get_mapId]
    exact h x
  rw [State.mapLanes, hlanes, State.mapLanes]

theorem State.mapLanes_fixed {s : State} {f : LaneId → Lane → Lane} (h : ∀ x, f x (s.lane x) = s.lane x) : s.mapLanes f = s := by
  have hlanes : s.lanes.mapId f = s.lanes := PerLane.ext_get fun x => by
    rw [PerLane.get_mapId]
    exact h x
  rw [State.mapLanes, hlanes]

/-- Without its rail the MRAM takes no write (R313). -/
theorem State.areasWrite_of_unpowered {s : State} (h : s.ph.powered = false) (f : LaneId → Lane → Sequencer) : s.areasWrite f = s := by
  have harea : ∀ (x : LaneId) (g : Sequencer → Sequencer), s.areaWrite x g = s := fun x g => if_neg (by rw [h, Bool.and_false]; decide)
  simp only [State.areasWrite, LaneId.list, List.foldl_cons, List.foldl_nil, harea]

/-! ## An entry of the change log (R347, R348) -/

/-- The lanes that keep the chain, once they have gone on to entry `n` under the chaining value `v`. -/
def State.chained (s : State) (n : Nat) (v : List Byte) : State :=
  s.mapLanes (fun x l => { l with ls := if s.chainLanes.contains x then { l.ls with logSeq := n, logChain := v } else l.ls })

section
variable (s : State) (n : Nat) (v : List Byte)

theorem State.lane_chained_of_mem {x : LaneId} (h : x ∈ s.chainLanes) :
    ((s.chained n v).lane x).ls.logSeq = n ∧ ((s.chained n v).lane x).ls.logChain = v := by
  rw [State.chained, State.lane_mapLanes, if_pos (by simpa using h)]
  exact ⟨rfl, rfl⟩

theorem State.lane_chained_of_not_mem {x : LaneId} (h : x ∉ s.chainLanes) : (s.chained n v).lane x = s.lane x := by
  rw [State.chained, State.lane_mapLanes, if_neg (by simpa using h)]

end

theorem State.onLogged_of_event {i : LogItem} (h : i.mailbox = none) (s : State) (seq : Option Nat) : s.onLogged i seq = s := by
  simp only [State.onLogged, h]

theorem State.mramWrite_changeLog {s : State} (h : s.ph.powered = true) (write : State → State) : s.mramWrite .pumphouse .changeLog write = write s :=
  if_pos (by rw [h]; rfl)

/-- The configuration once an entry has been taken from the queue and written as `bs`. -/
def Config.entered (c : Config) (i : LogItem) (rest : List LogItem) (n : Nat) (bs : List Byte) : Config :=
  { c with logQueue := rest, log := Assoc.put [] c.log (n % 4096) bs, overlaySeq := if i.merged then n + 1 else c.overlaySeq }

theorem Config.log_entered_self (c : Config) (i : LogItem) (rest : List LogItem) (n : Nat) (bs : List Byte) :
    Assoc.get [] (c.entered i rest n bs).log (n % 4096) = bs := Assoc.get_put_self ..

theorem Config.log_entered_ne (c : Config) (i : LogItem) (rest : List LogItem) {n k : Nat} (bs : List Byte) (h : k ≠ n % 4096) :
    Assoc.get [] (c.entered i rest n bs).log k = Assoc.get [] c.log k := Assoc.get_put_ne h.symm

/-- An entry that no request waits for, written under its chained digest. -/
theorem exec_changeLogEntryWrite_of_event {s : State} {i : LogItem} {rest : List LogItem} {n : Nat} {chain : List Byte} (hrun : s.coresRun = true)
    (hqueue : s.cfg.logQueue = i :: rest) (hmailbox : i.mailbox = none) (hhead : s.chainHead = some (n, chain)) :
    let h := entryHead s i (n + 1)
    let v := shake256 32 (chain ++ h)
    exec (.changeLogEntryWrite true) s = .next { s.chained (n + 1) v with cfg := s.cfg.entered i rest n (h ++ v) } := by
  intro h v
  have hpow := State.powered_of_coresRun hrun
  have hhead' : State.chainHead { s with cfg := { s.cfg with logQueue := rest } } = some (n, chain) := hhead
  change execChangeLogEntryWrite true s = _
  simp only [execChangeLogEntryWrite, hqueue, hrun, Bool.not_true, Bool.false_eq_true, if_false, hhead', State.onLogged_of_event hmailbox]
  rw [State.mramWrite_changeLog (by exact hpow), State.areasWrite_of_powered (by exact hpow)]
  split
  next hmerged =>
    rw [State.configWrite_of_powered (by exact hpow)]
    simp only [Config.entered, hmerged, if_true]
    rfl
  next hmerged =>
    simp only [Config.entered, hmerged]
    rfl

/-! ## The commit of firmware (R359) -/

/-- The lanes once every firmware on trial in them has committed. -/
def State.lanesCommitted (s : State) : State :=
  s.mapLanes (fun _ l => { l with ls := if l.ls.fw.onTrial then { l.ls with fw := l.ls.fw.commit } else l.ls })

/-- The entry of a firmware's commit (R347). -/
def State.commitEntry (s : State) (f : Firmware) : LogItem := eventItem 0x21 (s.cycle % 2 ^ 32) (f.idle.digest.take 32) (f.run.digest.take 32)

/-- The entries of a commit: one of the lanes, that of the first whose firmware is on trial, and one of the pumphouse. -/
def State.commitEntries (s : State) : List LogItem :=
  (match LaneId.list.filter (fun x => (s.lane x).ls.fw.onTrial) with
    | x :: _ => [s.commitEntry (s.lane x).ls.fw]
    | [] => []) ++ if s.ph.fw.onTrial then [s.commitEntry s.ph.fw] else []

theorem State.kind_of_mem_commitEntries {s : State} {i : LogItem} (h : i ∈ s.commitEntries) : i.kind = 0x21 := by
  rcases List.mem_append.mp h with h | h <;> split at h
  · rw [List.mem_singleton.mp h]; rfl
  · simp at h
  · rw [List.mem_singleton.mp h]; rfl
  · simp at h

theorem State.length_commitEntries {s : State} (h : ∃ x, (s.lane x).ls.fw.onTrial = true) :
    s.commitEntries.length = if s.ph.fw.onTrial then 2 else 1 := by
  obtain ⟨x, hx⟩ := h
  unfold State.commitEntries
  cases hlanes : LaneId.list.filter (fun x => (s.lane x).ls.fw.onTrial) with
  | nil => exact absurd hlanes (List.ne_nil_of_mem (List.mem_filter.mpr ⟨by cases x <;> decide, hx⟩))
  | cons y ys =>
    dsimp only
    split <;> rfl

/-- What is entered in the change log's queue. -/
def State.queued (s : State) (is : List LogItem) : State := { s with cfg := { s.cfg with logQueue := s.cfg.logQueue ++ is } }

theorem State.queued_nil (s : State) : s.queued [] = s := by rw [State.queued, List.append_nil]

theorem State.queued_queued (s : State) (is js : List LogItem) : (s.queued is).queued js = s.queued (is ++ js) := by
  simp only [State.queued, List.append_assoc]

/-- The state once the entries of a commit wait. -/
def State.commitsLogged (s : State) : State :=
  let t := match LaneId.list.filter (fun x => (s.lane x).ls.fw.onTrial) with
    | x :: _ => s.logCommit (s.lane x).ls.fw
    | [] => s
  if t.ph.fw.onTrial then t.logCommit t.ph.fw else t

theorem State.commitsLogged_eq (s : State) : s.commitsLogged = s.queued s.commitEntries := by
  have hlog : ∀ t : State, ∀ f, t.logCommit f = t.queued [t.commitEntry f] := fun t f => rfl
  unfold State.commitsLogged State.commitEntries
  cases LaneId.list.filter (fun x => (s.lane x).ls.fw.onTrial) with
  | nil =>
    dsimp only
    split
    · rfl
    · exact s.queued_nil.symm
  | cons x xs =>
    dsimp only
    rw [hlog s]
    change (if s.ph.fw.onTrial then (s.queued [s.commitEntry (s.lane x).ls.fw]).queued [s.commitEntry s.ph.fw] else s.queued [s.commitEntry (s.lane x).ls.fw]) = _
    split
    · exact s.queued_queued _ _
    · rfl

theorem exec_firmwareCommit_of_trial {s : State} (hcount : 100 ≤ s.upd.trialRun) (hpow : s.ph.powered = true)
    (htrial : s.ph.fw.onTrial = true ∨ ∃ x, (s.lane x).ls.fw.onTrial = true) :
    exec .firmwareCommit s = .next { s.lanesCommitted with
      cfg := { s.cfg with logQueue := s.cfg.logQueue ++ s.commitEntries }
      ph := { s.ph with fw := if s.ph.fw.onTrial then s.ph.fw.commit else s.ph.fw }
      upd := { s.upd with activation := 3, trialRun := 0 } } := by
  have hsome : LaneId.list.filter (fun x => (s.lane x).ls.fw.onTrial) ≠ [] ∨ s.ph.fw.onTrial = true := by
    rcases htrial with h | ⟨x, h⟩
    · exact .inr h
    · exact .inl (List.ne_nil_of_mem (List.mem_filter.mpr ⟨by cases x <;> decide, h⟩))
  have heq : exec .firmwareCommit s =
      if 100 ≤ s.upd.trialRun && (!(LaneId.list.filter (fun x => (s.lane x).ls.fw.onTrial)).isEmpty || s.ph.fw.onTrial) && s.ph.powered then
        let t := s.commitsLogged.areasWrite (fun _ l => if l.ls.fw.onTrial then { l.ls with fw := l.ls.fw.commit } else l.ls)
        .next { t with ph := { t.ph with fw := if t.ph.fw.onTrial then t.ph.fw.commit else t.ph.fw }
                       upd := { t.upd with activation := 3, trialRun := 0 } }
      else .next s := rfl
  rw [heq, if_pos (by simpa [hcount, hpow] using hsome), State.commitsLogged_eq, State.areasWrite_of_powered (by exact hpow)]
  rfl

theorem State.lane_lanesCommitted (s : State) (x : LaneId) : (s.lanesCommitted.lane x).ls.fw = (if (s.lane x).ls.fw.onTrial then (s.lane x).ls.fw.commit
    else (s.lane x).ls.fw) ∧ (s.lanesCommitted.lane x).pe = (s.lane x).pe := by
  rw [State.lanesCommitted, State.lane_mapLanes]
  split <;> exact ⟨rfl, rfl⟩

theorem State.lanesCommitted_of_none {s : State} (h : ∀ x, (s.lane x).ls.fw.onTrial = false) : s.lanesCommitted = s :=
  State.mapLanes_fixed fun x => by rw [h x]; rfl

/-! ## The fallback (R357, R358) -/

theorem exec_fallback_of_lane {s : State} {cannotRead : Bool} {x : LaneId} (h : (s.lane x).ls.fw.mustFallBack cannotRead = true) :
    ∃ t, exec (.fallback cannotRead) s = .next (State.unitStart t 5) ∧ t.upd.activation = 4 ∧ t.upd.fallbacks = sat s.upd.fallbacks ∧
      t.upd.fellBack = true ∧ t.basin = s.basin := by
  have hmem : x ∈ LaneId.list.filter (fun x => (s.lane x).ls.fw.mustFallBack cannotRead) := by cases x <;> simp [LaneId.list, h]
  change ∃ t, execFallback cannotRead s = _ ∧ _
  unfold execFallback
  cases hbad : LaneId.list.filter (fun x => (s.lane x).ls.fw.mustFallBack cannotRead) with
  | nil => rw [hbad] at hmem; exact absurd hmem (by simp)
  | cons y ys => exact ⟨_, rfl, rfl, rfl, rfl, rfl⟩

/-! ## The statement -/

theorem exec_issueFloorAdvance_of_unpowered {s : State} (h : s.ph.powered = false) : exec .issueFloorAdvance s = .next s := by
  change execIssueFloorAdvance s = _
  unfold execIssueFloorAdvance
  dsimp only
  split
  · rw [State.areasWrite_of_unpowered h]
  · rfl

/-- Settles O39. The entry, the commit and the fallback each by an equation for the state it leads to. -/
theorem logLockoutAndFirmware : Obligations.LogLockoutAndFirmware := by
  intro s
  refine ⟨rfl, rfl, fun hreset written => ?_, fun i rest n chain hrun hqueue hmailbox hhead => ?_, fun hpow => ⟨?_, exec_issueFloorAdvance_of_unpowered hpow⟩,
    fun hcount hpow hph hlanes => ?_, fun hcount hpow hlanes => ?_, fun cannotRead x hbad => ?_, fun hready hpow => ?_⟩
  · change execChangeLogEntryWrite written s = _
    unfold execChangeLogEntryWrite
    split
    · rfl
    · exact if_pos (by rw [hreset]; rfl)
  · intro h
    refine ⟨_, exec_changeLogEntryWrite_of_event hrun hqueue hmailbox hhead, rfl, s.cfg.log_entered_self .., fun k hk => s.cfg.log_entered_ne i rest _ hk,
      fun x hx => s.lane_chained_of_mem _ _ hx, fun x hx => s.lane_chained_of_not_mem _ _ hx, rfl⟩
  · exact if_neg (by simp [hpow])
  · have hnone : LaneId.list.filter (fun x => (s.lane x).ls.fw.onTrial) = [] := by simp [hlanes]
    have hentries : s.commitEntries = [s.commitEntry s.ph.fw] := by
      rw [State.commitEntries, hnone, if_pos hph]
      rfl
    exact ⟨_, exec_firmwareCommit_of_trial hcount hpow (.inl hph), rfl, rfl, if_pos hph, (congrArg State.lanes (s.lanesCommitted_of_none hlanes) :), rfl,
      s.commitEntry s.ph.fw, rfl, by rw [hentries]⟩
  · refine ⟨_, exec_firmwareCommit_of_trial hcount hpow (.inr hlanes), rfl, rfl, ⟨s.commitEntries, fun i hi => State.kind_of_mem_commitEntries hi, ?_, rfl⟩,
      s.lane_lanesCommitted⟩
    exact State.length_commitEntries hlanes
  · obtain ⟨t, hexec, hactivation, hfallbacks, hfell, hbasin⟩ := exec_fallback_of_lane hbad
    obtain ⟨-, hkept, -⟩ := t.unitStart_leaves (source := 5) rfl
    obtain ⟨kactivation, kfallbacks, kfell⟩ := t.upd_unitStart (source := 5) (by decide)
    refine ⟨_, hexec, kactivation.trans ?_, kfallbacks.trans hfallbacks, kfell.trans hfell, hkept.trans hbasin⟩
    rw [hactivation]
    rfl
  · change execIssueFloorAdvance s = _
    refine (if_pos hready).trans (congrArg _ ?_)
    rw [State.areasWrite_of_powered hpow]
    refine State.mapLanes_congr fun x => ?_
    split <;> rfl

end Sys2Proof.Machine

/-! PROOF. The basin and the index of its arrivals stay in canonical form (R293): the operations that leave both as they are. -/

namespace Sys2Proof.Machine

/-! ## The canonical form of a state written out -/

@[simp] theorem State.modRing_recv (s : State) (r : Nat) (f : Ring → Ring) : (s.modRing r f).recv = s.recv := rfl
@[simp] theorem State.modCan_recv (s : State) (p : Nat) (f : CanPort → CanPort) : (s.modCan p f).recv = s.recv := rfl
@[simp] theorem State.modLink_recv (s : State) (l : Nat) (f : Wire → Wire) : (s.modLink l f).recv = s.recv := rfl
@[simp] theorem State.ackOut_recv (s : State) (n code : Nat) : (s.ackOut n code).recv = s.recv := by rw [State.ackOut_only]

/-- The canonical form reads two fields alone. -/
@[simp] theorem State.wf_mk (lanes unit cfg basin recv bs locks mail ph rings out nets can wire xl ptp warden upd sent fresh pending) :
    State.wf ⟨lanes, unit, cfg, basin, recv, bs, locks, mail, ph, rings, out, nets, can, wire, xl, ptp, warden, upd, sent, fresh, pending⟩ =
      (Memory.wf basin && Assoc.wf none recv) := (rfl)

@[simp] theorem State.wf_fields (s : State) : (Memory.wf s.basin && Assoc.wf none s.recv) = s.wf := (rfl)

@[simp] theorem State.wf_ite (c : Prop) [Decidable c] (s t : State) : (if c then s else t).wf = if c then s.wf else t.wf := apply_ite State.wf c s t

@[simp] theorem State.fst_ite_wf {β : Type} (c : Prop) [Decidable c] (p q : State × β) :
    (if c then p else q).1.wf = if c then p.1.wf else q.1.wf := apply_ite (fun r => r.1.wf) c p q

/-- Operations that each leave the canonical form as it is leave it so in a row. -/
@[simp] theorem State.foldl_wf {α : Type} {f : State → α → State} (hf : ∀ s a, (f s a).wf = s.wf) (l : List α) (s : State) : (l.foldl f s).wf = s.wf := by
  induction l generalizing s with
  | nil => rfl
  | cons a l ih => rw [List.foldl_cons, ih, hf]

/-! ## Shared operations

Where an equation holds by definition its proof stands in parentheses: `simp` then uses it with a proof, which the conditions of `State.foldl_wf` and
`State.mramWrite_wf` need. -/

@[simp] theorem State.modLane_wf (s : State) (x : LaneId) (f : Lane → Lane) : (s.modLane x f).wf = s.wf := (rfl)

@[simp] theorem State.mapLanes_wf (s : State) (f : LaneId → Lane → Lane) : (s.mapLanes f).wf = s.wf := (rfl)

@[simp] theorem State.emit_wf (s : State) (e : Emit) : (s.emit e).wf = s.wf := (rfl)

@[simp] theorem State.traffic_wf (s : State) (n : Nat) : (s.traffic n).wf = s.wf := (rfl)

@[simp] theorem State.mramWrite_wf {s : State} {p : Part} {r : MramRegion} {write : State → State} (hw : (write s).wf = s.wf) :
    (s.mramWrite p r write).wf = s.wf := by simp [State.mramWrite, hw]

@[simp] theorem State.configWrite_wf (s : State) (f : Config → Config) : (s.configWrite f).wf = s.wf := by simp [State.configWrite]

@[simp] theorem State.areaWrite_wf (s : State) (x : LaneId) (f : Sequencer → Sequencer) : (s.areaWrite x f).wf = s.wf := by simp [State.areaWrite]

@[simp] theorem State.areasWrite_wf (s : State) (f : LaneId → Lane → Sequencer) : (s.areasWrite f).wf = s.wf := by simp [State.areasWrite]

@[simp] theorem State.busError_wf (s : State) (m : Nat) : (s.busError m).wf = s.wf := by simp [State.busError]

@[simp] theorem State.violation_wf (s : State) (m addr : Nat) (write : Bool) : (s.violation m addr write).wf = s.wf := by simp [State.violation]

@[simp] theorem State.basinRead_wf (s : State) (m a n : Nat) : (s.basinRead m a n).1.wf = s.wf := by simp [State.basinRead]

@[simp] theorem State.eccError_wf (s : State) (a : Nat) : (s.eccError a).wf = s.wf := (rfl)

@[simp] theorem State.linkError_wf (s : State) (x link : LaneId) : (s.linkError x link).wf = s.wf := (rfl)

@[simp] theorem State.newChallenge_wf (s : State) : (s.newChallenge).wf = s.wf := (rfl)

@[simp] theorem State.logUnit_wf (s : State) (code sev : Nat) (ps : List Nat) : (s.logUnit code sev ps).wf = s.wf := (rfl)

@[simp] theorem State.logPh_wf (s : State) (code sev : Nat) (ps : List Nat) : (s.logPh code sev ps).wf = s.wf := (rfl)

@[simp] theorem State.fillIn_wf (s : State) (n addr len tag : Nat) : (s.fillIn n addr len tag).wf = s.wf := (rfl)

@[simp] theorem State.phRefused_wf (s : State) : (s.phRefused).wf = s.wf := (rfl)

@[simp] theorem State.ackOut_wf (s : State) (n code : Nat) : (s.ackOut n code).wf = s.wf := by simp [State.ackOut]

/-! ## An attempt of a resync ended -/

@[simp] theorem State.endRotation_wf (s : State) (x : LaneId) : (s.endRotation x).wf = s.wf := by simp [State.endRotation]

@[simp] theorem State.abortBy_wf (s : State) (x : LaneId) (code : Nat) (dump : Bool) : (s.abortBy x code dump).wf = s.wf := by simp [State.abortBy]

@[simp] theorem State.abortResync_wf (s : State) (x : LaneId) (code : Nat) : (s.abortResync x code).wf = s.wf := by simp [State.abortResync]

/-! ## The pair -/

@[simp] theorem State.sendCross_wf (s : State) (kind : Nat) (content : List Byte) : (s.sendCross kind content).wf = s.wf := by simp [State.sendCross]

@[simp] theorem State.crossIn_wf (s : State) (port : XPort) (frame : List Byte) : (s.crossIn port frame).1.wf = s.wf := by
  unfold State.crossIn
  (repeat' split) <;> simp

@[simp] theorem State.answerSwap_wf (s : State) (code : Nat) : (s.answerSwap code).wf = s.wf := by
  unfold State.answerSwap
  split <;> simp

@[simp] theorem State.swapFollowed_wf (s : State) (n : Nat) : (s.swapFollowed n).wf = s.wf := by simp [State.swapFollowed]

/-! ## Changes -/

@[simp] theorem State.pushLog_wf (s : State) (i : LogItem) : (s.pushLog i).wf = s.wf := (rfl)

@[simp] theorem State.pushPlain_wf (s : State) (kind operator cycle code : Nat) (mailbox : Option Nat) :
    (s.pushPlain kind operator cycle code mailbox).wf = s.wf := (rfl)

@[simp] theorem State.mergeOverlay_wf (s : State) (x : LaneId) (p : Pending) : (s.mergeOverlay x p).wf = s.wf := by simp [State.mergeOverlay]

@[simp] theorem State.settlePend_wf (s : State) (x : LaneId) (p : Pending) : (s.settlePend x p).wf = s.wf := by simp [State.settlePend]

@[simp] theorem State.noteCommit_wf (s : State) (x : LaneId) (n : Nat) : (s.noteCommit x n).wf = s.wf := by simp [State.noteCommit]

@[simp] theorem State.settleRest_wf (s : State) : (s.settleRest).wf = s.wf := by simp [State.settleRest]

/-! ## The commit -/

@[simp] theorem State.afterCommit_wf (s : State) (x : LaneId) (n : Nat) (old : Table 16) : (s.afterCommit x n old).wf = s.wf := by simp [State.afterCommit]

/-! ## Requests -/

@[simp] theorem State.setReq_wf (s : State) (mb : Nat) (r : Option Request) : (s.setReq mb r).wf = s.wf := (rfl)

@[simp] theorem State.countAuth_wf (s : State) (wrong right : Nat) : (s.countAuth wrong right).wf = s.wf := by simp [State.countAuth]

@[simp] theorem State.refuseReq_wf (s : State) (mb : Nat) (r : Request) (code : Nat) : (s.refuseReq mb r code).wf = s.wf := by simp [State.refuseReq]

@[simp] theorem State.acceptReq_wf (s : State) (mb : Nat) (r : Request) (digest : List Byte) : (s.acceptReq mb r digest).wf = s.wf := by
  unfold State.acceptReq
  cases s.lateCode mb r with
  | some c => dsimp only; split <;> simp
  | none => dsimp only; split <;> simp

@[simp] theorem State.refuseFound_wf (s : State) (mb : Nat) (r : Request) (code : Nat) : (s.refuseFound mb r code).wf = s.wf := by simp [State.refuseFound]

@[simp] theorem State.trySettle_wf (s : State) (mb : Nat) (x : LaneId) : (s.trySettle mb x).wf = s.wf := by
  unfold State.trySettle
  split
  · rfl
  · split
    · rfl
    · dsimp only; split <;> simp

@[simp] theorem State.sendVerdicts_wf (s : State) (mb : Nat) (r : Request) : (s.sendVerdicts mb r).wf = s.wf := by
  dsimp only [State.sendVerdicts]
  split <;> simp

@[simp] theorem State.afterCheck_wf (s : State) (mb : Nat) (r : Request) (last : Bool) : (s.afterCheck mb r last).wf = s.wf := by simp [State.afterCheck]

@[simp] theorem State.checkItem_wf (s : State) (mb f k : Nat) (check : LaneId → List Byte → Option (Nat × Nat)) (whole : LaneId → Option (Nat × Nat)) :
    (s.checkItem mb f k check whole).wf = s.wf := by
  unfold State.checkItem
  split <;> simp

@[simp] theorem State.checkWhole_wf (s : State) (mb f : Nat) (check : LaneId → List Byte → Option (Nat × Nat)) : (s.checkWhole mb f check).wf = s.wf := by
  unfold State.checkWhole
  split <;> simp

/-! ## Telegrams in a lane -/

@[simp] theorem State.decideSession_wf (s : State) (x : LaneId) (sid : Nat) (old new : SessState) : (s.decideSession x sid old new).wf = s.wf := by
  dsimp only [State.decideSession]
  split <;> simp

@[simp] theorem State.verifyData_wf (s : State) (x : LaneId) (a : Arrival) (b : List Byte) : (s.verifyData x a b).wf = s.wf := (rfl)

@[simp] theorem State.verifyReq_wf (s : State) (x : LaneId) (a : Arrival) (own : Nat) (b : List Byte) : (s.verifyReq x a own b).wf = s.wf := by
  dsimp only [State.verifyReq]
  split <;> simp

@[simp] theorem State.verifyResp_wf (s : State) (x : LaneId) (a : Arrival) (b : List Byte) : (s.verifyResp x a b).wf = s.wf := (rfl)

@[simp] theorem State.unreadable_wf (s : State) (x : LaneId) (a : Nat) : (s.unreadable x a).wf = s.wf := (rfl)

@[simp] theorem State.verify_wf (s : State) (x : LaneId) (e : Early) : (s.verify x e).wf = s.wf := by
  unfold State.verify
  split <;> simp

@[simp] theorem State.arrive_wf (s : State) (x : LaneId) (e : Early) : (s.arrive x e).wf = s.wf := by simp [State.arrive]

@[simp] theorem State.takeEarly_wf (s : State) (x : LaneId) : (s.takeEarly x).wf = s.wf := by simp [State.takeEarly]

/-! ## Mailboxes and settings -/

@[simp] theorem State.mailboxError_wf (s : State) : (s.mailboxError).wf = s.wf := (rfl)

@[simp] theorem State.ringLane_wf (s : State) (n addr len tag : Nat) (x : LaneId) : (s.ringLane n addr len tag x).wf = s.wf := by simp [State.ringLane]

@[simp] theorem State.settingItem_wf (s : State) (mb kind : Nat) : (s.settingItem mb kind).wf = s.wf := by simp [State.settingItem]

@[simp] theorem State.takeAck_wf (s : State) (mb : Nat) : (s.takeAck mb).wf = s.wf := by simp [State.takeAck]

/-! ## Life cycle and updates -/

@[simp] theorem State.eraseLane_wf (s : State) (x : LaneId) : (s.eraseLane x).wf = s.wf := by simp [State.eraseLane]

@[simp] theorem State.erase_wf (s : State) : (s.erase).wf = s.wf := by simp [State.erase]

@[simp] theorem State.logChecking_wf (s : State) (code sev : Nat) (ps : List Nat) :
    (s.logChecking code sev ps).wf = s.wf := State.foldl_wf (fun s x => s.modLane_wf x _) _ s

@[simp] theorem State.applied_wf (s : State) (p : Pending) : (s.applied p).wf = s.wf := by simp [State.applied]

@[simp] theorem State.enrol_wf (s : State) (b : List Byte) : (s.enrol b).wf = s.wf := by simp [State.enrol]

@[simp] theorem State.resetItem_wf (s : State) (mb value : Nat) : (s.resetItem mb value).wf = s.wf := by
  unfold State.resetItem
  split <;> simp

@[simp] theorem State.stageLane_wf (s : State) (r : Request) (x : LaneId) (kind : Nat) (f : List Byte) : (s.stageLane r x kind f).1.wf = s.wf := (rfl)

@[simp] theorem State.markSlots_wf (s : State) (d : List Byte) : (s.markSlots d).wf = s.wf := by simp [State.markSlots]

@[simp] theorem State.ackReq_wf (s : State) (mb code : Nat) : (s.ackReq mb code).wf = s.wf := by simp [State.ackReq]

@[simp] theorem State.activateNow_wf (s : State) (mb operator : Nat) (d before : List Byte) : (s.activateNow mb operator d before).wf = s.wf := by
  simp [State.activateNow]

@[simp] theorem State.setSettings_wf (s : State) (c : Settings) : (s.setSettings c).wf = s.wf := (rfl)

@[simp] theorem State.migrate_wf (s : State) : (s.migrate).wf = s.wf := (rfl)

@[simp] theorem State.logCommit_wf (s : State) (f : Firmware) : (s.logCommit f).wf = s.wf := (rfl)

/-! ## Networks, wire links and CAN -/

@[simp] theorem State.modNet_wf (s : State) (n : NetId) (f : Net → Net) : (s.modNet n f).wf = s.wf := by
  unfold State.modNet
  split <;> simp

@[simp] theorem State.emitNet_wf (s : State) (n : NetId) (mac : Nat) (frame : List Nat → Emit) : (s.emitNet n mac frame).wf = s.wf := by simp [State.emitNet]

@[simp] theorem State.askFor_wf (s : State) (n : NetId) (ip : Nat) : (s.askFor n ip).wf = s.wf := by simp [State.askFor]

@[simp] theorem State.gratuitous_wf (s : State) (n : NetId) : (s.gratuitous n).wf = s.wf := by simp [State.gratuitous]

@[simp] theorem State.sendNow_wf (s : State) (n : NetId) (w : NetWait) : (s.sendNow n w).wf = s.wf := by simp [State.sendNow]

@[simp] theorem State.sendOut_wf (s : State) (n : NetId) (w : NetWait) : (s.sendOut n w).wf = s.wf := by simp [State.sendOut]

@[simp] theorem State.sendTo_wf (s : State) (n : NetId) (cycle : Option Nat) (d : Datagram) : (s.sendTo n cycle d).wf = s.wf := by simp [State.sendTo]

@[simp] theorem State.sendTele_wf (s : State) (e : SessEntry) (c : Nat) (n : NetId) (ip : Nat) (b : List Byte) : (s.sendTele e c n ip b).wf = s.wf := by
  simp [State.sendTele]

@[simp] theorem State.sendNet2_wf (s : State) (e : SessEntry) (c : Nat) (b : List Byte) : (s.sendNet2 e c b).wf = s.wf := by simp [State.sendNet2]

@[simp] theorem State.resolved_wf (s : State) (n : NetId) (ip : Nat) : (s.resolved n ip).wf = s.wf := by simp [State.resolved]

@[simp] theorem State.learn_wf (s : State) (n : NetId) (p mac : Nat) : (s.learn n p mac).wf = s.wf := by simp [State.learn]

@[simp] theorem State.modLink_wf (s : State) (l : Nat) (f : Wire → Wire) : (s.modLink l f).wf = s.wf := (rfl)

@[simp] theorem State.modCan_wf (s : State) (p : Nat) (f : CanPort → CanPort) : (s.modCan p f).wf = s.wf := (rfl)

@[simp] theorem State.dropTelegram_wf (s : State) (p : Nat) (t : Nat × Nat × Nat × Nat) : (s.dropTelegram p t).wf = s.wf := (rfl)

@[simp] theorem State.expireCan_wf (s : State) (p now : Nat) : (s.expireCan p now).wf = s.wf := State.foldl_wf (fun s t => s.dropTelegram_wf p t) _ s

@[simp] theorem State.queueRef_wf (s : State) (n p : Nat) : (s.queueRef n p).wf = s.wf := by simp [State.queueRef]

@[simp] theorem State.queueTelegram_wf (s : State) (e : SessEntry) (kind seg n : Nat) (b : List Byte) : (s.queueTelegram e kind seg n b).wf = s.wf := (rfl)

/-! ## Agreed requests applied -/

@[simp] theorem State.applyIn_wf (s : State) (p : Pending) (x : LaneId) : (s.applyIn p x).wf = s.wf := by
  unfold State.applyIn
  split <;> simp

@[simp] theorem State.noteMirrored_wf (s : State) (x : LaneId) (a : Nat) (b : List Byte) : (s.noteMirrored x a b).wf = s.wf := by
  unfold State.noteMirrored
  split <;> simp

@[simp] theorem State.applyMirrored_wf (s : State) (x : LaneId) : (s.applyMirrored x).wf = s.wf := by
  dsimp only [State.applyMirrored]
  split <;> simp

@[simp] theorem State.applySetting_wf (s : State) (it : List Byte) : (s.applySetting it).wf = s.wf := by
  unfold State.applySetting
  split <;> simp

/-! ## Rings -/

@[simp] theorem State.modRing_wf (s : State) (r : Nat) (f : Ring → Ring) : (s.modRing r f).wf = s.wf := (rfl)

@[simp] theorem State.putFrame_wf (s : State) (r : Nat) (side : Side) (at_ : Option Int) (f : List Byte) : (s.putFrame r side at_ f).wf = s.wf := (rfl)

@[simp] theorem State.sendSide_wf (s : State) (r : Nat) (side : Side) (ty dst : Nat) (body : List Byte) (at_ : Option Int) :
    (s.sendSide r side ty dst body at_).wf = s.wf := by
  simp [State.sendSide]

@[simp] theorem State.sendBoth_wf (s : State) (r ty dst : Nat) (body : List Byte) (at_ : Option Int) : (s.sendBoth r ty dst body at_).wf = s.wf := by
  simp [State.sendBoth]

@[simp] theorem State.pumpPort_wf (s : State) (r : Nat) (own : List Int) (side : Side) : (s.pumpPort r own side).wf = s.wf := by
  dsimp only [State.pumpPort]
  rw [State.foldl_wf (fun s f => s.emit_wf _), State.modRing_wf]

@[simp] theorem State.echoNode_wf (s : State) (r a : Nat) : (s.echoNode r a).wf = s.wf := by simp [State.echoNode]

@[simp] theorem State.echoNodes_wf (s : State) (r : Nat) : (s.echoNodes r).wf = s.wf := by simp [State.echoNodes]

@[simp] theorem State.leadRing_wf (s : State) (r : Nat) : (s.leadRing r).wf = s.wf := by
  unfold State.leadRing
  split
  · simp
  · split <;> simp

@[simp] theorem State.leadRings_wf (s : State) : (s.leadRings).wf = s.wf := by simp [State.leadRings]

@[simp] theorem State.followRing_wf (s : State) (r : Nat) : (s.followRing r).wf = s.wf := by
  unfold State.followRing
  split
  · simp
  · split <;> simp

@[simp] theorem State.followRings_wf (s : State) : (s.followRings).wf = s.wf := by simp [State.followRings]

@[simp] theorem State.openRing_wf (s : State) (r : Nat) : (s.openRing r).wf = s.wf := by
  unfold State.openRing
  split <;> simp

@[simp] theorem State.judgeSfps_wf (s : State) : (s.judgeSfps).wf = s.wf := by simp [State.judgeSfps]

@[simp] theorem State.openRings_wf (s : State) : (s.openRings).wf = s.wf := by
  dsimp only [State.openRings]
  split
  · rfl
  · split <;> simp

/-! ## Frames of the rings -/

@[simp] theorem State.hearAny_wf (s : State) (r ty : Nat) : (s.hearAny r ty).wf = s.wf := by simp [State.hearAny]

@[simp] theorem State.measure_wf (s : State) (r : Nat) (at_ : Option Int) (side : Side) : (s.measure r at_ side).wf = s.wf := by simp [State.measure]

@[simp] theorem State.setRingEpoch_wf (s : State) (r epoch : Nat) : (s.setRingEpoch r epoch).wf = s.wf := (rfl)

@[simp] theorem State.otherCycleTime_wf (s : State) (r t : Nat) : (s.otherCycleTime r t).wf = s.wf := by
  dsimp only [State.otherCycleTime]
  split
  · rfl
  · simp only [State.wf_mk, State.wf_fields]
    split <;> simp

@[simp] theorem State.setTide_wf (s : State) (time : Int) : (s.setTide time).wf = s.wf := (rfl)

@[simp] theorem State.takeTimeOf_wf (s : State) (r : Nat) (side : Side) (theta leaderAt : Int) (first : Bool) :
    (s.takeTimeOf r side theta leaderAt first).wf = s.wf := (rfl)

@[simp] theorem State.launchSlot_wf (s : State) (r : Nat) (e : SlotEntry) (body : List Byte) (side : Side) : (s.launchSlot r e body side).1.wf = s.wf := by
  dsimp only [State.launchSlot]
  split <;> simp

@[simp] theorem State.releaseHeld_wf (s : State) (r : Nat) (e : SlotEntry) (side : Side) : (s.releaseHeld r e side).wf = s.wf := by simp [State.releaseHeld]

@[simp] theorem State.takeCold_wf (s : State) (k unit : Nat) (b : ColdBody) : (s.takeCold k unit b).wf = s.wf := by simp [State.takeCold]

@[simp] theorem State.contend_wf (s : State) (k : Nat) : (s.contend k).wf = s.wf := (rfl)

/-! ## Roles -/

@[simp] theorem State.redrive_wf (s : State) (share : Bool) : (s.redrive share).wf = s.wf := (rfl)

@[simp] theorem State.queueRefs_wf (s : State) : (s.queueRefs).wf = s.wf := by simp [State.queueRefs]

/-! ## Locks -/

@[simp] theorem State.lockError_wf (s : State) (m : Nat) : (s.lockError m).wf = s.wf := by simp [State.lockError]

@[simp] theorem State.readLock_wf (s : State) (n m now : Nat) : (s.readLock n m now).wf = s.wf := by simp [State.readLock]

@[simp] theorem State.lockRead_wf (n now : Nat) (s : State) (m : Nat) : (s.lockRead n now m).wf = s.wf := by simp [State.lockRead]

@[simp] theorem State.writeLock_wf (s : State) (n m value now : Nat) : (s.writeLock n m value now).wf = s.wf := by simp [State.writeLock]

/-! ## Resets -/

@[simp] theorem State.forgetLane_wf (s : State) (x : LaneId) : (s.forgetLane x).wf = s.wf := (rfl)

@[simp] theorem State.resetOne_wf (s : State) (x : LaneId) (source : Nat) : (s.resetOne x source).wf = s.wf := by simp [State.resetOne]

@[simp] theorem State.ackWithdrawn_wf (s : State) (mb : Nat) : (s.ackWithdrawn mb).wf = s.wf := by simp [State.ackWithdrawn]

@[simp] theorem State.withdrawPending_wf (s : State) : (s.withdrawPending).wf = s.wf := by simp [State.withdrawPending]

/-! ## Release, queues and sluices -/

@[simp] theorem State.emptyMail_wf (s : State) : (s.emptyMail).wf = s.wf := (rfl)

@[simp] theorem State.resumeLog_wf (s : State) : (s.resumeLog).wf = s.wf := (rfl)

@[simp] theorem State.restartMail_wf (s : State) : (s.restartMail).wf = s.wf := (rfl)

@[simp] theorem State.readSfps_wf (s : State) (sfps : List (Nat × BitVec 8 × BitVec 32)) : (s.readSfps sfps).wf = s.wf := by simp [State.readSfps]

@[simp] theorem State.settleContact_wf (s : State) : (s.settleContact).wf = s.wf := by simp [State.settleContact]

@[simp] theorem State.startPorts_wf (s : State) : (s.startPorts).wf = s.wf := by
  dsimp only [State.startPorts]
  simp

@[simp] theorem State.phRelease_wf (s : State) (k : Nat) (sfps : List (Nat × BitVec 8 × BitVec 32)) (ok : Bool) : (s.phRelease k sfps ok).wf = s.wf := by
  unfold State.phRelease
  split <;> simp

@[simp] theorem State.settleSluice_wf (s : State) (x : LaneId) : (s.settleSluice x).wf = s.wf := by simp [State.settleSluice]

@[simp] theorem State.reopenLane_wf (s : State) (x : LaneId) (neighbour : Part) : (s.reopenLane x neighbour).wf = s.wf := by
  unfold State.reopenLane
  split <;> simp

@[simp] theorem State.reopenPh_wf (s : State) (x : LaneId) : (s.reopenPh x).wf = s.wf := by simp [State.reopenPh]

@[simp] theorem State.delivered_wf (s : State) (writer reader : Part) (q : QueueRx) (w : QueueWord) : (s.delivered writer reader q w).wf = s.wf := by
  simp [State.delivered]

/-! ## Records -/

@[simp] theorem State.writeRecord_wf (s : State) (r : Record) : (s.writeRecord r).wf = s.wf := by simp [State.writeRecord]

/-! ## Records delivered -/

@[simp] theorem State.unitRecord_wf (s : State) (x : LaneId) (r : Record) : (s.unitRecord x r).wf = s.wf := by
  dsimp only [State.unitRecord]
  split <;> simp

@[simp] theorem State.deliverPh_wf (s : State) : (s.deliverPh).wf = s.wf := by
  unfold State.deliverPh
  split <;> simp

/-! ## Breach dumps -/

@[simp] theorem State.laneDump_wf (s : State) (x : LaneId) (cause : DumpCause) (reachable : Bool) (content : List Byte) :
    (s.laneDump x cause reachable content).wf = s.wf := by
  simp [State.laneDump]

/-! ## Sending -/

@[simp] theorem State.transmit_wf (s : State) (e : SessEntry) (a : Assembled) : (s.transmit e a).1.wf = s.wf := by
  unfold State.transmit
  split <;> simp

@[simp] theorem State.flushWire_wf (s : State) (l n a : Nat) : (s.flushWire l n a).wf = s.wf := by
  induction a generalizing s with
  | zero => rfl
  | succ k ih =>
    rw [State.flushWire]
    split
    · rfl
    · rw [ih]; simp

@[simp] theorem State.flushWires_wf (s : State) (n : Nat) : (s.flushWires n).wf = s.wf := by simp [State.flushWires]

@[simp] theorem State.lateNet_wf (s : State) (k : Nat) (n : NetId) : (s.lateNet k n).wf = s.wf := by simp [State.lateNet]

@[simp] theorem State.canDeadline_wf (s : State) (p : Nat) (begun : Option Nat) : (s.canDeadline p begun).wf = s.wf := by simp [State.canDeadline]

@[simp] theorem State.bridge_wf (s : State) (n : NetId) (f : EthFrame) : (s.bridge n f).wf = s.wf := by simp [State.bridge]

@[simp] theorem State.canAnswer_wf (s : State) (p : Nat) (bad : Bool) : (s.canAnswer p bad).wf = s.wf := by simp [State.canAnswer]

@[simp] theorem State.canFailed_wf (s : State) (p n : Nat) : (s.canFailed p n).wf = s.wf := by
  dsimp only [State.canFailed]
  split
  · rfl
  · exact State.foldl_wf (fun s i => s.emit_wf _) _ s

/-! ## The vote -/

@[simp] theorem State.continueLane_wf (s : State) (x : LaneId) (removed : Option LaneId) (own : BitVec 128) (offset : Nat) :
    (s.continueLane x removed own offset).wf = s.wf := by
  simp [State.continueLane]

@[simp] theorem State.judgeJoiners_wf (s : State) (x : LaneId) (ys : List LaneId) : (s.judgeJoiners x ys).wf = s.wf := by simp [State.judgeJoiners]

@[simp] theorem State.measureJoiner_wf (s : State) (x y : LaneId) : (s.measureJoiner x y).wf = s.wf := by
  dsimp only [State.measureJoiner]
  split <;> simp

/-! ## The cycle -/

@[simp] theorem State.countRuns_wf (s : State) (old : Nat) : (s.countRuns old).wf = s.wf := (rfl)

@[simp] theorem State.beginLane_wf (s : State) (share : Bool) (due : Mask) (x : LaneId) : (s.beginLane share due x).wf = s.wf := by simp [State.beginLane]

@[simp] theorem State.catchUp_wf (n : Nat) (s : State) (x : LaneId) : (s.catchUp n x).wf = s.wf := by
  unfold State.catchUp
  split
  · simp
  · split <;> simp

@[simp] theorem State.takeBase_wf (n : Nat) (s : State) (x : LaneId) : (s.takeBase n x).wf = s.wf := by
  unfold State.takeBase
  split <;> simp

@[simp] theorem State.sendBase_wf (n : Nat) (s : State) (x : LaneId) : (s.sendBase n x).wf = s.wf := by
  unfold State.sendBase
  split <;> simp

@[simp] theorem State.takeSwap_wf (s : State) (data : List Byte) : (s.takeSwap data).wf = s.wf := by
  unfold State.takeSwap
  split <;> simp

@[simp] theorem State.noteMirror_wf (s : State) (n : Nat) (frame : Option (List Byte × Nat)) (m : Image) : (s.noteMirror n frame m).wf = s.wf := by
  unfold State.noteMirror
  split <;> simp

@[simp] theorem State.discardMirror_wf (s : State) (n : Nat) : (s.discardMirror n).wf = s.wf := (rfl)

/-! ## Registers -/

@[simp] theorem State.sluiceClosed_wf (s : State) (a : Block) : (s.sluiceClosed a).wf = s.wf := by
  unfold State.sluiceClosed
  split <;> simp

@[simp] theorem State.latchTide_wf (s : State) (x : LaneId) : (s.latchTide x).wf = s.wf := (rfl)

@[simp] theorem State.latchOpTime_wf (s : State) : (s.latchOpTime).wf = s.wf := (rfl)

@[simp] theorem State.hostRead_wf (s : State) (addr : Nat) : (s.hostRead addr).1.wf = s.wf := by
  dsimp only [State.hostRead]
  (repeat' split) <;> simp

@[simp] theorem State.clearDl_wf (s : State) (v : Nat) : (s.clearDl v).wf = s.wf := by simp [State.clearDl]

@[simp] theorem State.clearXl_wf (s : State) (v : Nat) : (s.clearXl v).wf = s.wf := by simp [State.clearXl]

@[simp] theorem State.clearEn_wf (s : State) (v : Nat) : (s.clearEn v).wf = s.wf := by simp [State.clearEn]

@[simp] theorem State.clearCn_wf (s : State) (v : Nat) : (s.clearCn v).wf = s.wf := by simp [State.clearCn]

@[simp] theorem State.clearWl_wf (s : State) (v : Nat) : (s.clearWl v).wf = s.wf := by simp [State.clearWl]

@[simp] theorem State.clearPt_wf (s : State) (v : Nat) : (s.clearPt v).wf = s.wf := by simp [State.clearPt]

@[simp] theorem State.clearMb_wf (s : State) (v : Nat) : (s.clearMb v).wf = s.wf := by simp [State.clearMb]

@[simp] theorem State.clearBs_wf (s : State) (v : Nat) : (s.clearBs v).wf = s.wf := by simp [State.clearBs]

@[simp] theorem State.clearLk_wf (s : State) (v : Nat) : (s.clearLk v).wf = s.wf := by simp [State.clearLk]

@[simp] theorem State.clearWd_wf (s : State) (v : Nat) : (s.clearWd v).wf = s.wf := by simp [State.clearWd]

@[simp] theorem State.clearEvent_wf (s : State) (v : Nat) : (s.clearEvent v).wf = s.wf := (rfl)

@[simp] theorem State.startLampTest_wf (s : State) (v : Nat) : (s.startLampTest v).wf = s.wf := by simp [State.startLampTest]

@[simp] theorem State.setPortDisable_wf (s : State) (v : Nat) : (s.setPortDisable v).wf = s.wf := (rfl)

@[simp] theorem State.writeBi_wf (s : State) (x : LaneId) (off v : Nat) : (s.writeBi x off v).1.wf = s.wf := by
  unfold State.writeBi
  (repeat' split) <;> simp

/-! ## Requests of the maintenance port -/

@[simp] theorem State.respond_wf (s : State) (q : KmpReq) (op count : Nat) (st : KmpStatus) (data : List Byte) : (s.respond q op count st data).wf = s.wf := by
  simp [State.respond]

@[simp] theorem State.readRegs_wf (s : State) (addr n : Nat) : (s.readRegs addr n).1.wf = s.wf := by
  induction n generalizing s addr with
  | zero => rfl
  | succ n ih =>
    have hfirst := s.hostRead_wf addr
    rw [State.readRegs]
    split <;> simp_all

@[simp] theorem State.kmpRead_wf (s : State) (req : KmpReq) : (s.kmpRead req).wf = s.wf := by
  unfold State.kmpRead
  split <;> simp

@[simp] theorem State.kmpBasinRead_wf (s : State) (req : KmpReq) : (s.kmpBasinRead req).wf = s.wf := by
  unfold State.kmpBasinRead
  split <;> simp

/-! ## Restarts -/

@[simp] theorem State.noteStart_wf (s : State) (x : LaneId) : (s.noteStart x).wf = s.wf := by
  unfold State.noteStart
  split <;> simp

@[simp] theorem State.joinOthers_wf (s : State) : (s.joinOthers).wf = s.wf := by simp [State.joinOthers]

/-! ## A millisecond -/

@[simp] theorem State.lampPeriod_wf (s : State) : (s.lampPeriod).wf = s.wf := by simp [State.lampPeriod]

@[simp] theorem State.tickPowered_wf (s : State) : (s.tickPowered).wf = s.wf := by simp [State.tickPowered]

end Sys2Proof.Machine

/-! PROOF. The basin and the index of its arrivals stay in canonical form (R293): the operations that lead to a write of the basin, or clear it. -/

namespace Sys2Proof.Machine

/-- Operations that each keep the canonical form keep it in a row. -/
theorem State.wf_foldl_of {α : Type} {f : State → α → State} {s : State} (hs : s.wf = true) (hf : ∀ s a, s.wf = true → (f s a).wf = true) (l : List α) :
    (l.foldl f s).wf = true := State.wf_foldl f hf l s hs

/-! ## The engine -/

@[simp] theorem State.wf_leaveFaulty {s : State} (hs : s.wf = true) (x : LaneId) : (s.leaveFaulty x).wf = true := by
  simp [State.leaveFaulty, State.wf_withdraw, hs]

@[simp] theorem State.wf_engineFault {s : State} (hs : s.wf = true) (x : LaneId) (code pos : Nat) : (s.engineFault x code pos).wf = true := by
  simp [State.engineFault, hs]

@[simp] theorem State.wf_termStep {s : State} (hs : s.wf = true) (x : LaneId) (cell : Nat) (mine : Term → Bool)
    (run : Image → Nat → Term → Option W16 → Lane → Lane) : (s.termStep x cell mine run).wf = true := by
  unfold State.termStep
  split <;> simp [hs]

@[simp] theorem State.wf_opStep {s : State} (hs : s.wf = true) (x : LaneId) (cell : Nat) (op : Op)
    (run : Image → Nat → Term → Option W16 → Lane → Lane) : (s.opStep x cell op run).wf = true := State.wf_termStep hs ..

@[simp] theorem State.wf_valueStep {s : State} (hs : s.wf = true) (x : LaneId) (cell : Nat) (op : Op)
    (value : Image → Engine → Term → Option W16 → Nat) : (s.valueStep x cell op value).wf = true := State.wf_opStep hs ..

@[simp] theorem State.wf_timerStep {s : State} (hs : s.wf = true) (x : LaneId) (cell : Nat) (op : Op) (run : Nat → Nat → Nat → Nat × Bool) :
    (s.timerStep x cell op run).wf = true := State.wf_opStep hs ..

/-! ## The role -/

@[simp] theorem State.wf_roleNotice {s : State} (hs : s.wf = true) (why : Nat) : (s.roleNotice why).wf = true :=
  State.wf_notice _ _ (by simpa using hs)

@[simp] theorem State.wf_becomeWatcher {s : State} (hs : s.wf = true) (epoch why : Nat) : (s.becomeWatcher epoch why).wf = true :=
  State.wf_roleNotice (by simpa using hs) why

@[simp] theorem State.wf_becomeSleeper {s : State} (hs : s.wf = true) (epoch why : Nat) : (s.becomeSleeper epoch why).wf = true :=
  State.wf_roleNotice (by simpa using hs) why

@[simp] theorem State.wf_heardWatcher {s : State} (hs : s.wf = true) (epoch unit : Nat) : (s.heardWatcher epoch unit).wf = true := by
  dsimp only [State.heardWatcher]
  split <;> simp [hs]

@[simp] theorem State.wf_takeMirror {s : State} (hs : s.wf = true) (x : LaneId) (a : Arrival) : (s.takeMirror x a).wf = true := by
  dsimp only [State.takeMirror]
  simp [hs]

@[simp] theorem State.wf_takeReport {s : State} (hs : s.wf = true) (report : PartnerReport) : (s.takeReport report).wf = true := by
  simp [State.takeReport, hs]

/-! ## Mailboxes -/

@[simp] theorem State.wf_dispatch {s : State} (hs : s.wf = true) (mb copyTo tag : Nat) (r : Request) : (s.dispatch mb copyTo tag r).wf = true := by
  simp [State.dispatch, State.wf_basinWrite, hs]

@[simp] theorem State.wf_doorbell {s : State} (hs : s.wf = true) (mb tag : Nat) (requester : Requester) (copyTo : Nat) (readError : Bool)
    (laneErrors : PerLane Bool) : (s.doorbell mb tag requester copyTo readError laneErrors).wf = true := by
  dsimp only [State.doorbell]
  split
  · exact hs
  split
  · simpa using hs
  split
  · simpa using hs
  split <;> simp [hs]

@[simp] theorem State.wf_nextNotice {s : State} (hs : s.wf = true) : s.nextNotice.wf = true := by
  unfold State.nextNotice
  split
  · exact hs
  · simp [State.wf_deliverNotice, hs]

@[simp] theorem State.wf_readInAck {s : State} (hs : s.wf = true) (n : Nat) : (s.readInAck n).wf = true := by
  simp [State.readInAck, hs]

@[simp] theorem State.wf_ackIn {s : State} (hs : s.wf = true) (mb code : Nat) : (s.ackIn mb code).wf = true := by
  simp [State.ackIn, hs]

@[simp] theorem State.wf_returnData {s : State} (hs : s.wf = true) (mb : Nat) (bs : List Byte) : (s.returnData mb bs).wf = true := by
  simp [State.returnData, State.wf_basinWrite, hs]

/-! ## Life cycle and change log -/

@[simp] theorem State.wf_endCycles {s : State} (hs : s.wf = true) : s.endCycles.wf = true := by
  have hstop := State.wf_foldl_of hs (fun s x hs => State.wf_stopLane x 0 hs) (LaneId.list.filter (fun x => (s.lane x).evaluates))
  dsimp only [State.endCycles]
  split
  · exact hstop
  · exact State.wf_failSafe hstop

@[simp] theorem State.wf_transition {s : State} (hs : s.wf = true) (old new seq : Nat) : (s.transition old new seq).wf = true := by
  dsimp only [State.transition]
  split <;> simp [hs]

@[simp] theorem State.wf_afterLog {s : State} (hs : s.wf = true) (mb : Nat) (r : Request) (i : LogItem) (seq : Nat) :
    (s.afterLog mb r i seq).wf = true := by
  dsimp only [State.afterLog]
  split <;> simp [hs]

@[simp] theorem State.wf_onLogged {s : State} (hs : s.wf = true) (i : LogItem) (seq : Option Nat) : (s.onLogged i seq).wf = true := by
  unfold State.onLogged
  split
  · exact hs
  split
  · exact hs
  split <;> simp [hs]

/-! ## The rings -/

@[simp] theorem State.wf_followSync {s : State} (hs : s.wf = true) (r : Nat) (b : SyncBody) : (s.followSync r b).wf = true := by
  dsimp only [State.followSync]
  split <;> simp [hs]

@[simp] theorem State.wf_takeSync {s : State} (hs : s.wf = true) (r : Nat) (side : Side) (b : SyncBody) (leaderAt : Int) :
    (s.takeSync r side b leaderAt).wf = true := by
  simp [State.takeSync, hs]

@[simp] theorem State.wf_takeVk2Sync {s : State} (hs : s.wf = true) (r : Nat) (side : Side) (b : SyncBody) (leaderAt : Int) :
    (s.takeVk2Sync r side b leaderAt).wf = true := by
  simp [State.takeVk2Sync, hs]

@[simp] theorem State.wf_takeLead {s : State} (hs : s.wf = true) (k outcome : Nat) : (s.takeLead k outcome).wf = true := by
  simp [State.takeLead, hs]

/-! ## Resets -/

@[simp] theorem State.wf_resetLane {s : State} (hs : s.wf = true) (x : LaneId) (source : Nat) : (s.resetLane x source).wf = true := by
  simp [State.resetLane, State.wf_settleService, State.wf_maskNotice, hs]

@[simp] theorem State.wf_pendingReset {s : State} (hs : s.wf = true) (x : LaneId) : (s.pendingReset x).wf = true := by
  unfold State.pendingReset
  split <;> simp [hs]

/-- A power-on clears the basin and the index of its arrivals; every other source leaves both (Table 13-6). -/
@[simp] theorem State.wf_resetPhFrom {s : State} (hs : s.wf = true) (source : Nat) (lamps : Lamps) : (s.resetPhFrom source lamps).wf = true := by
  dsimp only [State.resetPhFrom]
  split
  · rfl
  · exact hs

@[simp] theorem State.wf_resetPh {s : State} (hs : s.wf = true) (source : Nat) : (s.resetPh source).wf = true := State.wf_resetPhFrom hs ..

@[simp] theorem State.wf_freshUnit {s : State} (hs : s.wf = true) (source : Nat) (started : Mask) : (s.freshUnit source started).wf = true := by
  simp [State.freshUnit, State.wf_notice, hs]

@[simp] theorem State.wf_unitStart {s : State} (hs : s.wf = true) (source : Nat) : (s.unitStart source).wf = true := by
  dsimp only [State.unitStart]
  apply State.wf_freshUnit
  split <;> simp [hs]

@[simp] theorem State.wf_laneRelease {s : State} (hs : s.wf = true) (x : LaneId) (k : Nat) (ok : Bool) : (s.laneRelease x k ok).wf = true := by
  dsimp only [State.laneRelease]
  split
  case h_5 => split <;> simp [hs]
  all_goals simp [hs]

/-! ## Records and dumps -/

@[simp] theorem State.wf_handOver {s : State} (hs : s.wf = true) (x : LaneId) (r : Record) : (s.handOver x r).wf = true := by
  simp [State.handOver, State.wf_basinWrite, hs]

@[simp] theorem State.wf_deliverLane {s : State} (hs : s.wf = true) (x : LaneId) : (s.deliverLane x).wf = true := by
  dsimp only [State.deliverLane]
  split <;> simp [hs]

@[simp] theorem State.wf_fatalLane {s : State} (hs : s.wf = true) (x : LaneId) : (s.fatalLane x).wf = true := by
  simp [State.fatalLane, hs]

@[simp] theorem State.wf_phFatalReset {s : State} (hs : s.wf = true) (cause result : Nat) : (s.phFatalReset cause result).wf = true := by
  simp [State.phFatalReset, hs]

/-! ## The vote and the cycle -/

@[simp] theorem State.wf_testResult {s : State} (hs : s.wf = true) (x : LaneId) (m : GaugeMsg) (stuckEqual : Bool) :
    (s.testResult x m stuckEqual).wf = true := by
  dsimp only [State.testResult]
  simp [State.wf_withdraw, hs]

@[simp] theorem State.wf_takeGauge {s : State} (hs : s.wf = true) (x : LaneId) (m : GaugeMsg) : (s.takeGauge x m).wf = true := by
  dsimp only [State.takeGauge]
  simp [State.wf_withdraw, hs]

@[simp] theorem State.wf_stopLate {s : State} (hs : s.wf = true) (n : Nat) : (s.stopLate n).wf = true :=
  State.wf_foldl_of hs (fun s y hs => by dsimp only; split <;> simp [State.wf_stopLane, hs]) _

@[simp] theorem State.wf_tideReaction {s : State} (hs : s.wf = true) (x : LaneId) : (s.tideReaction x).wf = true := by
  simp [State.tideReaction, State.wf_withdraw, hs]

@[simp] theorem State.wf_admitLane {s : State} (hs : s.wf = true) (x y z : LaneId) : (s.admitLane x y z).wf = true := by
  simp [State.admitLane, State.wf_maskNotice, hs]

@[simp] theorem State.wf_judgeResync {s : State} (hs : s.wf = true) (x : LaneId) : (s.judgeResync x).wf = true := by
  dsimp only [State.judgeResync]
  split
  · exact hs
  · split <;> simp [hs]

@[simp] theorem State.wf_rotateOut {s : State} (hs : s.wf = true) (x : LaneId) (old : Nat) : (s.rotateOut x old).wf = true := by
  simp [State.rotateOut, State.wf_withdraw, hs]

/-! ## Registers and requests of the maintenance port -/

@[simp] theorem State.writeOut_wf (s : State) (mb : Nat) (f : Mailbox → Mailbox) : (s.writeOut mb f).1.wf = s.wf := by
  dsimp only [State.writeOut]
  split <;> simp

@[simp] theorem State.writeRwl_wf {s : State} {f : State → State} (hf : (f s).wf = s.wf) : (s.writeRwl f).1.wf = s.wf := by
  dsimp only [State.writeRwl]
  split <;> simp [hf]

@[simp] theorem State.wf_writeMb {s : State} (hs : s.wf = true) (off v : Nat) (who : Option Requester) : (s.writeMb off v who).1.wf = true := by
  dsimp only [State.writeMb]
  split
  · simpa using hs
  split
  · split
    · simpa using hs
    · simpa using hs
    · split <;> simp [hs]
    · exact hs
  · split <;> simp [hs]
  · exact hs

@[simp] theorem State.wf_hostWrite {s : State} (hs : s.wf = true) (addr v : Nat) (who : Option Requester) : (s.hostWrite addr v who).1.wf = true := by
  dsimp only [State.hostWrite]
  (repeat' split) <;> simp [hs]

theorem State.wf_writeRegs {s : State} (hs : s.wf = true) (addr : Nat) (who : Requester) (vs : List Nat) :
    (s.writeRegs addr who vs).1.wf = true := by
  induction vs generalizing s addr with
  | nil => exact hs
  | cons v vs ih =>
    have hfirst := State.wf_hostWrite hs addr v (some who)
    rw [State.writeRegs]
    split <;> simp_all

@[simp] theorem State.wf_kmpWrite {s : State} (hs : s.wf = true) (req : KmpReq) : (s.kmpWrite req).wf = true := by
  dsimp only [State.kmpWrite]
  split <;> simp [State.wf_writeRegs, hs]

@[simp] theorem State.wf_kmpBasinWrite {s : State} (hs : s.wf = true) (req : KmpReq) : (s.kmpBasinWrite req).wf = true := by
  dsimp only [State.kmpBasinWrite]
  split <;> simp [State.wf_basinWrite, hs]

@[simp] theorem State.wf_kmpServe {s : State} (hs : s.wf = true) (op : Nat) (req : KmpReq) : (s.kmpServe op req).wf = true := by
  unfold State.kmpServe
  split <;> simp [hs]

@[simp] theorem State.wf_kmpDrain {s : State} (hs : s.wf = true) (k : Nat) : (s.kmpDrain k).wf = true := by
  induction k generalizing s with
  | zero => exact hs
  | succ k ih =>
    rw [State.kmpDrain]
    split
    · exact hs
    split
    · exact hs
    · exact ih (State.wf_kmpServe (by simpa using hs) _ _)

@[simp] theorem State.wf_kmpTake {s : State} (hs : s.wf = true) (op : Nat) (req : KmpReq) : (s.kmpTake op req).wf = true := by
  simp [State.kmpTake, hs]

/-! ## Restarts and the passing of time -/

@[simp] theorem State.wf_noteRestart {s : State} (hs : s.wf = true) (xs : List LaneId) (r : Restart) : (s.noteRestart xs r).wf = true := by
  dsimp only [State.noteRestart]
  exact State.wf_notice _ _ (by simpa using hs)

@[simp] theorem State.wf_startLanes {s : State} (hs : s.wf = true) (xs : List (LaneId × Image)) (r : Restart) (state : LaneState) :
    (s.startLanes xs r state).wf = true := by
  simp [State.startLanes, State.wf_maskNotice, hs]

theorem State.wf_tick {s : State} (hs : s.wf = true) : s.tick.wf = true := by
  have hreset := State.wf_foldl_of hs (fun s x hs => State.wf_pendingReset hs x) LaneId.list
  unfold State.tick
  generalize LaneId.list.foldl State.pendingReset s = t at hreset
  simp [hreset]

end Sys2Proof.Machine

/-! PROOF. Every command, and every step, leaves the basin and the index of its arrivals in canonical form (R293). -/

namespace Sys2Proof.Machine

/-- A state that an outcome goes on to is in canonical form. -/
def Out.Wf : Out → Prop
  | .next t => t.wf = true
  | _ => True

@[simp] theorem Out.wf_next {t : State} : Out.Wf (.next t) ↔ t.wf = true := Iff.rfl

@[simp] theorem Out.wf_ite {c : Prop} [Decidable c] {o p : Out} : Out.Wf (if c then o else p) ↔ (c → o.Wf) ∧ (¬ c → p.Wf) := by
  by_cases hc : c <;> simp [hc]

/-- Operations that each leave the canonical form as it is leave it so in a row, whatever they carry along. -/
@[simp] theorem State.foldl_fst_wf {α β : Type} {f : State × β → α → State × β} (hf : ∀ p a, (f p a).1.wf = p.1.wf) (l : List α) (p : State × β) :
    (l.foldl f p).1.wf = p.1.wf := by
  induction l generalizing p with
  | nil => rfl
  | cons a l ih => rw [List.foldl_cons, ih, hf]

@[simp] theorem State.whileServed_wf {s : State} (hs : s.wf = true) {f : State → State} (hf : (f s).wf = s.wf) : (s.whileServed f).Wf := by
  simp [State.whileServed, hf, hs]

@[simp] theorem execMirrorTelegramReceive_wf {s : State} (hs : s.wf = true) (port : XPort) (frame : List Byte) (at_ : Placing) (unreadable : PerLane Bool) :
    (execMirrorTelegramReceive port frame at_ unreadable s).Wf := by
  dsimp only [execMirrorTelegramReceive]
  split
  · refine Out.wf_next.mpr (State.wf_foldl_of (State.wf_place _ _ _ ?_) (fun s x hs => State.wf_takeMirror hs _ _) _)
    simpa using hs
  · simp [hs]

@[simp] theorem State.stageAll_wf (s : State) (q : Request) (kind : Nat) (ready : List LaneId) : (s.stageAll q kind ready).1.wf = s.wf := by
  simp [State.stageAll, State.stageOthers]

@[simp] theorem State.stageFlash_wf (s : State) (kind : Nat) : (s.stageFlash kind).wf = s.wf := by simp [State.stageFlash]

@[simp] theorem execStagePackage_wf {s : State} (hs : s.wf = true) (mb : Fin 4) : (execStagePackage mb s).Wf := by
  cases hreq : s.req mb.val with
  | none => simp [execStagePackage, hreq, hs]
  | some r =>
    by_cases hdone : (r.sent || decide (reqFormat r.bytes ≠ 0x15)) = true
    · have hexec : execStagePackage mb s = .next s := by
        unfold execStagePackage
        rw [hreq]
        exact if_pos hdone
      rw [hexec]
      exact Out.wf_next.mpr hs
    · simp only [Bool.or_eq_true, decide_eq_true_eq, not_or, Bool.not_eq_true, not_not] at hdone
      obtain ⟨q, f, hexec⟩ : ∃ q f, execStagePackage mb s = if (s.stageReady q).isEmpty then .next (s.afterCheck mb.val q true) else
          .next ((((s.stagingBegun f).stageAll q (packageKind f) (s.stageReady q)).1.stageFlash (packageKind f)).afterCheck mb.val
            ((s.stagingBegun f).stageAll q (packageKind f) (s.stageReady q)).2 true) :=
        ⟨_, _, exec_stagePackage_of_open hreq hdone.1 hdone.2⟩
      simp [hexec, State.stagingBegun, hs]

@[simp] theorem execSyncReceive_wf {s : State} (hs : s.wf = true) (r : Fin 4) (side : Side) (frame : List Byte) (receipt : Int) :
    (execSyncReceive r side frame receipt s).Wf := by
  unfold execSyncReceive
  extract_lets g heard unit
  split
  · exact Out.wf_next.mpr hs
  split
  · exact Out.wf_next.mpr hs
  extract_lets noted unit' rings started body first at_ theta synced
  have hnoted : noted.wf = true := by simpa [noted, heard] using hs
  have hstarted : started.wf = true := by simpa [started] using hnoted
  clear_value started noted
  split
  · simp [hnoted]
  split
  · simp [hnoted]
  split
  · exact Out.wf_next.mpr hstarted
  split
  · simp [synced, hstarted]
  split
  · exact Out.wf_next.mpr hstarted
  · simp [hstarted]

@[simp] theorem execTideMark_wf {s : State} (hs : s.wf = true) : (execTideMark s).Wf := by
  have hjudged : ∀ {t : State}, t.wf = true → (LaneId.list.foldl State.judgeResync t).wf = true :=
    fun ht => State.wf_foldl_of ht (fun _ x ht => State.wf_judgeResync ht x) _
  have hrotated : ∀ {t : State}, t.wf = true → (LaneId.list.foldl (fun t x => t.rotateOut x s.cycle) t).wf = true :=
    fun ht => State.wf_foldl_of ht (fun _ x ht => State.wf_rotateOut ht x _) _
  dsimp only [execTideMark]
  split
  · simpa using hs
  · simp [hjudged, hrotated, hs]

@[simp] theorem execRestartDecision_wf {s : State} (hs : s.wf = true) : (execRestartDecision s).Wf := by
  have hstarted : ∀ {t : State} (xs r state names r'), t.wf = true → ((t.startLanes xs r state).noteRestart names r').wf = true :=
    fun xs r state names r' ht => State.wf_noteRestart (State.wf_startLanes ht xs r state) names r'
  dsimp only [execRestartDecision]
  split
  · simpa using hs
  split
  · simp [hs]
  · simp [hstarted, hs]

@[simp] theorem execResyncLoadingComplete_wf {s : State} (hs : s.wf = true) (x : LaneId) : (execResyncLoadingComplete x s).Wf := by
  dsimp only [execResyncLoadingComplete]
  (repeat' split) <;> simp [hs]

@[simp] theorem execResyncJoining_wf {s : State} (hs : s.wf = true) (x : LaneId) : (execResyncJoining x s).Wf := by
  dsimp only [execResyncJoining]
  (repeat' split) <;> simp [hs]

@[simp] theorem execBaseBlockReceive_wf {s : State} (hs : s.wf = true) (x donor : LaneId) (block : Fin 258) (crcOk : Bool) :
    (execBaseBlockReceive x donor block crcOk s).Wf := by
  dsimp only [execBaseBlockReceive]
  (repeat' split) <;> simp [hs]

@[simp] theorem execDeltaReceive_wf {s : State} (hs : s.wf = true) (x donor : LaneId) (data : List Byte) (crcOk : Bool) :
    (execDeltaReceive x donor data crcOk s).Wf := by
  dsimp only [execDeltaReceive]
  (repeat' split) <;> simp [hs]

@[simp] theorem execTimeReferenceExpiry_wf {s : State} (hs : s.wf = true) (x : LaneId) (sid : Fin 1024) : (execTimeReferenceExpiry x sid s).Wf := by
  dsimp only [execTimeReferenceExpiry]
  (repeat' split) <;> simp [hs]

@[simp] theorem execDataTelegramReceive_wf {s : State} (hs : s.wf = true) (x : LaneId) (addr : BitVec 29) (unreadable : Bool) :
    (execDataTelegramReceive x addr unreadable s).Wf := by
  unfold execDataTelegramReceive
  split <;> simp [hs]

@[simp] theorem execTimeReqReceive_wf {s : State} (hs : s.wf = true) (x : LaneId) (addr : BitVec 29) (unreadable : Bool) (own : BitVec 64) :
    (execTimeReqReceive x addr unreadable own s).Wf := by
  unfold execTimeReqReceive
  split <;> simp [hs]

@[simp] theorem execTimeRespReceive_wf {s : State} (hs : s.wf = true) (x : LaneId) (addr : BitVec 29) (unreadable : Bool) :
    (execTimeRespReceive x addr unreadable s).Wf := by
  unfold execTimeRespReceive
  split <;> simp [hs]

@[simp] theorem execVerdictReceive_wf {s : State} (hs : s.wf = true) (x sender : LaneId) (v : Verdict) (crcOk : Bool) :
    (execVerdictReceive x sender v crcOk s).Wf := by
  dsimp only [execVerdictReceive]
  (repeat' split) <;> simp [hs]

@[simp] theorem execTransitionApply_wf {s : State} (hs : s.wf = true)  : (execTransitionApply s).Wf := by
  unfold execTransitionApply
  split <;> simp [hs]

@[simp] theorem execChangeLogEntryWrite_wf {s : State} (hs : s.wf = true) (written : Bool) : (execChangeLogEntryWrite written s).Wf := by
  dsimp only [execChangeLogEntryWrite]
  (repeat' split) <;> simp [hs]

@[simp] theorem execFirmwareCommit_wf {s : State} (hs : s.wf = true)  : (execFirmwareCommit s).Wf := by
  dsimp only [execFirmwareCommit]
  (repeat' split) <;> simp [hs]

@[simp] theorem execLogRead_wf {s : State} (hs : s.wf = true) (mb : Fin 4) : (execLogRead mb s).Wf := by
  unfold execLogRead
  split <;> simp [hs]

@[simp] theorem execDumpRead_wf {s : State} (hs : s.wf = true) (mb : Fin 4) : (execDumpRead mb s).Wf := by
  unfold execDumpRead
  split <;> simp [hs]

@[simp] theorem execFaultResetApply_wf {s : State} (hs : s.wf = true)  : (execFaultResetApply s).Wf := by
  unfold execFaultResetApply
  split <;> simp [hs]

@[simp] theorem execSettingsApply_wf {s : State} (hs : s.wf = true)  : (execSettingsApply s).Wf := by
  unfold execSettingsApply
  split <;> simp [hs]

@[simp] theorem execDelayReq_wf {s : State} (hs : s.wf = true) (r : Fin 4) (side : Side) (frame : List Byte) (turnaround : Nat) :
    (execDelayReq r side frame turnaround s).Wf := by
  dsimp only [execDelayReq]
  (repeat' split) <;> simp [hs]

@[simp] theorem execDelayResp_wf {s : State} (hs : s.wf = true) (r : Fin 4) (side : Side) (frame : List Byte) (roundTrip : Nat) :
    (execDelayResp r side frame roundTrip s).Wf := by
  dsimp only [execDelayResp]
  (repeat' split) <;> simp [hs]

@[simp] theorem execRingOutputSlot_wf {s : State} (hs : s.wf = true) (r : Fin 4) (slot : Nat) : (execRingOutputSlot r slot s).Wf := by
  dsimp only [execRingOutputSlot]
  (repeat' split) <;> simp [hs]

@[simp] theorem execSlotFrameReceive_wf {s : State} (hs : s.wf = true) (r : Fin 4) (side : Side) (slot : Nat) (frame : List Byte) (receipt : Int) (at_ : Placing) :
    (execSlotFrameReceive r side slot frame receipt at_ s).Wf := by
  dsimp only [execSlotFrameReceive]
  (repeat' split) <;> simp [hs, State.wf_place]

@[simp] theorem execIntegrate_wf {s : State} (hs : s.wf = true) (r : Fin 4) (frame : List Byte) : (execIntegrate r frame s).Wf := by
  unfold execIntegrate
  split <;> simp [hs]

@[simp] theorem execDiagRequest_wf {s : State} (hs : s.wf = true) (r : Fin 4) (identity : Bool) : (execDiagRequest r identity s).Wf := by
  dsimp only [execDiagRequest]
  (repeat' split) <;> simp [hs]

@[simp] theorem execDiagResponse_wf {s : State} (hs : s.wf = true) (r : Fin 4) (frame : List Byte) : (execDiagResponse r frame s).Wf := by
  unfold execDiagResponse
  split <;> simp [hs, State.wf_basinWrite]

@[simp] theorem execVk2Echo_wf {s : State} (hs : s.wf = true) (r : Fin 4) (frame : List Byte) (roundTrip : Nat) : (execVk2Echo r frame roundTrip s).Wf := by
  unfold execVk2Echo
  split <;> simp [hs]

@[simp] theorem execVk2PathDelay_wf {s : State} (hs : s.wf = true) (r : Fin 4) (frame : List Byte) : (execVk2PathDelay r frame s).Wf := by
  unfold execVk2PathDelay
  split <;> simp [hs]

@[simp] theorem execColdstart_wf {s : State} (hs : s.wf = true) (frame : List Byte) : (execColdstart frame s).Wf := by
  unfold execColdstart
  split <;> simp [hs]

@[simp] theorem execListenPeriodExpiry_wf {s : State} (hs : s.wf = true)  : (execListenPeriodExpiry s).Wf := by
  unfold execListenPeriodExpiry
  split <;> simp [hs]

@[simp] theorem execContentionRound_wf {s : State} (hs : s.wf = true)  : (execContentionRound s).Wf := by
  unfold execContentionRound
  split <;> simp [hs]

@[simp] theorem execPartnerReportReceive_wf {s : State} (hs : s.wf = true) (port : XPort) (frame : List Byte) : (execPartnerReportReceive port frame s).Wf := by
  dsimp only [execPartnerReportReceive]
  (repeat' split) <;> simp [hs]

@[simp] theorem execLaneBrownOut_wf {s : State} (hs : s.wf = true) (x : LaneId) : (execLaneBrownOut x s).Wf := by
  dsimp only [execLaneBrownOut]
  (repeat' split) <;> simp [hs]

@[simp] theorem execSupplyStart_wf {s : State} (hs : s.wf = true) (p : Part) : (execSupplyStart p s).Wf := by
  unfold execSupplyStart
  split <;> simp [hs]

@[simp] theorem execSoftwareResetExecute_wf {s : State} (hs : s.wf = true)  : (execSoftwareResetExecute s).Wf := by
  unfold execSoftwareResetExecute
  split <;> simp [hs]

@[simp] theorem execClockGateOpen_wf {s : State} (hs : s.wf = true) (p : Part) (domain : Fin 8) (met : Bool) : (execClockGateOpen p domain met s).Wf := by
  unfold execClockGateOpen
  split <;> simp [hs]

@[simp] theorem execTestSlice_wf {s : State} (hs : s.wf = true) (x : LaneId) (cls : SliceClass) (item : BitVec 8) (passed : Bool) :
    (execTestSlice x cls item passed s).Wf := by
  dsimp only [execTestSlice]
  (repeat' split) <;> simp [hs]

@[simp] theorem execOptionLoading_wf {s : State} (hs : s.wf = true) (p : Part) (straps : List StrapReading) (copyA copyB : List Byte) :
    (execOptionLoading p straps copyA copyB s).Wf := by
  dsimp only [execOptionLoading]
  (repeat' split) <;> simp [hs]

@[simp] theorem execDomainRelease_wf {s : State} (hs : s.wf = true) (p : Part) (domain : Fin 8) (sfps : List (Nat × BitVec 8 × BitVec 32)) (firmwareOk : Bool) :
    (execDomainRelease p domain sfps firmwareOk s).Wf := by
  unfold execDomainRelease
  split <;> simp [hs]

@[simp] theorem execSluiceReopen_wf {s : State} (hs : s.wf = true) (p neighbour : Part) : (execSluiceReopen p neighbour s).Wf := by
  unfold execSluiceReopen
  split <;> simp [hs]

@[simp] theorem execQueueWordReceive_wf {s : State} (hs : s.wf = true) (writer reader : Part) (w : QueueWord) :
    (execQueueWordReceive writer reader w s).Wf := by
  unfold execQueueWordReceive
  split <;> simp [hs]

@[simp] theorem execWardenRecordWrite_wf {s : State} (hs : s.wf = true) (src : Part) : (execWardenRecordWrite src s).Wf := by
  unfold execWardenRecordWrite
  split <;> simp [hs]

@[simp] theorem execBreachDump_wf {s : State} (hs : s.wf = true) (p : Part) (cause : DumpCause) (reachable : Bool) (content : List Byte) :
    (execBreachDump p cause reachable content s).Wf := by
  unfold execBreachDump
  split <;> simp [hs]

@[simp] theorem execBreachDumpComplete_wf {s : State} (hs : s.wf = true) (p : Part) : (execBreachDumpComplete p s).Wf := by
  unfold execBreachDumpComplete
  split <;> simp [hs]

@[simp] theorem execTelegramAssembly_wf {s : State} (hs : s.wf = true) (sid : Fin 1024) (kind : BitVec 4) (offset : BitVec 32) :
    (execTelegramAssembly sid kind offset s).Wf := by
  dsimp only [execTelegramAssembly]
  (repeat' split) <;> simp [hs]

@[simp] theorem execCanFrameReceive_wf {s : State} (hs : s.wf = true) (p : Fin 6) (f : CanFrame) (at_ : Placing) : (execCanFrameReceive p f at_ s).Wf := by
  dsimp only [execCanFrameReceive]
  (repeat' split) <;> simp [hs, State.wf_place]

@[simp] theorem execCanFrameSent_wf {s : State} (hs : s.wf = true) (p : Fin 6) (begun : BitVec 64) (errors : BitVec 8) :
    (execCanFrameSent p begun errors s).Wf := by
  dsimp only [execCanFrameSent]
  (repeat' split) <;> simp [hs]

@[simp] theorem execPtpMessageReceive_wf {s : State} (hs : s.wf = true) (msg : PtpMsg) : (execPtpMessageReceive msg s).Wf := by
  unfold execPtpMessageReceive
  split <;> simp [hs]

@[simp] theorem execGaugeScanComplete_wf {s : State} (hs : s.wf = true) (x : LaneId) (offset waited : BitVec 32) :
    (execGaugeScanComplete x offset waited s).Wf := by
  dsimp only [execGaugeScanComplete]
  (repeat' split) <;> simp [hs]

@[simp] theorem execGaugeReceive_wf {s : State} (hs : s.wf = true) (x link : LaneId) (frame : List Byte) : (execGaugeReceive x link frame s).Wf := by
  dsimp only [execGaugeReceive]
  (repeat' split) <;> simp [hs]

@[simp] theorem execTestGaugeReceive_wf {s : State} (hs : s.wf = true) (x link : LaneId) (frame : List Byte) (stuckEqual : Bool) :
    (execTestGaugeReceive x link frame stuckEqual s).Wf := by
  dsimp only [execTestGaugeReceive]
  (repeat' split) <;> simp [hs]

@[simp] theorem execComparisonWindowClose_wf {s : State} (hs : s.wf = true) (x : LaneId) (offset : BitVec 32) : (execComparisonWindowClose x offset s).Wf := by
  dsimp only [execComparisonWindowClose]
  (repeat' split) <;> simp [hs, State.wf_withdraw, State.wf_stopLane]

@[simp] theorem execOutputDeadline_wf {s : State} (hs : s.wf = true) (x : LaneId) : (execOutputDeadline x s).Wf := by
  dsimp only [execOutputDeadline]
  (repeat' split) <;> simp [hs, State.wf_withdraw, State.wf_stopLane]

@[simp] theorem execLevel_wf {s : State} (hs : s.wf = true) (x : LaneId) (stalls length : BitVec 32) : (execLevel x stalls length s).Wf := by
  dsimp only [execLevel]
  (repeat' split) <;> simp [hs]

@[simp] theorem execEngineFault_wf {s : State} (hs : s.wf = true) (x : LaneId) (cause : Option EngineCause) (position : BitVec 21) :
    (execEngineFault x cause position s).Wf := by
  unfold execEngineFault
  split <;> simp [hs]

@[simp] theorem execFallback_wf {s : State} (hs : s.wf = true) (cannotRead : Bool) : (execFallback cannotRead s).Wf := by
  dsimp only [execFallback]
  (repeat' split) <;> simp [hs]

@[simp] theorem execRotationTestsComplete_wf {s : State} (hs : s.wf = true) (x : LaneId) : (execRotationTestsComplete x s).Wf := by
  dsimp only [execRotationTestsComplete]
  (repeat' split) <;> simp [hs]

theorem exec_wf {s : State} (hs : s.wf = true) (i : Instr) : Out.Wf (exec i s) := by
  unfold exec
  cases i
  case resyncPhaseTimeout | resyncAttemptTimeout | rotationDue | rotationDeferCheck | laneRotationStart =>
    simp [execResyncPhaseTimeout, execResyncAttemptTimeout, execRotationDue, execRotationDeferCheck, execLaneRotationStart, hs]
  case sessionTimeout | senderFaultEnd | pairingWindowClose | sealHandover | mirrorFrameSent =>
    simp [execSessionTimeout, execSenderFaultEnd, execPairingWindowClose, execSealHandover, execMirrorFrameSent, hs]
  case mailboxDoorbell | changeConstant | changePar | setForce | releaseForce | releaseAllForces | faultReset | swapRequest | setOwnIpv4 |
    setPriorityMarking | setPtpDomain | setCanBitRates | setCanReference | setWireTermination | mailboxAcknowledge | mbOutAck =>
    simp [execMailboxDoorbell, execChangeConstant, execChangePar, execSetForce, execReleaseForce, execReleaseAllForces, execFaultReset, execSwapRequest,
      execSetOwnIpv4, execSetPriorityMarking, execSetPtpDomain, execSetCanBitRates, execSetCanReference, execSetWireTermination, execMailboxAcknowledge,
      execMbOutAck, hs]
  case lifeCycleTransition | enrolment | passwordChange | softwareWarmReset | softwareColdReset | openUpdateSession | closeUpdateSession |
    updateSessionLapse | activate | readChangeLog | lockoutEnd | issueFloorAdvance | dumpRelease =>
    simp [execLifeCycleTransition, execEnrolment, execPasswordChange, execSoftwareWarmReset, execSoftwareColdReset, execOpenUpdateSession,
      execCloseUpdateSession, execUpdateSessionLapse, execActivate, execReadChangeLog, execLockoutEnd, execIssueFloorAdvance, execDumpRelease, hs]
  case changeApply | sleeperChangeApply =>
    simp [execChangeApply, execSleeperChangeApply, hs]
  case ringFrameForward | ringLinkChange | delayMeasurementStart | delayRespTimeout | syncLaunch | holdover | holdoverEnd | nodeResync =>
    simp [execRingFrameForward, execRingLinkChange, execDelayMeasurementStart, execDelayRespTimeout, execSyncLaunch, execHoldover, execHoldoverEnd,
      execNodeResync, hs]
  case decidingEntry | decidingTimeout | failOver | watcherGivesWay | crossLinkChange | swapCommit | swapExecute =>
    simp [execDecidingEntry, execDecidingTimeout, execFailOver, execWatcherGivesWay, execCrossLinkChange, execSwapCommit, execSwapExecute, State.wf_notice, hs]
  case lkLockRead | lkLockRelease | lockLapse =>
    simp [execLkLockRead, execLkLockRelease, execLockLapse, hs]
  case pumphouseBrownOut | maintReset | laneWatchdog | pumphouseWatchdog | activationRestart | logicBist | memoryBist | optionExchange =>
    simp [execPumphouseBrownOut, execMaintReset, execLaneWatchdog, execPumphouseWatchdog, execActivationRestart, execLogicBist, execMemoryBist,
      execOptionExchange, hs]
  case sendingDeadline | icmpEchoRequest | ethernetLinkUp | ethernetLinkDown | canRateDetection | busOff | busOffRecovery | canExpired |
    referenceMessageMiss | wireFrameReceive | announceReceiptTimeout | utcHoldoverEnd | ptpDelayRequest =>
    simp [execSendingDeadline, execIcmpEchoRequest, execEthernetLinkUp, execEthernetLinkDown, execCanRateDetection, execBusOff, execBusOffRecovery,
      execCanExpired, execReferenceMessageMiss, execWireFrameReceive, execAnnounceReceiptTimeout, execUtcHoldoverEnd, execPtpDelayRequest, State.wf_place,
      hs]
  case tideReceive =>
    simp [execTideReceive, hs]
  case freezePoint =>
    simp [execFreezePoint, hs]
  case sweepStart | nop | guard | mov | and | or | xor | eq | ne | lt | le | adds | subs | sel | lut | sr | rs | rise | fall | ton | tof | tp | ctu | ctd |
    chainLink | copyComplete =>
    simp [execSweepStart, execNop, execGuard, execMov, execAnd, execOr, execXor, execEq, execNe, execLt, execLe, execAdds, execSubs, execSel, execLut, execSr,
      execRs, execRise, execFall, execTon, execTof, execTp, execCtu, execCtd, execChainLink, execCopyComplete, hs]
  case tdTideLo | wdOptimeLo | dlCntClr | xlCntClr | enCntClr | cnCntClr | wlCntClr | ptCntClr | mbCntClr | bsCounterClear | lkCounterClear | wdCntClr |
    phEvent | phLampTest | lampTestEnd | phPortDisable | biExtCtrlStart | externalBistDone | registerWrite | basinScrub =>
    simp [execTdTideLo, execWdOptimeLo, execDlCntClr, execXlCntClr, execEnCntClr, execCnCntClr, execWlCntClr, execPtCntClr, execMbCntClr, execBsCounterClear,
      execLkCounterClear, execWdCntClr, execPhEvent, execPhLampTest, execLampTestEnd, execPhPortDisable, execBiExtCtrlStart, execExternalBistDone,
      execRegisterWrite, execBasinScrub, hs]
  case kmpRead | kmpWrite | basinRead | basinWrite | ethernetFrameReceive | arpMessage | arpResolutionFailure =>
    simp [execKmpRead, execKmpWrite, execBasinRead, execBasinWrite, execEthernetFrameReceive, execArpMessage, execArpResolutionFailure, State.wf_place, hs]
  case retentionClockInvalid =>
    simp [execRetentionClockInvalid, hs]
  case inputSample | pulseDarkWindow | darkWindowEnd | testSample | testPulseStart | testPulseBegin | testPulseEnd | readbackSample | testWindowEnd |
    externalCheck | overcurrent | overcurrentRetry | overcurrentFreeInterval =>
    simp [execInputSample, execPulseDarkWindow, execDarkWindowEnd, execTestSample, execTestPulseStart, execTestPulseBegin, execTestPulseEnd,
      execReadbackSample, execTestWindowEnd, execExternalCheck, execOvercurrent, execOvercurrentRetry, execOvercurrentFreeInterval, hs]
  all_goals simp [hs]

/-- Settles O60: a step carries out a command or lets a millisecond pass, and each keeps the canonical form. -/
theorem stepKeepsTheBasinCanonical : Obligations.StepKeepsTheBasinCanonical := by
  intro s t hs hstep
  rw [step] at hstep
  split at hstep
  case h_1 =>
    obtain rfl := Host.Outcome.next.inj hstep
    exact State.wf_tick hs
  case h_2 c rest hpending =>
    have hnext : Out.Wf (exec c { s with pending := rest }) := exec_wf (by simpa using hs) c
    rwa [hstep] at hnext

end Sys2Proof.Machine
